-- ==== Sys2Proof/Word.lean ====
section
/-! DEFINITION. The word and byte types of the register file and the memories (06 R132). -/

namespace Sys2Proof

/-- A register word: 32 bits (R132). -/
abbrev Word := BitVec 32

/-- One byte of a memory, a frame or a record. -/
abbrev Byte := BitVec 8

end Sys2Proof
end

