-- ==== Sys2Proof/Syntax.lean ====
section
/-! DEFINITION. The commands of the block: one constructor per row of spec/opcode_table.json, with the operands its
rule needs (the table gives no bits and no operands; log 13). -/

namespace Sys2Proof

/-- A register page of BAR0 (R146, Table 06-5). -/
inductive PageId where
  | dev | clk | pwr | rst | tb | hif
  | evq (n : Fin 8) | ax (n : Fin 12) | drv (n : Fin 12) | fb (n : Fin 12) | fbx (n : Fin 2)
  | gear (n : Fin 12) | cam (n : Fin 4) | ptl (n : Fin 8) | side (n : Fin 2)
  | safe | lswg | lsw (n : Fin 24) | can (n : Fin 4) | prg | stn (n : Fin 16)
  | recd | stat | pair | sec | dbg
  deriving DecidableEq, Repr

namespace Machine

/-- A move as taken from the MV_ fields (R159). -/
structure Move where
  /-- KIND 0 ABS, 1 REL, 2 VEL (Table 07-3). -/
  kind : Nat := 0
  /-- MOVE_CTL.DIR: true for negative (R183). -/
  neg : Bool := false
  /-- MV_TAG (R159). -/
  tag : Nat := 0
  /-- Absolute target of an ABS or REL move in microsteps; a REL move's base is already added (R159). -/
  goal : Int := 0
  /-- MV_VEL in register form (R159). -/
  vel : Nat := 0
  /-- MV_VMAX in register form; 0 uses V_MAX (R155, R159). -/
  vmax : Nat := 0
  /-- The move was appended late and starts from rest (R168). -/
  late : Bool := false
  deriving DecidableEq, Repr

/-- The ramp profile of Table 07-1 (R153): velocities in register form, accelerations in µsteps/s². -/
structure Profile where
  /-- V_START. -/
  vStart : Nat := 0
  /-- A1. -/
  a1 : Nat := 51200
  /-- V_BREAK. -/
  vBreak : Nat := 0x640000
  /-- A2. -/
  a2 : Nat := 51200
  /-- V_MAX. -/
  vMax : Nat := 0xC80000
  /-- D2. -/
  d2 : Nat := 51200
  /-- D1. -/
  d1 : Nat := 51200
  /-- V_STOP. -/
  vStop : Nat := 0x10000
  deriving DecidableEq, Repr

/-- Measured values that a die sends with its mirror update, or Gauge with its monitors (R82, R90, R331, R341, R347). -/
inductive Meas where
  /-- Nothing measured. -/
  | plain
  /-- A load channel's samples since the last update, 10 µs apart and the last of the present instant: current in mA, output in 10 mV. -/
  | lsw (samples : List (Nat × Int))
  /-- Energy a load channel's clamp has absorbed, in µJ. -/
  | clamp (uj : Nat)
  /-- Conduction loss of the Switch die in mW. -/
  | pCond (mw : Nat)
  /-- VLOG, VMOT_A, VMOT_B and VLSW in mV. -/
  | supply (vlog vmotA vmotB vlsw : Nat)
  /-- Which high-side switches of SOUT0 to SOUT3 Guard reads closed. -/
  | sout (closed : Word)
  /-- The transmitter delay at the FDF-to-res edge of a CAN frame, in clocks (R404). -/
  | tdc (clocks : Nat)
  /-- A CAN controller sees the start of a frame of another node (R418). -/
  | canSof
  deriving DecidableEq, Repr

/-- What a QUEUE frame of the PAIR link says of an axis (Table 18-2). -/
structure QueueMsg where
  /-- The moves held. -/
  moves : List Move := []
  /-- Committed profile of group 0. -/
  prof : Profile := {}
  /-- Engaged engine, 0 to 11 GEAR, 16 to 19 CAM, with MSRC, NUM, DEN, REF_M and REF_S. -/
  engine : Option (Nat × Nat × Int × Nat × Int × Int) := none
  /-- Armed group 1: ARM_NUM, ARM_DEN, ARM_POS, ARM_DIR. -/
  arm : Option (Int × Nat × Int × Nat) := none
  deriving DecidableEq, Repr

/-- Bits of a memory word that have gone into error: memory, word, how many (R33). -/
structure Upset where
  /-- Junction SRAM, Guard SRAM, Granary. -/
  mem : Fin 3 := 0
  /-- Word of 256 bits. -/
  word : Nat := 0
  /-- Bits in error. -/
  bits : Nat := 0
  deriving DecidableEq, Repr

/-- An address that a host reads over PCI Express: of the register pages, or of the load, recorder and statistics windows (R132, R148). -/
inductive BarAddr where
  | bar0 (a : Nat)
  | bar2 (a : Nat)
  deriving DecidableEq, Repr

end Machine

/-- A command to the block. The rule named in each docstring says what it does. -/
inductive Instr where
  /-- PACKET_RECEIVED (R17): A Coupling packet arrives on a die link and is checked, acknowledged, discarded as a duplicate or after a gap, or taken in order. -/
  | packetReceived (d : Fin 8) (toDie : Bool) (seq : Nat) (crcOk : Bool) (ack : Nat) (stamp : Option Nat)
  /-- NAK_RECEIVED (R17): A negative acknowledgement arrives and the sender resends, in order, the oldest unacknowledged packet and every packet after it. -/
  | nakReceived (d : Fin 8) (toDie : Bool)
  /-- ACK_TIMEOUT (R18): The acknowledgement timeout of a Coupling link expires, so the sender resends and counts one retry. -/
  | ackTimeout (d : Fin 8) (toDie : Bool)
  /-- STAMP_PACKET (R16): A die's stamp interval of 1 µs expires and it sends a stamp packet carrying its TB on each link. -/
  | stampPacket (d : Fin 8)
  /-- SYNC_PACKET (R23): Every 10 µs Junction sends a sync packet that disciplines the TB count of Guard, the Switch die, Gauge or Granary. -/
  | syncPacket (d : Fin 8)
  /-- STATUS_FRAME (R20): A Signal box status frame arrives; a good frame updates Signal box state, is forwarded to Guard and stamps any changes, and a bad frame is discarded. -/
  | statusFrame (good : Bool) (cnt : Nat)
  /-- STATUS_FRAME_MISSING (R20): A 4 µs frame slot passes without a good frame; after eight in a row Junction declares Signal box absent. -/
  | statusFrameMissing
  /-- LINK_RESET_RECEIVED (R128): A Plough die receives LINK_RESET, flushes its link endpoint and takes standstill at the end of the second PWM period. -/
  | linkResetReceived (d : Fin 2)
  /-- SETPOINT_TIMEOUT (R128): A Plough die receives no setpoint for two PWM periods and puts every axis in its configured standstill mode. -/
  | setpointTimeout (d : Fin 2)
  /-- MOT_CLOCK_LOSS (R128): A Plough die's monitor detects loss of the forwarded MOT clock and puts every bridge into configured standstill within 2 µs. -/
  | motClockLoss (d : Fin 2)
  /-- SLEEP_TICK (R24): In SLEEP each 32.768 kHz tick advances TB by 4,882 or 4,883 counts through the fraction accumulator. -/
  | sleepTick
  /-- EVENT_RELEASE (R26): Both release conditions hold for a held event, so the sequencer releases it in stamp, die and link order. -/
  | eventRelease
  /-- SCRUB_VISIT (R35): The scrubber reads and checks the next memory word, and writes back a corrected word unless a functional write intervened. -/
  | scrubVisit (k : Fin 3) (found : Nat × List Machine.Upset) (written : Bool)
  /-- WIDE_FIELD_READ (R91): A read of the lowest word of a field wider than 32 bits captures its other words for the following reads. -/
  | wideFieldRead (a : Machine.BarAddr) (size : Nat)
  /-- REGISTER_WRITE (R133): A write to a register that has no row of its own takes effect field by field under its access codes and the error order of R510. -/
  | registerWrite (a : Nat) (size : Nat) (data : Nat)
  /-- RESET_N_LOW (R98): A low pulse of at least 10 µs on RESET_N triggers a full reset of every domain except AON. -/
  | resetNLow
  /-- POWER_ON (R67): VLOG falls below the AON hold threshold and returns, so AON loses power, TB restarts from zero and TB.EPOCH increments at the next boot. -/
  | powerOn
  /-- VLOG_WARN_ENTER (R64): VLOG stays below 6.0 V for 100 µs, so VLOG_WARN is set and a SUPPLY_LOW event is raised. -/
  | vlogWarnEnter (mv : Nat)
  /-- VLOG_WARN_EXIT (R64): VLOG stays above 6.5 V for 1 ms and VLOG_WARN clears. -/
  | vlogWarnExit
  /-- POWER_FAIL (R65): VLOG stays below 4.5 V for 10 µs and the power-fail sequence runs: POWER_FAIL is signalled, Granary writes stop, outputs go off and an internal full reset follows at 30 µs. -/
  | powerFail
  /-- VMOT_DERATE_ENTER (R68): VMOT_x stays below 9.0 V for a control period, so that die's axes run with the supply scale s_v. -/
  | vmotDerateEnter (d : Fin 2) (mv : Nat)
  /-- VMOT_DERATE_EXIT (R68): VMOT_x stays above 9.3 V for a control period and the derate ends. -/
  | vmotDerateExit (d : Fin 2)
  /-- VMOT_UV_ENTER (R69): VMOT_x stays below 7.0 V for two control periods, so every axis of the die takes standstill, its Furrow is squashed and VMOT_UV is raised. -/
  | vmotUvEnter (d : Fin 2) (mv : Nat)
  /-- VMOT_UV_EXIT (R69): VMOT_x stays above 7.5 V for 10 ms, so the setpoints are aligned to the feedback positions and the halt ends. -/
  | vmotUvExit (d : Fin 2)
  /-- VMOT_OV_ENTER (R70): VMOT_x stays above 64 V for two control periods, so every axis of the die brakes with both low sides on and its Furrow is squashed. -/
  | vmotOvEnter (d : Fin 2) (mv : Nat)
  /-- VMOT_OV_EXIT (R70): VMOT_x stays below 60 V for 10 ms and the overvoltage brake ends. -/
  | vmotOvExit (d : Fin 2)
  /-- VLSW_UV_ENTER (R349): VLSW stays below 4.5 V for 10 µs, so every load channel switches off while its states, counts and latches are kept. -/
  | vlswUvEnter
  /-- VLSW_UV_EXIT (R349): VLSW stays above 5.0 V for 1 ms, so every channel that is on or pulsing switches on again with a new inrush window. -/
  | vlswUvExit
  /-- THERMAL_MODEL_UPDATE (R77): Once per control period the thermal model computes T_est for each Plough die. -/
  | thermalModelUpdate (d : Fin 2) (sq : Nat)
  /-- THERMAL_SCALE_UPDATE (R79): Every 10 ms, while a die is within 5 K of T_LIM, the current scale s_T is recomputed and THERMAL_DERATE_x is set or cleared. -/
  | thermalScaleUpdate (d : Fin 2) (sq : Nat)
  /-- TEMP_SENSOR_UPDATE (R81): A die or baseplate temperature sensor is read, which sets TEMP_HIGH or BASE_HOT where a threshold is passed. -/
  | tempSensorUpdate (die : Option (Fin 8)) (t : Int)
  /-- DIE_OVERTEMP_HOLD (R81): A die sensor has stood at or above 150 °C for 100 ms and the controller enters SAFE_HOLD. -/
  | dieOvertempHold (d : Fin 8)
  /-- DOM_KEEP_OFF_WRITE (R73): A write to PWR.DOM_KEEP_OFF switches a Plough domain off or on, or is refused where an axis is assigned or moving. -/
  | domKeepOffWrite (w : Word)
  /-- VLOG_MIN_WRITE (R82): A write of any value to PWR.VLOG_MIN restarts the minimum at 0xFFFF. -/
  | vlogMinWrite (w : Word)
  /-- CLOCK_CHECK (R85): A 64-period check window of a clock ends, and a count outside its band sets CLK.FAIL, raises CLK_FAIL and starts the consequence for that clock. -/
  | clockCheck (k : Fin 12) (count : Nat) (rc : Nat)
  /-- ON_DEMAND_CLOCK_START (R84): The first access to a page or memory whose on-demand clock is stopped restarts that clock within 1 µs. -/
  | onDemandClockStart (nvm : Bool)
  /-- NVM_CLOCK_IDLE_STOP (R83): After 1 ms without a Granary access the NVM clock stops. -/
  | nvmClockIdleStop
  /-- MIRROR_UPDATE (R90): A die sends a changed field, or its periodic copy, to Junction's mirror of its page. -/
  | mirrorUpdate (p : PageId) (m : Machine.Meas)
  /-- PG_SNAP_WRITE (R93): A write to PG_SNAP either starts a capture at t = TB + SNAP_LEAD or, when 0 is written, releases the captured values. -/
  | pgSnapWrite (p : PageId) (on : Bool)
  /-- SNAP_ALL (R94): A write of 1 to CLK.SNAP_ALL starts a capture of every page with the same t. -/
  | snapAll
  /-- SNAP_CAPTURE (R93): A die's TB reaches t, or a late capture count arrives, and the die captures the block status fields; a late capture reports SNAP_LATE. -/
  | snapCapture (p : PageId) (arrival : Nat)
  /-- SNAP_COMPLETE (R93): Every part of a capture has arrived, so PG_SNAP reads 0 and SNAP_DONE is set. -/
  | snapComplete (p : PageId)
  /-- WRITE_QUEUE_DRAIN (R96): A stopped home clock returns and the queued writes of the page take effect in order. -/
  | writeQueueDrain (p : PageId)
  /-- JUNCTION_WATCHDOG_EXPIRY (R98): The Junction watchdog on Gauge goes 20 ms without a refresh and triggers a Junction reset. -/
  | junctionWatchdogExpiry
  /-- RST_REQ_JUNCTION (R104): RST.REQ receives 0x0000_7A1D and requests a Junction reset. -/
  | rstReqJunction
  /-- RST_REQ_FULL (R104): RST.REQ receives 0x0000_F0D1 and requests a full reset. -/
  | rstReqFull
  /-- JTAG_RESET (R98): The JTAG reset instruction triggers a full reset. -/
  | jtagReset
  /-- PCIE_RESET (R98): PE_PERST_N goes low, so the PCIe core is reset and every event queue is disabled. -/
  | pcieReset
  /-- BLOCK_RESET (R511): A write of 1 to PG_CTL.RST_REQ resets the page's block as Table 06-9 gives, or is refused where its condition fails. -/
  | blockReset (p : PageId)
  /-- BLOCK_RESET_DONE (R102): A block reset completes and RST_PEND clears. -/
  | blockResetDone (p : PageId)
  /-- MODE_REQ_RUN (R106): MODE_REQ with target RUN is taken from CONFIG or SERVICE, or is refused. -/
  | modeReqRun
  /-- MODE_REQ_DEGRADED (R106): MODE_REQ with target DEGRADED is taken from CONFIG or SERVICE where a die is absent, or is refused. -/
  | modeReqDegraded
  /-- MODE_REQ_SERVICE (R121): MODE_REQ with target SERVICE is taken from RUN or DEGRADED when SERVICE_KEY is on, both channels report zero speed and every axis is at rest. -/
  | modeReqService
  /-- MODE_REQ_SAFE_HOLD (R124): MODE_REQ with target SAFE_HOLD enters SAFE_HOLD from any mode from CONFIG to STANDBY. -/
  | modeReqSafeHold
  /-- MODE_REQ_CONFIG (R125): MODE_REQ with target CONFIG leaves SAFE_HOLD once the cause is gone, after a REREAD seal sequence confirms the seal word. -/
  | modeReqConfig
  /-- MODE_REQ_SLEEP (R111): MODE_REQ with target SLEEP is accepted only when every condition of R111 holds, and is otherwise refused. -/
  | modeReqSleep
  /-- SLEEP_ENTRY (R112): At the end of the running cycle the sleep entry sequence stops tasks, writes the SLEEP record, sends SLEEP to stations and switches off domains in order. -/
  | sleepEntry
  /-- WAKE_PAD (R108): A WAKE pad holds its level for WAKE_CFG.FILT and, if enabled, is recognised as a wake. -/
  | wakePad (k : Fin 4) (high : Bool)
  /-- WAKE_CAN (R108): A wake-up pattern detected on CAN0 or CAN1 is recognised as a wake. -/
  | wakeCan (n : Fin 2)
  /-- WAKE_TIMER (R108): The Sleeper timer reaches SLP_TIMER seconds and wakes the module. -/
  | wakeTimer
  /-- WAKE_SIN (R108): A safety input selected in WAKE_SIN changes state on both contacts for 10 ms and wakes the module. -/
  | wakeSin (n : Fin 32)
  /-- BOOT_START (R113): A wake, power-on or full reset starts the boot: GAU switches on, rails soft-start, and Guard reads and checks its fuses. -/
  | bootStart (fuseOk : Bool)
  /-- PE_WAKE_TIMEOUT (R109): PE_WAKE_N is released when the PCI Express link has trained or 1 s has passed. -/
  | peWakeTimeout
  /-- GUARD_FW_VERIFIED (R115): Guard finishes verifying its own firmware and the boot goes on, or FW_INVALID sends the module to SAFE_HOLD. -/
  | guardFwVerified
  /-- JUNCTION_FW_VERIFIED (R115): Guard finishes verifying Junction firmware and the rollback counters, so Junction firmware starts, with fallback to the other copy where one fails. -/
  | junctionFwVerified
  /-- DIE_LINK_TRAINED (R115): A die's link finishes training and the die is shown present. -/
  | dieLinkTrained (d : Fin 8) (at_ : Nat)
  /-- DIE_TRAIN_TIMEOUT (R116): A die has not trained 100 ms after the reference, is declared absent, and the boot continues. -/
  | dieTrainTimeout (d : Fin 8)
  /-- CONFIG_IMAGE_VERIFIED (R497): Guard finishes verifying the configuration image, which is then applied record by record with PAGE_INIT, commits and locks, or refused with CFG_INVALID. -/
  | configImageVerified
  /-- PROGRAM_IMAGE_VERIFIED (R361): Guard finishes verifying the program image into Junction SRAM, or refuses it with PRG_INVALID. -/
  | programImageVerified
  /-- RETAINED_RESTORED (R380): Retained data is restored from the newest valid buffer and the restart kind is decided. -/
  | retainedRestored
  /-- JOIN_WAIT_EXPIRY (R117): CONFIG.JOIN_WAIT passes after CAN started, so stations still missing start as absent. -/
  | joinWaitExpiry
  /-- CONFIG_EXIT (R117): With R117 satisfied and AUTO_RUN set, CONFIG is left at the next Timetable tick for RUN, DEGRADED or STANDBY, and the fail-safe store and gate map are loaded. -/
  | configExit
  /-- BOOT_LOADER_IMAGE (R116): In SAFE_HOLD with FW_INVALID the boot ROM loader verifies a loaded firmware copy and, on success, makes it active and takes a full reset. -/
  | bootLoaderImage
  /-- SERVICE_KEY_LOST (R123): SERVICE_KEY is off for 100 ms in SERVICE and every moving axis is stopped with D2 and D1. -/
  | serviceKeyLost
  /-- SVC_KEY_LOST_HOLD (R123): Once every axis has stopped after the key was lost, the module enters SAFE_HOLD with cause SVC_KEY_LOST. -/
  | svcKeyLostHold
  /-- PG_COMMIT (R140): The commit key written to PG_COMMIT checks the staged set and leaves a commit pending, or refuses it. -/
  | pgCommit (p : PageId) (w : Word)
  /-- COMMIT_BOUNDARY (R140): At the first control-period boundary after a pending commit, every staged value takes effect together and COMMIT is raised. -/
  | commitBoundary (p : PageId)
  /-- PG_STAGE_CLR (R142): A write of 1 to PG_CTL.STAGE_CLR discards the staged values and cancels a pending commit. -/
  | pgStageClr (p : PageId)
  /-- PG_LOCK (R145): A write of 1 to PG_CTL.LOCK locks a lockable page until a full reset. -/
  | pgLock (p : PageId)
  /-- PG_ISET (R137): A write to PG_ISET sets the matching PG_IRQ bits as though their events had occurred. -/
  | pgIset (p : PageId) (w : Word)
  /-- IMAGE_LOAD_WRITE (R150): A write to the BAR2 image load window stores into the open Siding or copy, or is ignored with LOAD_BUSY when no load is open. -/
  | imageLoadWrite (off : Nat) (data : List Byte)
  /-- LOAD_VIEW_WRITE (R384): A write to the PRG load view stores at window offset LOAD_OFS × 2,048 + y, as the same write through BAR2 would. -/
  | loadViewWrite (k : Fin 512) (w : Word)
  /-- HSPI_WRITE_SINGLE (R425): An HSPI transaction with opcode 0x21 writes words on HS_IO0. -/
  | hspiWriteSingle (a : Nat) (l : List Word)
  /-- HSPI_WRITE_QUAD (R425): An HSPI transaction with opcode 0x25 writes words on four lines. -/
  | hspiWriteQuad (a : Nat) (l : List Word)
  /-- HSPI_READ_SINGLE (R425): An HSPI transaction with opcode 0x31 reads words out on HS_IO1. -/
  | hspiReadSingle (a : Nat) (n : Nat)
  /-- HSPI_READ_QUAD (R425): An HSPI transaction with opcode 0x35 reads words out on four lines. -/
  | hspiReadQuad (a : Nat) (n : Nat)
  /-- GO (R160): MOVE_CTL GO appends a move to the axis queue, or is refused. -/
  | go (a : Fin 12) (kind : Fin 4) (neg : Bool)
  /-- IMM (R160): MOVE_CTL IMM replaces every held move with a new one planned from the commit point. -/
  | imm (a : Fin 12) (kind : Fin 4) (neg : Bool)
  /-- STOP (R160): MOVE_CTL STOP discards every move and decelerates the axis to rest with D2 and D1. -/
  | stop (a : Fin 12)
  /-- QSTOP (R160): MOVE_CTL QSTOP discards every move and decelerates the axis at QDEC. -/
  | qstop (a : Fin 12)
  /-- FLUSH (R160): MOVE_CTL FLUSH discards the queued moves that have not started, and the active move ends at rest at its target. -/
  | flush (a : Fin 12)
  /-- PLANNER_TAKE (R170): The planner takes a command or trigger in a period and replans the axis from the commit-point state. -/
  | plannerTake (a : Fin 12)
  /-- CONTROL_PERIOD_BOUNDARY (R169): At each control-period boundary the setpoint of the next period is committed and sent to the Plough die, and the start groups and gear or cam engines are evaluated. -/
  | controlPeriodBoundary
  /-- PLOUGH_PERIOD_START (R180): At the first MOT clock of a period the Plough die applies the setpoint, requests a microstep level, and checks the position against END_POS at the period's end. -/
  | ploughPeriodStart (a : Fin 12)
  /-- MICROSTEP_EMIT (R180): The rate multiplier's accumulator crosses a whole microstep and emits a stamped microstep event. -/
  | microstepEmit (a : Fin 12)
  /-- VOLTAGE_UPDATE (R194): At a PWM valley or peak the voltage law computes the phase voltages and duties and applies the circular limit. -/
  | voltageUpdate (a : Fin 12) (vmot : Nat) (valley : Option (Int × Int))
  /-- STANDSTILL_DELAY_EXPIRY (R200): STBY_DELAY passes after the axis came to rest, and the coils take STBY_MODE. -/
  | standstillDelayExpiry (a : Fin 12)
  /-- LOAD_ANGLE_ESTIMATE (R203): Once per control period the estimator computes the back-EMF, the load angle and T_EST. -/
  | loadAngleEstimate (a : Fin 12) (u : Int × Int) (cur : Int × Int) (e : Int × Int)
  /-- OVERCURRENT_TRIP (R208): A bridge switch exceeds the trip current, so the axis goes FREE and latches OC as a HALT. -/
  | overcurrentTrip (a : Fin 12)
  /-- OPEN_PHASE_DETECT (R208): A phase has carried under 10 % of the demanded peak for 64 PWM periods, so OPEN_A or OPEN_B latches as a HALT. -/
  | openPhaseDetect (a : Fin 12) (phaseB : Bool)
  /-- GDRV_UV (R208): A die's gate-drive supply stays below its threshold for 2 µs, which halts every axis of the die. -/
  | gdrvUv (d : Fin 2) (low : Bool)
  /-- DRV_FLAG_CLEAR (R209): A W1C write to DRV FLAGS clears a fault bit, or is refused with FAULT_ACTIVE; the last bit cleared ends the HALT. -/
  | drvFlagClear (a : Fin 12) (w : Word)
  /-- GATE_CUT (R202): A side's gate-drive supply is cut under SF6, so every switch of its axes goes off and GATE_CUT is set. -/
  | gateCut (side : Fin 2)
  /-- GATE_RESTORE (R202): A side's gate-drive supply returns and its axes resume under R200. -/
  | gateRestore (side : Fin 2)
  /-- ENCODER_TRANSITION (R220): A filtered quadrature transition moves RAW and POS under the reversal hysteresis, or is counted as illegal. -/
  | encoderTransition (c : Fin 14) (a : Bool) (b : Bool) (t : Nat)
  /-- INDEX_EDGE (R225): A rising Z edge arrives with A and B high, POS is latched into IDX_POS and INDEX is set. -/
  | indexEdge (c : Fin 14) (t : Nat)
  /-- SSI_FRAME_START (R226): Every SSI_PER control periods a MODE 2 channel starts clocking an SSI frame at the boundary. -/
  | ssiFrameStart (c : Fin 14)
  /-- SSI_FRAME_DONE (R227): An SSI frame completes and is checked and decoded; a good frame updates POS and a bad one counts towards an SSI fault. -/
  | ssiFrameDone (c : Fin 14) (d1 : Nat) (d2 : Nat) (last : Bool)
  /-- VENC_FAULT (R223): VENC5 stays below 4.5 V for 100 µs and an encoder fault with cause VENC is declared on every active channel. -/
  | vencFault (low : Bool)
  /-- FB_FLAG_CLEAR (R224): A write of 1 to FB FLAGS.ENC_FAULT clears the fault, or is refused while VENC5 is low. -/
  | fbFlagClear (c : Fin 14) (w : Word)
  /-- FB_SPEED_UPDATE (R230): At each control-period boundary the channel computes VEL, POS_ERR and the fine master position. -/
  | fbSpeedUpdate (c : Fin 14)
  /-- SPEED_TIMEOUT (R231): SPD_TMO passes without a counted transition and the channel enters standstill. -/
  | speedTimeout (c : Fin 14)
  /-- PRESET (R232): CTL.PRESET sets POS and RAW to PRE_VAL, clears POS_UNCERTAIN and aligns the axis setpoint. -/
  | preset (c : Fin 14)
  /-- PROBE_EDGE (R236): A selected edge on a probe input is detected and stamped t_e. -/
  | probeEdge (k : Fin 4) (rising : Bool) (t : Nat)
  /-- PROBE_LATCH_DONE (R236): A probe latch completes, storing POS and t_e in the slot, setting PRBk and raising PROBE. -/
  | probeLatchDone (c : Fin 14) (k : Fin 4)
  /-- DIN_EDGE (R238): A DIN level completes its filter, so the accepted change raises DIN_EDGE carrying EDGE_TB. -/
  | dinEdge (n : Fin 48) (level : Bool) (first : Nat) (t : Nat)
  /-- GEAR_ENGAGE (R245): GEAR CTL ENGAGE puts the axis in FOLLOW under the gear relation, or is refused. -/
  | gearEngage (a : Fin 12)
  /-- GEAR_DISENGAGE (R257): GEAR CTL DISENGAGE ends following, and the slave stops with D2 and D1. -/
  | gearDisengage (a : Fin 12)
  /-- GEAR_ARM (R253): GEAR CTL ARM copies the committed group 1 into the master die's comparator and sets ARMED. -/
  | gearArm (a : Fin 12)
  /-- GEAR_DISARM (R253): GEAR CTL DISARM cancels a pending arm, unless the crossing has already been taken. -/
  | gearDisarm (a : Fin 12)
  /-- CAM_ENGAGE (R256): CAM CTL ENGAGE drives the slave along the table, with an offset that avoids a step. -/
  | camEngage (c : Fin 4)
  /-- CAM_DISENGAGE (R257): CAM CTL DISENGAGE ends following, and the slave stops with D2 and D1. -/
  | camDisengage (c : Fin 4)
  /-- GROUP_TIMEOUT (R248): A start-group member has waited longer than GRP_TMO, so held moves are discarded and GROUP_TIMEOUT is raised. -/
  | groupTimeout (grp : Fin 4)
  /-- DOOR_CYCLE_EVAL (R266): Once per period at offset 3,000 the door cycle evaluates every portal's events and forces and applies at most one transition. -/
  | doorCycleEval
  /-- CW_T_EXPIRY (R270): CW_T passes in CLOSE_WARN with no edge actuated, so the portal starts CLOSING or NUDGE. -/
  | cwTExpiry (p : Fin 8)
  /-- REOPEN_T_EXPIRY (R270): REOPEN_T or NUDGE_PAUSE passes in REOPEN_HOLD, so the portal goes to CLOSE_WARN or NUDGE. -/
  | reopenTExpiry (p : Fin 8)
  /-- AUTO_CLOSE_EXPIRY (R270): AUTO_CLOSE_T passes in OPEN and the portal enters CLOSE_WARN. -/
  | autoCloseExpiry (p : Fin 8)
  /-- UNLOCK_TMO_EXPIRY (R277): The unlock is not confirmed within UNLOCK_TMO, so the portal returns to RELEASED with UNLOCK_FAIL. -/
  | unlockTmoExpiry (p : Fin 8)
  /-- LOCK_TMO_EXPIRY (R278): LOCK_TMO passes in LOCKING without the locked switch, so a lock retry starts or the portal enters FAULT with LOCK_FAIL. -/
  | lockTmoExpiry (p : Fin 8)
  /-- LOCK_RETRY_PULSE_END (R278): The 200 ms solenoid pulse of a lock retry ends, the solenoid is commanded off and LOCK_TMO restarts. -/
  | lockRetryPulseEnd (p : Fin 8)
  /-- SW_TMO_EXPIRY (R275): SW_TMO passes without the expected switch, which declares a GAP obstacle, SW_DISAGREE or SW_CONFLICT. -/
  | swTmoExpiry (p : Fin 8)
  /-- PTL_OPEN (R270): PTL REQ code 1 asks the portal to open. -/
  | ptlOpen (p : Fin 8)
  /-- PTL_CLOSE (R270): PTL REQ code 2 asks the portal to close. -/
  | ptlClose (p : Fin 8)
  /-- PTL_NUDGE (R270): PTL REQ code 3 asks the portal to close as a nudge. -/
  | ptlNudge (p : Fin 8)
  /-- PTL_ACK (R290): PTL REQ code 4 acknowledges FAULT or EGRESS and starts resynchronisation, or is refused while the cause stands. -/
  | ptlAck (p : Fin 8)
  /-- ENV_CLR (R286): PTL REQ code 5 clears every envelope of the portal. -/
  | envClr (p : Fin 8)
  /-- OPEN_ALL (R297): SIDE REQ OPEN_ALL passes OPEN to every portal of the side in ascending order. -/
  | openAll (d : Fin 2)
  /-- CLOSE_ALL (R297): SIDE REQ CLOSE_ALL passes CLOSE to every portal of the side in ascending order. -/
  | closeAll (d : Fin 2)
  /-- SEDG_SAMPLE (R281): Every 100 µs Gauge measures a sensitive edge and classifies it, raising EDGE on actuation. -/
  | sedgSample (e : Fin 16) (ohm : Nat)
  /-- EDGE_FAULT_DETECT (R281): An edge reads fault for 100 consecutive samples, so EDGE_FAULT is set and raised. -/
  | edgeFaultDetect (e : Fin 16)
  /-- EDGE_FAULT_CLEAR (R281): Every edge of the portal has read normal for 1 s and EDGE_FAULT clears. -/
  | edgeFaultClear (p : Fin 8)
  /-- SBX_SAMPLE (R309): Every 250 µs Signal box samples every safety contact, filters it, evaluates the inputs and the safety functions and drives its halves. -/
  | sbxSample (a : Word) (b : Word)
  /-- GUARD_CYCLE (R314): Every 250 µs Guard samples, filters and evaluates the inputs and functions, refreshes its output latch and compares with Signal box. -/
  | guardCycle (a : Word) (b : Word)
  /-- DISCREPANCY_EXPIRY (R311): The discrepancy timer of an input expires with its contacts still disagreeing, latching a DISC fault. -/
  | discrepancyExpiry (sbx : Bool) (n : Fin 32)
  /-- TEST_PULSE (R312): Signal box starts the 500 µs low pulse of a TP pad in its 16 ms pattern. -/
  | testPulse (k : Fin 4) (seen : Bool)
  /-- TP_CONTACT_SAMPLE (R312): 375 µs after a pulse's falling edge each channel samples the pulsed contacts, latching TP_CONTACT on one that reads energised. -/
  | tpContactSample (sbx : Bool) (k : Fin 4) (live : Word)
  /-- TP_MONITOR (R312): A channel samples each TP pad at least every 10 µs and latches TP_SOURCE on a high reading in the pulse. -/
  | tpMonitor (sbx : Bool) (k : Fin 4) (high : Bool)
  /-- TP_SOURCE_FAULT (R312): A TP pad stays low for 100 µs outside its pulse, or Guard sees no falling edge for 40 ms, which latches TP_SOURCE. -/
  | tpSourceFault (sbx : Bool) (k : Fin 4)
  /-- TP_FAULT_RECOVER (R312): A TP pad has read correctly for 1 s and TP_FAULT clears. -/
  | tpFaultRecover (sbx : Bool) (k : Fin 4)
  /-- SEAL_SEQUENCE (R303): Signal box drives two reads of the seal chains, at its power-up or on Guard's seal-request line. -/
  | sealSequence
  /-- REREAD (R304): Junction sends REREAD and Signal box runs a seal sequence. -/
  | reread
  /-- SEAL_SEQUENCE_DONE (R305): A seal sequence ends in each channel, which latches the boot word or compares the word, sets SEAL_OK and raises SEAL on a change. -/
  | sealSequenceDone (g : Word × Word × Byte × Byte) (g2 : Word × Word × Byte × Byte) (b : Word × Word × Byte × Byte) (b2 : Word × Word × Byte × Byte)
  /-- SOUT_STUCK (R318): A SOUT half reads against its commanded state for 1 ms, which latches OUT_FAULT and holds the channel's half off. -/
  | soutStuck (sbx : Bool) (n : Fin 4) (on : Bool)
  /-- SOUT_OVERCURRENT (R318): A SOUT half carries more than its limit for 100 µs, switches off and latches OUT_FAULT. -/
  | soutOvercurrent (sbx : Bool) (n : Fin 4)
  /-- GUARD_LATCH_TIMEOUT (R320): Guard's output latch goes 1 ms without a refresh and drops every Guard half. -/
  | guardLatchTimeout
  /-- LOCKSTEP_MISMATCH (R320): Guard's cores disagree, so the latch drops every half and Guard halts until a full reset. -/
  | lockstepMismatch
  /-- DIVERGE_TIMEOUT (R321): A difference between Guard and Signal box has lasted 500 ms, setting DIVERGE and raising GUARD_DEMAND. -/
  | divergeTimeout
  /-- GUARD_LINK_WITHDRAW (R322): Guard receives no packet from Junction for 1 ms and withdraws its SF2 and SF7 halves. -/
  | guardLinkWithdraw
  /-- GATE_MAP_READBACK (R317): Every second Guard reads back the gate map and SIN types, and latches GUARD_DEMAND on a difference. -/
  | gateMapReadback (map : Word) (types : List Nat) (locks : List (Nat × Nat))
  /-- LSW_CMD (R334): An owner's write of LSW CMD.STATE commands a channel off, on or pulsing, or is refused. -/
  | lswCmd (c : Fin 24) (st : Fin 4)
  /-- LSW_DUTY (R344): A write of LSW DUTY sets the pulse duty, which takes effect at the next period start. -/
  | lswDuty (c : Fin 24) (duty : Fin 1024)
  /-- LSW_PACKET_INTERVAL (R350): Junction sends a command packet to the Switch die at least every 500 µs, and within 20 µs of each command. -/
  | lswPacketInterval
  /-- LSW_NORMAL_PACKET (R350): A NORMAL packet reaches the Switch die, which applies the commanded states and arms or restarts the watchdog. -/
  | lswNormalPacket
  /-- LSW_FAILSAFE_PACKET (R350): A FAILSAFE packet reaches the Switch die, which applies the stored fail-safe states at once. -/
  | lswFailsafePacket
  /-- LSW_ALL_OFF_PACKET (R350): An ALL_OFF packet switches every channel off and disarms the watchdog. -/
  | lswAllOffPacket
  /-- LSW_STORE_PACKET (R352): A store packet loads the Switch die's fail-safe store from the configuration image. -/
  | lswStorePacket
  /-- LSW_WDT_EXPIRY (R351): No packet arrives for LSW_WDT, so the watchdog enters HOLD or FAIL_WDT and raises WDT_EXPIRED. -/
  | lswWdtExpiry
  /-- LSW_HOLD_EXPIRY (R351): LSW_HOLD passes in HOLD, so the fail-safe states apply and LSW_FAILSAFE is raised. -/
  | lswHoldExpiry
  /-- LSW_FAST_TRIP (R337): A channel's current crosses I_SC and it switches off within 2 µs with trip cause FAST. -/
  | lswFastTrip (c : Fin 24)
  /-- LSW_OC_TIMEOUT (R337): A channel stays in current limit for longer than T_OC outside its inrush window and trips with cause TIMEOUT. -/
  | lswOcTimeout (c : Fin 24)
  /-- LSW_THERMAL_TRIP (R337): A channel's sensor reaches the over-temperature and it trips with cause THERMAL. -/
  | lswThermalTrip (c : Fin 24)
  /-- LSW_RETRY (R338): A retry pause ends and the channel switches on again with a new inrush window, unless a neighbour defers it. -/
  | lswRetry (c : Fin 24)
  /-- LSW_RETRY_DEFERRED (R340): A deferred retry takes place at the first LSW clock at which no adjacent channel is in its inrush window. -/
  | lswRetryDeferred (c : Fin 24)
  /-- LSW_TRIES_RESET (R338): A channel carries its commanded state for 10 s without a trip and STA.TRIES resets. -/
  | lswTriesReset (c : Fin 24)
  /-- INRUSH_SEGMENT_END (R335): An inrush segment ends, so the next multiple or the steady I_LIM takes effect. -/
  | inrushSegmentEnd (c : Fin 24)
  /-- OC_LATCH_CLEAR (R339): A write of 1 to FLAGS.OC_LATCH clears the latch and resets the count. -/
  | ocLatchClear (c : Fin 24)
  /-- CLAMP_LATCH_CLEAR (R342): A write of 1 to FLAGS.CLAMP_LATCH clears the latch, or is refused while the bucket is above a quarter of its budget. -/
  | clampLatchClear (c : Fin 24)
  /-- OFF_HIGH_SET (R343): An off channel's output stays above the off-high threshold for 5 ms, so OFF_HIGH is set and raised. -/
  | offHighSet (c : Fin 24)
  /-- OFF_HIGH_CLEAR (R343): The output stays below the threshold for 5 ms and STA.OFF_HIGH clears. -/
  | offHighClear (c : Fin 24)
  /-- PULSE_PERIOD_START (R344): A pulse generator starts a period and applies a new DUTY, FREQ or phase. -/
  | pulsePeriodStart (c : Fin 24)
  /-- REV_BLOCK (R332): An on channel's output rises 20 mV above VLSW, so it opens its reverse switch and sets REV_BLOCK. -/
  | revBlock (c : Fin 24)
  /-- REV_BLOCK_RELEASE (R332): The output falls below VLSW and the channel conducts again. -/
  | revBlockRelease (c : Fin 24)
  /-- SOL_PERMIT_CHANGE (R346): A portal's solenoid permit changes, so the gate holds its lock channel off or lets it follow its state. -/
  | solPermitChange (p : Fin 8)
  /-- TIMETABLE_TICK (R371): The 1 ms Timetable tick comes round and, at a slot, freezes the input image and runs the due tasks, or skips on an overrun. -/
  | timetableTick
  /-- TASKS_COMPLETE (R371): Phase 2 ends, so the output image, load states, station OUT frames and requests are published. -/
  | tasksComplete (t : Nat) (out : List (Nat × Nat × Byte)) (bank : List (Nat × Nat × Byte)) (times : List (Nat × Nat))
  /-- RETAIN_WRITE_DONE (R379): The retained write to the older buffer completes with its tagged header. -/
  | retainWriteDone (t : Nat)
  /-- TASK_TIMEOUT (R374): Phase 2 reaches TASK_LIMIT main periods and the running tasks are aborted with TASK_TIMEOUT. -/
  | taskTimeout (tasks : List (Nat × Word)) (stops : Bool)
  /-- PROGRAM_TRAP (R375): A task traps and the error task runs with the cause; it may stop the program. -/
  | programTrap (task : Nat) (cause : Nat) (pc : Word) (val : Word) (stops : Bool)
  /-- EVENT_TASK_RELEASE (R373): An event task is released at the first tick after its event's SEQ, runs and publishes its output image alone. -/
  | eventTaskRelease (task : Nat) (out : List (Nat × Byte)) (bank : List (Nat × Byte)) (time : Nat)
  /-- AX_CMD (R369): The ax_cmd service queues a move command for phase 3. -/
  | axCmd (a : Fin 12) (tgt : Int) (vel : Nat) (vmax : Nat) (tag : Nat) (ctl : Word)
  /-- AX_PROFILE (R369): The ax_profile service queues a profile for a group 0 commit. -/
  | axProfile (a : Fin 12) (p : Vector Word 8)
  /-- PTL_REQ (R369): The ptl_req service queues a portal request. -/
  | ptlReq (p : Fin 8) (code : Nat)
  /-- SIDE_REQ (R369): The side_req service queues a side request. -/
  | sideReq (d : Fin 2) (code : Nat)
  /-- ENGINE_CTL (R369): The engine_ctl service queues a gear or cam control command. -/
  | engineCtl (cam : Bool) (n : Fin 12) (ctl : Nat)
  /-- CAN_SEND (R369): The can_send service queues a frame for phase 3. -/
  | canSend (n : Fin 4) (w0 : Word) (w1 : Word) (data : List Byte)
  /-- CAN_RECV (R370): The can_recv service copies the next unread frame with SEQ ≤ FREEZE_SEQ. -/
  | canRecv (n : Fin 4)
  /-- REQ_STATUS (R370): The req_status service returns the outcome of a handle. -/
  | reqStatus (h : Word)
  /-- STN_ACK (R390): The stn_ack service acknowledges a READY station, which becomes PRESENT at the next freeze. -/
  | stnAck (st : Fin 16)
  /-- REC_WRITE (R457): The rec_write service queues a program record. -/
  | recWrite (type : Nat) (sev : Nat) (data : List Byte)
  /-- WARN (R369): The warn service raises PRG_WARN. -/
  | warn (code : Nat) (data : Word)
  /-- TB_NOW (R369): The tb_now service returns TB. -/
  | tbNow
  /-- SEM_TAKE (R365): The sem_take service takes a hardware semaphore, or reports it busy. -/
  | semTake (n : Fin 16)
  /-- SEM_GIVE (R365): The sem_give service releases a hardware semaphore. -/
  | semGive (n : Fin 16)
  /-- PRG_VERIFY (R381): PRG CMD VERIFY sends the Siding image to Guard for verification. -/
  | prgVerify
  /-- PRG_VERIFY_DONE (R381): Siding verification ends and the Siding becomes READY, or INVALID with SIDING_INVALID. -/
  | prgVerifyDone
  /-- PRG_SWITCH (R382): PRG CMD SWITCH is accepted with the Siding READY, and the switch waits for the end of the cycle. -/
  | prgSwitch
  /-- PRG_SWITCH_EXEC (R382): At the end of the cycle the switch migrates instance data, swaps banks and rebinds the event tasks. -/
  | prgSwitchExec (t : Nat)
  /-- PRG_WARM (R377): PRG CMD WARM restarts the program warm. -/
  | prgWarm
  /-- PRG_COLD (R377): PRG CMD COLD restarts the program cold. -/
  | prgCold
  /-- PRG_STOP (R376): PRG CMD STOP stops the running program. -/
  | prgStop
  /-- PRG_DISCARD (R383): PRG CMD DISCARD empties the Siding. -/
  | prgDiscard
  /-- PRG_ACTIVATE (R383): PRG CMD ACTIVATE makes the Siding the active slot and cold-starts it. -/
  | prgActivate
  /-- PRG_LOAD_OPEN (R381): A write of PRG LOAD_CTL.OPEN opens or closes the Siding load, or is refused with LOAD_BUSY. -/
  | prgLoadOpen (on : Bool)
  /-- JOIN_REQ (R389): A JOIN_REQ frame arrives, and the station is answered with a JOIN_ACK or refused. -/
  | joinReq (st : Fin 16) (data : List Byte)
  /-- STN_IN (R390): An IN frame arrives with a matching counter within REPLY_TMO, which counts as a good exchange and may advance the station state. -/
  | stnIn (st : Fin 16) (ctr : Nat) (status : Nat) (data : List Byte) (t : Nat)
  /-- STN_REPLY_TIMEOUT (R390): REPLY_TMO passes without an IN, which counts a miss and may make the station ABSENT or LOST. -/
  | stnReplyTimeout (st : Fin 16)
  /-- STN_CONFIG_EXCHANGE (R391): In CONFIG the device sends a probe OUT to each joining, ready or present station at each slot. -/
  | stnConfigExchange
  /-- CAN_FRAME_RX (R405): A frame becomes valid on the bus and is stored in the ring as an event, or is handled under the full-ring rule. -/
  | canFrameRx (n : Fin 4) (w0 : Word) (w1 : Word) (data : List Byte) (sof : Nat) (val : Nat)
  /-- CAN_BUS_ERROR (R414): A bus error moves TEC or REC and may change the fault-confinement state, raising CAN_STATE. -/
  | canBusError (n : Fin 4) (kind : Fin 7) (tx : Bool) (more : Bool) (spare : Bool)
  /-- CAN_TX_COMPLETE (R411): The head frame's attempt succeeds, so the frame leaves the FIFO and TX_COUNT increments. -/
  | canTxComplete (n : Fin 4) (sof : Nat) (val : Nat)
  /-- CAN_TX_ATTEMPT_FAIL (R412): An attempt loses arbitration or meets an error; the frame is retried, or removed under ONE_SHOT with TX_FAIL raised. -/
  | canTxAttemptFail (n : Fin 4) (error : Bool)
  /-- CAN_RECOVERY_DONE (R414): The bus-off recovery sequence completes, so the counters are 0, the controller is error-active and RECOVERED is set. -/
  | canRecoveryDone (n : Fin 4)
  /-- CAN_WUP_DETECT (R400): A wake-up pattern is detected in STANDBY and WUP_SEEN is set. -/
  | canWupDetect (n : Fin 4)
  /-- PUSH (R410): CAN CTL.PUSH queues the transmit window frame in the FIFO, or is refused. -/
  | push (n : Fin 4)
  /-- POP (R408): CAN CTL.POP advances the host reader and moves the shadow buffer into the receive window. -/
  | pop (n : Fin 4)
  /-- ABORT_HEAD (R411): CAN CTL.ABORT_HEAD removes the head frame, after any attempt in progress. -/
  | abortHead (n : Fin 4)
  /-- TX_FLUSH (R411): CAN CTL.TX_FLUSH removes every queued frame. -/
  | txFlush (n : Fin 4)
  /-- RECOVER (R414): CAN CTL.RECOVER starts the bus-off recovery sequence, or is refused. -/
  | recover (n : Fin 4)
  /-- SEND_WUP (R400): CAN CTL.SEND_WUP sends the wake-up pattern at bus idle in NORMAL, or is refused. -/
  | sendWup (n : Fin 4)
  /-- RX_WINDOW_READ (R409): In lock mode a read of the receive window locks it, and a read of the frame's last word releases it and advances the reader. -/
  | rxWindowRead (n : Fin 4) (w : Fin 24)
  /-- CAN_ENABLE (R417): A write of CAN PG_CTL.EN takes the controller into INIT, or integrates it onto the bus. -/
  | canEnable (n : Fin 4) (on : Bool)
  /-- HIF_OFFER (R428): A write of HIF_OFFER sets the agreed contract, or is refused while queues are active. -/
  | hifOffer (w : Word)
  /-- PCIE_LINK_CHANGE (R424): The PCI Express link or Bus Master Enable changes, so the queues stall or resume. -/
  | pcieLinkChange (link : Nat) (width : Nat) (speed : Nat) (master : Bool) (msix : Bool) (msi : Bool) (msiN : Nat) (corr : Nat) (recov : Nat)
  /-- EVQ_ENABLE (R435): A write of 1 to EVQ PG_CTL.EN starts the queue at HEAD = TAIL = 0, or is refused with QUEUE_CONFIG. -/
  | evqEnable (q : Fin 8)
  /-- EVQ_DISABLE (R440): A write of 0 to EVQ PG_CTL.EN completes the record in progress, writes back TAIL and stops the queue. -/
  | evqDisable (q : Fin 8)
  /-- EVQ_HEAD (R437): A doorbell write to EVQ HEAD returns slots, or is refused with HEAD_INVALID. -/
  | evqHead (q : Fin 8) (w : Word)
  /-- EVQ_RECORD_WRITE (R436): With room free an event's record is written to the ring with its tail write-back, or the event is dropped into a lost run. -/
  | evqRecordWrite (q : Fin 8)
  /-- EVQ_OVERFLOW (R439): A slot frees while a lost run is open, and an EVQ_OVERFLOW record closes the run. -/
  | evqOverflow (q : Fin 8)
  /-- EVQ_COAL_TIMEOUT (R438): COAL_TIME passes after an unsignalled record and the queue's vector is sent. -/
  | evqCoalTimeout (q : Fin 8)
  /-- HSPI_EVT_READ (R442): The read of the last word of the polled FIFO's head record removes that record. -/
  | hspiEvtRead
  /-- FLK_OPEN (R427): FLK_CMD 1 passes OPEN to the selected portal. -/
  | flkOpen
  /-- FLK_CLOSE (R427): FLK_CMD 2 passes CLOSE to the selected portal. -/
  | flkClose
  /-- FLK_NUDGE (R427): FLK_CMD 3 passes NUDGE to the selected portal. -/
  | flkNudge
  /-- FLK_ACK (R427): FLK_CMD 4 passes ACK to the selected portal. -/
  | flkAck
  /-- RECORD_WRITE (R451): A staged record is written to the detail region within the share and becomes part of the region with the TAIL write. -/
  | recordWrite
  /-- REC_WRITE_CMD (R457): REC CTL WRITE writes a host record or ANCHOR, or is refused with REC_TYPE. -/
  | recWriteCmd
  /-- REC_NONCE (R458): REC CTL NONCE has Guard place a fresh nonce and records NONCE_SEQ. -/
  | recNonce
  /-- REC_CLEAR (R458): REC CTL CLEAR submits the clear token to Guard for verification. -/
  | recClear
  /-- REC_CLEAR_DONE (R459): Guard's verification ends, so the clear takes effect at one clock or the token is refused with TOKEN_REFUSED. -/
  | recClearDone
  /-- PAIR_HELLO_TIMER (R474): Every 10 ms until agreement, a module sends HELLO. -/
  | pairHelloTimer
  /-- PAIR_STATUS_TIMER (R474): Every 1 ms each module sends STATUS. -/
  | pairStatusTimer
  /-- HELLO (R475): A HELLO frame arrives and the pair is formed or reported as a MISMATCH. -/
  | hello (good : Bool) (cnt : Nat) (versions : Nat) (second : Bool) (serial : Nat) (sealW : Word) (hash : List Byte) (layout : Nat) (mode : Nat)
  /-- STATUS (R474): A STATUS frame arrives and updates the partner's mode and readiness, with QUEUE frames resent on request. -/
  | status (good : Bool) (cnt : Nat) (mode : Nat) (actO : Bool) (ok : Bool) (stale : Word) (cycle : Nat)
  /-- MOTION (R484): A MOTION frame arrives, updating the motion mirror and the TB offset. -/
  | motion (good : Bool) (cnt : Nat) (stamp : Nat) (payload : List Byte)
  /-- QUEUE (R474): A QUEUE frame arrives and updates an axis's queue mirror. -/
  | queue (good : Bool) (cnt : Nat) (a : Fin 12) (qcnt : Nat) (q : Machine.QueueMsg)
  /-- IMAGE (R478): An IMAGE fragment arrives, and the standby starts a cycle once both fragments of one cycle are in. -/
  | image (good : Bool) (cnt : Nat) (cycle : Nat) (frag : Nat) (data : List Byte)
  /-- LOADS (R474): A LOADS frame arrives and updates the mirrored load states. -/
  | loads (good : Bool) (cnt : Nat) (data : List Byte)
  /-- ENV (R479): An ENV frame arrives and the standby takes the envelope. -/
  | env (good : Bool) (cnt : Nat) (p : Fin 8) (leaf : Fin 2) (data : List Word)
  /-- PAIR_LINK_LOSS (R476): No good PAIR frame arrives for 3 ms, so the link is DOWN, LINK_LOST is set and PAIR_LINK is raised. -/
  | pairLinkLoss
  /-- PAIR_ACT_I_RISE (R471): PAIR_ACT_I rises, every bridge switch goes off within 2 µs, and a conflict is reported where both asserted. -/
  | pairActIRise
  /-- PAIR_ACT_I_FALL (R482): PAIR_ACT_I falls and the standby starts its 20 µs takeover guard. -/
  | pairActIFall
  /-- PAIR_GATE_RESTORE (R471): PAIR_ACT_I has been low for 5 µs and the gate-drive supply returns. -/
  | pairGateRestore
  /-- TAKEOVER_GUARD (R482): PAIR_ACT_I stays low for 20 µs, so the standby checks the mirror, asserts ACT_O and takes over warm or cold. -/
  | takeoverGuard
  /-- ELECT_ASSERT_WAIT (R477): The 50 µs wait after asserting ACT_O ends and the module enters RUN, or a SECOND drops ACT_O. -/
  | electAssertWait
  /-- ELECT_TIMEOUT (R477): ELECT_TMO passes with ACT_I still low and the module becomes active. -/
  | electTimeout
  /-- YIELD (R480): PAIR CTL.YIELD makes the active module give up when the partner is ready, or is refused. -/
  | yield
  /-- LOAD_OVERLAP_EXPIRY (R481): ACT_I has been high for LOAD_OVERLAP after a give-up, and ALL_OFF is sent. -/
  | loadOverlapExpiry
  /-- GIVEUP_LOAD_TIMEOUT (R481): No takeover comes within 2 ms of a give-up and the fail-safe states apply. -/
  | giveupLoadTimeout
  /-- SEC_NONCE (R501): SEC CMD NONCE places a fresh nonce in SEC.NONCE. -/
  | secNonce
  /-- SEC_VERIFY (R499): SEC CMD VERIFY has Guard verify the loaded firmware or configuration copy. -/
  | secVerify
  /-- SEC_VERIFY_DONE (R495): Verification of a copy ends, and the copy becomes READY or INVALID with LAST_REFUSE. -/
  | secVerifyDone
  /-- SEC_ACTIVATE (R499): SEC CMD ACTIVATE marks the READY copy active for the next boot. -/
  | secActivate
  /-- ATTEST (R504): SEC CMD ATTEST has Guard build and sign an attestation report. -/
  | attest
  /-- ATTEST_DONE (R504): The report is signed, so ATT_READY and ATT_DONE are set and ATTESTED is raised. -/
  | attestDone
  /-- ADVANCE (R500): SEC CMD ADVANCE sets the rollback counters to the active images and invalidates older READY copies. -/
  | advance
  /-- INSTALL (R493): SEC CMD INSTALL provisions KEY_STAGE into the lowest empty slot while debug is open and no slot is active. -/
  | install
  /-- LOCK_DEBUG (R506): SEC CMD LOCK_DEBUG blows the debug-lock fuse. -/
  | lockDebug
  /-- SEC_DISCARD (R507): SEC CMD DISCARD empties the non-active copy. -/
  | secDiscard
  /-- TOKEN_INSTALL (R493): An INSTALL token executed with CMD TOKEN installs KEY_STAGE into its target slot, or is refused. -/
  | tokenInstall
  /-- TOKEN_REVOKE (R493): A REVOKE token executed with CMD TOKEN revokes its target slot, or is refused. -/
  | tokenRevoke
  /-- TOKEN_DEBUG_OPEN (R506): A DEBUG_OPEN token executed with CMD TOKEN opens debug until the next full reset, or is refused. -/
  | tokenDebugOpen
  /-- SEC_LOAD_OPEN (R499): A write of SEC LOAD_CTL opens a load of the non-active copy or closes it, or is refused with LOAD_BUSY. -/
  | secLoadOpen (on : Bool) (target : Fin 4)
  /-- LSW_CHANNEL_COOLED (R338): After a THERMAL trip whose pause has ended, the channel's sensor falls below 135 °C and the waiting retry switches the channel on with a new inrush window. -/
  | lswChannelCooled (c : Fin 24)
  /-- LSEL_CHANGE (R348): The select code on LSEL0 to LSEL4 changes while SEL_SRC = 0, and LSENSE switches to the newly selected source, with STA.SEL_IN updated. -/
  | lselChange (code : Fin 32)
  /-- MIRROR_STALE (R487): In STANDBY, no MOTION frame arrives within 125 µs, so MIRROR_OK clears, FLAGS.MIRROR_STALE is set and PAIR_MIRROR_STALE is raised. -/
  | mirrorStale
  deriving DecidableEq, Repr

end Sys2Proof
end

