-- ==== Sys2Proof/WellFormed.lean ====
section
/-! DEFINITION. Well-formed commands: operands that the interface, frame or field of the spec that carries them can hold. The meanings
ask for none of this (log 13). -/

namespace Sys2Proof

/-- The operands of a command fit what carries them. -/
def wellFormed (i : Instr) : Bool :=
  match i with
  | .packetReceived _ _ seq _ ack _ => decide (seq < 65536) && decide (ack < 65536)
  | .nakReceived _ _ => true
  | .ackTimeout _ _ => true
  | .stampPacket _ => true
  | .syncPacket _ => true
  | .statusFrame _ cnt => decide (cnt < 65536)
  | .statusFrameMissing => true
  | .linkResetReceived _ => true
  | .setpointTimeout _ => true
  | .motClockLoss _ => true
  | .sleepTick => true
  | .eventRelease => true
  | .scrubVisit _ found _ => decide (found.1 ≤ 275) && found.2.all (fun u => decide (u.bits ≤ 275))
  | .wideFieldRead (.bar0 a) size => decide (0 < size) && decide (a + size ≤ 2 ^ 20) && decide (size ≤ 4096)
  | .wideFieldRead (.bar2 a) size => decide (0 < size) && decide (a + size ≤ 2 ^ 24) && decide (size ≤ 4096)
  | .registerWrite a size data => decide (a < 2 ^ 20) && decide (0 < size) && decide (data < 256 ^ size)
  | .resetNLow => true
  | .powerOn => true
  | .vlogWarnEnter _ => true
  | .vlogWarnExit => true
  | .powerFail => true
  | .vmotDerateEnter _ _ => true
  | .vmotDerateExit _ => true
  | .vmotUvEnter _ _ => true
  | .vmotUvExit _ => true
  | .vmotOvEnter _ _ => true
  | .vmotOvExit _ => true
  | .vlswUvEnter => true
  | .vlswUvExit => true
  | .thermalModelUpdate _ _ => true
  | .thermalScaleUpdate _ _ => true
  | .tempSensorUpdate _ _ => true
  | .dieOvertempHold _ => true
  | .domKeepOffWrite _ => true
  | .vlogMinWrite _ => true
  | .clockCheck _ _ _ => true
  | .onDemandClockStart _ => true
  | .nvmClockIdleStop => true
  | .mirrorUpdate _ _ => true
  | .pgSnapWrite _ _ => true
  | .snapAll => true
  | .snapCapture _ _ => true
  | .snapComplete _ => true
  | .writeQueueDrain _ => true
  | .junctionWatchdogExpiry => true
  | .rstReqJunction => true
  | .rstReqFull => true
  | .jtagReset => true
  | .pcieReset => true
  | .blockReset _ => true
  | .blockResetDone _ => true
  | .modeReqRun => true
  | .modeReqDegraded => true
  | .modeReqService => true
  | .modeReqSafeHold => true
  | .modeReqConfig => true
  | .modeReqSleep => true
  | .sleepEntry => true
  | .wakePad _ _ => true
  | .wakeCan _ => true
  | .wakeTimer => true
  | .wakeSin _ => true
  | .bootStart _ => true
  | .peWakeTimeout => true
  | .guardFwVerified => true
  | .junctionFwVerified => true
  | .dieLinkTrained _ _ => true
  | .dieTrainTimeout _ => true
  | .configImageVerified => true
  | .programImageVerified => true
  | .retainedRestored => true
  | .joinWaitExpiry => true
  | .configExit => true
  | .bootLoaderImage => true
  | .serviceKeyLost => true
  | .svcKeyLostHold => true
  | .pgCommit _ _ => true
  | .commitBoundary _ => true
  | .pgStageClr _ => true
  | .pgLock _ => true
  | .pgIset _ _ => true
  | .imageLoadWrite off data => decide (off + data.length ≤ 2 ^ 24)
  | .loadViewWrite _ _ => true
  | .hspiWriteSingle a _ => decide (a < 2 ^ 20)
  | .hspiWriteQuad a _ => decide (a < 2 ^ 20)
  | .hspiReadSingle a _ => decide (a < 2 ^ 20)
  | .hspiReadQuad a _ => decide (a < 2 ^ 20)
  | .go _ _ _ => true
  | .imm _ _ _ => true
  | .stop _ => true
  | .qstop _ => true
  | .flush _ => true
  | .plannerTake _ => true
  | .controlPeriodBoundary => true
  | .ploughPeriodStart _ => true
  | .microstepEmit _ => true
  | .voltageUpdate _ vmot _ => decide (vmot < 65536)
  | .standstillDelayExpiry _ => true
  | .loadAngleEstimate _ _ _ _ => true
  | .overcurrentTrip _ => true
  | .openPhaseDetect _ _ => true
  | .gdrvUv _ _ => true
  | .drvFlagClear _ _ => true
  | .gateCut _ => true
  | .gateRestore _ => true
  | .encoderTransition _ _ _ _ => true
  | .indexEdge _ _ => true
  | .ssiFrameStart _ => true
  | .ssiFrameDone _ d1 d2 _ => decide (d1 < 2 ^ 32) && decide (d2 < 2 ^ 32)
  | .vencFault _ => true
  | .fbFlagClear _ _ => true
  | .fbSpeedUpdate _ => true
  | .speedTimeout _ => true
  | .preset _ => true
  | .probeEdge _ _ _ => true
  | .probeLatchDone _ _ => true
  | .dinEdge _ _ first t => decide (first ≤ t)
  | .gearEngage _ => true
  | .gearDisengage _ => true
  | .gearArm _ => true
  | .gearDisarm _ => true
  | .camEngage _ => true
  | .camDisengage _ => true
  | .groupTimeout _ => true
  | .doorCycleEval => true
  | .cwTExpiry _ => true
  | .reopenTExpiry _ => true
  | .autoCloseExpiry _ => true
  | .unlockTmoExpiry _ => true
  | .lockTmoExpiry _ => true
  | .lockRetryPulseEnd _ => true
  | .swTmoExpiry _ => true
  | .ptlOpen _ => true
  | .ptlClose _ => true
  | .ptlNudge _ => true
  | .ptlAck _ => true
  | .envClr _ => true
  | .openAll _ => true
  | .closeAll _ => true
  | .sedgSample _ _ => true
  | .edgeFaultDetect _ => true
  | .edgeFaultClear _ => true
  | .sbxSample _ _ => true
  | .guardCycle _ _ => true
  | .discrepancyExpiry _ _ => true
  | .testPulse _ _ => true
  | .tpContactSample _ _ _ => true
  | .tpMonitor _ _ _ => true
  | .tpSourceFault _ _ => true
  | .tpFaultRecover _ _ => true
  | .sealSequence => true
  | .reread => true
  | .sealSequenceDone _ _ _ _ => true
  | .soutStuck _ _ _ => true
  | .soutOvercurrent _ _ => true
  | .guardLatchTimeout => true
  | .lockstepMismatch => true
  | .divergeTimeout => true
  | .guardLinkWithdraw => true
  | .gateMapReadback _ types _ => decide (types.length = 32)
  | .lswCmd _ _ => true
  | .lswDuty _ _ => true
  | .lswPacketInterval => true
  | .lswNormalPacket => true
  | .lswFailsafePacket => true
  | .lswAllOffPacket => true
  | .lswStorePacket => true
  | .lswWdtExpiry => true
  | .lswHoldExpiry => true
  | .lswFastTrip _ => true
  | .lswOcTimeout _ => true
  | .lswThermalTrip _ => true
  | .lswRetry _ => true
  | .lswRetryDeferred _ => true
  | .lswTriesReset _ => true
  | .inrushSegmentEnd _ => true
  | .ocLatchClear _ => true
  | .clampLatchClear _ => true
  | .offHighSet _ => true
  | .offHighClear _ => true
  | .pulsePeriodStart _ => true
  | .revBlock _ => true
  | .revBlockRelease _ => true
  | .solPermitChange _ => true
  | .timetableTick => true
  | .tasksComplete _ out bank times => out.all (fun e => decide (e.1 < 16) && decide (e.2.1 < 2048)) && bank.all (fun e => decide (e.1 < 16) && decide (e.2.1 < 2 ^ 32)) && times.all (fun e => decide (e.1 < 16))
  | .retainWriteDone _ => true
  | .taskTimeout tasks _ => tasks.all (fun e => decide (e.1 < 16))
  | .programTrap task cause _ _ _ => decide (task < 16) && (decide (cause ≤ 0x42) || cause = 0x50 || cause = 0x51 || (decide (0x60 ≤ cause) && decide (cause ≤ 0x62)))
  | .eventTaskRelease task out bank _ => decide (task < 16) && out.all (fun e => decide (e.1 < 2048)) && bank.all (fun e => decide (e.1 < 2 ^ 32))
  | .axCmd _ tgt vel vmax tag _ => decide (-(2 ^ 39) ≤ tgt) && decide (tgt < 2 ^ 39) && decide (vel < 2 ^ 32) && decide (vmax < 2 ^ 32) && decide (tag < 65536)
  | .axProfile _ _ => true
  | .ptlReq _ code => decide (code < 16)
  | .sideReq _ code => decide (code < 16)
  | .engineCtl cam n _ => (!cam || decide (n.val < 4))
  | .canSend _ _ _ data => decide (data.length ≤ 64)
  | .canRecv _ => true
  | .reqStatus _ => true
  | .stnAck _ => true
  | .recWrite type sev data => decide (type < 65536) && decide (sev < 16) && decide (data.length ≤ 496)
  | .warn code _ => decide (code < 65536)
  | .tbNow => true
  | .semTake _ => true
  | .semGive _ => true
  | .prgVerify => true
  | .prgVerifyDone => true
  | .prgSwitch => true
  | .prgSwitchExec _ => true
  | .prgWarm => true
  | .prgCold => true
  | .prgStop => true
  | .prgDiscard => true
  | .prgActivate => true
  | .prgLoadOpen _ => true
  | .joinReq _ data => decide (data.length = 16)
  | .stnIn _ ctr status data _ => decide (ctr < 256) && decide (status < 256) && decide (data.length ≤ 64)
  | .stnReplyTimeout _ => true
  | .stnConfigExchange => true
  | .canFrameRx _ _ _ data sof val => decide (data.length ≤ 64) && decide (sof ≤ val)
  | .canBusError _ _ _ _ _ => true
  | .canTxComplete _ sof val => decide (sof ≤ val)
  | .canTxAttemptFail _ _ => true
  | .canRecoveryDone _ => true
  | .canWupDetect _ => true
  | .push _ => true
  | .pop _ => true
  | .abortHead _ => true
  | .txFlush _ => true
  | .recover _ => true
  | .sendWup _ => true
  | .rxWindowRead _ _ => true
  | .canEnable _ _ => true
  | .hifOffer _ => true
  | .pcieLinkChange link width speed _ _ _ _ _ _ => decide (link ≤ 2) && decide (width < 16) && decide (speed < 16)
  | .evqEnable _ => true
  | .evqDisable _ => true
  | .evqHead _ _ => true
  | .evqRecordWrite _ => true
  | .evqOverflow _ => true
  | .evqCoalTimeout _ => true
  | .hspiEvtRead => true
  | .flkOpen => true
  | .flkClose => true
  | .flkNudge => true
  | .flkAck => true
  | .recordWrite => true
  | .recWriteCmd => true
  | .recNonce => true
  | .recClear => true
  | .recClearDone => true
  | .pairHelloTimer => true
  | .pairStatusTimer => true
  | .hello _ _ _ _ _ _ hash _ _ => decide (hash.length = 8)
  | .status _ _ _ _ _ _ _ => true
  | .motion _ _ _ _ => true
  | .queue _ _ _ _ _ => true
  | .image _ _ _ frag data => decide (frag < 2) && decide (data.length = 1024)
  | .loads _ _ _ => true
  | .env _ _ _ _ _ => true
  | .pairLinkLoss => true
  | .pairActIRise => true
  | .pairActIFall => true
  | .pairGateRestore => true
  | .takeoverGuard => true
  | .electAssertWait => true
  | .electTimeout => true
  | .yield => true
  | .loadOverlapExpiry => true
  | .giveupLoadTimeout => true
  | .secNonce => true
  | .secVerify => true
  | .secVerifyDone => true
  | .secActivate => true
  | .attest => true
  | .attestDone => true
  | .advance => true
  | .install => true
  | .lockDebug => true
  | .secDiscard => true
  | .tokenInstall => true
  | .tokenRevoke => true
  | .tokenDebugOpen => true
  | .secLoadOpen _ _ => true
  | .lswChannelCooled _ => true
  | .lselChange _ => true
  | .mirrorStale => true

end Sys2Proof
end

