-- ==== Sys2Proof/Decode.lean ====
section
/-! DEFINITION. Decoding: spec/opcode_table.json gives none of its rows any bits, so no word spells a command (log 13). -/

namespace Sys2Proof

/-- The command a word spells by the table's bits: none, since the table gives no row bits. -/
def decodeTableWord (_nbits _w : Nat) : Option Instr := none

end Sys2Proof
end

