-- ==== Sys2Proof/Config.lean ====
section
/-! DEFINITION. The values the manual leaves open, as constants without a body: nothing can evaluate them, so a claim
holds whatever they are. Each is named in notes/assumptions. -/

namespace Sys2Proof.Config

/-- Whether an inexact quotient num/den is rounded up at a place where no rule states the rounding; `site` names the
place (log 16). -/
opaque roundUp : (site : Nat) → (num : Int) → (den : Nat) → Bool

/-- Error of an entry of the sine table in units of 1/32,768: its sign, if it is not exact (R187; log 17). -/
opaque tableErr : Nat → Option Bool

/-- Weseton's PCI-SIG-assigned identifier, whose value no rule gives (R422; log 2). -/
opaque vendorId : BitVec 16

/-- A signature made by Guard's identity key, which never leaves Guard (R503, R504; log 18). -/
opaque sign : List Byte → List Byte

/-- Random bytes Guard draws (R458, R501): the draw number and how many (log 18). -/
opaque random : (draw n : Nat) → List Byte

/-- One task as a TASKS section gives it (R372, R373). -/
structure TaskRow where
  /-- Task number of Table 14-8. -/
  num : Nat := 0
  /-- k of a further cyclic task. -/
  every : Nat := 1
  /-- Event code an event task is bound to. -/
  code : Nat := 0
  /-- Event source it is bound to. -/
  source : Nat := 0
  /-- SIN input it is bound to, if any. -/
  sin : Option Nat := none
  /-- Core. -/
  core : Nat := 0
  /-- Priority, 0 the highest. -/
  prio : Nat := 0
  /-- Entry address. -/
  entry : Nat := 0
  /-- Lowest address of its stack. -/
  stack : Nat := 0
  /-- Bytes of its stack. -/
  stackSize : Nat := 0
  deriving DecidableEq, Repr

/-- What a TASKS section says, or none where it is no table; its byte layout the manual does not give (R372; log 24). -/
opaque taskTable : List Byte → Option (List TaskRow)

/-- The kinds of instance that Table 14-11 tells apart. -/
inductive InstKind where
  | plain | timer | edge
  deriving DecidableEq, Repr

/-- One instance as an INSTANCES section gives it (Table 14-2). -/
structure InstRow where
  /-- 64-bit instance key. -/
  key : Nat := 0
  /-- Type. -/
  type : Nat := 0
  /-- Bank address. -/
  addr : Nat := 0
  /-- Size in bytes. -/
  size : Nat := 0
  /-- Kind. -/
  kind : InstKind := .plain
  deriving DecidableEq, Repr

/-- One member of an instance whose type changed: its place, size and type in the old and in the new layout (R386). -/
structure MemberRow where
  /-- Instance key. -/
  inst : Nat := 0
  /-- Offset in the old instance. -/
  oldAt : Nat := 0
  /-- Size in the old layout. -/
  oldSize : Nat := 0
  /-- Type in the old layout. -/
  oldType : Nat := 0
  /-- Offset in the new instance. -/
  newAt : Nat := 0
  /-- Size in the new layout. -/
  newSize : Nat := 0
  /-- Type in the new layout. -/
  newType : Nat := 0
  deriving DecidableEq, Repr

/-- What a MIGRATION section says of the MIG_FROM layout (Table 14-2). -/
structure MigTable where
  /-- Instances of the old layout. -/
  insts : List InstRow := []
  /-- Bank address of the old RETAIN section. -/
  retainAt : Nat := 0
  /-- Members by key. -/
  members : List MemberRow := []
  deriving DecidableEq, Repr, Inhabited

/-- What an INSTANCES section says; its byte layout is not given (Table 14-2; log 24). -/
opaque instances : List Byte → List InstRow

/-- What a MIGRATION section says; its byte layout is not given (Table 14-2; log 24). -/
opaque migration : List Byte → MigTable

/-- A member's value in another type: some where an integer is widened or made REAL, none otherwise (Table 14-11; log 24). -/
opaque convert : (oldType newType : Nat) → List Byte → Option (List Byte)

/-- A timer instance of a type with its running state stopped, elapsed time 0 and output false; the members' places are not given
(R378; log 24). -/
opaque stopTimer : (type : Nat) → List Byte → List Byte

/-- Device serial, 64 bits (R38; log 7). -/
opaque serial : Nat

/-- PG_VER.BUILD of a page type (Table 06-2; log 7). -/
opaque build : Nat → Nat

/-- What the device certificate holds before its subject serial number, and after it (R503; log 7). -/
opaque certHead : List Byte

/-- The rest of the certificate. -/
opaque certTail : List Byte

/-- The hexadecimal digits of the subject serial number are in upper case (R503; log 7). -/
opaque certUpper : Bool

/-- The root key hash in the fuses (R491; log 7). -/
opaque rootHash : List Byte

/-- The value of a free choice the manual leaves open; `site` names it, `draw` counts the draws (log 2). -/
opaque free : (site draw : Nat) → Nat

end Sys2Proof.Config
end

