-- ==== Sys2Proof/Machine/State.lean ====
section
/-! DEFINITION. The state of the block as plain data: every register, queue, counter, mode and engine the spec gives
it, each with its reset value as the default of its field, and the rule of spec/ that names it. -/

namespace Sys2Proof.Machine

/-- A memory: (address, byte) pairs, addresses strictly rising, no entry 0, which an unlisted byte reads as (log 5). -/
abbrev Memory := List Host.Cell

/-! ## Names the spec gives to fixed sets -/

/-- The eight operating modes of Table 05-1 (R105). -/
inductive Mode where
  | sleep | boot | config | run | degraded | service | safeHold | standby
  deriving DecidableEq, Repr

/-- The code of a mode in HIF.MODE_STA and HIF.MODE_REQ (Table 05-1). -/
def Mode.code : Mode → Nat
  | .sleep => 0 | .boot => 1 | .config => 2 | .run => 3
  | .degraded => 4 | .service => 5 | .safeHold => 6 | .standby => 7

/-- The states of an axis, Table 07-11 (R184). -/
inductive AxState where
  | idle | accel | cruise | decel | holdVel | stopping | follow | halted
  deriving DecidableEq, Repr

/-- The code of an axis state in AX STAT.STATE (Table 07-11). -/
def AxState.code : AxState → Nat
  | .idle => 0 | .accel => 1 | .cruise => 2 | .decel => 3
  | .holdVel => 4 | .stopping => 5 | .follow => 6 | .halted => 7

/-- The states of a portal, Table 11-1 (R269). -/
inductive PtlState where
  | closedLocked | released | opening | open | closeWarn | closing | obstacleStop | reversing
  | reopenHold | nudge | locking | isolated | egress | fault | unused
  deriving DecidableEq, Repr

/-- The code of a portal state (Table 11-1). -/
def PtlState.code : PtlState → Nat
  | .closedLocked => 0 | .released => 1 | .opening => 2 | .open => 3 | .closeWarn => 4
  | .closing => 5 | .obstacleStop => 6 | .reversing => 7 | .reopenHold => 8 | .nudge => 9
  | .locking => 10 | .isolated => 11 | .egress => 12 | .fault => 13 | .unused => 15

/-- The coil states of Table 08-2 (R200). -/
inductive Coil where
  | driven | holding | free | brake
  deriving DecidableEq, Repr

/-- The code of a coil state in DRV STA.COIL (Table 08-2). -/
def Coil.code : Coil → Nat
  | .driven => 0 | .holding => 1 | .free => 2 | .brake => 3

/-- The watchdog states of the Switch die, Table 13-5 (R351). -/
inductive WdtState where
  | disarmed | running | hold | failWdt | failCmd
  deriving DecidableEq, Repr

/-- The code of a watchdog state in LSWG.STA.WDT_STATE (Table 13-5). -/
def WdtState.code : WdtState → Nat
  | .disarmed => 0 | .running => 1 | .hold => 2 | .failWdt => 3 | .failCmd => 4

/-- The states of a CAN controller in STA.FC_STATE (R414, R417, Table 15-5). -/
inductive FcState where
  | active | passive | busOff | init
  deriving DecidableEq, Repr

/-- The code of a fault-confinement state in CAN STA.FC_STATE. -/
def FcState.code : FcState → Nat
  | .active => 0 | .passive => 1 | .busOff => 2 | .init => 3

/-- The states of a remote station, Table 14-13 (R390). -/
inductive StnState where
  | unconfigured | absent | joining | ready | present | lost | refused
  deriving DecidableEq, Repr

/-- The code of a station state in STN STA.STATE (Table 14-13). -/
def StnState.code : StnState → Nat
  | .unconfigured => 0 | .absent => 1 | .joining => 2 | .ready => 3
  | .present => 4 | .lost => 5 | .refused => 6

/-- The run states of the program, PRG STA.RUN_STATE (Table 14-15). -/
inductive RunState where
  | notLoaded | loaded | running | stopped | suspended
  deriving DecidableEq, Repr

/-- The code of a run state in PRG STA.RUN_STATE (Table 14-15). -/
def RunState.code : RunState → Nat
  | .notLoaded => 0 | .loaded => 1 | .running => 2 | .stopped => 3 | .suspended => 4

/-- The states of the Siding, PRG STA.SIDING (Table 14-15). -/
inductive SidState where
  | empty | loading | verifying | invalid | ready | switchPend | loaded
  deriving DecidableEq, Repr

/-- The code of a Siding state in PRG STA.SIDING (Table 14-15). -/
def SidState.code : SidState → Nat
  | .empty => 0 | .loading => 1 | .verifying => 2 | .invalid => 3
  | .ready => 4 | .switchPend => 5 | .loaded => 6

/-- The states of the non-active copy, SEC STA.LOAD_STATE (Table 19-6). -/
inductive LoadState where
  | empty | loading | verifying | invalid | ready
  deriving DecidableEq, Repr

/-- The code of a copy state in SEC STA.LOAD_STATE (Table 19-6). -/
def LoadState.code : LoadState → Nat
  | .empty => 0 | .loading => 1 | .verifying => 2 | .invalid => 3 | .ready => 4

/-- The states of an owner key slot (R492). -/
inductive SlotState where
  | empty | active | revoked
  deriving DecidableEq, Repr

/-- The code of a slot state in SEC SLOT_STA (Table 19-6). -/
def SlotState.code : SlotState → Nat
  | .empty => 0 | .active => 1 | .revoked => 2

/-- The state fuses of an owner key slot (R492). -/
structure SlotFuses where
  /-- USED is blown. -/
  used : Bool := false
  /-- ACTIVE is blown. -/
  active : Bool := false
  /-- REVOKED is blown. -/
  revoked : Bool := false
  deriving DecidableEq, Repr

/-- The state that the fuses of a slot give (R492). -/
def SlotFuses.state (f : SlotFuses) : SlotState :=
  if f.revoked then .revoked else if f.used then (if f.active then .active else .revoked) else .empty

/-- What Guard's signature engine performs: SEC VERIFY, ATTEST and TOKEN, and what other pages ask for, the verification and the switch check of
a program, and the token of a CLEAR (R505). -/
inductive EngineOp where
  | verify | attest | token | program | switch | clear
  deriving DecidableEq, Repr

/-- The states of the PAIR link, PAIR STA.LINK (Table 18-9). -/
inductive PairLink where
  | down | training | up | mismatch
  deriving DecidableEq, Repr

/-- The code of a PAIR link state (Table 18-9). -/
def PairLink.code : PairLink → Nat
  | .down => 0 | .training => 1 | .up => 2 | .mismatch => 3

/-- The states of a die link, DEV LINK_STAn.STATE (Table 01-10). -/
inductive LinkState where
  | down | training | up | absent
  deriving DecidableEq, Repr

/-- The code of a die link state (Table 01-10). -/
def LinkState.code : LinkState → Nat
  | .down => 0 | .training => 1 | .up => 2 | .absent => 3

/-- The causes that hold an axis halted, row 1 of Table 07-5 with R202, R207, R208 and R182. -/
inductive HaltCause where
  | vmotUv | vmotOv | thermal | safeHold | dieAbsent | gateCut | bridgeFault | stall | planMismatch
  deriving DecidableEq, Repr

/-- The writers of an axis command (R161, R268). -/
inductive Writer where
  | host | program | doorCycle
  deriving DecidableEq, Repr

/-- The causes that end following, Table 10-1 (R257). -/
inductive FollowEnd where
  | disengage | overspeed | limit | masterLost | halt | obstacle | release | mode
  deriving DecidableEq, Repr

/-- The code of a FOLLOW_END cause (Table 16-7). -/
def FollowEnd.code : FollowEnd → Nat
  | .disengage => 1 | .overspeed => 2 | .limit => 3 | .masterLost => 4
  | .halt => 5 | .obstacle => 6 | .release => 7 | .mode => 8

/-! ## Events and what leaves the module -/

/-- One event on its way to a SEQ (R16, R23, R27, R431). -/
structure Event where
  /-- TB[47:0] stamp given by the event's die (R22, R23). -/
  stamp : Nat := 0
  /-- Die number, the second key of R27. -/
  die : Nat := 0
  /-- Number of the event among its die's, the third key of R27. -/
  linkSeq : Nat := 0
  /-- Sequence number of the Coupling packet that carries it (R16). -/
  pkt : Nat := 0
  /-- It has reached Junction, and the sequencer holds it (R26). -/
  arrived : Bool := true
  /-- Source, [15:8] page type, [7:0] instance (R431). -/
  source : Nat := 0
  /-- Event code (Table 16-7, Table 17-9, Table 18-10, Table 19-7). -/
  code : Nat := 0
  /-- Payload bytes (R432). -/
  payload : List Byte := []
  /-- Bytes beyond the record's twelve, carried in continuation records (R434). -/
  more : List Byte := []
  deriving DecidableEq, Repr

/-- The PAIR frames whose payload Table 18-2 lists without byte places. -/
inductive PairMsg where
  /-- HELLO: version bitmap, role (true for SECOND), serial, seal word, hash, LAYOUT, mode. -/
  | hello (versions : Nat) (second : Bool) (serial : Nat) (sealW : Word) (hash : List Byte) (layout mode : Nat)
  /-- STATUS: mode, ACT_O, MIRROR_OK, axes whose queue mirror is stale, cycle number last run. -/
  | status (mode : Nat) (actO ok : Bool) (stale : Word) (cycle : Nat)
  /-- QUEUE: axis, queue counter, contents. -/
  | queue (axis cnt : Nat) (q : QueueMsg)
  deriving DecidableEq, Repr

/-- What the device puts out on an interface: the model's record of outputs that no register shows. -/
inductive Posted where
  /-- Posted PCI Express write of bytes at a host address (R436). -/
  | hostWrite (addr : Nat) (bytes : List Byte)
  /-- MSI or MSI-X message of a vector (R423). -/
  | vector (v : Nat)
  /-- A frame put on a CAN bus (R410, R411): controller, first word, second word, payload. -/
  | canFrame (ctl : Nat) (w0 w1 : Word) (payload : List Byte)
  /-- The wake-up pattern on a CAN bus (R400). -/
  | canWup (ctl : Nat)
  /-- A frame sent on the PAIR link (R474): all its bytes. -/
  | pairFrame (bytes : List Byte)
  /-- A frame sent on the PAIR link whose payload has no byte layout: version, frame count, TB[47:0]. -/
  | pairMsg (version cnt tb : Nat) (m : PairMsg)
  /-- What goes over a die link: kind 1 sync (R23), 2 LINK_RESET (R100), 3 REREAD (R304), and towards the die and from it, an
  acknowledgement 4 and 5, a negative acknowledgement 6 and 7, a resend of every unacknowledged packet 8 and 9, a stamp packet 10 and
  11 (R16, R17), the acknowledgement of a status frame 12 (R20). `seq` is the packet's sequence number; of an acknowledgement the number
  the receiver expects next, of a resend the oldest resent, of a status frame its count. A stamp packet carries its TB[47:0]. The bits
  of the CRC-32 are not held (log 37). -/
  | packet (die kind seq : Nat) (stamp : Option Nat)
  deriving DecidableEq, Repr

/-! ## Register pages -/

/-- Words of a page or of a capture: (offset, word), offsets strictly rising. -/
abbrev Words := List (Nat × Word)

/-- One register page: the common header of Table 06-2, the words of its RW and RWS fields, and what the
access rules keep beside them. The reset value of a word that `com` does not list is the register table's. -/
structure Page where
  /-- PG_CTL.VIEW (R137). -/
  view : Bool := false
  /-- PG_CTL.LOCK and PG_STA.LOCKED, kept in AON (R145). -/
  lock : Bool := false
  /-- PG_CTL.EN (R137), where PG_CAP.ENABLE is 1. -/
  en : Bool := false
  /-- PG_IRQ (R137). -/
  irq : Word := 0
  /-- PG_IEN (R137). -/
  ien : Word := 0
  /-- PG_ERR.CODE (R139). -/
  errCode : Nat := 0
  /-- PG_ERR.DETAIL (R139). -/
  errDetail : Nat := 0
  /-- PG_ERR.COUNT, saturating at 15 (R139). -/
  errCount : Nat := 0
  /-- PG_ERR.OFFSET, a word offset (R139). -/
  errOff : Nat := 0
  /-- PG_SEQ: SEQ[31:0] of the COMMIT event of the last commit that took effect (R137). -/
  seq : Word := 0
  /-- Committed words of RW and RWS fields (R133, R140). -/
  com : Words := []
  /-- Staged words (R140). -/
  stg : Words := []
  /-- PG_STAGE: bit g set while group g holds a staged value (R137, R140). -/
  stage : Word := 0
  /-- Words of a profile that the program commits by itself as one group 0 commit (R369). -/
  sole : Words := []
  /-- PG_STA.COMMIT_PEND with the boundary at which the commit takes effect (R140). -/
  commitDue : Option Nat := none
  /-- PG_SNAP pending, with its capture count t (R93). -/
  snapDue : Option Nat := none
  /-- The die has captured; its part is on its way to the page (R93). -/
  snapTaken : Bool := false
  /-- PG_STA.SNAP_HELD (R94). -/
  snapHeld : Bool := false
  /-- Captured block status words (R93, R94). -/
  snap : Words := []
  /-- PG_STA.RST_PEND (R102). -/
  rstPend : Bool := false
  /-- Writes waiting for a stopped home clock, at most eight (R96). -/
  queue : Words := []
  /-- Junction's mirror of the page's status words (R90). -/
  mirror : Words := []
  /-- Words captured by the read of a wide field's lowest word (R91). -/
  cap : Words := []
  deriving DecidableEq, Repr

/-! ## Dies, links, time base, sequencer, memories -/

/-- One direction of a Coupling link (R16 to R18): sequence numbers of 16 bits at its sender and its receiver. -/
structure Lane where
  /-- Sequence number of the next packet sent (R16). -/
  next : Nat := 0
  /-- Oldest packet not yet acknowledged; outstanding packets run from here to next (R17). -/
  oldest : Nat := 0
  /-- Sequence number the receiver expects next (R17). -/
  want : Nat := 0
  /-- Retries of the oldest packet so far (R18). -/
  run : Nat := 0
  /-- Event packets that wait for room among the 64 outstanding (R17). -/
  wait : Nat := 0
  /-- Numbers of the event packets sent and not yet acknowledged (R100). -/
  evs : List Nat := []
  deriving DecidableEq, Repr

/-- One die link, seen from Junction (R15 to R20). -/
structure Link where
  /-- LINK_STAn.STATE (R38). -/
  st : LinkState := .down
  /-- LINK_STAn.RETRIES, saturating at 0xFFFF (R38). -/
  retries : Nat := 0
  /-- LINK_STAn.WORST_RUN, 0 to 8 (R38). -/
  worstRun : Nat := 0
  /-- LINK_STAn.LATE_DROP, saturating at 0x3FF (R19, R38). -/
  lateDrop : Nat := 0
  /-- Junction to the die. -/
  out : Lane := {}
  /-- The die to Junction; on the status link, its run counts bad or missing frames in a row (R20). -/
  inn : Lane := {}
  /-- Latest stamp delivered on the link since it trained, the watermark of R26; none before the first. -/
  mark : Option Nat := none
  /-- Number of the die's next event, the third key of R27. -/
  evNext : Nat := 0
  /-- Event packets that the die had sent and that were not acknowledged when LINK_RESET reached it (R100). -/
  lost : Nat := 0
  /-- Latest value of the die's own TB count that it has put into a stamp (R23). -/
  count : Nat := 0
  /-- Where the steps of the die's own TB count lie since the last sync packet (R23, Table 01-4). -/
  phase : Nat := 0
  deriving DecidableEq, Repr

/-- The sequencer on Junction (R26 to R29). -/
structure Sequencer where
  /-- Held events, in order of arrival; TB.HELD is their number (R26, R39). -/
  held : List Event := []
  /-- Next SEQ to be assigned, 64 bits (R27, R39). -/
  next : Nat := 0
  /-- SEQ block boundary stored in the Granary system area (R29). -/
  limit : Nat := 0
  /-- TB.HOLD_MAX in units of 0.1 µs, saturating at 0xFFFF (R39). -/
  holdMax : Nat := 0
  /-- Held count kept in AON across a Junction reset (R100). -/
  aonLost : Nat := 0
  deriving DecidableEq, Repr

/-- One ECC_CORR event that coalesces corrections of a word (R34). -/
structure Corr where
  /-- Memory: 0 Junction SRAM, 1 Guard SRAM, 2 Granary. -/
  mem : Nat := 0
  /-- Word index. -/
  word : Nat := 0
  /-- Instant of the first correction of the running second. -/
  since : Nat := 0
  /-- Corrections in that second. -/
  count : Nat := 0
  deriving DecidableEq, Repr

/-- The memories of Table 01-6 with their scrubbers (R30 to R37). -/
structure Memories where
  /-- Granary contents by logical byte address (R31), canonical. -/
  granary : Memory := []
  /-- Junction SRAM contents by byte offset (R362), canonical. -/
  sram : Memory := []
  /-- Guard SRAM contents by byte offset (R30), canonical. -/
  guard : Memory := []
  /-- Scrub positions of Junction SRAM, Guard SRAM and Granary; the last is kept in the system area (R35). -/
  scrub : Vector Nat 3 := Vector.replicate 3 0
  /-- Words with an uncorrectable error, marked in the system area (R33): (memory, word). -/
  bad : List (Nat × Nat) := []
  /-- Words that hold an uncorrectable error at present, until a write of the whole word (R32, R33): (memory, word). -/
  torn : List (Nat × Nat) := []
  /-- Words in which one or two bits are in error, which the next read finds and corrects (R33): memory, word, bits. -/
  soft : List (Nat × Nat × Nat) := []
  /-- Corrections being coalesced (R34). -/
  corr : List Corr := []
  /-- The NVM clock runs: from an access to Granary until 1 ms has passed without one (R83, R84). -/
  nvm : Bool := false
  /-- Instant of the last access to Granary (R83). -/
  touched : Nat := 0
  deriving DecidableEq, Repr

/-! ## Supply, power domains, temperature -/

/-- The PWR page's status and what the supply and thermal rules keep (R59 to R82). -/
structure Power where
  /-- DOM_STA: bit per powered domain (R71, R82). -/
  domains : Word := 1
  /-- SUP_STA (R82, Table 03-10). -/
  sta : Word := 0
  /-- SUP_LATCH (R82). -/
  latch : Word := 0
  /-- VLOG in mV (R82). -/
  vlog : Nat := 0
  /-- VLSW in mV (R82). -/
  vlsw : Nat := 0
  /-- VMOT_A and VMOT_B in mV (R82). -/
  vmot : Vector Nat 2 := Vector.replicate 2 0
  /-- VLOG_MIN in mV (R82). -/
  vlogMin : Nat := 0xFFFF
  /-- TEMP_BP, 1/16 °C, two's complement of 16 bits, 0x8000 for none (R82). -/
  tempBp : Nat := 0x8000
  /-- TEMP_D0 to TEMP_D7, coded as TEMP_BP (R82). -/
  tempD : Vector Nat 8 := Vector.replicate 8 0x8000
  /-- TH_EST_A, TH_EST_B, coded as TEMP_BP (R77, R82). -/
  thEst : Vector Nat 2 := Vector.replicate 2 0x8000
  /-- The lagged term of the thermal model of each Plough die, in units of 10^-12 K (R77). -/
  lag : Vector Int 2 := Vector.replicate 2 0
  /-- P_self of each Plough die, in µW (R77). -/
  pSelf : Vector Nat 2 := Vector.replicate 2 0
  /-- T_est of each Plough die in millionths of a degree; none before the first estimate (R77). -/
  tEst : Vector (Option Int) 2 := Vector.replicate 2 none
  /-- s_T of each Plough die, in units of 10^-6 (R79). -/
  sT : Vector Nat 2 := Vector.replicate 2 1000000
  /-- s_v of each Plough die, in units of 10^-6 (R68). -/
  sv : Vector Nat 2 := Vector.replicate 2 1000000
  /-- Since when the measured supply of each condition of SUP_STA has been beyond its entry threshold, by its bit (R64). -/
  beyond : Vector (Option Nat) 8 := Vector.replicate 8 none
  /-- Since when it has been beyond its release threshold (R64). -/
  back : Vector (Option Nat) 8 := Vector.replicate 8 none
  /-- Temperature causes of SAFE_HOLD stand until every die is below 140 °C (R81, R125). -/
  hot : Bool := false
  /-- Instant since which each die's sensor has stood at or above 150 °C (R81). -/
  hotSince : Vector (Option Nat) 8 := Vector.replicate 8 none
  deriving DecidableEq, Repr

/-! ## Clocks and resets -/

/-- The CLK page's status (R83 to R103). -/
structure Clocks where
  /-- RUN but for the NVM clock, whose state Memories holds: running clocks (R103); SLP never stops. -/
  run : Word := 1
  /-- FAIL (R85, R103). -/
  fail : Word := 0
  /-- GRD_PLL_LOCK, PCIE_PLL_LOCK, PLL0_LOCK at bits 2, 1, 0 (R103). -/
  lock : Word := 0
  /-- SNAP_TB: t of the last capture, 64 bits (R93). -/
  snapTb : Nat := 0
  /-- SNAP_LATE_CNT, saturating (R95). -/
  lateCnt : Nat := 0
  /-- WQ_DROP_CNT, saturating (R96, R97). -/
  dropCnt : Nat := 0
  /-- The NVM clock has failed, and no access to Granary is possible (R85, R119). -/
  nvmFailed : Bool := false
  /-- The TB count at which the debugger last clocked TCK (R83, R96); no debugger is connected after reset. -/
  tckAt : Option Nat := none
  deriving DecidableEq, Repr

/-- The RST page's status and the reset machinery (R98 to R104). -/
structure Resets where
  /-- CAUSE of the last power-on or full reset (R104). -/
  cause : Word := 1
  /-- JCT_CAUSE (R104). -/
  jctCause : Word := 0
  /-- FULL_COUNT, kept in the Granary system area (R104). -/
  fullCount : Nat := 0
  /-- JCT_COUNT, kept in the Granary system area (R104). -/
  jctCount : Nat := 0
  /-- ABSENT: dies held absent, kept in AON (R101). -/
  absent : Word := 0
  /-- LOST_EVENTS (R100). -/
  lostEvents : Nat := 0
  /-- AON has lost power since the last boot, so that the next increments TB.EPOCH (R25, R67). -/
  aonLost : Bool := true
  deriving DecidableEq, Repr

/-! ## Modes, sleep, wake, boot -/

/-- Where the boot of Table 05-4 stands (R113, R115). -/
structure Boot where
  /-- Instant of the reference of Table 05-4. -/
  ref : Nat := 0
  /-- The boot entered the table at step 6, after a Junction reset (R113). -/
  fromJct : Bool := false
  /-- Mode that the Junction reset was taken in (R118). -/
  modeAt : Mode := .boot
  /-- Step 1 and 2 done: Guard firmware verified (R115). -/
  guardOk : Bool := false
  /-- Step 4 done: Junction firmware verified (R115). -/
  jctOk : Bool := false
  /-- Step 7 done: configuration image verified and applied (R115). -/
  cfgOk : Bool := false
  /-- Step 8 done: program image verified (R115). -/
  prgOk : Bool := false
  /-- Retained data restored or cold start selected (R117). -/
  retOk : Bool := false
  /-- Instant at which the CAN controllers started (R117). -/
  canStart : Option Nat := none
  /-- JOIN_WAIT has passed (R117). -/
  joinOver : Bool := false
  /-- The start-up has begun since the last reset or wake (R113). -/
  started : Bool := false
  /-- PLA, PLB and SWD have been switched on since the last full reset or wake, step 6 (R113). -/
  sixth : Bool := false
  /-- A firmware or fuse check of this boot has failed (R116). -/
  fwBad : Bool := false
  /-- Step 6 of the power-fail sequence has reset the dies, and no boot has begun since (R65). -/
  failed : Bool := false
  /-- BOOT_TIME in 0.1 ms, saturating (R130). -/
  time : Nat := 0
  deriving DecidableEq, Repr

/-- The mode and its fields on the HIF page (R105 to R131). -/
structure ModeCtl where
  /-- MODE_STA.MODE (R130). -/
  mode : Mode := .boot
  /-- MODE_STA.PREV (R130). -/
  prev : Nat := 0
  /-- MODE_STA.BUSY: a transition is in progress (R130). -/
  busy : Bool := true
  /-- MODE_CAUSE.CAUSE (R130, R131). -/
  cause : Nat := 1
  /-- MODE_CAUSE.PREV_CAUSE (R118, R130). -/
  prevCause : Nat := 0
  /-- WAKE_CAUSE (R108, R130). -/
  wakeCause : Word := 0x100
  /-- ENTRY_SEQ: SEQ of the last MODE_CHANGE event (R130). -/
  entrySeq : Nat := 0
  /-- Target of the transition in progress: a sleep entry, or a MODE_REQ that waits for REREAD (R112, R125). -/
  target : Option Mode := none
  /-- Instant at which SLEEP was entered last, for the Sleeper timer (R108). -/
  sleptAt : Option Nat := none
  /-- RUN has been entered since the last wake or full reset, so that wake sources are no longer latched (R108). -/
  ran : Bool := false
  /-- A wake source became active during sleep entry: boot starts at once (R110). -/
  wakeHeld : Bool := false
  /-- A MODE_REQ has asked a paired module to leave CONFIG (R117). -/
  asked : Bool := false
  /-- Levels that the WAKE pads have held for WAKE_CFG.FILT, bit k for WAKEk (Table 05-3). -/
  pads : Word := 0
  /-- PE_WAKE_N is driven low (R109). -/
  peWake : Bool := false
  /-- Instant of the last wake, for the 1 s of R109. -/
  wakeAt : Nat := 0
  /-- SERVICE_KEY was lost for 100 ms and the axes are being stopped (R123). -/
  keyLost : Bool := false
  /-- GUARD_DEMAND stands (R321). -/
  guardDemand : Bool := false
  deriving DecidableEq, Repr

/-! ## Motion: moves, the planner's plan, axes -/

/-- A deceleration to rest that the planner is carrying out (R160, R162, R167, R282). -/
structure StopPlan where
  /-- Position of rest, in units of 1/1,024,000,000 µstep. -/
  dest : Int := 0
  /-- The single deceleration of QSTOP, LIMIT and OBSTACLE in µsteps/s²; none for D2 and D1. -/
  rate : Option Nat := none
  /-- The stop ends a VEL move at a limit (R162). -/
  limit : Bool := false
  /-- That VEL move has not yet reached its velocity, so it completes at the limit. -/
  unfinished : Bool := false
  /-- STATE shows STOPPING (STOP, QSTOP, LIMIT, RELEASE). -/
  shown : Bool := false
  /-- The stop belongs to the active move, which goes on after it: the turn of a VEL move or of a return (R166, R167). -/
  turn : Bool := false
  /-- The present speed is held until the last boundary from which the rest is still reached (R177). -/
  hold : Bool := false
  deriving DecidableEq, Repr

/-- The planner's state at a period boundary: what the plan of later periods starts from (R156 to R170). Speeds are in
units of 1/32,000 µstep/s and positions in units of 1/1,024,000,000 µstep, in which every period is exact. -/
structure Plan where
  /-- Position. -/
  x : Int := 0
  /-- Speed. -/
  w : Nat := 0
  /-- Direction: true for negative. -/
  neg : Bool := false
  /-- Moves not yet complete, the active one first. -/
  moves : List Move := []
  /-- End speed of each of those moves in register form, none where the axis comes to rest (R165). -/
  ends : List (Option Nat) := []
  /-- The final deceleration of the active move has begun (R156). -/
  dec : Bool := false
  /-- Speed is not raised again in the active move (R177). -/
  noRaise : Bool := false
  /-- The active move runs at its start speed to its target (R158). -/
  fixed : Bool := false
  /-- The first of the moves has started (R160, R176). -/
  begun : Bool := false
  /-- The active move may have to pass its target: it was entered with IMM, follows a VEL move, or lost its successors (R167). -/
  mayPass : Bool := false
  /-- Velocity of a completed VEL move that is being held, register form (R166). -/
  held : Option Nat := none
  /-- A deceleration to rest. -/
  stop : Option StopPlan := none
  /-- The active move is on its way back to a target it passed (R167). -/
  back : Bool := false
  /-- Profile the active move keeps after a failed fit test (R176). -/
  old : Option Profile := none
  deriving DecidableEq, Repr

/-- One planned control period (R156, R169). -/
structure Period where
  /-- Speed at the period's first clock, 1/32,000 µstep/s. -/
  w0 : Nat := 0
  /-- Speed at the period's end. -/
  w1 : Nat := 0
  /-- Direction: true for negative. -/
  neg : Bool := false
  /-- Position at the period's end, 1/1,024,000,000 µstep. -/
  x : Int := 0
  /-- The axis comes to rest in this period at the whole microstep of x (R179 STOP). -/
  stop : Bool := false
  /-- Moves that are complete at this period's first clock: at once, without motion, or at a velocity reached by the step from rest
  (R159, R163). -/
  early : Nat := 0
  /-- Moves that end later in this period (R163). -/
  done : Nat := 0
  /-- What AX STATE shows in this period (R184). -/
  st : AxState := .idle
  /-- The planner turns back in this period to a target it passed (R167). -/
  returned : Bool := false
  /-- A VEL move comes to rest at a limit in this period (R162). -/
  limitHit : Bool := false
  /-- This period's reduction of speed belongs to the final deceleration of the last queued move (R168). -/
  lastDecel : Bool := false
  /-- The planner's state at the period's end. -/
  plan : Plan := {}
  /-- Moves discarded without an end where the period begins: the axis is stopped as for QSTOP (R162). -/
  drop : Nat := 0
  /-- Junction speed of the first joint passed in this period, in register form (R165). -/
  joint : Option Nat := none
  deriving DecidableEq, Repr

/-- A setpoint as it goes to the Plough die (Table 07-7, R179). -/
structure Setpoint where
  /-- RATE0, in 2^-48 microstep per MOT clock. -/
  rate0 : Int := 0
  /-- SLOPE. -/
  slope : Int := 0
  /-- DIR: true for negative. -/
  neg : Bool := false
  /-- END_POS. -/
  endPos : Int := 0
  /-- STOP. -/
  stop : Bool := false
  deriving DecidableEq, Repr

/-- A trigger or command waiting for the period in which the planner takes it (R170 to R172). -/
inductive Taken where
  /-- GO with its move and its handle (R160, R370). -/
  | go (m : Move) (rel : Bool) (handle : Nat)
  /-- IMM with its move and its handle. -/
  | imm (m : Move) (rel : Bool) (handle : Nat)
  /-- STOP, with the SQ_LAST cause it counts under. -/
  | stop (cause : Nat)
  /-- QSTOP. -/
  | qstop
  /-- FLUSH. -/
  | flush
  /-- PARAM: a commit of group 0 or 1, with the profile in force before it (R176). -/
  | param (old : Profile)
  /-- LIMIT (R162). -/
  | limit
  /-- RELEASE (R271). -/
  | release
  /-- OBSTACLE, with the deceleration and the reverse move where the segment carries one (R282). -/
  | obstacle (rate : Nat) (reverse : Option Move)
  /-- The end of following (R257). -/
  | follow (cause : FollowEnd)
  /-- A STOP that another member of the start group passes on (R249). -/
  | passed
  deriving DecidableEq, Repr

/-- What an axis took last: all that one period takes is applied from the same commit point, in the order of R172, so that a second taking
in the period applies what the first applied once more, in its place. -/
structure Took where
  /-- Period of the taking. -/
  period : Nat := 0
  /-- Plan from the commit point before the first taking of the period. -/
  plan : Plan := {}
  /-- It counted as a squash event. -/
  counted : Bool := false
  /-- Moves held for a start group before the first taking of the period (R247). -/
  held : List Move := []
  /-- What the period has taken, in order of arrival. -/
  applied : List Taken := []
  /-- FLAGS bits it has set (R186). -/
  flags : List Nat := []
  /-- Late appends it has counted (R168). -/
  late : Nat := 0
  /-- Profile deferrals it has counted (R176). -/
  deferred : Nat := 0
  /-- Refusals at the taking it has reported: code and handle (R161). -/
  refused : List (Nat × Nat) := []
  deriving DecidableEq, Repr

/-- One axis on Junction: its queue, planner and AX status (R153 to R186). -/
structure Axis where
  /-- STAT.STATE (R184). -/
  st : AxState := .idle
  /-- Moves held, the active one first, at most 16 (R160). -/
  queue : List Move := []
  /-- A move has been active since reset, so that ACT_TAG no longer shows its reset value (log 19). -/
  tagged : Bool := false
  /-- Commands and triggers accepted and not yet taken, with the period each is taken in (R170). -/
  taken : List (Nat × Taken) := []
  /-- The last taking (R172). -/
  took : Option Took := none
  /-- The Furrow: running, committed, then uncommitted setpoints as planned (R169). -/
  furrow : List Period := []
  /-- POS_CMD (R181). -/
  pos : Int := 0
  /-- VEL_CMD, signed register form (R181). -/
  vel : Int := 0
  /-- ACC as the setpoints sent so far leave it at the end of the committed period, in 2^-24 µstep (R180, R181). -/
  accEnd : Int := 0x800000
  /-- FLAGS (R183). -/
  flags : Word := 0
  /-- End position of the last queued ABS or REL move, POS_END (R183). -/
  posEnd : Int := 0
  /-- HEADLAND_V in register form (R165). -/
  headV : Nat := 0
  /-- SQ_EVENTS (R174). -/
  sqEvents : Nat := 0
  /-- SQ_PERIODS (R174). -/
  sqPeriods : Nat := 0
  /-- SQ_LAST.COUNT (R174). -/
  sqCount : Nat := 0
  /-- SQ_LAST.CAUSE (R172). -/
  sqCause : Nat := 0
  /-- DEFER_COUNT (R183). -/
  deferCount : Nat := 0
  /-- LATE_COUNT (R183). -/
  lateCount : Nat := 0
  /-- MOVE_COUNT (R183). -/
  moveCount : Nat := 0
  /-- Standing HALT causes (R173). -/
  halts : List HaltCause := []
  /-- Engine that drives the axis: 0 to 11 GEAR, 16 to 19 CAM (R244). -/
  engine : Option Nat := none
  /-- An engine has ended and the axis has not yet come to rest: OWNER still reads 2 (R257). -/
  leaving : Bool := false
  /-- The leaf has been referenced since its Plough die was last powered (R291). -/
  referenced : Bool := false
  deriving DecidableEq, Repr

/-! ## The coil drive of one axis on its Plough die -/

/-- One axis on its Plough die: rate multiplier, sequencer, coils, estimator, protection (R179 to R214). -/
structure Drive where
  /-- ACC, 64 bits: [63:24] position, [23:0] fraction (R180). -/
  acc : Int := 0x800000
  /-- RATE in force (R180). -/
  rate : Int := 0
  /-- SLOPE in force (R180). -/
  slope : Int := 0
  /-- The setpoint in force (R179). -/
  sp : Setpoint := {}
  /-- The number of the running period on the die. -/
  per : Nat := 0
  /-- Setpoints that have arrived for the periods to come, each with its period's number (R169). -/
  next : List (Nat × Setpoint) := []
  /-- MOT clocks of the running period already executed, 0 to 10,000 (R180). -/
  clock : Nat := 10000
  /-- PWM periods without a setpoint (R128). -/
  missed : Nat := 0
  /-- The die has lost the forwarded MOT clock: nothing on it that MOT clocks goes on (R128). -/
  motLost : Bool := false
  deriving DecidableEq, Repr

/-- The coils, level and measured values of one axis (R187 to R213). -/
structure Coils where
  /-- STA.COIL (R200). -/
  coil : Coil := .free
  /-- STA.LEVEL (R188). -/
  level : Nat := 0
  /-- STA.LEVEL_REQ (R189). -/
  levelReq : Nat := 0
  /-- FLAGS (R211). -/
  flags : Word := 0
  /-- S_APP in per cent (R193). -/
  sApp : Nat := 100
  /-- I_SET in mA (R193). -/
  iSet : Nat := 0
  /-- I_MEAS_A in mA (R211). -/
  iA : Int := 0
  /-- I_MEAS_B in mA (R211). -/
  iB : Int := 0
  /-- U_A in 10 mV (R211). -/
  uA : Int := 0
  /-- U_B in 10 mV (R211). -/
  uB : Int := 0
  /-- DUTY_A, Q1.15 (R211). -/
  dA : Int := 0
  /-- DUTY_B, Q1.15 (R211). -/
  dB : Int := 0
  /-- E_EST in 10 mV (R203). -/
  eEst : Nat := 0
  /-- LOAD_ANGLE in 0.01 degree (R203). -/
  angle : Int := 0
  /-- T_EST in mN·m (R205). -/
  tEst : Int := 0
  /-- POS_ERR in microsteps (R206, R233). -/
  posErr : Int := 0
  /-- STA.LA_VALID (R204). -/
  laValid : Bool := false
  /-- STA.VOLT_LIMIT (R196). -/
  vLim : Bool := false
  /-- A limited update has occurred in this control period (R196). -/
  vLimPeriod : Bool := false
  /-- Instant of the last VOLT_LIMIT event (R196). -/
  vLimEvt : Option Nat := none
  /-- STA.GATE_CUT (R202). -/
  gateCut : Bool := false
  /-- STA.STALL_BLIND (R206). -/
  blind : Bool := false
  /-- Instant of the last voltage update (R195). -/
  updAt : Option Nat := none
  /-- High-side times of legs P and M of phase A, in MOT clocks of N_half (R197, R198). -/
  legA : Int × Int := (0, 0)
  /-- High-side times of legs P and M of phase B (R197, R198). -/
  legB : Int × Int := (0, 0)
  /-- The last PWM periods driven or held, newest first, at most 64: measured magnitude and demanded peak of phase A, then of phase B, in
  mA (R208). -/
  pwm : List ((Nat × Nat) × (Nat × Nat)) := []
  deriving DecidableEq, Repr

/-- Counters and detector runs of one axis on its Plough die (R196, R203 to R209). -/
structure Watch where
  /-- STALL_COUNT (R207). -/
  stallCount : Nat := 0
  /-- OC_COUNT (R208). -/
  ocCount : Nat := 0
  /-- VLIM_PERIODS (R196). -/
  vlimPeriods : Nat := 0
  /-- LEVEL_SW (R190). -/
  levelSw : Nat := 0
  /-- Control periods in a row in which |δ| has exceeded STALL_ANGLE (R206). -/
  angleRun : Nat := 0
  /-- Control periods in a row in which |POS_ERR| has exceeded STALL_ERR (R206). -/
  stallRun : Nat := 0
  /-- Control periods in a row without it (R207). -/
  clearRun : Nat := 0
  /-- A stall has been declared and its condition has not yet been absent for STALL_N periods (R207). -/
  stalled : Bool := false
  /-- Control periods since the coils last became DRIVEN, or the estimator restarted (R204, R213). -/
  driven : Nat := 0
  /-- Back-EMF vectors of the last LA_FILT periods, newest first, in µV (R203). -/
  emf : List (Int × Int) := []
  /-- Phase currents at the end of the previous period, in mA (R203). -/
  iPrev : Int × Int := (0, 0)
  /-- Instant of the last over-current trip (R209). -/
  ocAt : Nat := 0
  /-- Instant at which the axis came to rest (R200, R202). -/
  restAt : Nat := 0
  /-- The measured gate-drive undervoltage stands (R209). -/
  gdrvLow : Bool := false
  /-- PAIR_ACT_I holds the gate-drive supply off (R471). -/
  pairCut : Bool := false
  /-- The axis is moving: from the first clock of a setpoint with non-zero speed until AX STATE becomes IDLE (R193). -/
  live : Bool := false
  /-- The hold of STBY_DELAY runs (R200, R202). -/
  hold : Bool := false
  deriving DecidableEq, Repr

/-! ## Feedback -/

/-- One probe slot (R236). -/
structure Probe where
  /-- Latched POS. -/
  pos : Int := 0
  /-- t_e. -/
  te : Nat := 0
  /-- Edges waiting for their latch to complete, oldest first: their stamps. -/
  pend : List Nat := []
  /-- Stamp of the last edge of the probe, selected or not: the filter merges one closer than 18 clocks (R237). -/
  edge : Option Nat := none
  deriving DecidableEq, Repr

/-- Position, decoding and speed of one feedback channel (R215 to R234). -/
structure Fb where
  /-- POS in counts (R220). -/
  pos : Int := 0
  /-- RAW in counts (R220). -/
  raw : Int := 0
  /-- Filtered A level (R218). After a reset or a switch-on, before any transition, A and B stand low, of which no rule speaks (DESIGN CHOICE,
  log 83). -/
  lvA : Bool := false
  /-- Filtered B level (R218). -/
  lvB : Bool := false
  /-- Clocks at which the filtered A, B and Z last changed, none before any change: a filtered level lasts FILT clocks at least (R218). -/
  edges : Vector (Option Nat) 3 := Vector.replicate 3 none
  /-- last_dir: 0 none, otherwise +1 or -1 (R220). -/
  lastDir : Int := 0
  /-- HYST_COUNT (R220). -/
  hyst : Nat := 0
  /-- QERR_COUNT (R221). -/
  qerr : Nat := 0
  /-- Open window of R222: legal transitions so far and illegal transitions so far. -/
  window : Option (Nat × Nat) := none
  /-- FLAGS (R241). -/
  flags : Word := 0
  /-- STA.FAULT_CAUSE (R223). -/
  cause : Nat := 0
  /-- STA.POS_UNCERTAIN (R241). -/
  uncertain : Bool := true
  /-- STA.STANDSTILL (R231). -/
  still : Bool := true
  /-- Direction of the present run: 0 none (R230, R231). -/
  runDir : Int := 0
  /-- Transitions in the present run (R230). -/
  runLen : Nat := 0
  /-- Stamps of the run's transitions, newest first, as far as R230 needs them: two, and all of 16 periods. -/
  stamps : List Nat := []
  /-- Speed of R230 without its sign: whole transition intervals, and the counts of TB they took. -/
  rate : Nat × Nat := (0, 1)
  /-- VEL, signed register form (R230). -/
  vel : Int := 0
  /-- IDX_POS (R225). -/
  idxPos : Int := 0
  /-- POS before each of the last 16 transitions, newest first, with the transition's stamp (R236). -/
  trail : List (Nat × Int) := []
  /-- Fine master positions with 16 fractional bits at the last boundaries, newest first, each with its period (R250). -/
  fines : List (Nat × Int) := []
  /-- POS_CMD at the instants POS_ERR is taken at (R233). -/
  cmdAt : Int := 0
  /-- VENC5 is below its limit (R223, R224). -/
  vencLow : Bool := false
  deriving DecidableEq, Repr

/-- SSI frames and probes of one feedback channel (R226 to R229, R235 to R237). -/
structure FbAux where
  /-- The probe slots. -/
  prb : Vector Probe 4 := Vector.replicate 4 {}
  /-- Instant of the SSI frame in progress (R226). -/
  frame : Option Nat := none
  /-- Control period in which the last frame started (R226). -/
  lastFrame : Option Nat := none
  /-- POS_CMD at the latch instant of the frame in progress (R233). -/
  cmdLatch : Int := 0
  /-- Decoded value of the last good frame since restart: P_prev (R228). -/
  prev : Option Int := none
  /-- SSI_RAW (R228). -/
  raw : Word := 0
  /-- SSI_STAT (R241). -/
  stat : Nat := 0
  /-- SSI_ERR_COUNT (R227). -/
  errs : Nat := 0
  /-- Consecutive bad frames (R227). -/
  badRun : Nat := 0
  /-- Latch instants of the last three frames, newest first, with POS of a good one (R236). -/
  frames : List (Nat × Option Int) := []
  /-- The setpoint is aligned at the first good frame (R242). -/
  align : Bool := false
  deriving DecidableEq, Repr

/-- One door switch input (R238 to R240). -/
structure Din where
  /-- Accepted level. -/
  level : Bool := false
  /-- DIN_CHG bit. -/
  chg : Bool := false
  /-- Level in SEQ order, for the program's image (R367). -/
  seqLevel : Bool := false
  /-- Instant of the last accepted change. -/
  since : Nat := 0
  deriving DecidableEq, Repr

/-! ## Coordination -/

/-- One gear engine and the start-group fields of its axis (R246 to R258). -/
structure Gear where
  /-- STA.ENGAGED. -/
  engaged : Bool := false
  /-- Period in which the ENGAGE was taken; the first following setpoint is two later (R252). -/
  since : Nat := 0
  /-- STA.ARMED, with the copied group 1: ARM_NUM, ARM_DEN, ARM_POS, ARM_DIR (R253). -/
  arm : Option (Int × Nat × Int × Nat) := none
  /-- STA.WAITING with the period the wait began in (R247, R248). -/
  waiting : Option Nat := none
  /-- FLAGS (R258). -/
  flags : Word := 0
  /-- REF_M with 16 fractional bits (R252). -/
  refM : Int := 0
  /-- REF_S (R252). -/
  refS : Int := 0
  /-- NUM in force (R252). -/
  num : Int := 1
  /-- DEN in force (R252). -/
  den : Nat := 1
  /-- Count of the last crossing with the relation before it, for samples stamped no later: REF_M, REF_S, NUM, DEN (R253). -/
  before : Option (Nat × Int × Int × Int × Nat) := none
  /-- Committed ratio that waits for the sample of its boundary: period, NUM, DEN (R252, R254). -/
  ratio : Option (Nat × Int × Nat) := none
  /-- Boundary count of the last committed ratio, with the relation before it: REF_M, REF_S, NUM, DEN (R254). -/
  last : Option (Nat × Int × Int × Int × Nat) := none
  /-- M_NOW: latest master sample, 16 fractional bits (R258). -/
  mNow : Int := 0
  /-- Slave positions of the last two samples, newest first (R251). -/
  outs : List Int := []
  /-- CROSS_TB: t_x (R253). -/
  crossTb : Nat := 0
  /-- CROSS_COUNT (R253). -/
  crossCount : Nat := 0
  /-- GRP_START_TB (R247). -/
  startTb : Nat := 0
  deriving DecidableEq, Repr

/-- One cam engine (R255 to R259). -/
structure Cam where
  /-- STA.ENGAGED. -/
  engaged : Bool := false
  /-- Period in which the ENGAGE was taken. -/
  since : Nat := 0
  /-- FLAGS (R259). -/
  flags : Word := 0
  /-- OFS (R256). -/
  ofs : Int := 0
  /-- M_NOW, 16 fractional bits (R259). -/
  mNow : Int := 0
  /-- Y_NOW: round(Y) of the latest sample (R259). -/
  yNow : Int := 0
  /-- STA.SEG (R259). -/
  seg : Nat := 0
  /-- STA.BELOW (R259). -/
  below : Bool := false
  /-- STA.ABOVE (R259). -/
  above : Bool := false
  /-- Slave positions of the last two samples, newest first (R251). -/
  outs : List Int := []
  deriving DecidableEq, Repr

/-! ## The door cycle -/

/-- What the running timer of a portal counts towards (Table 11-2). -/
inductive Timer where
  | cw | reopen | nudgePause | autoClose | unlock | lock | retry | swClosed | swOpen | swConflict | step | refWait
  deriving DecidableEq, Repr

/-- A request waiting for the door cycle (R266, R267): its code and the writer's handle, 0 for host software. -/
structure PtlReq where
  /-- 1 OPEN, 2 CLOSE, 3 NUDGE, 4 ACK. -/
  code : Nat := 0
  /-- Handle of the program's request, 0 for another writer (R370). -/
  handle : Nat := 0
  deriving DecidableEq, Repr

/-- Inputs and timers of one portal (R262, R269 to R279). -/
structure PtlIn where
  /-- Closed switch (R262). -/
  closedSw : Bool := false
  /-- Locked switch (R262). -/
  lockedSw : Bool := false
  /-- Open switch (R262). -/
  openSw : Bool := false
  /-- Isolation input (R287). -/
  iso : Bool := false
  /-- Egress input (R288). -/
  egress : Bool := false
  /-- Stamp of the last change of the closed input (R292). -/
  closedAt : Nat := 0
  /-- SEQ of the last change of the locked input to active (R279). -/
  lockedSeq : Nat := 0
  /-- SEQ of the first EDGE event that waits for the evaluation (R279). -/
  edgeSeq : Option Nat := none
  /-- The level of the edges counts: the EDGE event of the actuation has its SEQ, or Junction started with it (R266). -/
  edgeHeld : Bool := true
  /-- The closed switch went inactive since the last evaluation (R279). -/
  closedLost : Bool := false
  /-- SEQ of the first of those changes (R266, R279). -/
  closedSeq : Nat := 0
  /-- EDGE_FAULT counts: the event of the fault has its SEQ, or Junction started with it (R266). -/
  faultHeld : Bool := true
  /-- Requests waiting (R267). -/
  reqs : List PtlReq := []
  /-- Running timers with their deadlines (Table 11-2). -/
  timers : List (Timer × Nat) := []
  /-- Members whose stall waits for the evaluation: 0 LEAF0, 1 LEAF1, 2 STEP (R207). -/
  stalls : List Nat := []
  /-- FAULT causes that have arisen and wait for the evaluation (R267). -/
  causes : List Nat := []
  /-- T_EST of the last period has arrived for LEAF0 and LEAF1 (R205, R266). -/
  fresh : Vector Bool 2 := Vector.replicate 2 false
  deriving DecidableEq, Repr

/-- State, status fields and counters of one portal (R269 to R297). -/
structure Ptl where
  /-- STA.STATE (R269). -/
  st : PtlState := .fault
  /-- STA.PREV_STATE, as code (R269). -/
  prev : Nat := 13
  /-- STA.FAULT_CAUSE (R289). -/
  cause : Nat := 12
  /-- STA.GATE_WAIT (R272). -/
  gateWait : Bool := false
  /-- STA.SUSPENDED (R293). -/
  suspended : Bool := false
  /-- STA.REF_RUN (R292). -/
  refRun : Bool := false
  /-- STA.NUDGE_OBS (R270). -/
  nudgeObs : Nat := 0
  /-- STA.OBS_IN_CLOSE (R270). -/
  obsInClose : Nat := 0
  /-- FLAGS (R294). -/
  flags : Word := 0
  /-- LAST_OBS word (R282). -/
  lastObs : Word := 0
  /-- LAST_OBS_SEQ (R282). -/
  lastObsSeq : Nat := 0
  /-- F_NOW of LEAF0 and LEAF1 in 0.1 N, none where not valid (R264). -/
  fNow : Vector (Option Int) 2 := Vector.replicate 2 none
  /-- F_PEAK of LEAF0 and LEAF1, none before a valid F of the close (R294). -/
  fPeak : Vector (Option Int) 2 := Vector.replicate 2 none
  /-- CYCLE_COUNT (R276). -/
  cycles : Nat := 0
  /-- OBS_COUNT (R282). -/
  obsCount : Nat := 0
  /-- NUDGE_COUNT (R294). -/
  nudgeCount : Nat := 0
  /-- LOCK_FAIL_COUNT (R278). -/
  lockFails : Nat := 0
  /-- FAULT_COUNT (R289). -/
  faultCount : Nat := 0
  /-- LEARN_COUNT (R285). -/
  learnCount : Nat := 0
  /-- EDGE_COUNT (R281). -/
  edgeCount : Nat := 0
  deriving DecidableEq, Repr

/-- Where the portal stands inside its state: what it waits for (R270 to R292). -/
inductive PtlPhase where
  /-- Nothing runs. -/
  | idle
  /-- OPENING: the members stop before the unlock (Table 11-2). -/
  | stopFirst
  /-- OPENING: the locked switch must become inactive (R277). -/
  | unlock
  /-- OPENING under STEP_MODE 1: the step moves out (R274). -/
  | stepOut
  /-- The moves of the state run (R273). -/
  | moves
  /-- OPENING: stopping, CLOSE_WARN once at rest. -/
  | toWarn
  /-- OPENING: stopping at an obstacle, OPEN once at rest. -/
  | toOpen
  /-- CLOSING or NUDGE: the moves are complete and the closed switch is awaited (R275). -/
  | gap
  /-- STEP_MODE 1: the step moves in before LOCKING (R274). -/
  | stepIn
  /-- An obstacle on the step: stop, then REOPEN_T, then its move again; true in OPENING's or the close's step move alone (R274). -/
  | stepWait (alone : Bool)
  /-- LOCKING: the 200 ms of a retry (R278). -/
  | pulse
  /-- Reference close, item 1: VEL moves (R292). -/
  | refVel
  /-- Reference close: stopping at an obstacle. -/
  | refObs
  /-- Reference close: REOPEN_T after an obstacle. -/
  | refHold
  /-- Reference close, item 2: stopping on the closed switch. -/
  | refStop
  /-- Reference close, item 3: moves to CLOSED. -/
  | refFinal
  /-- Reference close, item 4: the step runs to its stall. -/
  | refStep
  /-- Reference close, item 4: the step stops. -/
  | refStepStop
  deriving DecidableEq, Repr

/-- What the door cycle keeps of the close in progress (R270 to R292). -/
structure PtlRun where
  /-- Where the portal stands inside its state. -/
  phase : PtlPhase := .idle
  /-- The close is marked as a nudge (R270). -/
  nudgeMark : Bool := false
  /-- The stop of OBSTACLE_STOP followed a NUDGE (R270). -/
  nudgeStop : Bool := false
  /-- A reverse move follows the stop (R282). -/
  reverse : Bool := false
  /-- A reference close follows CLOSE_WARN (Table 11-5). -/
  needRef : Bool := false
  /-- OPENING ends in CLOSE_WARN for want of release, and its RELEASE trigger is raised (R271). -/
  relStop : Bool := false
  /-- The next close is a new one, not the rest of one that an obstacle broke off (R294). -/
  newClose : Bool := true
  /-- Words 0x0E4, 0x0E8, 0x0D8 and 0x0F8 of groups 1 to 3 as they stood at the last move or timer; none takes the committed ones (R295). -/
  force : Option (Vector Word 4) := none
  /-- Lock retries used (R278). -/
  retries : Nat := 0
  /-- Step obstacles in this opening or close (R274). -/
  stepObs : Nat := 0
  /-- Closed switch at the last evaluation (R275). -/
  closedWas : Bool := false
  /-- Runs of exceeding periods, ENVELOPE layer, LEAF0 and LEAF1 (R280). -/
  envRun : Vector Nat 2 := Vector.replicate 2 0
  /-- Runs of exceeding periods, F_MAX layer (R280). -/
  maxRun : Vector Nat 2 := Vector.replicate 2 0
  /-- The close may be learned so far (R285). -/
  learnable : Bool := false
  /-- Highest valid F per bin in this close: (leaf, bin, force) (R285). -/
  peaks : List (Nat × Nat × Int) := []
  /-- POS_CMD of each leaf at the start of the reference close (R292). -/
  refFrom : Vector Int 2 := Vector.replicate 2 0
  /-- Position of each leaf at the boundary that followed t_sw (R292). -/
  refPos : Vector Int 2 := Vector.replicate 2 0
  /-- Counts from t_sw to that boundary (R292). -/
  refDt : Nat := 0
  /-- Stamp of the closed input's change to active that refPos and refDt are of; none before one is taken (R292). -/
  refAt : Option Nat := none
  /-- Positions of LEAF0 and LEAF1 at the boundaries of a reference close, newest first: period and positions (R292). -/
  hist : List (Nat × Int × Int) := []
  deriving DecidableEq, Repr

/-- What the door-cycle record of the cycle in progress collects (R450). -/
structure CycleRec where
  /-- SEQ of the entry to OPENING, 0 if none. -/
  openSeq : Nat := 0
  /-- Periods of unlock, opening, dwell, warning, closing and lock, in that order. -/
  times : Vector Nat 6 := Vector.replicate 6 0
  /-- Period of the entry to the state that is being timed. -/
  mark : Nat := 0
  /-- OPENING has begun with the lock closed, and the locked switch has not become inactive since. -/
  unlocking : Bool := false
  /-- Peak F in closing, LEAF0 and LEAF1. -/
  peakClose : Vector Int 2 := Vector.replicate 2 0
  /-- Peak F in opening. -/
  peakOpen : Vector Int 2 := Vector.replicate 2 0
  /-- Least envelope margin per leaf; none where no bin applied. -/
  margin : Vector (Option Int) 2 := Vector.replicate 2 none
  /-- Bin of each margin. -/
  marginBin : Vector Nat 2 := Vector.replicate 2 0
  /-- Minima of VLOG, VMOT and VLSW in mV; none before a sample. -/
  vmin : Vector (Option Nat) 3 := Vector.replicate 3 none
  /-- Obstacle layers seen, bit n-1 for layer n. -/
  layers : Word := 0
  /-- The flags bits of offset 17. -/
  bits : Word := 0
  /-- Highest Plough temperature estimate, 1/16 °C. -/
  temp : Option Int := none
  /-- Periods in which each member moved: opening and closing (R460). -/
  own : Vector (Nat × Nat) 3 := Vector.replicate 3 (0, 0)
  /-- Highest closing speed per leaf, register form, for the peak kinetic energy. -/
  vPeak : Vector Nat 2 := Vector.replicate 2 0
  deriving DecidableEq, Repr

/-- One sensitive edge input (R281). -/
structure Edge where
  /-- Accepted reading: 0 none yet, 1 normal, 2 actuated, 3 fault. -/
  reading : Nat := 0
  /-- Reading of the last sample. -/
  last : Nat := 0
  /-- Consecutive samples with that reading. -/
  run : Nat := 0
  /-- Resistance of the last sample in Ω. -/
  ohm : Nat := 0
  /-- Instant since which the accepted reading stands. -/
  since : Nat := 0
  deriving DecidableEq, Repr

/-- One side (R271, R297). -/
structure Side where
  /-- STA.REL_GRD. -/
  relGrd : Bool := false
  /-- STA.REL_SBX. -/
  relSbx : Bool := false
  /-- Combined release in force at the last evaluation. -/
  release : Bool := false
  /-- FLAGS (R297). -/
  flags : Word := 0
  /-- STA.ALL_LOCKED. -/
  allLocked : Bool := false
  /-- RELEASE_COUNT (R297). -/
  count : Nat := 0
  /-- REL_SEQ (R297). -/
  relSeq : Nat := 0
  deriving DecidableEq, Repr

/-! ## Safety channels -/

/-- One contact of a safety input in one channel (R309). -/
structure Contact where
  /-- Filtered level: true energised. -/
  level : Bool := false
  /-- Consecutive samples at the other level. -/
  run : Nat := 0
  deriving DecidableEq, Repr

/-- One safety input in one channel (R309 to R313). -/
structure SinIn where
  /-- Contact A. -/
  a : Contact := {}
  /-- Contact B. -/
  b : Contact := {}
  /-- Evaluated value: true active (R310). -/
  value : Bool := false
  /-- Cause of the latched fault: 0 none, 1 DISC, 2 TP_CONTACT, 3 TP_SOURCE. -/
  fault : Nat := 0
  /-- Instant at which the discrepancy timer started, if it runs (R311). -/
  disc : Option Nat := none
  /-- Samples in a row with both raw contacts at the safe level, for R313. -/
  safeRun : Nat := 0
  deriving DecidableEq, Repr

/-- One test-pulse pad as a channel sees it (R312). -/
structure TpPad where
  /-- Falling edge of the pulse in progress or of the last one, as the channel saw it. -/
  fell : Option Nat := none
  /-- TP_FAULT. -/
  fault : Bool := false
  deriving DecidableEq, Repr

/-- The permits of one channel (R314, Table 12-2). -/
structure Permits where
  /-- zs. -/
  zs : Bool := false
  /-- loop_ok. -/
  loopOk : Bool := false
  /-- sout halves commanded on, bit n for SOUTn. -/
  sout : Word := 0
  /-- rel halves, bit s. -/
  rel : Word := 0
  /-- gate halves, bit s. -/
  gate : Word := 0
  /-- sol halves, bit p. -/
  sol : Word := 0
  deriving DecidableEq, Repr

/-- One safety channel: Guard or Signal box (R299 to R324). -/
structure Channel where
  /-- The channel is powered and evaluating (R314). -/
  running : Bool := false
  /-- Halted until a full reset: lockstep mismatch or clock failure (R320, R323). -/
  halted : Bool := false
  /-- Word latched from the boot sequences (R305). -/
  word : Option Word := none
  /-- SEAL_OK (R305). -/
  sealOk : Bool := false
  /-- The safety inputs. -/
  sin : Vector SinIn 32 := Vector.replicate 32 {}
  /-- hold[p] of R314, bit p. -/
  hold : Word := 0
  /-- hold[p] as it would stand had "withdrawn" always been false (R321). -/
  holdRaw : Word := 0
  /-- brake of R314. -/
  brake : Bool := false
  /-- Permit halves as evaluated with "withdrawn" false (R321). -/
  raw : Permits := {}
  /-- Permit halves as driven. -/
  out : Permits := {}
  /-- OUT_FAULT, bit n for SOUTn (R318). -/
  outFault : Word := 0
  /-- The test-pulse pads. -/
  tp : Vector TpPad 4 := Vector.replicate 4 {}
  deriving DecidableEq, Repr

/-- What the SAFE page shows beside the channels, and Guard's comparison (R301 to R327). -/
structure Safe where
  /-- State bits of the last good Signal box frame as Junction holds them (Table 12-2). -/
  frame : BitVec 52 := 0
  /-- FRAME_CNT of the last good frame (R327). -/
  frameCnt : Nat := 0
  /-- SBX_FRAMES: good frames arriving. -/
  frames : Bool := false
  /-- SEAL_LAST (R304). -/
  sealLast : Word := 0
  /-- SEAL_STA bits 4 to 0: CHANGED, CHECK_ERR, FILL_ERR, READ_DIFF, COMPL_ERR. -/
  sealBits : Word := 0
  /-- RB_H: high-side switches read closed. -/
  rbH : Word := 0
  /-- WITHDRAWN by a lost Junction link (R322). -/
  linkLost : Bool := false
  /-- DIVERGE_PERMIT (R321). -/
  divPermit : Word := 0
  /-- DIVERGE_SIN (R321). -/
  divSin : Word := 0
  /-- DIVERGE (R321). -/
  diverge : Bool := false
  /-- Differences that stand now, with the instant each began: bits 0 to 17 permits, 32 to 63 inputs (R321). -/
  diffs : List (Nat × Nat) := []
  /-- DISC_COUNT. -/
  discCount : Nat := 0
  /-- TP_COUNT. -/
  tpCount : Nat := 0
  /-- DIVERGE_COUNT. -/
  divCount : Nat := 0
  /-- OUT_FAULT_COUNT. -/
  outCount : Nat := 0
  /-- GATE_MAP as read back (R317). -/
  gateMap : Word := 0
  /-- The map that both Plough dies hold since Guard loaded it, bit n for AXnn on SIDE1 (R317). -/
  gateHeld : Word := 0
  /-- Combined loop_ok, traction and brake demand as last reported by event (R328). -/
  lastPermit : Word := 0
  /-- Seal sequence in progress (R304): 0 none, 1 Signal box's power-up, 2 Guard's request, 3 REREAD. -/
  sealRun : Nat := 0
  /-- Boot sequences begun since the last power-on or full reset: 0, 1 the power-up's, 2 Guard's (R305). -/
  sealBoot : Nat := 0
  /-- The sequence in progress was asked for by a MODE_REQ that leaves SAFE_HOLD (R304). -/
  reread : Bool := false
  /-- Instant of Guard's last output-latch refresh (R320). -/
  latchAt : Nat := 0
  /-- The latch has dropped every Guard half, until the next refresh (R320). -/
  latchOff : Bool := false
  /-- A good frame has come since the last reset of Junction (R301, R327). -/
  seen : Bool := false
  /-- The pad whose test pulse is the next (R312). -/
  tpNext : Nat := 0
  /-- Earliest instant of that pulse, while Signal box evaluates (R312; log 75). -/
  tpDue : Option Nat := none
  /-- Evaluated safety inputs by the SIN_CHANGE events released so far, bit n for SINnn (R367, R512). -/
  sinSeq : Word := 0
  /-- The readback difference of R317 stands. -/
  mapDiff : Bool := false
  deriving DecidableEq, Repr

/-! ## Load switches -/

/-- One load channel on the Switch die, with Junction's commanded state (R329 to R356). -/
structure Lsw where
  /-- CMD.STATE at Junction: 0 off, 1 on, 2 pulsing (R334). -/
  cmd : Nat := 0
  /-- DUTY at Junction (R344). -/
  cmdDuty : Nat := 0
  /-- State the Switch die last took from a NORMAL packet (R334, R351). -/
  got : Nat := 0
  /-- DUTY the Switch die last took. -/
  gotDuty : Nat := 0
  /-- FS.STATE in the fail-safe store (R352). -/
  fs : Nat := 0
  /-- FS.DUTY in the fail-safe store (R352). -/
  fsDuty : Nat := 0
  /-- STA.OUT: output in force (R356). -/
  out : Nat := 0
  /-- Duty in force in the running period (R344). -/
  duty : Nat := 0
  /-- Remaining inrush segments: end instant and multiple in 1/8 (R335). -/
  segs : List (Nat × Nat) := []
  /-- STA.LIMITING (R337). -/
  limiting : Bool := false
  /-- STA.TRIES (R338). -/
  tries : Nat := 0
  /-- STA.TRIP_CAUSE (R337). -/
  trip : Nat := 0
  /-- STA.RETRY_WAIT, with the end of the pause (R338). -/
  pause : Option Nat := none
  /-- The retry after a THERMAL trip waits for 135 °C (R338). -/
  hot : Bool := false
  /-- The pause has ended and the retry is due (R338, R340). -/
  due : Bool := false
  /-- STA.RETRY_DEFER (R340). -/
  defer : Bool := false
  /-- FLAGS (R356). -/
  flags : Word := 0
  /-- STA.GATED (R346). -/
  gated : Bool := false
  /-- The gating episode has set GATE_BLOCK (R346). -/
  episode : Bool := false
  /-- STA.REV_BLOCK (R332). -/
  rev : Bool := false
  /-- STA.OFF_HIGH (R343). -/
  offHigh : Bool := false
  /-- STA.PHASE_NOW (R345). -/
  phase : Nat := 0
  /-- I_MEAS in mA (R347). -/
  iMeas : Nat := 0
  /-- V_OUT in 10 mV (R347). -/
  vOut : Int := 0
  deriving DecidableEq, Repr

/-- Counts, clamp bucket and instants of one load channel (R338 to R345, R356). -/
structure LswAux where
  /-- CLAMP_BKT in 1/1,600 µJ (R341). -/
  bucket : Nat := 0
  /-- Instant at which the bucket stood so (R341). -/
  bucketAt : Nat := 0
  /-- CLAMP_LAST in µJ (R341). -/
  clampLast : Nat := 0
  /-- TRIP_COUNT (R337). -/
  trips : Nat := 0
  /-- LATCH_COUNT (R338). -/
  latches : Nat := 0
  /-- SWITCH_COUNT (R356). -/
  switches : Nat := 0
  /-- Instant since which the channel carries its state without a trip (R338). -/
  since : Nat := 0
  /-- Instant of the last switch-off (R343). -/
  offAt : Nat := 0
  /-- Frequency in force (R357). -/
  freq : Nat := 200
  /-- AUTO in force (R345, R357). -/
  auto : Bool := true
  /-- The pulse generator runs: the state in force is pulsing and nothing holds the channel off (R344). -/
  gen : Bool := false
  /-- Instant at which it started (R344). -/
  genAt : Nat := 0
  /-- Start of its running period; none before the first (R344). -/
  perAt : Option Nat := none
  /-- Instant from which the spans of the off-state check count (R343). -/
  checkAt : Nat := 0
  /-- Instant of the last change from off to on or pulsing, with V_OUT then (R335). -/
  onAt : Nat := 0
  /-- V_OUT at that change, 10 mV (R335). -/
  vOn : Int := 0
  /-- Time in limit so far, in counts (R337). -/
  limRun : Nat := 0
  /-- Instant up to which it is counted (R336, R337). -/
  limAt : Nat := 0
  /-- Samples of the converter, newest first: instant, mA, 10 mV (R347). -/
  samples : List (Nat × Nat × Int) := []
  deriving DecidableEq, Repr

/-- The Switch die's own registers (R348 to R355). -/
structure Lswg where
  /-- STA.WDT_STATE (R351). -/
  wdt : WdtState := .disarmed
  /-- Full TB of the last packet taken; LAST_PKT_TB shows its low word (R355). -/
  lastPkt : Nat := 0
  /-- Instant of entry to HOLD (R351). -/
  holdAt : Nat := 0
  /-- FLAGS (R355). -/
  flags : Word := 0
  /-- WDT_COUNT. -/
  wdtCount : Nat := 0
  /-- STA.VLSW_UV (R349). -/
  uv : Bool := false
  /-- UV_COUNT. -/
  uvCount : Nat := 0
  /-- P_COND in mW (R331). -/
  pCond : Nat := 0
  /-- Select code on the LSEL pads (R348). -/
  pads : Nat := 0
  /-- STA.SEL_IN (R348). -/
  selIn : Nat := 0
  /-- The LSW clock has failed (R353). -/
  clkFailed : Bool := false
  /-- Junction's command packets are under way: mode 0 none, 1 NORMAL, 2 FAILSAFE, 3 ALL_OFF (R350). -/
  sending : Nat := 0
  /-- Packets on their way from Junction, oldest first: mode 1 NORMAL, 2 FAILSAFE, 3 ALL_OFF, 4 store, with the states and
  duties they carry (R334, R350, R352). -/
  air : List (Nat × List (Nat × Nat)) := []
  /-- Lock channels' gate names as loaded by the Switch die: portal to channel (R346). -/
  gates : List (Nat × Nat) := []
  deriving DecidableEq, Repr

/-! ## CAN -/

/-- A received frame in a slot (R405, R406). -/
structure Frame where
  /-- W0. -/
  w0 : Word := 0
  /-- W1 without LOST_BEFORE. -/
  w1 : Word := 0
  /-- Payload bytes. -/
  data : List Byte := []
  /-- SEQ, once assigned. -/
  seq : Nat := 0
  /-- VAL_TB. -/
  val : Nat := 0
  /-- SOF_TB. -/
  sof : Nat := 0
  /-- Number of the frame since the controller's reset; its slot is this modulo 256. -/
  num : Nat := 0
  /-- SEQ has been assigned. -/
  hasSeq : Bool := false
  deriving DecidableEq, Repr

/-- A frame in the transmit FIFO (R410). -/
structure TxFrame where
  /-- W0. -/
  w0 : Word := 0
  /-- W1. -/
  w1 : Word := 0
  /-- Payload bytes. -/
  data : List Byte := []
  /-- Station exchange the frame belongs to, if any. -/
  stn : Option Nat := none
  deriving DecidableEq, Repr

/-- Fault confinement, queues and readers of one CAN controller (R398 to R417). -/
structure Can where
  /-- STA.FC_STATE. -/
  fc : FcState := .init
  /-- Bus-off persists through INIT (R417). -/
  offHeld : Bool := false
  /-- TEC. -/
  tec : Nat := 0
  /-- REC. -/
  rxErr : Nat := 0
  /-- STA.LEC. -/
  lec : Nat := 0
  /-- STA.RECOVERING. -/
  recovering : Bool := false
  /-- STA.TX_ACTIVE: the head is in an attempt. -/
  txActive : Bool := false
  /-- STA.RX_ACTIVE: a frame of another node is on the bus. -/
  rxActive : Bool := false
  /-- ONE_SHOT as it stood when the attempt began (R412). -/
  oneShot : Bool := false
  /-- ABORT_HEAD or TX_FLUSH waits for the attempt's end (R411). -/
  aborting : Bool := false
  /-- The head belongs to a station that has become LOST: its attempt is the last (R392). -/
  dropping : Bool := false
  /-- EN was written 0 during a frame on the bus, whose end leads to INIT (R417). -/
  stopping : Bool := false
  /-- FLAGS (R418). -/
  flags : Word := 0
  /-- The transmit FIFO, head first (R410). -/
  fifo : List TxFrame := []
  /-- The receive ring, oldest first, at most 256 frames (R405). -/
  ring : List Frame := []
  /-- Number of the next frame to be stored. -/
  nextNum : Nat := 0
  /-- Next frame number unread by the host reader. -/
  hostAt : Nat := 0
  /-- Next frame number unread by the program reader. -/
  prgAt : Nat := 0
  /-- Frames were lost to the host reader before its next frame (R407). -/
  hostLost : Bool := false
  /-- Frames were lost to the program reader before its next frame. -/
  prgLost : Bool := false
  /-- The receive window's copy (R408). -/
  window : Option (Frame × Bool) := none
  /-- The shadow buffer's copy (R408). -/
  shadow : Option (Frame × Bool) := none
  /-- STA.WINDOW_LOCKED (R409). -/
  locked : Bool := false
  /-- The run of dropped frames has set RX_DROP (R407). -/
  dropRun : Bool := false
  /-- Timing group in force since EN last became 1 (R419): NBT, DBT, TDC words. -/
  timing : List Word := []
  /-- BUF_MODE in force: true for lock (R409). -/
  lockMode : Bool := false
  deriving DecidableEq, Repr

/-- Counters of one CAN controller (R418). -/
structure CanCnt where
  /-- RX_LOST_COUNT. -/
  rxLost : Nat := 0
  /-- RX_DROP_COUNT. -/
  rxDrop : Nat := 0
  /-- PRG_LOST_COUNT. -/
  prgLost : Nat := 0
  /-- RX_COUNT. -/
  rx : Nat := 0
  /-- TX_COUNT. -/
  tx : Nat := 0
  /-- ERRS.BIT. -/
  bit : Nat := 0
  /-- ERRS.STUFF. -/
  stuff : Nat := 0
  /-- ERRS.FORM. -/
  form : Nat := 0
  /-- ERRS.CRC. -/
  crc : Nat := 0
  /-- ACK_ERR_COUNT. -/
  ack : Nat := 0
  /-- BUSOFF_COUNT. -/
  busOff : Nat := 0
  /-- TXFAIL_COUNT. -/
  txFail : Nat := 0
  /-- TDC_MEAS. -/
  tdc : Nat := 0
  deriving DecidableEq, Repr

/-! ## Stations -/

/-- One remote station (R387 to R396). -/
structure Stn where
  /-- STA.STATE. -/
  st : StnState := .unconfigured
  /-- STA.ST_STATUS. -/
  status : Nat := 0
  /-- STA.VERSION. -/
  version : Nat := 0
  /-- FLAGS. -/
  flags : Word := 0
  /-- EXCH_COUNT. -/
  exch : Nat := 0
  /-- MISS_COUNT. -/
  misses : Nat := 0
  /-- DROP_COUNT. -/
  drops : Nat := 0
  /-- TYPE_ID. -/
  typeId : Word := 0
  /-- SERIAL. -/
  serial : Nat := 0
  /-- MISS_RUN. -/
  missRun : Nat := 0
  /-- Consecutive good exchanges (Table 14-13). -/
  goodRun : Nat := 0
  /-- COUNTER of the last OUT. -/
  counter : Nat := 0
  /-- LOST_SEQ. -/
  lostSeq : Nat := 0
  /-- Input bytes of the latest good exchange. -/
  latest : List Byte := []
  /-- IN_DATA: input bytes as last frozen. -/
  frozen : List Byte := []
  /-- OUT_DATA: output bytes as last delivered. -/
  delivered : List Byte := []
  /-- Exchanges in flight, oldest first: counter, and the transmission instant of the OUT once sent (R390). -/
  flights : List (Nat × Option Nat) := []
  /-- stn_ack has been called (R390). -/
  acked : Bool := false
  /-- The station stood REFUSED already when it was refused last (R367, R389). -/
  wasRefused : Bool := false
  /-- The payload of a JOIN_ACK that waits for the next phase 3 (R410). -/
  ack : Option (List Byte) := none
  deriving DecidableEq, Repr

/-! ## The control program -/

/-- A phase 3 request (R369, R370). -/
inductive Request where
  | axCmd (axis : Nat) (m : Move) (ctl : Nat)
  | axProfile (axis : Nat) (p : Profile)
  | ptlReq (ptl code : Nat)
  | sideReq (side code : Nat)
  | engineCtl (engine ctl : Nat)
  | canSend (ctl : Nat) (w0 w1 : Word) (data : List Byte)
  | recWrite (type sev : Nat) (data : List Byte)
  deriving DecidableEq, Repr

/-- One record for the error task (R375): cause, task and SEQ order. -/
structure ErrRec where
  /-- Cause of Table 14-9. -/
  cause : Nat := 0
  /-- Task, station or event the cause concerns. -/
  arg : Nat := 0
  /-- SEQ of the event that the record reports, or the last one assigned when it arose. -/
  seq : Nat := 0
  deriving DecidableEq, Repr

/-- One task of the task table (R372), as far as the manual fixes it. -/
structure Task where
  /-- Task number of Table 14-8. -/
  num : Nat := 0
  /-- k of a further cyclic task: due every k-th slot (Table 14-8). -/
  every : Nat := 1
  /-- Event code an event task is bound to (R373). -/
  code : Nat := 0
  /-- Event source an event task is bound to (R373). -/
  source : Nat := 0
  /-- SIN input an event task is bound to (R373). -/
  sin : Option Nat := none
  /-- Core (R372). -/
  core : Nat := 0
  /-- Priority, 0 the highest (R372). -/
  prio : Nat := 0
  /-- Entry address (R372). -/
  entry : Nat := 0
  /-- Lowest address of the stack (R372). -/
  stack : Nat := 0
  /-- Bytes of the stack (R372). -/
  stackSize : Nat := 0
  deriving DecidableEq, Repr

/-- The context of a task: what a0 points at when it is entered (R364). -/
structure TaskCtx where
  /-- Task number. -/
  task : Nat := 0
  /-- Cycle number. -/
  cycle : Nat := 0
  /-- Restart flags of the input image. -/
  flags : Word := 0
  /-- The event record of an event task with its SEQ (R373). -/
  record : Option (Event × Nat) := none
  deriving DecidableEq, Repr

/-- An image as verified: the fields of Table 14-1 the device uses (R359). -/
structure Image where
  /-- PROGRAM_ID. -/
  id : Nat := 0
  /-- VERSION. -/
  version : Nat := 0
  /-- ROLLBACK. -/
  rollback : Nat := 0
  /-- LAYOUT. -/
  layout : Nat := 0
  /-- MIG_FROM. -/
  migFrom : Nat := 0
  /-- MAIN_PERIOD in ms. -/
  mainPeriod : Nat := 0
  /-- TASK_LIMIT. -/
  taskLimit : Nat := 0
  /-- RET_SIZE. -/
  retSize : Nat := 0
  /-- The task table. -/
  tasks : List Task := []
  /-- Sections: type, image offset, size, bank address (R360). -/
  sects : List (Nat × Nat × Nat × Nat) := []
  /-- SHA-512 of the image, for attestation (R495). -/
  hash : List Byte := []
  deriving DecidableEq, Repr

/-- The program's run state, scheduler and retained data (R364 to R386). -/
structure Prg where
  /-- STA.RUN_STATE. -/
  run : RunState := .notLoaded
  /-- STA.SIDING. -/
  siding : SidState := .empty
  /-- STA.ACTIVE_SLOT, kept in Granary. -/
  slot : Nat := 0
  /-- Bank that runs: 0 or 1 (R362). -/
  bank : Nat := 0
  /-- Running image. -/
  image : Image := {}
  /-- Siding image. -/
  sidImage : Image := {}
  /-- STA.LAST_WARM. -/
  lastWarm : Bool := false
  /-- FLAGS (R394). -/
  flags : Word := 0
  /-- LOAD_CTL.OPEN. -/
  loadOpen : Bool := false
  /-- LOAD_LEN. -/
  loadLen : Nat := 0
  /-- A cycle is in progress: phases 1 to 4 not ended (R371). -/
  inCycle : Bool := false
  /-- Phase 2 has ended; phases 3 and 4 are done, but the retained write holds the cycle (R379). -/
  waitRet : Bool := false
  /-- Instant of the running or last freeze: FREEZE_TB. -/
  freezeTb : Nat := 0
  /-- FREEZE_SEQ (R367). -/
  freezeSeq : Nat := 0
  /-- Cycle number since the restart. -/
  cycle : Nat := 0
  /-- Input flags gathered for the next freeze (Table 14-5). -/
  inFlags : Word := 0
  /-- The flags word of the present input image, which the tasks' contexts hold (R364). -/
  flagsNow : Word := 0
  /-- Slots since the restart, cycle 0 at 0, for cyclic tasks (Table 14-8). -/
  slots : Nat := 0
  /-- Cyclic tasks carried forward by a skipped slot (R374). -/
  carried : List Nat := []
  /-- Cyclic tasks due in the running cycle (R371). -/
  due : List Nat := []
  /-- The input image as frozen: 512 words (Table 14-5). -/
  input : List Word := []
  /-- The output image as last published: 512 words (Table 14-6). -/
  output : List Word := []
  /-- A switch waits for the end of the cycle (R382). -/
  switchWait : Bool := false
  /-- Instant at which nothing but the switch was left of the cycle (R382). -/
  switchFrom : Nat := 0
  /-- The steps of the switch prolong a cycle: it was accepted while one was in progress, which has reached its end (R382). -/
  switchCycle : Bool := false
  /-- The stop that SERVICE asks for waits for the end of the cycle (R121). -/
  stopWait : Bool := false
  /-- TB count of the last Timetable tick (R371). -/
  tickAt : Nat := 0
  /-- ACTIVATE in CONFIG asks for a cold start (R383). -/
  coldNext : Bool := false
  deriving DecidableEq, Repr

/-- Requests, error records, event tasks, semaphores and counters of the program (R365 to R394). -/
structure PrgAux where
  /-- Requests queued in this cycle with their handles (R370). -/
  reqs : List (Nat × Request) := []
  /-- Outcomes kept: handle, outcome, and how many cycles had ended at the delivery (R370). -/
  outcomes : List (Nat × Nat × Nat) := []
  /-- Next handle. -/
  handle : Nat := 1
  /-- Error records due at the next cycle (R375). -/
  errors : List ErrRec := []
  /-- Error records delivered at the start of the running cycle and not yet answered (R375). -/
  errNow : List ErrRec := []
  /-- Event records waiting per event task: task, event, SEQ and the instant it was assigned (R373). -/
  events : List (Nat × Event × Nat × Nat) := []
  /-- Events that had their SEQ while the steps of a switch ran: event, SEQ and its instant (R382). -/
  swEvents : List (Event × Nat × Nat) := []
  /-- Taken semaphores (R365). -/
  sems : List Nat := []
  /-- CYCLE_COUNT (R394). -/
  cycles : Nat := 0
  /-- Cycles ended since Junction started, which no restart sets back (R370). -/
  turn : Nat := 0
  /-- Cycle number last run, none before the first (Table 18-2). -/
  lastRun : Option Nat := none
  /-- Contexts of the tasks entered last, one of each (R364). -/
  ctx : List TaskCtx := []
  /-- The init task runs, with its a0: 0 cold, 1 warm (R378). -/
  initRun : Option Nat := none
  /-- Keys of the instances whose first-cycle flag is set (R386). -/
  firstInst : List Nat := []
  /-- Answer of the last runtime service, a0 and a1 (R369). -/
  a0 : Word := 0
  /-- a1 of tb_now (R369). -/
  a1 : Word := 0
  /-- Frame copied by the last can_recv (R370). -/
  recv : Option Frame := none
  /-- SKIP_COUNT. -/
  skips : Nat := 0
  /-- TRAP_COUNT. -/
  traps : Nat := 0
  /-- CYCLE_LAST and CYCLE_MAX in 10 µs. -/
  last : Nat := 0
  /-- CYCLE_MAX in 10 µs. -/
  max : Nat := 0
  /-- TRAP.TASK. -/
  trapTask : Nat := 0
  /-- TRAP.CAUSE. -/
  trapCause : Nat := 0
  /-- TRAP_PC. -/
  trapPc : Word := 0
  /-- TRAP_VAL. -/
  trapVal : Word := 0
  /-- EVT_LOST_COUNT. -/
  evtLost : Nat := 0
  /-- RET_LATE_COUNT. -/
  retLate : Nat := 0
  /-- RET_WRITE_LAST in 10 µs. -/
  retLast : Nat := 0
  /-- Retained write in progress: buffer and start (R379). -/
  retBusy : Option (Nat × Nat) := none
  /-- Words captured for it: index and bytes (R379). -/
  retData : List (Nat × List Byte) := []
  /-- Its tag: the cycle's FREEZE_SEQ (R379). -/
  retTag : Nat := 0
  /-- Its LAYOUT: that of the image whose words were captured (R379). -/
  retTagLayout : Nat := 0
  /-- Changed 32-byte words not yet written to buffer 0 and to buffer 1 (R379). -/
  changed : Vector (List Nat) 2 := Vector.replicate 2 []
  /-- MIG_KEPT. -/
  migKept : Nat := 0
  /-- MIG_NEW. -/
  migNew : Nat := 0
  /-- MIG_DROPPED. -/
  migDropped : Nat := 0
  /-- MIG_TIME in 10 µs. -/
  migTime : Nat := 0
  /-- TASKt.LAST and TASKt.MAX in 10 µs (R394). -/
  taskTimes : Vector (Nat × Nat) 16 := Vector.replicate 16 (0, 0)
  deriving DecidableEq, Repr

/-! ## Host interface -/

/-- An event taken by a queue with its SEQ (R435, R436). -/
structure Staged where
  /-- The event. -/
  ev : Event := {}
  /-- Its SEQ. -/
  seq : Nat := 0
  /-- COAL as it was committed when the event took its SEQ (R435). -/
  coal : Word := 0
  deriving DecidableEq, Repr

/-- An open lost run (R439): first event lost with its SEQ, count, last SEQ. -/
structure LostRun where
  /-- SEQ of the first event lost. -/
  first : Nat := 0
  /-- Stamp of the first event lost. -/
  stamp : Nat := 0
  /-- Events lost. -/
  count : Nat := 0
  /-- SEQ of the last event lost. -/
  last : Nat := 0
  /-- Staged events that precede the run and are still to be written. -/
  behind : Nat := 0
  /-- COAL of the first event lost (R435). -/
  coal : Word := 0
  deriving DecidableEq, Repr

/-- One Platform queue (R435 to R444). -/
structure Evq where
  /-- STA.RUNNING. -/
  running : Bool := false
  /-- HEAD in force. -/
  head : Nat := 0
  /-- TAIL. -/
  tail : Nat := 0
  /-- Open lost run, STA.RUN_OPEN. -/
  lost : Option LostRun := none
  /-- FLAGS. -/
  flags : Word := 0
  /-- LOST_COUNT. -/
  lostCount : Nat := 0
  /-- START_SEQ. -/
  startSeq : Nat := 0
  /-- START_SEQ has been recorded since the enable (R435). -/
  started : Bool := false
  /-- LAST_SEQ. -/
  lastSeq : Nat := 0
  /-- WRITTEN. -/
  written : Nat := 0
  /-- Events taken and not yet written (R424, R436). -/
  staged : List Staged := []
  /-- Records written since the last message (R438). -/
  unsig : Nat := 0
  /-- Tail write-back of the first record not yet signalled (R438). -/
  unsigAt : Option Nat := none
  /-- COAL_TIME of that record (R435, R438). -/
  unsigTime : Nat := 0
  /-- A message fell due while the queue was STALLED (R438). -/
  dueVec : Bool := false
  /-- Group 0 was committed with BASE non-zero (R435). -/
  configured : Bool := false
  /-- A lost run ended just before the next record (R433). -/
  ended : Bool := false
  deriving DecidableEq, Repr

/-- The HIF page's status (R421 to R443). -/
structure Hif where
  /-- HIF_AGREE.VERSION. -/
  agree : Nat := 1
  /-- HIF_AGREE.NEG_FAIL. -/
  negFail : Bool := false
  /-- LINK_STA.STATE. -/
  link : Nat := 0
  /-- LINK_STA.WIDTH. -/
  width : Nat := 0
  /-- LINK_STA.SPEED. -/
  speed : Nat := 0
  /-- LINK_STA.BUS_MASTER. -/
  master : Bool := false
  /-- LINK_STA.MSIX_EN. -/
  msix : Bool := false
  /-- LINK_STA.MSI_EN. -/
  msi : Bool := false
  /-- Messages granted for MSI (R423). -/
  msiN : Nat := 1
  /-- LINK_ERR.CORR. -/
  corr : Nat := 0
  /-- LINK_ERR.RECOV. -/
  recov : Nat := 0
  /-- MSI-X PBA. -/
  pba : Word := 0
  /-- Subsystem vendor ID and subsystem ID (R422). -/
  subsys : Word := 0
  /-- PE_PERST_N is low (R98). -/
  perst : Bool := false
  deriving DecidableEq, Repr

/-- The HSPI port: paging, polled FIFO, Floko window (R151, R425 to R427, R442). -/
structure Hspi where
  /-- HSPI_PAGE.PAGE. -/
  page : Nat := 5
  /-- HSPI_EVT_CFG as a word. -/
  evtCfg : Word := 0x0101
  /-- Polled FIFO, head first: records in the format they were taken in. -/
  fifo : List (List Byte) := []
  /-- HSPI_EVT_STA.LOST. -/
  lostCount : Nat := 0
  /-- Open lost run of the polled FIFO. -/
  lost : Option LostRun := none
  /-- A lost run ended just before the next record (R433). -/
  ended : Bool := false
  /-- FLK_SEL. -/
  sel : Nat := 0
  /-- Words shifted out by the last read transaction, or the word a PCI Express read returned. -/
  rdata : List Word := []
  deriving DecidableEq, Repr

/-! ## Recorder, statistics, pair, security -/

/-- A record in the staging buffer (R451). -/
structure Rec0 where
  /-- SEQ of its event; 0 until assigned. -/
  seq : Nat := 0
  /-- TYPE. -/
  type : Nat := 0
  /-- SEV_FLAGS. -/
  sev : Nat := 0
  /-- Payload from offset 16. -/
  payload : List Byte := []
  deriving DecidableEq, Repr

/-- The cycle recorder (R447 to R463). -/
structure Recorder where
  /-- STA.FULL, kept in Granary. -/
  full : Bool := false
  /-- FULL_POLICY in force, STA.POLICY. -/
  policy : Bool := false
  /-- STA.NONCE_VALID. -/
  nonceValid : Bool := false
  /-- STA.CLEARING. -/
  clearing : Bool := false
  /-- FLAGS. -/
  flags : Word := 0
  /-- HEAD_OFS, kept in Granary. -/
  head : Nat := 0
  /-- TAIL_OFS, kept in Granary. -/
  tail : Nat := 0
  /-- Used bytes from HEAD to TAIL; FREE is the region less this. -/
  used : Nat := 0
  /-- LAST_SEQ, kept in Granary. -/
  lastSeq : Nat := 0
  /-- DROP_COUNT. -/
  drops : Nat := 0
  /-- OVW_COUNT. -/
  ovw : Nat := 0
  /-- CLEAR_COUNT. -/
  clears : Nat := 0
  /-- REFUSE_COUNT. -/
  refusals : Nat := 0
  /-- Clear floor, one above the highest cleared SEQ; 0 before any clear. -/
  floor : Nat := 0
  /-- NONCE_SEQ. -/
  nonceSeq : Nat := 0
  /-- NONCE bytes. -/
  nonce : List Byte := []
  /-- TOKEN bytes as written. -/
  token : Words := []
  /-- Staging buffer, oldest first (R451). -/
  stage : List Rec0 := []
  /-- STAGE_MAX in 16-byte units. -/
  stageMax : Nat := 0
  /-- Records waiting for the SEQ of their event: (source, code, record) (R447). -/
  await : List (Nat × Nat × Rec0) := []
  /-- A FULL record is in the region since the last clear (R455). -/
  fullRec : Bool := false
  /-- SEQ of the first record dropped at FULL (Table 17-2). -/
  firstDrop : Nat := 0
  /-- Offset and length of the record written last; none before any (R452). -/
  lastAt : Option (Nat × Nat) := none
  /-- The system area's note of an overwrite: offset and length of the record; none where no overwrite is in progress (R454). -/
  note : Option (Nat × Nat) := none
  deriving DecidableEq, Repr

/-- The statistics page's status (R460 to R465); the region itself lies in Granary. -/
structure Stat where
  /-- WIDTH.TIME_W in force. -/
  timeW : Nat := 100
  /-- WIDTH.FORCE_W in force. -/
  forceW : Nat := 10
  /-- FLAGS.CLEARED. -/
  cleared : Bool := false
  /-- CLEAR_SEQ. -/
  clearSeq : Nat := 0
  /-- UPDATE_SEQ. -/
  updateSeq : Nat := 0
  /-- UPDATES. -/
  updates : Nat := 0
  deriving DecidableEq, Repr

/-- The motion mirror of one axis (Table 18-3). -/
structure AxMirror where
  /-- Commit-point position. -/
  pos : Int := 0
  /-- Commit-point velocity, signed register form. -/
  vel : Int := 0
  /-- MV_TAG. -/
  tag : Nat := 0
  /-- STATE. -/
  st : Nat := 0
  /-- Queue counter. -/
  cnt : Nat := 0
  /-- FB POS_US at the boundary. -/
  fb : Int := 0
  /-- AX FLAGS. -/
  flags : Word := 0
  /-- Queue counter of the last QUEUE frame taken. -/
  qcnt : Option Nat := none
  /-- What that frame said. -/
  queue : QueueMsg := {}
  /-- The axis has still to take up the mirror after a takeover (R483). -/
  due : Bool := false
  /-- It has taken it up, and takes the feedback position of the replan boundary there (R483, R484). -/
  landing : Bool := false
  deriving DecidableEq, Repr

/-- The mirror of one portal (Table 18-4). -/
structure PtlMirror where
  /-- STATE. -/
  st : PtlState := .fault
  /-- PREV_STATE code. -/
  prev : Nat := 13
  /-- OBS_IN_CLOSE. -/
  obs : Nat := 0
  /-- NUDGE_OBS. -/
  nudge : Nat := 0
  /-- Remaining time of the running timer, in control periods. -/
  remain : Nat := 0
  /-- PTL FLAGS. -/
  flags : Word := 0
  /-- Byte 10: nudge mark, reference close, retries. -/
  bits : Word := 0
  /-- SEQ of the entry to OPENING. -/
  openSeq : Nat := 0
  deriving DecidableEq, Repr

/-- The PAIR page's status and the mirror (R468 to R488). -/
structure Pair where
  /-- STA.LINK. -/
  link : PairLink := .down
  /-- STA.ACT_I. -/
  actI : Bool := false
  /-- STA.ACT_O. -/
  actO : Bool := false
  /-- Instant of the last change of ACT_I. -/
  actIAt : Nat := 0
  /-- Instant of the rise of ACT_O. -/
  actOAt : Nat := 0
  /-- The pair is formed (R475). -/
  formed : Bool := false
  /-- STA.PARTNER_MODE. -/
  partnerMode : Nat := 0xFF
  /-- The partner's last STATUS reports MIRROR_OK (R480). -/
  partnerMirror : Bool := false
  /-- Instant of the last STATUS (R480). -/
  statusAt : Nat := 0
  /-- STA.VERSION. -/
  version : Nat := 0
  /-- STA.PRG_DIFF. -/
  prgDiff : Bool := false
  /-- FLAGS. -/
  flags : Word := 0
  /-- Instant of the last MOTION frame, in own TB. -/
  motionAt : Option Nat := none
  /-- Partner's boundary b of the last MOTION frame, in its own TB. -/
  motionB : Nat := 0
  /-- TAKEOVER_GAP in 0.1 µs. -/
  gap : Nat := 0
  /-- TAKEOVER_COUNT, kept in Granary. -/
  takeovers : Nat := 0
  /-- GIVEUP_COUNT, kept in Granary. -/
  giveups : Nat := 0
  /-- CRC_ERR. -/
  crcErr : Nat := 0
  /-- LINK_LOSS_COUNT. -/
  losses : Nat := 0
  /-- PARTNER_SERIAL. -/
  serial : Nat := 0
  /-- TAKEOVER_SEQ. -/
  takeSeq : Nat := 0
  /-- Offsets d of the last 16 MOTION frames, newest first (R484). -/
  offs : List Int := []
  /-- Frame count expected next from the partner (R474). -/
  rxCount : Nat := 0
  /-- Frame count of the next frame sent (R474). -/
  txCount : Nat := 0
  /-- Instant of the last good frame (R476). -/
  goodAt : Nat := 0
  deriving DecidableEq, Repr

/-- The standby's mirror and the running give-up or election (R474 to R485). -/
structure PairAux where
  /-- Axis mirrors. -/
  ax : Vector AxMirror 12 := Vector.replicate 12 {}
  /-- Portal mirrors. -/
  ptl : Vector PtlMirror 8 := Vector.replicate 8 {}
  /-- IMAGE fragments of one cycle number received: cycle, fragment, bytes (R478). -/
  frags : List (Nat × Nat × List Byte) := []
  /-- Mirrored load states in the layout of Table 14-6 (R474). -/
  loads : List Word := []
  /-- Own queue counters per axis, and what the last QUEUE frame sent of each axis said (Table 18-2). -/
  sent : Vector (Nat × Option QueueMsg) 12 := Vector.replicate 12 (0, none)
  /-- The partner's mode as its last HELLO or STATUS gave it (R477). -/
  mode : Nat := 0xFF
  /-- ACT_O and cycle number of the partner's last STATUS (Table 18-2). -/
  partnerAct : Bool := false
  /-- Cycle number last run by the partner. -/
  partnerCycle : Nat := 0
  /-- MIRROR_STALE has been reported since the last MOTION frame (R487). -/
  stale : Bool := false
  /-- The election is waiting, since R117 was satisfied (R477). -/
  electAt : Option Nat := none
  /-- ACT_O was asserted in the election and the 50 µs wait runs (R477). -/
  assertAt : Option Nat := none
  /-- Instant of a give-up whose loads are held (R481). -/
  gaveUpAt : Option Nat := none
  /-- The takeover guard runs since the fall of ACT_I (R482). -/
  guardAt : Option Nat := none
  /-- Its loads were switched off after a give-up, and Junction sends no more packets (R481). -/
  handed : Bool := false
  /-- LAYOUT of the partner's running program (R475). -/
  layout : Nat := 0
  /-- Period in which the planner takes the takeover (R482). -/
  takePeriod : Nat := 0
  /-- The load states of the last suppressed output image, which wait for the first publication after a takeover under v1 (Table 18-7). -/
  held : List Word := []
  deriving DecidableEq, Repr

/-- Guard's fuses (R491, R492). -/
structure Fuses where
  /-- State fuses of the owner key slots 1 to 4. -/
  fuse : Vector SlotFuses 4 := Vector.replicate 4 {}
  /-- The slot of an install whose ACTIVE fuse is blown at an instant that no rule gives, and that instant (R492). -/
  burn : Option (Fin 4 × Nat) := none
  /-- Moduli of the owner key slots. -/
  moduli : Vector (List Byte) 4 := Vector.replicate 4 []
  /-- Anti-rollback counters FW, CFG, PRG. -/
  rb : Vector Nat 3 := Vector.replicate 3 0
  /-- Debug lock. -/
  debugLock : Bool := false
  deriving DecidableEq, Repr

/-- States of the owner key slots 1 to 4 (R492). -/
def Fuses.slots (f : Fuses) : Vector SlotState 4 := f.fuse.map SlotFuses.state

/-- The SEC page's status and Guard's engine (R491 to R507). -/
structure Sec where
  /-- Command in progress: STA.BUSY with its code (R505). -/
  busy : Option Nat := none
  /-- What the signature engine performs, the first one now and the others after it in order of arrival (R505). -/
  engine : List EngineOp := []
  /-- The report of an attestation whose ATTESTED event has no SEQ yet, still to be signed (R504). -/
  attBody : List Byte := []
  /-- LOAD_CTL.OPEN. -/
  loadOpen : Bool := false
  /-- LOAD_CTL.TARGET. -/
  target : Nat := 0
  /-- Target of the copy STA.LOAD_STATE speaks of: 1 firmware, 2 configuration. -/
  copyKind : Nat := 0
  /-- LOAD_LEN. -/
  loadLen : Nat := 0
  /-- STA.CFG_PEND. -/
  cfgPend : Bool := false
  /-- STA.FW_PEND. -/
  fwPend : Bool := false
  /-- STA.CFG_COPY: active configuration copy, kept in Granary. -/
  cfgCopy : Nat := 0
  /-- STA.FW_COPY: active firmware copy, kept in Granary. -/
  fwCopy : Nat := 0
  /-- STA.LOAD_STATE. -/
  load : LoadState := .empty
  /-- ROLLBACK of the READY copy (R500). -/
  copyRb : Nat := 0
  /-- STA.ATT_READY. -/
  attReady : Bool := false
  /-- STA.FUSE_ERR. -/
  fuseErr : Bool := false
  /-- A DEBUG_OPEN token was accepted (R506). -/
  debugOpened : Bool := false
  /-- STA.NONCE_VALID. -/
  nonceValid : Bool := false
  /-- NONCE bytes. -/
  nonce : List Byte := []
  /-- TOKEN words as written. -/
  token : Words := []
  /-- FLAGS. -/
  flags : Word := 0
  /-- LAST_REFUSE.KIND. -/
  refKind : Nat := 0
  /-- LAST_REFUSE.REASON. -/
  refReason : Nat := 0
  /-- FW_VERSION. -/
  fwVersion : Nat := 0
  /-- CFG_VERSION. -/
  cfgVersion : Nat := 0
  /-- ROLLBACK of the running firmware and of the applied configuration (R500). -/
  fwRb : Nat := 0
  /-- ROLLBACK of the applied configuration (R500). -/
  cfgRb : Nat := 0
  /-- ATT_REPORT bytes. -/
  report : List Byte := []
  /-- SHA-512 of the running Junction firmware. -/
  fwHash : List Byte := []
  /-- SHA-512 of the applied configuration image. -/
  cfgHash : List Byte := []
  deriving DecidableEq, Repr

/-! ## The applied configuration image -/

/-- One station record of the configuration image (Table 19-9). -/
structure StnCfg where
  /-- Controller 0 to 3, none where unconfigured. -/
  bus : Option Nat := none
  /-- IN_LEN. -/
  inLen : Nat := 0
  /-- OUT_LEN. -/
  outLen : Nat := 0
  /-- MISS_MAX. -/
  missMax : Nat := 3
  /-- GOOD_N. -/
  goodN : Nat := 3
  /-- ST_WDT in ms. -/
  wdt : Nat := 0
  /-- REPLY_TMO in 0.1 ms. -/
  replyTmo : Nat := 20
  /-- Type identifier, 0 for any. -/
  typeId : Word := 0
  /-- Index of its first SUBSTITUTES entry. -/
  subAt : Nat := 0
  /-- Number of SUBSTITUTES entries. -/
  subN : Nat := 0
  deriving DecidableEq, Repr

/-- One SUBSTITUTES entry (Table 19-9, R392). -/
structure Subst where
  /-- Byte offset. -/
  byte : Nat := 0
  /-- Bit offset. -/
  bit : Nat := 0
  /-- Width in bits. -/
  width : Nat := 1
  /-- The fixed value, none for the last frozen value. -/
  fixed : Option Nat := none
  deriving DecidableEq, Repr

/-- Every value the manual gives as "from configuration image" (Table 19-9, R497). -/
structure ImageCfg where
  /-- CONFIG.AUTO_RUN (R117). -/
  autoRun : Bool := false
  /-- SERVICE_KEY, a DIN number; none for 0x3F (R121). -/
  serviceKey : Option Nat := none
  /-- CONFIG.JOIN_WAIT in ms (R117). -/
  joinWait : Nat := 500
  /-- CONFIG.SVC_VMAX, register form (R122). -/
  svcVmax : Nat := 0
  /-- CONFIG.SVC_FMAX in N (R122). -/
  svcFmax : Nat := 20
  /-- DIN filter codes (R238). -/
  dinFilt : Vector Nat 48 := Vector.replicate 48 2
  /-- DIN types (R51). -/
  dinType : Vector Nat 48 := Vector.replicate 48 0
  /-- SIN types (R51, R299). -/
  sinType : Vector Nat 32 := Vector.replicate 32 0
  /-- Host-owned axes, bit n (R161). -/
  axHost : Word := 0
  /-- Gate side of axes in no portal, bit n (R317). -/
  axGate : Word := 0
  /-- First ASSIGN word of each portal (Table 11-8). -/
  assign0 : Vector Word 8 := Vector.replicate 8 0xFFFFFFFF
  /-- Second ASSIGN word of each portal. -/
  assign1 : Vector Word 8 := Vector.replicate 8 0x00001F1F
  /-- Fail-safe state and duty of each load channel (R352). -/
  lswFs : Vector (Nat × Nat) 24 := Vector.replicate 24 (0, 0)
  /-- Host-owned load channels, bit c (R333). -/
  lswHost : Word := 0
  /-- LSW_WDT in ms (R351). -/
  lswWdt : Nat := 10
  /-- LSW_HOLD in ms (R351). -/
  lswHold : Nat := 100
  /-- The six CUSTk segment words (Table 13-6). -/
  cust : Vector Word 6 := Vector.replicate 6 0
  /-- Stations (R387). -/
  stn : Vector StnCfg 16 := Vector.replicate 16 {}
  /-- Substitution table (R392). -/
  subst : List Subst := []
  /-- TIME_W in ms (R461). -/
  timeW : Nat := 100
  /-- FORCE_W in N (R461). -/
  forceW : Nat := 10
  /-- PAIRED (R472). -/
  paired : Bool := false
  /-- ROLE: true for SECOND (R472). -/
  second : Bool := false
  /-- LOAD_OVERLAP in ms (R481). -/
  overlap : Nat := 10
  /-- ELECT_TMO in ms (R477). -/
  electTmo : Nat := 500
  deriving DecidableEq, Repr

/-! ## Faults and refusals -/

/-- What stops the machine as a fault: nothing. No command of the table ends the block's run, so no meaning
raises a fault; the one constructor exists because the type is closed and not empty. Safe: it is never raised. -/
inductive Fault where
  /-- Raised by no meaning (safe). -/
  | none
  deriving DecidableEq, Repr

/-- What a command is refused for. -/
inductive Refusal where
  /-- The command has no meaning in this model: raised by an arm of `exec` alone. Safe: the machine stops where
  the hardware goes on. -/
  | notModelled (mnemonic : String)
  deriving DecidableEq, Repr

/-! ## The state -/

/-- The machine (all of it): see INVENTORY.md for the rule that names each piece. -/
structure State where
  /-- TB, 64 bits (R22, R25). -/
  tb : Nat := 0
  /-- TB.EPOCH, kept in the Granary system area (R25). -/
  epoch : Nat := 0
  /-- TB.SLEPT (R39). -/
  slept : Bool := false
  /-- Fraction accumulator of SLEEP, in sixteenths of a count (R24). -/
  frac : Nat := 0
  /-- Number of the control period whose boundary was processed last (R140, R169). -/
  period : Nat := 0
  /-- Die links, indexed by die; entry 0 is not used (R15). -/
  links : Vector Link 8 := Vector.replicate 8 {}
  /-- DEV.DIE_PRESENT (R38). -/
  present : Word := 1
  /-- DEV.DIE_LOST (R38). -/
  lost : Word := 0
  /-- The sequencer. -/
  seq : Sequencer := {}
  /-- The memories. -/
  mem : Memories := {}
  /-- The register pages, 130 of them in BAR0 order (Table 06-5); PG_CTL.EN of the twelve AX pages resets to 1 (log 14). -/
  pages : Vector Page 130 :=
    Vector.replicate 14 ({} : Page) ++ Vector.replicate 12 ({ en := true } : Page) ++ Vector.replicate 104 ({} : Page)
  /-- Supplies and temperatures. -/
  pwr : Power := {}
  /-- Clocks. -/
  clk : Clocks := {}
  /-- Resets. -/
  rst : Resets := {}
  /-- Boot. -/
  boot : Boot := {}
  /-- Mode. -/
  mc : ModeCtl := {}
  /-- Axes. -/
  ax : Vector Axis 12 := Vector.replicate 12 {}
  /-- Rate multipliers on the Plough dies. -/
  drv : Vector Drive 12 := Vector.replicate 12 {}
  /-- Coils and estimator. -/
  coil : Vector Coils 12 := Vector.replicate 12 {}
  /-- Drive counters and detectors. -/
  watch : Vector Watch 12 := Vector.replicate 12 {}
  /-- Feedback channels FB00 to FB11, FBX0, FBX1. -/
  fb : Vector Fb 14 := Vector.replicate 14 {}
  /-- SSI and probes of the feedback channels. -/
  fbx : Vector FbAux 14 := Vector.replicate 14 {}
  /-- Door switch inputs. -/
  din : Vector Din 48 := Vector.replicate 48 {}
  /-- Gear engines. -/
  gear : Vector Gear 12 := Vector.replicate 12 {}
  /-- Cam engines. -/
  cam : Vector Cam 4 := Vector.replicate 4 {}
  /-- Portals. -/
  ptl : Vector Ptl 8 := Vector.replicate 8 {}
  /-- Portal inputs and timers. -/
  ptlIn : Vector PtlIn 8 := Vector.replicate 8 {}
  /-- Portal runs. -/
  ptlRun : Vector PtlRun 8 := Vector.replicate 8 {}
  /-- Cycle records being collected. -/
  cyc : Vector CycleRec 8 := Vector.replicate 8 {}
  /-- Cycle record of the close that ended last, for the statistics (R461). -/
  cycEnd : Vector CycleRec 8 := Vector.replicate 8 {}
  /-- Instant of the door cycle's last evaluation (R266). -/
  doorAt : Nat := 0
  /-- Envelopes: portal, leaf, bin to samples, oldest first (R285). -/
  env : List ((Nat × Nat × Nat) × List Int) := []
  /-- The envelopes as Granary holds them (R286). -/
  envKept : List ((Nat × Nat × Nat) × List Int) := []
  /-- Sensitive edges. -/
  edges : Vector Edge 16 := Vector.replicate 16 {}
  /-- Sides. -/
  side : Vector Side 2 := Vector.replicate 2 {}
  /-- Guard's channel. -/
  grd : Channel := {}
  /-- Signal box's channel. -/
  sbx : Channel := {}
  /-- The SAFE page's other state. -/
  safe : Safe := {}
  /-- Load channels. -/
  lsw : Vector Lsw 24 := Vector.replicate 24 {}
  /-- Load channels' counts and buckets. -/
  lswx : Vector LswAux 24 := Vector.replicate 24 {}
  /-- The Switch die. -/
  lswg : Lswg := {}
  /-- CAN controllers. -/
  can : Vector Can 4 := Vector.replicate 4 {}
  /-- CAN counters. -/
  canc : Vector CanCnt 4 := Vector.replicate 4 {}
  /-- Stations. -/
  stn : Vector Stn 16 := Vector.replicate 16 {}
  /-- The program. -/
  prg : Prg := {}
  /-- The program's requests and counters. -/
  prgx : PrgAux := {}
  /-- Event queues. -/
  evq : Vector Evq 8 := Vector.replicate 8 {}
  /-- Host interface. -/
  hif : Hif := {}
  /-- HSPI port. -/
  hspi : Hspi := {}
  /-- Recorder. -/
  recd : Recorder := {}
  /-- Statistics. -/
  stat : Stat := {}
  /-- Pair. -/
  pair : Pair := {}
  /-- Pair mirror. -/
  pairx : PairAux := {}
  /-- Fuses. -/
  fuses : Fuses := {}
  /-- Security. -/
  sec : Sec := {}
  /-- Applied configuration image. -/
  cfg : ImageCfg := {}
  /-- MODEL'S OWN: what the device has put out, oldest first (log 12). -/
  posted : List Posted := []
  /-- MODEL'S OWN: number of free values drawn so far (log 2). -/
  fresh : Nat := 0
  /-- MODEL'S OWN: commands waiting, first in, first out (log 1). -/
  pending : List Instr := []
  deriving DecidableEq, Repr

/-- The machine right after reset. -/
def State.reset : State := {}

end Sys2Proof.Machine
end

