-- ==== Sys2Proof/Machine/Ops.lean ====
section
/-! DEFINITION. The named operations over plain data, memory, time and events that every family shares. -/

namespace Sys2Proof.Machine

/-! ## Words and numbers -/

/-- The field of `w` that starts at bit `lo` and is `n` bits wide. -/
def fld (w : Word) (lo n : Nat) : Nat := (w.toNat >>> lo) % 2 ^ n

/-- The word whose fields are given as (low bit, width, value), every other bit 0. -/
def mkWord (l : List (Nat × Nat × Nat)) : Word :=
  l.foldl (fun w (lo, n, v) => w ||| BitVec.ofNat 32 ((v % 2 ^ n) <<< lo)) 0

/-- Bit `b` of a word as a truth value. -/
def bit (w : Word) (b : Nat) : Bool := w.getLsbD b

/-- The word with bit `b` set. -/
def setBit (w : Word) (b : Nat) : Word := w ||| BitVec.ofNat 32 (2 ^ b)

/-- The word with bit `b` cleared. -/
def clrBit (w : Word) (b : Nat) : Word := w &&& ~~~(BitVec.ofNat 32 (2 ^ b))

/-- The word with bit `b` at `v`. -/
def putBit (w : Word) (b : Nat) (v : Bool) : Word := if v then setBit w b else clrBit w b

/-- 1 for true, 0 for false. -/
def b2n (b : Bool) : Nat := if b then 1 else 0

/-- Two's complement of `n` bits, read as a signed number. -/
def sx (n v : Nat) : Int := (BitVec.ofNat n v).toInt

/-- A signed number in two's complement of `n` bits. -/
def tc (n : Nat) (v : Int) : Nat := (BitVec.ofInt n v).toNat

/-- A counter that saturates at `top`. -/
def inc (v top : Nat) : Nat := min (v + 1) top

/-- A signed number clamped to lo … hi. -/
def clampI (lo hi v : Int) : Int := max lo (min hi v)

/-- A number clamped to lo … hi. -/
def clampN (lo hi v : Nat) : Nat := max lo (min hi v)

/-- Round a quotient to nearest, halves away from zero. -/
def roundDiv (a : Int) (b : Nat) : Int :=
  if a < 0 then -(((-a).toNat + b / 2) / b : Nat) else ((a.toNat + b / 2) / b : Nat)

/-- Quotient rounded up. -/
def ceilDiv (a b : Nat) : Nat := (a + b - 1) / b

/-- Little-endian bytes of a number. -/
def leBytes : Nat → Nat → List Byte
  | 0, _ => []
  | n + 1, v => BitVec.ofNat 8 v :: leBytes n (v / 256)

/-- The number a little-endian list of bytes spells. -/
def leNat : List Byte → Nat
  | [] => 0
  | b :: l => b.toNat + 256 * leNat l

/-- A list of bytes padded with zeros, or cut, to `n` bytes. -/
def padTo (n : Nat) (l : List Byte) : List Byte := (l ++ List.replicate n 0).take n

/-- Replace one entry of a vector by a function of it. -/
def upd {α : Type} {n : Nat} (v : Vector α n) (i : Fin n) (f : α → α) : Vector α n := v.set i (f v[i])

/-- Indices of a vector of length `n` at which `p` holds, ascending. -/
def fins (n : Nat) (p : Fin n → Bool) : List (Fin n) := (List.finRange n).filter p

/-- The list with its entry `i` replaced by `f` of it. -/
def updList {α : Type} (l : List α) (i : Nat) (f : α → α) : List α := l.modify i f

/-- Apply a state change once per item of a list, in order. -/
def forAll {σ α : Type} (l : List α) (f : α → σ → σ) (s : σ) : σ := l.foldl (fun t a => f a t) s

/-! ## Sparse words -/

/-- The word at offset `o`, if it is listed. -/
def Words.get? : Words → Nat → Option Word
  | [], _ => none
  | (k, v) :: l, o => if k = o then some v else Words.get? l o

/-- The list with the word at offset `o` set; offsets stay strictly rising. -/
def Words.put : Words → Nat → Word → Words
  | [], o, v => [(o, v)]
  | (k, w) :: l, o, v =>
    if o < k then (o, v) :: (k, w) :: l else if o = k then (o, v) :: l else (k, w) :: Words.put l o v

/-- The list without the word at offset `o`. -/
def Words.del (l : Words) (o : Nat) : Words := l.filter (fun p => p.1 ≠ o)

/-! ## Memory -/

/-- The byte an unlisted address reads as: 0 (DESIGN CHOICE, log 5). -/
def Memory.blank : Byte := 0

/-- Read one byte. -/
def Memory.read : Memory → Nat → Byte
  | [], _ => Memory.blank
  | (k, v) :: l, a => if k = a then v else Memory.read l a

/-- Write one byte; the list stays in canonical form: strictly rising, no entry equal to the blank byte. -/
def Memory.write : Memory → Nat → Byte → Memory
  | [], a, b => if b = Memory.blank then [] else [(a, b)]
  | (k, v) :: l, a, b =>
    if a < k then (if b = Memory.blank then (k, v) :: l else (a, b) :: (k, v) :: l)
    else if a = k then (if b = Memory.blank then l else (a, b) :: l)
    else (k, v) :: Memory.write l a b

/-- Write bytes at rising addresses from `a`. -/
def Memory.writeBytes : Memory → Nat → List Byte → Memory
  | m, _, [] => m
  | m, a, b :: l => Memory.writeBytes (Memory.write m a b) (a + 1) l

/-- Read `n` bytes from `a`. -/
def Memory.readBytes (m : Memory) (a n : Nat) : List Byte := (List.range n).map (fun i => Memory.read m (a + i))

/-- Remove every listed byte of a … a + n − 1, which then read as the blank byte. -/
def Memory.erase (m : Memory) (a n : Nat) : Memory := m.filter (fun c => c.1 < a || a + n ≤ c.1)

/-- Write cells in order. -/
def Memory.place (m : Memory) (l : List Host.Cell) : Memory := l.foldl (fun t c => t.write c.1 c.2) m

/-- The listed cells of a … a + n − 1, moved to begin at `d`. -/
def Memory.cells (m : Memory) (a n d : Nat) : List Host.Cell :=
  (m.filter (fun c => a ≤ c.1 && decide (c.1 < a + n))).map (fun c => (c.1 - a + d, c.2))

/-- Addresses strictly rise from above `lo`, and no entry is blank. -/
def Memory.wfFrom : Nat → Memory → Bool
  | _, [] => true
  | lo, (k, v) :: l => decide (lo ≤ k) && decide (v ≠ Memory.blank) && Memory.wfFrom (k + 1) l

/-- The canonical form of a memory. -/
def Memory.wf (m : Memory) : Bool := Memory.wfFrom 0 m

/-- The little-endian number of `n` bytes at `a`. -/
def Memory.nat (m : Memory) (a n : Nat) : Nat := leNat (m.readBytes a n)

/-- Words of a memory that hold an uncorrectable error after a write of `n` bytes at `a`: a word written whole is sound again, a part of
one is merged into what the word holds (R32; log 38). -/
def Memories.tornAfter (m : Memories) (k a n : Nat) : List (Nat × Nat) :=
  m.torn.filter (fun e => e.1 ≠ k || decide (32 * e.2 < a) || decide (a + n < 32 * e.2 + 32))

/-- Words of a memory with one or two bits in error after that write. -/
def Memories.softAfter (m : Memories) (k a n : Nat) : List (Nat × Nat × Nat) :=
  m.soft.filter (fun e => e.1 ≠ k || decide (32 * e.2.1 < a) || decide (a + n < 32 * e.2.1 + 32))

/-- The words of a memory in `n` bytes from `a` that hold an uncorrectable error. -/
def Memories.tornIn (m : Memories) (k : Fin 3) (a n : Nat) : List Nat :=
  (m.torn.filter (fun e => e.1 = k.val && decide (a < 32 * e.2 + 32) && decide (32 * e.2 < a + n))).map (·.2)

/-- The words of a memory in `n` bytes from `a` in which one or two bits are in error. -/
def Memories.softIn (m : Memories) (k : Fin 3) (a n : Nat) : List Nat :=
  (m.soft.filter (fun e => e.1 = k.val && decide (a < 32 * e.2.1 + 32) && decide (32 * e.2.1 < a + n))).map (·.2.1)

/-- Bits in error in a word that reads correct. -/
def Memories.softOf (m : Memories) (k : Fin 3) (w : Nat) : Nat :=
  match m.soft.find? (fun e => e.1 = k.val && e.2.1 = w) with | some e => e.2.2 | none => 0

/-- The words that `n` bytes at `a` fill in part. -/
def partWords (a n : Nat) : List Nat :=
  if n = 0 then [] else [a / 32, (a + n - 1) / 32].eraseDups.filter (fun w => decide (32 * w < a) || decide (a + n < 32 * w + 32))

/-- An access to Granary: the NVM clock runs, or restarts (R83, R84). -/
def State.granTouch (s : State) : State := { s with mem := { s.mem with nvm := true, touched := s.tb } }

/-- The Granary bank of a logical byte address (R36). -/
def granaryBank (a : Nat) : Nat :=
  ((a >>> 5) ^^^ (a >>> 8) ^^^ (a >>> 11) ^^^ (a >>> 14) ^^^ (a >>> 17) ^^^ (a >>> 20) ^^^ (a >>> 23)) % 8

/-! ## Time (R22): one count is 6.25 ns -/

/-- Counts in `n` µs. -/
def us (n : Nat) : Nat := n * 160

/-- Counts in `n` ms. -/
def ms (n : Nat) : Nat := n * 160000

/-- Counts in a control period (R140). -/
def periodCounts : Nat := 10000

/-- Advance TB to an instant a command names, if it lies ahead; TB never decreases (R24; log 9). -/
def State.to (t : Nat) (s : State) : State := { s with tb := max s.tb t }

/-- A stamp: TB[47:0] (R22). -/
def stampOf (t : Nat) : Nat := t % 2 ^ 48

/-- Stamp b is later than stamp a, modulo 2^48 (R22). -/
def laterStamp (a b : Nat) : Bool :=
  let d := (b + 2 ^ 48 - a % 2 ^ 48) % 2 ^ 48
  decide (1 ≤ d) && decide (d < 2 ^ 47)

/-- The later of two stamps on a link (R22, R26). -/
def laterMark (old : Option Nat) (t : Nat) : Option Nat :=
  match old with
  | none => some (stampOf t)
  | some m => if laterStamp m t then some (stampOf t) else some m

/-- Control period of an instant. -/
def periodOf (t : Nat) : Nat := t / periodCounts

/-! ## Lanes of the Coupling links (R16, R17) -/

/-- Packets outstanding on a lane. -/
def Lane.outstanding (l : Lane) : Nat := (l.next + 65536 - l.oldest) % 65536

/-- 64 packets are outstanding: no other is sent (R17). -/
def Lane.full (l : Lane) : Bool := decide (64 ≤ l.outstanding)

/-- The sender sends one packet more, unless 64 are outstanding or event packets wait. -/
def Lane.send (l : Lane) : Lane := if l.full || 0 < l.wait then l else { l with next := (l.next + 1) % 65536 }

/-- Number the next event packet takes. -/
def Lane.number (l : Lane) : Nat := (l.next + l.wait) % 65536

/-- Numbers of the next `n` packets sent. -/
def Lane.numbers (l : Lane) (n : Nat) : List Nat := (List.range n).map (fun i => (l.next + i) % 65536)

/-- The sender sends an event packet, or keeps it until one of the 64 is acknowledged. -/
def Lane.sendEvent (l : Lane) : Lane :=
  if l.full || 0 < l.wait then { l with wait := l.wait + 1 }
  else { l with next := (l.next + 1) % 65536, evs := l.evs ++ [l.next] }

/-- A packet numbered `seq` has been sent, if it is not among those sent before; the event packets that waited are the first of them. -/
def Lane.sent (seq : Nat) (l : Lane) : Lane :=
  let d := (seq + 65536 - l.next) % 65536
  if l.outstanding + d < 64 then
    { l with next := (seq + 1) % 65536, wait := l.wait - (d + 1), evs := l.evs ++ l.numbers (min l.wait (d + 1)) }
  else l

/-- A cumulative acknowledgement of every packet before `ack` (R17): event packets that waited for room follow. One that acknowledges
nothing new changes nothing. -/
def Lane.acked (ack : Nat) (l : Lane) : Lane :=
  let d := (ack % 65536 + 65536 - l.oldest) % 65536
  if d = 0 || decide (l.outstanding < d) then l
  else
    let n := min l.wait (64 - (l.outstanding - d))
    { l with
      oldest := ack % 65536, run := 0, next := (l.next + n) % 65536, wait := l.wait - n
      evs := l.evs.filter (fun x => decide ((x + 65536 - ack % 65536) % 65536 < 64)) ++ l.numbers n }

/-! ## Events and outputs -/

/-- Put something out on an interface (log 12). -/
def State.post (p : Posted) (s : State) : State := { s with posted := s.posted ++ [p] }

/-- An event of this die reaches the sequencer without a Coupling packet: Junction's own, and Signal box's, which Junction makes. -/
def ownEvents (die : Fin 8) : Bool := die = 0 || die = 2

/-- Change a die's link. -/
def State.modLink (d : Fin 8) (f : Link → Link) (s : State) : State := { s with links := upd s.links d f }

/-- The lane of a direction: to the die, or from it. -/
def Link.lane (l : Link) (toDie : Bool) : Lane := if toDie then l.out else l.inn

/-- Change the lane of a direction. -/
def Link.modLane (toDie : Bool) (f : Lane → Lane) (l : Link) : Link :=
  if toDie then { l with out := f l.out } else { l with inn := f l.inn }

/-- The next packet of a lane goes out, unless 64 are outstanding (R17): a stamp packet carries its sender's TB (R16). -/
def State.sendPacket (d : Fin 8) (toDie : Bool) (kind : Nat) (stamp : Option Nat) (s : State) : State :=
  let l := s.links[d].lane toDie
  if l.full || 0 < l.wait then s
  else (s.modLink d (fun k => k.modLane toDie Lane.send)).post (.packet d.val kind l.next stamp)

/-- The events the sequencer holds: those that have reached Junction (R26, R39). -/
def Sequencer.inside (q : Sequencer) : List Event := q.held.filter (·.arrived)

/-- Raise an event on its way to the sequencer (R16, R26): it is stamped with TB[47:0] and goes out as the next event packet of its die.
Of another die that is held absent nothing reaches the sequencer: Junction discards the packet when it arrives (R19). -/
def State.raiseAt (stamp : Nat) (die : Fin 8) (source code : Nat) (payload : List Byte) (more : List Byte)
    (s : State) : State :=
  if die ≠ 0 && bit s.rst.absent die.val then s
  else
    let l := s.links[die]
    let e : Event := ⟨stampOf stamp, die.val, l.evNext, l.inn.number, ownEvents die, source, code, payload, more⟩
    { s with
      seq := { s.seq with held := s.seq.held ++ [e] }
      links := upd s.links die (fun l =>
        { l with evNext := l.evNext + 1, count := max l.count stamp, inn := if ownEvents die then l.inn else l.inn.sendEvent }) }

/-- Counts by which a die's own TB count may differ from Junction's (Table 01-4). -/
def tbSlack (die : Fin 8) : Nat := match die.val with | 1 => 2 | 5 => 8 | 6 => 4 | 7 => 8 | _ => 0

/-- Counts by which a die's own TB count rises at a time (Table 01-4, resolution). -/
def tbStep (die : Fin 8) : Nat := match die.val with | 5 => 5 | 6 => 2 | _ => 1

/-- What a choice about a die's own TB count depends on: the instant, the die, and the events it has raised. -/
def State.tbDraw (s : State) (die : Fin 8) (t : Nat) : Nat := ((s.epoch * 2 ^ 64 + t) * 2 ^ 32 + s.links[die].evNext) * 8 + die.val

/-- A die's own TB count at the instant `t` of Junction's (R23): it rises in the steps of Table 01-4 and lies within the agreement of
Table 01-4 of Junction's, where exactly is not determined (log 2). -/
def State.dieCount (s : State) (die : Fin 8) (t : Nat) : Nat :=
  let k := tbSlack die
  if k = 0 then t
  else
    let g := tbStep die
    let lo := t - k
    let first := lo + (s.links[die].phase % g + g - lo % g) % g
    first + g * (Config.free 34 (s.tbDraw die t) % ((t + k - first) / g + 1))

/-- The stamp a die gives an event of the instant `t`: its own count then, which never falls below one it has shown (R23, R28). -/
def State.dieStamp (s : State) (die : Fin 8) (t : Nat) : Nat :=
  if tbSlack die = 0 then t else max s.links[die].count (s.dieCount die t)

/-- A die's own TB count, by which it stamps its events (R23). -/
def State.dieTb (s : State) (die : Fin 8) : Nat := s.dieStamp die s.tb

/-- Raise an event at the present instant. -/
def State.raise (die : Fin 8) (source code : Nat) (payload : List Byte) (s : State) : State :=
  s.raiseAt (s.dieTb die) die source code payload []

/-! ## Free values (log 2) -/

/-- A voltage in mV in a field of 16 bits; what one above 65,535 mV shows is left open (log 60). -/
def mv16 (v : Nat) : Nat := if v < 65536 then v else Config.free 33 v

/-- Draw a fresh number for a free value and pass it on. -/
def State.draw (s : State) : Nat × State := (s.fresh, { s with fresh := s.fresh + 1 })

end Sys2Proof.Machine
end

