-- ==== Sys2Proof/Machine/RegTable.lean ====
section
/-! DEFINITION. The register words of every page as the block tables of spec/ give them: which bits are written, how,
and their reset values. The bits of no mask are read only or reserved (R133). -/

namespace Sys2Proof.Machine

/-- A run of `n` register words of one shape, four bytes apart from `off` (R133, Table 06-1). -/
structure Reg where
  /-- Byte offset of the first word in its page. -/
  off : Nat
  /-- Number of words. -/
  n : Nat := 1
  /-- Bits of RW fields. -/
  rw : Nat := 0
  /-- Bits of WO fields. -/
  wo : Nat := 0
  /-- Bits of W1C fields. -/
  w1c : Nat := 0
  /-- Bits of RWS fields by staged group. -/
  rws : List (Nat × Nat) := []
  /-- Reset value of the RW and RWS bits. -/
  reset : Nat := 0
  deriving DecidableEq, Repr

/-- The block words of the DEV page, Table 01-10 and 09-4 (R38, R241). -/
def regsDev : List Reg :=
  [{ off := 0x040, n := 4 },
    { off := 0x050, w1c := 0xFE },
    { off := 0x054, n := 7 },
    { off := 0x100, n := 2 },
    { off := 0x108, w1c := 0xFFFFFFFF },
    { off := 0x10C, w1c := 0xFFFF },
    { off := 0x110, n := 12 }]

/-- The block words of the TB page, Table 01-11 (R39). -/
def regsTb : List Reg :=
  [{ off := 0x040, n := 3 },
    { off := 0x04C, w1c := 0x2 },
    { off := 0x050, n := 3 }]

/-- The block words of the PWR page, Table 03-9 (R82). -/
def regsPwr : List Reg :=
  [{ off := 0x040 },
    { off := 0x044, rw := 0x60 },
    { off := 0x048, n := 2 },
    { off := 0x050, rw := 0xFFFF, reset := 0xFFFF },
    { off := 0x054 },
    { off := 0x058, w1c := 0x3FFF },
    { off := 0x05C, n := 7 },
    { off := 0x078, rw := 0xFF, reset := 0x92 }]

/-- The block words of the CLK page, Table 04-7 (R103). -/
def regsClk : List Reg :=
  [{ off := 0x040 },
    { off := 0x044, w1c := 0xFFF },
    { off := 0x048 },
    { off := 0x04C, wo := 0x1 },
    { off := 0x050, n := 2 },
    { off := 0x058, rw := 0x1F, reset := 0x4 },
    { off := 0x05C }]

/-- The block words of the RST page, Table 04-8 (R104). -/
def regsRst : List Reg :=
  [{ off := 0x040 },
    { off := 0x044, w1c := 0x7 },
    { off := 0x048, n := 2 },
    { off := 0x050, wo := 0xFFFFFFFF },
    { off := 0x054, n := 2 }]

/-- The block words of the HIF page, Table 05-9 and 16-9 (R130, R443). -/
def regsHif : List Reg :=
  [{ off := 0x040, rw := 0x7 },
    { off := 0x044, n := 3 },
    { off := 0x050, rw := 0x3, reset := 0x3 },
    { off := 0x054, n := 2 },
    { off := 0x05C, rw := 0xF },
    { off := 0x060 },
    { off := 0x100 },
    { off := 0x104, wo := 0xFFFFFFFF },
    { off := 0x108 },
    { off := 0x10C, w1c := 0x1FF },
    { off := 0x110, rw := 0xFF },
    { off := 0x114, rw := 0xFF0F, reset := 0xA0F },
    { off := 0x118, n := 2, rw := 0xFFFFFFFF },
    { off := 0x120, n := 4 },
    { off := 0x800, n := 64, rw := 0xFFFFFFFF },
    { off := 0x900 }]

/-- The block words of the AX page, Table 07-10 (R183). -/
def regsAx : List Reg :=
  [{ off := 0x040, wo := 0xFFFFFFFF },
    { off := 0x044, rw := 0xFFFFFFFF },
    { off := 0x048, rw := 0xFF },
    { off := 0x04C, n := 2, rw := 0xFFFFFFFF },
    { off := 0x054, rw := 0xFFFF },
    { off := 0x060, rws := [(0, 0xFFFFFFFF)] },
    { off := 0x064, rws := [(0, 0xFFFFFFFF)], reset := 0xC800 },
    { off := 0x068, rws := [(0, 0xFFFFFFFF)], reset := 0x640000 },
    { off := 0x06C, rws := [(0, 0xFFFFFFFF)], reset := 0xC800 },
    { off := 0x070, rws := [(0, 0xFFFFFFFF)], reset := 0xC80000 },
    { off := 0x074, n := 2, rws := [(0, 0xFFFFFFFF)], reset := 0xC800 },
    { off := 0x07C, rws := [(0, 0xFFFFFFFF)], reset := 0x10000 },
    { off := 0x080, rws := [(1, 0xFFFFFFFF)] },
    { off := 0x084, rws := [(1, 0xFF)], reset := 0x80 },
    { off := 0x088, rws := [(1, 0xFFFFFFFF)], reset := 0xFFFFFFFF },
    { off := 0x08C, rws := [(1, 0xFF)], reset := 0x7F },
    { off := 0x090, rws := [(1, 0x3F3F01)], reset := 0x3F3F00 },
    { off := 0x094, rws := [(1, 0xFFFFFFFF)], reset := 0x7D000 },
    { off := 0x0A0 },
    { off := 0x0A4, w1c := 0x1FF },
    { off := 0x0A8, n := 13 }]

/-- The block words of the DRV page, Table 08-5 (R211). -/
def regsDrv : List Reg :=
  [{ off := 0x040, n := 2, rws := [(0, 0xFFFF)], reset := 0x3E8 },
    { off := 0x048, rws := [(0, 0xFFFFFFFF)], reset := 0x4F90FA0 },
    { off := 0x04C, rws := [(0, 0x1)] },
    { off := 0x050, rws := [(1, 0xFFFFFFFF)], reset := 0xFA01F4 },
    { off := 0x054, rws := [(1, 0x1FF)], reset := 0x14 },
    { off := 0x060, rws := [(2, 0xFFFFFFFF)], reset := 0x25800C8 },
    { off := 0x064, rws := [(2, 0xFFFFFFFF)], reset := 0xBB805DC },
    { off := 0x068, rws := [(2, 0xF)] },
    { off := 0x070, rws := [(3, 0x103FF01)], reset := 0x1011400 },
    { off := 0x078, rws := [(4, 0xFF01FFFF)], reset := 0x8000850 },
    { off := 0x07C, rws := [(4, 0xFFFFFFFF)], reset := 0x280100 },
    { off := 0x080 },
    { off := 0x084, w1c := 0x3F },
    { off := 0x088, n := 10 }]

/-- The block words of the FB page, Table 09-5 (R241). -/
def regsFb : List Reg :=
  [{ off := 0x040, wo := 0xFFFFFFFF },
    { off := 0x044, rw := 0xFFFFFFFF },
    { off := 0x048, rw := 0xFF },
    { off := 0x050, rws := [(0, 0xFFFFFFFF)], reset := 0x400 },
    { off := 0x054, rws := [(0, 0xFFFF)], reset := 0xC8 },
    { off := 0x058, rws := [(1, 0x1FFF01FF)], reset := 0x1040088 },
    { off := 0x05C, rws := [(1, 0xFFFF)], reset := 0x32 },
    { off := 0x060, rws := [(2, 0xF1F3F3F)], reset := 0x3000819 },
    { off := 0x064, rws := [(2, 0x3FFF03FF)], reset := 0x14000050 },
    { off := 0x068, rws := [(2, 0x1F)], reset := 0x1 },
    { off := 0x06C, rws := [(2, 0xFFFFFF)] },
    { off := 0x070, rws := [(2, 0xFFFFFFFF)] },
    { off := 0x074, rws := [(2, 0xFF)] },
    { off := 0x078, rws := [(3, 0xFFF)] },
    { off := 0x080 },
    { off := 0x084, w1c := 0x1FF },
    { off := 0x088, n := 13 },
    { off := 0x0C0, n := 12 }]

/-- The block words of the FBX page: groups 0 and 2 are reserved (R216, R241). -/
def regsFbx : List Reg :=
  [{ off := 0x040, wo := 0xFFFFFFFF },
    { off := 0x044, rw := 0xFFFFFFFF },
    { off := 0x048, rw := 0xFF },
    { off := 0x050, n := 2 },
    { off := 0x058, rws := [(1, 0x1FFF01FF)], reset := 0x1040088 },
    { off := 0x05C, rws := [(1, 0xFFFF)], reset := 0x32 },
    { off := 0x060, n := 6 },
    { off := 0x078, rws := [(3, 0xFFF)] },
    { off := 0x080 },
    { off := 0x084, w1c := 0x1FF },
    { off := 0x088, n := 13 },
    { off := 0x0C0, n := 12 }]

/-- The block words of the GEAR page, Table 10-3 (R258). -/
def regsGear : List Reg :=
  [{ off := 0x040, wo := 0xFFFFFFFF },
    { off := 0x044, n := 2, rws := [(0, 0xFFFFFFFF)], reset := 0x1 },
    { off := 0x04C, rws := [(1, 0xFFFFFFFF)] },
    { off := 0x050, rws := [(1, 0xFFFFFFFF)], reset := 0x1 },
    { off := 0x054, rws := [(1, 0xFFFFFFFF)] },
    { off := 0x058, rws := [(1, 0x3FF)] },
    { off := 0x05C, rws := [(2, 0xF)], reset := 0xF },
    { off := 0x060, rws := [(3, 0xFFFF000F)], reset := 0x3E80000 },
    { off := 0x080 },
    { off := 0x084, w1c := 0x3F },
    { off := 0x088, n := 10 }]

/-- The block words of the CAM page, Table 10-4 (R259). -/
def regsCam : List Reg :=
  [{ off := 0x040, wo := 0xFFFFFFFF },
    { off := 0x044, rws := [(0, 0xF0F)], reset := 0xF00 },
    { off := 0x048, rws := [(0, 0xFFFFFFFF)] },
    { off := 0x04C, rws := [(0, 0xFF)] },
    { off := 0x050, rws := [(0, 0xFFFFFF)], reset := 0x10 },
    { off := 0x080 },
    { off := 0x084, w1c := 0x7 },
    { off := 0x088, n := 5 },
    { off := 0x400, n := 256, rws := [(1, 0xFFFFFFFF)] }]

/-- The block words of the PTL page, Table 11-8 (R294). -/
def regsPtl : List Reg :=
  [{ off := 0x040, wo := 0xFFFFFFFF },
    { off := 0x044 },
    { off := 0x048, w1c := 0x7FF },
    { off := 0x04C, n := 11 },
    { off := 0x080, rws := [(0, 0xFFFFFFFF)] }, { off := 0x084, rws := [(0, 0xFF)] },
    { off := 0x088, rws := [(0, 0xFFFFFFFF)] }, { off := 0x08C, rws := [(0, 0xFF)] },
    { off := 0x090, rws := [(0, 0xFFFFFFFF)] }, { off := 0x094, rws := [(0, 0xFF)] },
    { off := 0x098, rws := [(0, 0xFFFFFFFF)] }, { off := 0x09C, rws := [(0, 0xFF)] },
    { off := 0x0A0, rws := [(0, 0xFFFFFFFF)] }, { off := 0x0A4, rws := [(0, 0xFF)] },
    { off := 0x0A8, rws := [(0, 0xFFFFFFFF)] }, { off := 0x0AC, rws := [(0, 0xFF)] },
    { off := 0x0B0, rws := [(0, 0xFFFFFFFF)], reset := 0xFA00 },
    { off := 0x0B4, rws := [(0, 0xFFFFFFFF)], reset := 0xA00 },
    { off := 0x0B8, rws := [(0, 0xFFFFFFFF)], reset := 0x50000 },
    { off := 0x0BC, rws := [(0, 0xFFFFFFFF)], reset := 0x9D14 },
    { off := 0x0C0, n := 2, rws := [(1, 0xFFFFFFFF)], reset := 0x9C40000 },
    { off := 0x0C8, rws := [(1, 0xFFFFFFFF)], reset := 0xFA0000 },
    { off := 0x0CC, rws := [(1, 0xFFFFFFFF)], reset := 0x640000 },
    { off := 0x0D0, rws := [(1, 0xFFFFFFFF)], reset := 0x320000 },
    { off := 0x0D4, rws := [(1, 0xFFFFFFFF)], reset := 0x3E80000 },
    { off := 0x0D8, rws := [(1, 0xFFFFFFFF)], reset := 0xDBBA00 },
    { off := 0x0DC, rws := [(1, 0xFFFFFFFF)], reset := 0x1F400 },
    { off := 0x0E0, rws := [(1, 0xFFFFFFFF)] },
    { off := 0x0E4, rws := [(2, 0xFFFFFFFF)], reset := 0x96003C },
    { off := 0x0E8, rws := [(2, 0xFFFF00FF)], reset := 0x32530040 },
    { off := 0x0EC, rws := [(3, 0xFFFFFFFF)], reset := 0x6400C8 },
    { off := 0x0F0, rws := [(3, 0xFFFFFFFF)], reset := 0x1F4012C },
    { off := 0x0F4, rws := [(3, 0xFFFFFFFF)], reset := 0x6400C8 },
    { off := 0x0F8, rws := [(3, 0xFFFF007F)], reset := 0x28 },
    { off := 0x400, n := 128 }]

/-- The block words of the SIDE page, Table 11-10 (R297). -/
def regsSide : List Reg :=
  [{ off := 0x040, wo := 0xFFFFFFFF },
    { off := 0x044 },
    { off := 0x048, w1c := 0x7 },
    { off := 0x04C, n := 3 }]

/-- The block words of the SAFE page, Table 12-12 (R327). -/
def regsSafe : List Reg :=
  [{ off := 0x040, n := 17 },
    { off := 0x084, w1c := 0x3FFFF },
    { off := 0x088, w1c := 0xFFFFFFFF },
    { off := 0x08C, n := 3 }]

/-- The block words of the LSWG page, Table 13-6 (R355). -/
def regsLswg : List Reg :=
  [{ off := 0x040, rw := 0x11F },
    { off := 0x044, n := 2 },
    { off := 0x04C, w1c := 0x7 },
    { off := 0x050, n := 3 },
    { off := 0x060, n := 6 }]

/-- The block words of the LSW page, Table 13-7 (R356). -/
def regsLsw : List Reg :=
  [{ off := 0x040, rw := 0x3 },
    { off := 0x044, rw := 0x3FF },
    { off := 0x048, rws := [(0, 0x7FFFF)], reset := 0x3E8 },
    { off := 0x04C, rws := [(0, 0xF0FFFF)], reset := 0x700032 },
    { off := 0x050, rws := [(1, 0xFFFF13FF)], reset := 0xC81000 },
    { off := 0x054, rw := 0x1, reset := 0x1 },
    { off := 0x058 },
    { off := 0x060 },
    { off := 0x064, w1c := 0x3F },
    { off := 0x068, n := 4 }]

/-- The block words of the PRG page, Table 14-15 (R394). -/
def regsPrg : List Reg :=
  [{ off := 0x040, wo := 0xFFFFFFFF },
    { off := 0x044, rw := 0x1 },
    { off := 0x048, n := 2 },
    { off := 0x050, w1c := 0x1FF },
    { off := 0x054, n := 19 },
    { off := 0x0A0, rw := 0x7FF },
    { off := 0x100, n := 16 },
    { off := 0x800, n := 512, wo := 0xFFFFFFFF }]

/-- The block words of the STN page, Table 14-17 (R396). -/
def regsStn : List Reg :=
  [{ off := 0x040, n := 3 },
    { off := 0x04C, w1c := 0x3F },
    { off := 0x050, n := 8 },
    { off := 0x100, n := 32 }]

/-- The block words of the CAN page, Table 15-5 (R418). -/
def regsCan : List Reg :=
  [{ off := 0x040, rws := [(0, 0xFFFF7F7F)], reset := 0x44010909 },
    { off := 0x044, rws := [(0, 0x1F1F0F0F)], reset := 0x1E000707 },
    { off := 0x048, rws := [(0, 0x7F01)], reset := 0x2001 },
    { off := 0x04C, rws := [(1, 0x1FFE)], reset := 0x1882 },
    { off := 0x050, rw := 0x3 },
    { off := 0x054, wo := 0xFFFFFFFF },
    { off := 0x060, n := 2 },
    { off := 0x068, w1c := 0x1FF },
    { off := 0x06C, n := 8 },
    { off := 0x100, n := 24 },
    { off := 0x200, n := 24, rw := 0xFFFFFFFF }]

/-- The block words of the EVQ page, Table 16-10 (R444). -/
def regsEvq : List Reg :=
  [{ off := 0x040, n := 2, rws := [(0, 0xFFFFFFFF)] },
    { off := 0x048, rws := [(0, 0x1FFFF)], reset := 0x40 },
    { off := 0x04C, rws := [(0, 0xF03)] },
    { off := 0x050, n := 2, rws := [(0, 0xFFFFFFFF)] },
    { off := 0x058, rws := [(1, 0xFFFF)], reset := 0xFFFF },
    { off := 0x05C, rws := [(2, 0xFFFFFFFF)], reset := 0x640001 },
    { off := 0x060, rw := 0xFFFF },
    { off := 0x064, n := 2 },
    { off := 0x06C, w1c := 0x3 },
    { off := 0x070, n := 6 }]

/-- The block words of the REC page, Table 17-7 (R463). -/
def regsRec : List Reg :=
  [{ off := 0x040, wo := 0xF },
    { off := 0x044, rw := 0xFFFFF1FF, reset := 0x20000000 },
    { off := 0x048, rws := [(0, 0xFFFF0001)] },
    { off := 0x04C },
    { off := 0x050, w1c := 0x3F },
    { off := 0x054, n := 13 },
    { off := 0x088, rw := 0x3FF0000 },
    { off := 0x08C, rw := 0x3FFF800 },
    { off := 0x090, n := 3 },
    { off := 0x0A0, n := 8 },
    { off := 0x200, n := 128, rw := 0xFFFFFFFF },
    { off := 0x400, n := 256, wo := 0xFFFFFFFF },
    { off := 0x800, n := 512 }]

/-- The block words of the STAT page, Table 17-8 (R465). -/
def regsStat : List Reg :=
  [{ off := 0x040, n := 3 },
    { off := 0x04C, w1c := 0x1 },
    { off := 0x050, n := 5 },
    { off := 0x064, rw := 0x1FF800 },
    { off := 0x800, n := 512 }]

/-- The block words of the PAIR page, Table 18-9 (R488). -/
def regsPair : List Reg :=
  [{ off := 0x040, wo := 0xFFFFFFFF },
    { off := 0x044, n := 2 },
    { off := 0x04C, w1c := 0x7F },
    { off := 0x050, n := 8 }]

/-- The block words of the SEC page, Table 19-6 (R507). -/
def regsSec : List Reg :=
  [{ off := 0x040, wo := 0xFFFFFFFF },
    { off := 0x044, rw := 0x103 },
    { off := 0x048, n := 4 },
    { off := 0x058, w1c := 0x3F },
    { off := 0x05C, n := 4 },
    { off := 0x080, n := 24 },
    { off := 0x0E0, n := 136, rw := 0xFFFFFFFF },
    { off := 0x300, n := 160, wo := 0xFFFFFFFF },
    { off := 0x600, n := 640 }]

end Sys2Proof.Machine
end

