-- ==== Sys2Proof/Machine/Regs.lean ====
section
/-! DEFINITION. The register file: pages, committed and staged words, errors, page interrupts, events of a page, and
the access checks every write passes (R132 to R147, R510). -/

namespace Sys2Proof.Machine

/-! ## Pages (Table 06-5) -/

/-- Position of a page among the 130 pages of BAR0, in rising address order. -/
def pageIdx : PageId → Nat
  | .dev => 0 | .clk => 1 | .pwr => 2 | .rst => 3 | .tb => 4 | .hif => 5
  | .evq n => 6 + n | .ax n => 14 + n | .drv n => 26 + n | .fb n => 38 + n | .fbx n => 50 + n
  | .gear n => 52 + n | .cam n => 64 + n | .ptl n => 68 + n | .side n => 76 + n
  | .safe => 78 | .lswg => 79 | .lsw n => 80 + n | .can n => 104 + n | .prg => 108 | .stn n => 109 + n
  | .recd => 125 | .stat => 126 | .pair => 127 | .sec => 128 | .dbg => 129

/-- The page's place in State.pages. -/
def pageFin (p : PageId) : Fin 130 := Fin.ofNat 130 (pageIdx p)

/-- Address bits [19:12] of the page's base (R146). -/
def pageNo : PageId → Nat
  | .dev => 0 | .clk => 1 | .pwr => 2 | .rst => 3 | .tb => 4 | .hif => 5
  | .evq n => 0x08 + n | .ax n => 0x10 + n | .drv n => 0x20 + n | .fb n => 0x30 + n | .fbx n => 0x3C + n
  | .gear n => 0x40 + n | .cam n => 0x4C + n | .ptl n => 0x50 + n | .side n => 0x58 + n
  | .safe => 0x60 | .lswg => 0x7F | .lsw n => 0x80 + n | .can n => 0xA0 + n | .prg => 0xB0 | .stn n => 0xB1 + n
  | .recd => 0xC1 | .stat => 0xC2 | .pair => 0xD0 | .sec => 0xE0 | .dbg => 0xF0

/-- PG_ID.TYPE of a page (Table 06-5). -/
def pageType : PageId → Nat
  | .dev => 0x01 | .clk => 0x02 | .pwr => 0x03 | .rst => 0x04 | .tb => 0x05 | .hif => 0x06
  | .evq _ => 0x10 | .ax _ => 0x20 | .drv _ => 0x21 | .fb _ => 0x22 | .fbx _ => 0x23
  | .gear _ => 0x24 | .cam _ => 0x25 | .ptl _ => 0x30 | .side _ => 0x31
  | .safe => 0x40 | .lswg => 0x50 | .lsw _ => 0x51 | .can _ => 0x60 | .prg => 0x70 | .stn _ => 0x71
  | .recd => 0x80 | .stat => 0x81 | .pair => 0x90 | .sec => 0xA0 | .dbg => 0xF0

/-- PG_ID.INST of a page. -/
def pageInst : PageId → Nat
  | .dev | .clk | .pwr | .rst | .tb | .hif | .safe | .lswg | .prg | .recd | .stat | .pair | .sec | .dbg => 0
  | .evq n => n | .ax n => n | .drv n => n | .fb n => n | .fbx n => n | .gear n => n | .cam n => n | .ptl n => n
  | .side n => n | .lsw n => n | .can n => n | .stn n => n

/-- Plough die of an axis: 3 for AX00 to AX05, 4 for AX06 to AX11 (R13). -/
def ploughDie (a : Fin 12) : Fin 8 := if a.val < 6 then 3 else 4

/-- PG_ID.DIE of a page (R146). -/
def pageDie : PageId → Fin 8
  | .drv n => ploughDie n | .fb n => ploughDie n | .fbx n => if n.val = 0 then 3 else 4
  | .safe => 1 | .sec => 1 | .lswg => 5 | .lsw _ => 5
  | .dev | .clk | .pwr | .rst | .tb | .hif | .evq _ | .ax _ | .gear _ | .cam _ | .ptl _ | .side _ | .can _ | .prg
  | .stn _ | .recd | .stat | .pair | .dbg => 0

/-- Lowest contract that reaches a page (Table 06-5). -/
def pageContract : PageId → Nat
  | .dev | .hif => 1
  | .fbx _ | .gear _ | .cam _ | .safe | .pair | .sec | .dbg => 3
  | .clk | .pwr | .rst | .tb | .evq _ | .ax _ | .drv _ | .fb _ | .ptl _ | .side _ | .lswg | .lsw _ | .can _ | .prg
  | .stn _ | .recd | .stat => 2

/-- Home clock domain of a page, numbered as in Table 04-1 (Table 04-3). SAFE has two, GRD and SBX; GRD, the clock of the die that the
page reports, stands in HOME_CLK (DESIGN CHOICE, log 68). -/
def pageClk : PageId → Nat
  | .dev | .clk | .pwr | .rst | .tb | .hif | .evq _ | .ptl _ | .side _ | .recd | .stat | .pair => 1
  | .ax _ | .gear _ | .cam _ | .drv _ | .fb _ | .fbx _ => 5
  | .lswg | .lsw _ => 9
  | .safe | .sec => 3
  | .can _ => 6
  | .prg | .stn _ => 2
  | .dbg => 11

/-- Power domain of a page's home, a bit of DOM_STA (Table 03-5). -/
def pageDom : PageId → Nat
  | .drv n => if n.val < 6 then 5 else 6
  | .fb n => if n.val < 6 then 5 else 6
  | .fbx n => if n.val = 0 then 5 else 6
  | .safe | .sec => 3
  | .lswg | .lsw _ => 7
  | .prg | .stn _ => 2
  | .dev | .clk | .pwr | .rst | .tb | .hif | .evq _ | .ax _ | .gear _ | .cam _ | .ptl _ | .side _ | .can _ | .recd
  | .stat | .pair | .dbg => 1

/-- PG_CAP.MIRROR: the page is presented by a mirror (Table 04-3). -/
def pageMirrored : PageId → Bool
  | .drv _ | .fb _ | .fbx _ | .lswg | .lsw _ | .safe | .sec => true
  | .dev | .clk | .pwr | .rst | .tb | .hif | .evq _ | .ax _ | .gear _ | .cam _ | .ptl _ | .side _ | .can _ | .prg
  | .stn _ | .recd | .stat | .pair | .dbg => false

/-- PG_CAP.LOCKABLE, as each owning chapter gives it; 0 for DBG, which no chapter calls lockable (log 15). -/
def pageLockable : PageId → Bool
  | .dev | .tb | .rst | .hif | .safe | .stn _ | .dbg => false
  | .clk | .pwr | .evq _ | .ax _ | .drv _ | .fb _ | .fbx _ | .gear _ | .cam _ | .ptl _ | .side _ | .lswg | .lsw _
  | .can _ | .prg | .recd | .stat | .pair | .sec => true

/-- PG_CAP.ENABLE: PG_CTL.EN has an effect (R186, R420, R446). -/
def pageEnable : PageId → Bool
  | .ax _ | .can _ | .evq _ => true
  | .dev | .clk | .pwr | .rst | .tb | .hif | .drv _ | .fb _ | .fbx _ | .gear _ | .cam _ | .ptl _ | .side _ | .safe
  | .lswg | .lsw _ | .prg | .stn _ | .recd | .stat | .pair | .sec | .dbg => false

/-- PG_CAP.GROUPS: staged groups of a page. -/
def pageGroups : PageId → Nat
  | .ax _ => 2 | .drv _ => 5 | .fb _ | .fbx _ => 4 | .gear _ => 4 | .cam _ => 2 | .ptl _ => 4 | .lsw _ => 2
  | .can _ => 2 | .evq _ => 3 | .recd => 1
  | .dev | .clk | .pwr | .rst | .tb | .hif | .side _ | .safe | .lswg | .prg | .stn _ | .stat | .pair | .sec | .dbg => 0

/-- PG_CAP.BLOCK (R186, R420); 0 where the owning chapter fixes none. -/
def pageCapBlock : PageId → Nat
  | .ax _ => 16 * 256 + 64
  | .can n => 32 * 256 + 16 * 4 + (if n.val < 2 then 3 else 0)
  | .dev | .clk | .pwr | .rst | .tb | .hif | .evq _ | .drv _ | .fb _ | .fbx _ | .gear _ | .cam _ | .ptl _ | .side _
  | .safe | .lswg | .lsw _ | .prg | .stn _ | .recd | .stat | .pair | .sec | .dbg => 0

/-- The block words of a page; DBG has none in the manual (log 15). -/
def pageRegs : PageId → List Reg
  | .dev => regsDev | .clk => regsClk | .pwr => regsPwr | .rst => regsRst | .tb => regsTb | .hif => regsHif
  | .evq _ => regsEvq | .ax _ => regsAx | .drv _ => regsDrv | .fb _ => regsFb | .fbx _ => regsFbx
  | .gear _ => regsGear | .cam _ => regsCam | .ptl _ => regsPtl | .side _ => regsSide | .safe => regsSafe
  | .lswg => regsLswg | .lsw _ => regsLsw | .can _ => regsCan | .prg => regsPrg | .stn _ => regsStn
  | .recd => regsRec | .stat => regsStat | .pair => regsPair | .sec => regsSec | .dbg => []

/-- Every page, in BAR0 order. -/
def allPages : List PageId :=
  ([.dev, .clk, .pwr, .rst, .tb, .hif] : List PageId) ++ (List.finRange 8).map PageId.evq ++ (List.finRange 12).map PageId.ax
  ++ (List.finRange 12).map PageId.drv ++ (List.finRange 12).map PageId.fb ++ (List.finRange 2).map PageId.fbx
  ++ (List.finRange 12).map PageId.gear ++ (List.finRange 4).map PageId.cam ++ (List.finRange 8).map PageId.ptl
  ++ (List.finRange 2).map PageId.side ++ ([.safe, .lswg] : List PageId) ++ (List.finRange 24).map PageId.lsw ++ (List.finRange 4).map PageId.can
  ++ ([.prg] : List PageId) ++ (List.finRange 16).map PageId.stn ++ ([.recd, .stat, .pair, .sec, .dbg] : List PageId)

/-- The page whose base has address bits [19:12] = n, if one lies there. -/
def pageAt (n : Nat) : Option PageId := allPages.find? (fun p => pageNo p = n)

/-- The run of words that holds byte offset `o` of a page's block space. -/
def regAt (p : PageId) (o : Nat) : Option Reg :=
  (pageRegs p).find? (fun r => decide (r.off ≤ o) && decide (o < r.off + 4 * r.n) && decide (o % 4 = 0))

/-! ## Words of a page -/

/-- A page of the state. -/
def State.pg (s : State) (p : PageId) : Page := s.pages[pageFin p]

/-- Change a page. -/
def State.modPg (p : PageId) (f : Page → Page) (s : State) : State := { s with pages := upd s.pages (pageFin p) f }

/-- Reset value of the RW and RWS bits of a word; each MSI-X vector resets masked (R423). -/
def regReset (p : PageId) (o : Nat) : Word :=
  if p = .hif && decide (0x800 ≤ o) && decide (o < 0x900) then (if o % 16 = 12 then 1 else 0)
  else match regAt p o with
    | some r => BitVec.ofNat 32 r.reset
    | none => 0

/-- The committed word at an offset of a page (R133, R140). -/
def State.com (s : State) (p : PageId) (o : Nat) : Word := ((s.pg p).com.get? o).getD (regReset p o)

/-- A field of the committed word. -/
def State.cf (s : State) (p : PageId) (o lo n : Nat) : Nat := fld (s.com p o) lo n

/-- Set the committed word at an offset. -/
def State.setCom (p : PageId) (o : Nat) (w : Word) (s : State) : State :=
  s.modPg p (fun g => { g with com := g.com.put o w })

/-- The value the set of staged and committed words gives a word, for the checks of R140. -/
def State.staged (s : State) (p : PageId) (o : Nat) : Word := ((s.pg p).stg.get? o).getD (s.com p o)

/-- A field of the staged or committed word. -/
def State.sf (s : State) (p : PageId) (o lo n : Nat) : Nat := fld (s.staged p o) lo n

/-! ## Vectors, page interrupts, errors, events -/

/-- Send an interrupt message (R423): by MSI-X unless the vector is masked, when it becomes pending; by MSI modulo
the messages granted; not at all where neither is enabled, or where bus mastering is off (R424). -/
def State.vector (v : Nat) (s : State) : State :=
  if !s.hif.master || s.hif.perst then s
  else if s.hif.msix then
    if bit (s.com .hif (0x80C + 16 * (v % 16))) 0 then { s with hif := { s.hif with pba := setBit s.hif.pba (v % 16) } }
    else s.post (.vector (v % 16))
  else if s.hif.msi then s.post (.vector (v % max 1 s.hif.msiN))
  else s

/-- Set PG_IRQ bits of a page; a message on HIF.PAGE_VEC follows where an enabled bit rises (R137, R423). -/
def State.irq (p : PageId) (mask : Word) (s : State) : State :=
  let old := (s.pg p).irq
  let t := s.modPg p (fun g => { g with irq := g.irq ||| mask })
  if mask &&& ~~~old &&& (s.pg p).ien = 0 then t else t.vector (s.cf .hif 0x05C 0 4)

/-- Report an error in PG_ERR of a page (R139). -/
def State.err (p : PageId) (code detail off : Nat) (s : State) : State :=
  (s.modPg p (fun g => { g with errCode := code, errDetail := detail, errOff := off / 4, errCount := inc g.errCount 15 })).irq
    p 1

/-- Source of a page's events (R431). -/
def evSource (p : PageId) : Nat := pageType p * 256 + pageInst p

/-- Raise an event of a page, stamped by the page's home die at the present instant. -/
def State.ev (p : PageId) (code : Nat) (payload : List Byte) (s : State) : State :=
  s.raise (pageDie p) (evSource p) code payload

/-- A byte of a payload. -/
def b8 (n : Nat) : Byte := BitVec.ofNat 8 n

/-- Class of an event code (Table 16-7, R441); none for EVQ_OVERFLOW, which every queue takes. -/
def evClass (code : Nat) : Option Nat :=
  if code = 0x1001 then none
  else if code = 0x0104 then some 15
  else if 0x8000 ≤ code ∧ code < 0x8200 then some 12
  else if 0x9000 ≤ code ∧ code < 0x9100 then some 13
  else if 0xA000 ≤ code ∧ code < 0xA100 then some 14
  else match code / 256 with
    | 0x20 => some 1
    | 0x21 => some 2
    | 0x22 => some 3
    | 0x24 => some 4
    | 0x30 => some 5
    | 0x31 => some 5
    | 0x40 => some 6
    | 0x50 => some 7
    | 0x51 => some 7
    | 0x60 => some (if code = 0x6001 then 10 else 11)
    | 0x70 => some 8
    | 0x71 => some 9
    | _ => some 0

/-- The v1 code of an event (Table 16-7, Tables 17-9, 18-10 and 19-7). -/
def evV1 (code : Nat) : Option Nat :=
  match code with
  | 0x0101 => some 0x10 | 0x0103 => some 0x11 | 0x0104 => some 0x20 | 0x0201 => some 0x12 | 0x0301 => some 0x13
  | 0x0601 => some 0x01 | 0x1001 => some 0x7F | 0x2101 => some 0x14 | 0x2201 => some 0x15 | 0x3001 => some 0x02
  | 0x3002 => some 0x03 | 0x3101 => some 0x04 | 0x4001 => some 0x16 | 0x4002 => some 0x17 | 0x4007 => some 0x05
  | 0x4008 => some 0x06 | 0x5101 => some 0x07 | 0x5102 => some 0x08 | 0x7001 => some 0x09 | 0x7002 => some 0x0A
  | 0x7102 => some 0x0B | 0x8003 => some 0x0C | 0x8004 => some 0x0D | 0x9002 => some 0x0E | 0x9003 => some 0x0F
  | 0xA002 => some 0x18 | 0xA003 => some 0x19 | 0xA006 => some 0x1A
  | _ => none

/-! ## The checks every register access passes (R510) -/

/-- A die is held absent (R18, R101). -/
def State.dieAbsent (s : State) (d : Fin 8) : Bool := bit s.rst.absent d.val

/-- A power domain is on. -/
def State.domOn (s : State) (b : Nat) : Bool := bit s.pwr.domains b

/-- The power domain of a die (Table 03-5). -/
def dieDom (d : Fin 8) : Nat :=
  match d.val with | 0 => 1 | 1 => 3 | 2 => 4 | 3 => 5 | 4 => 6 | 5 => 7 | 6 => 8 | _ => 9

/-- A die is powered and not held absent. -/
def State.dieOn (s : State) (d : Fin 8) : Bool := s.domOn (dieDom d) && !s.dieAbsent d

/-- STA.DEBUG: 0 OPEN, 1 LOCKED, 2 OPENED (R506). -/
def State.debugSta (s : State) : Nat := if !s.fuses.debugLock then 0 else if s.sec.debugOpened then 2 else 1

/-- A clock runs, as CLK.RUN shows it (R83): the state of the NVM clock stands with the memories, APP runs in a cycle of the program's
tasks, and TCK at an instant at which the debugger clocks it (log 71). -/
def State.clkRuns (s : State) (k : Nat) : Bool :=
  if k = 10 then s.mem.nvm else if k = 11 then s.clk.tckAt = some s.tb else bit s.clk.run k || (k = 2 && s.prg.inCycle)

/-- The page's home clock is stopped while its domain is powered (R96). -/
def State.clkStopped (s : State) (p : PageId) : Bool := s.domOn (pageDom p) && !s.clkRuns (pageClk p)

/-- The first access to a page of the on-demand APP clock restarts it, while PLL0 runs (R84, R96). -/
def State.clkDemand (p : PageId) (s : State) : State :=
  if pageClk p = 2 && s.domOn 2 && bit s.clk.lock 0 then { s with clk := { s.clk with run := setBit s.clk.run 2 } } else s

/-- The byte offset of a page holds a field: a header word but for none, or a word of the block table (R135). -/
def offMapped (p : PageId) (o : Nat) : Bool := decide (o < 0x040) || (regAt p o).isSome

/-- The debug page is closed: debug is LOCKED (R506). -/
def State.dbgClosed (s : State) (p : PageId) : Bool := p = .dbg && s.debugSta = 1

/-- The first error among items 2 to 4 of R510 that a write meets: the page it is reported on, code and detail. Item 2 names UNMAPPED in DEV
and CONTRACT; UNMAPPED of an offset inside a page comes after them and before item 3 (DESIGN CHOICE, log 83). The debug page answers
nothing while debug is LOCKED, at any offset (R506). -/
def State.busErr (s : State) (p : PageId) (o : Nat) : Option (PageId × Nat × Nat) :=
  if s.hif.agree < pageContract p then some (.dev, 0x06, pageNo p)
  else if !offMapped p o && !s.dbgClosed p then some (p, 0x01, if p = .dev then pageNo p else 0)
  else if !s.domOn (pageDom p) then some (p, 0x10, 0)
  else if pageMirrored p && s.dieAbsent (pageDie p) then some (p, 0x11, 0)
  else if (s.pg p).rstPend then some (p, 0x14, 0)
  else none

/-- Only the boot ROM loader runs: SAFE_HOLD after firmware that failed its verification (R116, R149). -/
def State.loaderOnly (s : State) : Bool := s.mc.mode = .safeHold && (!s.boot.guardOk || !s.boot.jctOk)

/-- Junction answers its registers: it is powered, and more than the boot ROM loader runs. -/
def State.busAlive (s : State) : Bool := s.domOn 1 && !s.loaderOnly

/-- The error among items 2 of R510 that a read meets; the other items are for writes alone (R96, R97, R102). -/
def State.readErr (s : State) (p : PageId) (o : Nat) : Option (PageId × Nat × Nat) :=
  if s.hif.agree < pageContract p then some (.dev, 0x06, pageNo p)
  else if !offMapped p o && !s.dbgClosed p then some (p, 0x01, if p = .dev then pageNo p else 0)
  else none

/-- A write that has passed the bus takes effect by `k`, unless the page is locked and the write is not among those
R145 leaves writable (item 6 of R510). The debug page is closed while debug is LOCKED (R506). -/
def State.unlessLocked (p : PageId) (o : Nat) (exempt : Bool) (k : State → State) (s : State) : State :=
  if ((s.pg p).lock && !exempt) || s.dbgClosed p then s.err p 0x05 0 o else k s

/-- A write waits for the page's home clock, or behind the writes that wait already; it is dropped when eight wait. It demands an on-demand clock (R84, R96). -/
def State.enqueueWrite (p : PageId) (o : Nat) (w : Word) (s : State) : State :=
  if 8 ≤ (s.pg p).queue.length then
    { s.err p 0x12 0 o with clk := { s.clk with dropCnt := inc s.clk.dropCnt 0xFFFF } }
  else (s.modPg p (fun g => { g with queue := g.queue ++ [(o, w)] })).clkDemand p

/-- A write does not take effect at once: the page's clock is stopped, or earlier writes wait (R92, R96). -/
def State.waits (s : State) (p : PageId) : Bool := s.clkStopped p || (s.pg p).queue ≠ []

/-- A 32-bit aligned write of one word arrives at a page: items 2 to 6 of R510, then `k`. A Junction that does not answer ignores it. -/
def State.gated (p : PageId) (o : Nat) (w : Word) (exempt : Bool) (k : State → State) (s : State) : State :=
  if !s.busAlive then s
  else match s.busErr p o with
  | some (q, code, detail) => s.err q code detail o
  | none => if s.waits p then s.enqueueWrite p o w else s.unlessLocked p o exempt k

/-- Set bits of a FLAGS word kept by a block: PG_IRQ bit 8 + k rises with flag k (R186 and its like). Answers the new
word and the state with the interrupts set. -/
def State.flagIrq (p : PageId) (old : Word) (mask : Word) (s : State) : Word × State :=
  let new := old ||| mask
  let rise := (mask &&& ~~~old)
  (new, if rise = 0 then s else s.irq p (rise <<< 8))

/-! ## Reads of the memories (R33, R83 to R85) -/

/-- Granary is declared absent, or its clock has failed: no access reaches it (R85, R119). -/
def State.noGranary (s : State) : Bool := s.dieAbsent 7 || s.clk.nvmFailed

/-- The die of a memory. -/
def memDie (k : Fin 3) : Fin 8 := match k.val with | 0 => 0 | 1 => 1 | _ => 7

/-- An event of a word of a memory, with its count where it has one (Table 16-7). -/
def State.eccEvent (k : Fin 3) (code w : Nat) (tail : List Byte) (s : State) : State :=
  s.raise (memDie k) (evSource .dev) code ([b8 (memDie k).val, 0, 0, 0] ++ leBytes 4 w ++ tail)

/-- An uncorrectable word is marked in the system area and reported (R33). -/
def State.eccUncorr (k : Fin 3) (w : Nat) (s : State) : State :=
  let e := (k.val, w)
  { s with mem := { s.mem with
      bad := if s.mem.bad.contains e then s.mem.bad else s.mem.bad ++ [e]
      torn := if s.mem.torn.contains e then s.mem.torn else s.mem.torn ++ [e] } }.eccEvent k 0x0103 w []

/-- A correction of a word counts in its running second, or begins one, and the corrected word is written back (R33, R34). -/
def State.eccCorr (k : Fin 3) (w : Nat) (s : State) : State :=
  let same (c : Corr) : Bool := c.mem = k.val && c.word = w
  let first : Corr := { mem := k.val, word := w, since := s.tb, count := 1 }
  let l := if s.mem.corr.any same then s.mem.corr.map (fun c => if same c then { c with count := c.count + 1 } else c)
    else s.mem.corr ++ [first]
  { s with mem := { s.mem with corr := l, soft := s.mem.soft.filter (fun e => ¬(e.1 = k.val ∧ e.2.1 = w)) } }

/-- A functional read of `n` bytes from `a`: a word with one or two bits in error is corrected, and every uncorrectable one is reported
(R33). -/
def State.readWords (k : Fin 3) (a n : Nat) (s : State) : State :=
  forAll (s.mem.tornIn k a n) (fun w t => t.eccUncorr k w) (forAll (s.mem.softIn k a n) (fun w t => t.eccCorr k w) s)

/-- A functional read of `n` bytes of Granary at `a`: the NVM clock runs (R83, R84), and its words are read as R33 has it. -/
def State.granUse (a n : Nat) (s : State) : State := if s.noGranary then s else s.granTouch.readWords 2 a n

/-- A byte of the word `w` of a memory that holds no valid data: what a requester takes for it is not determined (R33; log 76). -/
def State.lostByte (s : State) (a : Nat) : Byte := b8 (Config.free 42 (s.fresh * 0x4000000 + a))

/-- Bytes of Junction SRAM as an engine reads them: those of an uncorrectable word are not delivered as valid (R33; log 76). -/
def State.sramBytes (s : State) (a n : Nat) : List Byte :=
  if s.mem.tornIn 0 a n = [] then s.mem.sram.readBytes a n
  else (List.range n).map (fun i => if s.mem.torn.contains (0, (a + i) / 32) then s.lostByte (a + i) else s.mem.sram.read (a + i))

/-- Bytes of Granary as Junction reads them: those of an uncorrectable word are not delivered as valid, nor is any byte while Granary
cannot be reached (R33, R85; log 76). -/
def State.granBytes (s : State) (a n : Nat) : List Byte :=
  if !s.noGranary && s.mem.tornIn 2 a n = [] then s.mem.granary.readBytes a n
  else (List.range n).map (fun i =>
    if s.noGranary || s.mem.torn.contains (2, (a + i) / 32) then s.lostByte (a + i) else s.mem.granary.read (a + i))

/-! ## Writes of the memories (R31, R32) -/

/-- A write of `n` bytes at `a` first reads the words it fills in part (R32, R33). -/
def State.mergeRead (k : Fin 3) (a n : Nat) (s : State) : State := forAll (partWords a n) (fun w t => t.readWords k (32 * w) 32) s

/-- Write bytes to the Granary at a logical address (R31). -/
def State.granWrite (a : Nat) (l : List Byte) (s0 : State) : State :=
  let s := s0.mergeRead 2 a l.length
  { s with mem := { s.mem with
      granary := s.mem.granary.writeBytes a l, torn := s.mem.tornAfter 2 a l.length, soft := s.mem.softAfter 2 a l.length
      nvm := true, touched := s.tb } }

/-- Write bytes to Junction SRAM. -/
def State.sramWrite (a : Nat) (l : List Byte) (s0 : State) : State :=
  let s := s0.mergeRead 0 a l.length
  { s with mem := { s.mem with
      sram := s.mem.sram.writeBytes a l, torn := s.mem.tornAfter 0 a l.length, soft := s.mem.softAfter 0 a l.length } }

/-- Write bytes to Guard SRAM. -/
def State.guardWrite (a : Nat) (l : List Byte) (s0 : State) : State :=
  let s := s0.mergeRead 1 a l.length
  { s with mem := { s.mem with
      guard := s.mem.guard.writeBytes a l, torn := s.mem.tornAfter 1 a l.length, soft := s.mem.softAfter 1 a l.length } }

/-- Base of the statistics region (Table 01-7). -/
def statBase : Nat := 0x03000000

/-- A number of `n` bytes in the statistics region rises by `k`, saturating; with Granary absent the update is lost
(R460, R462), and so is one whose number lies in an uncorrectable word (R33; log 76). -/
def State.statAdd (off n k : Nat) (s : State) : State :=
  if k = 0 || s.noGranary then s
  else
    let t := s.granUse (statBase + off) n
    if s.mem.tornIn 2 (statBase + off) n = [] then
      t.granWrite (statBase + off) (leBytes n (min (s.mem.granary.nat (statBase + off) n + k) (256 ^ n - 1)))
    else t

/-- Counter `k` of an axis block rises by `n` (Table 17-6). -/
def State.statAxis (a : Fin 12) (k n : Nat) (s : State) : State := s.statAdd (0x4000 + a.val * 0x400 + 0x200 + 8 * k) 8 n

/-- Counter `k` of a portal block rises by one (Table 17-6). -/
def State.statPtl (p : Fin 8) (k : Nat) (s : State) : State := s.statAdd (0x1000 + p.val * 0x400 + 0x200 + 8 * k) 8 1

/-- Counter `k` of the vehicle block rises by `n` (Table 17-5). -/
def State.statVeh (k n : Nat) (s : State) : State := s.statAdd (0x8000 + 8 * k) 8 n

end Sys2Proof.Machine
end

