-- ==== Sys2Proof/Machine/Operands.lean ====
section
/-! DEFINITION. The number formats of the fields: roundings, square roots, the circle, speeds. -/

namespace Sys2Proof.Machine

/-- num/den where no rule states the rounding: the floor, or one more by a free choice when inexact (log 16). -/
def freeRound (site : Nat) (num : Int) (den : Nat) : Int :=
  let d : Int := max 1 den
  num / d + (if num % d = 0 then 0 else if Config.roundUp site num den then 1 else 0)

/-- num/den rounded to nearest, halves towards positive infinity (R251). -/
def roundHalfUp (num : Int) (den : Nat) : Int := (2 * num + (max 1 den : Nat)) / (2 * (max 1 den : Nat))

/-- num/den to the nearest, where no rule says which way a half goes: a free choice (log 16). -/
def freeNearest (site : Nat) (num : Int) (den : Nat) : Int :=
  let d : Int := max 1 den
  if 2 * (num % d) = d then num / d + (if Config.roundUp site num den then 1 else 0) else (2 * num + d) / (2 * d)

/-- The highest value of lo … hi at which a property that fails above some value holds, given that it holds at `lo`. -/
def highest (p : Nat → Bool) : Nat → Nat → Nat → Nat
  | 0, lo, _ => lo
  | f + 1, lo, hi =>
    if hi ≤ lo then lo
    else
      let mid := (lo + hi + 1) / 2
      if p mid then highest p f mid hi else highest p f lo (mid - 1)

/-- Integer square root, rounded down. -/
def isqrt (n : Nat) : Nat := highest (fun r => decide (r * r ≤ n)) (2 + n.log2) 0 n

/-! ## The circle: unit vectors scaled by 2^40 -/

/-- Scale of the unit vectors. -/
def unitScale : Nat := 2 ^ 40

/-- Product of two scaled complex numbers. -/
def cmul (a b : Int × Int) : Int × Int :=
  ((a.1 * b.1 - a.2 * b.2) / unitScale, (a.1 * b.2 + a.2 * b.1) / unitScale)

/-- The k-th power of a scaled unit vector, for k below 2^f. -/
def cpow (z : Int × Int) : Nat → Nat → Int × Int
  | 0, _ => (unitScale, 0)
  | f + 1, k =>
    let h := cpow z f (k / 2)
    let q := cmul h h
    if k % 2 = 1 then cmul q z else q

/-- (cos, sin) of k/1,024 of a turn, scaled by 2^40. -/
def turn1024 (k : Nat) : Int × Int := cpow (1099490929780, 6746476518) 10 (k % 1024)

/-- (cos, sin) of k hundredths of a degree, scaled by 2^40. -/
def turnCenti (k : Int) : Int × Int := cpow (1099511611029, 191900980) 16 (k % 36000).toNat

/-- Entry of the sequencer's table that stands for 1: at p = 0 phase A carries the whole amplitude (R187; log 17). -/
def tableOne : Nat := 32767

/-- An entry of the sequencer's table: cos of k/1,024 of a turn, to nearest, with the free error of at most one unit; on a single phase the
vector is whole (R187, R188; log 17). -/
def cosTable (k : Nat) : Int :=
  let v := (2 * (turn1024 k).1 * tableOne + unitScale) / (2 * unitScale)
  if k % 256 = 0 then v
  else clampI (-32767) 32767 (match Config.tableErr (k % 1024) with | none => v | some true => v + 1 | some false => v - 1)

/-- sin of k/1,024 of a turn, from the same table a quarter turn earlier. -/
def sinTable (k : Nat) : Int := cosTable (k + 768)

/-- Angle of a vector in hundredths of a degree, −18,000 to 18,000, rounded towards zero. -/
def angleCenti (x y : Int) : Int :=
  let f (y : Int) : Int := (highest (fun k => let r := turnCenti k; decide (0 ≤ r.1 * y - r.2 * x)) 16 0 18000 : Nat)
  if 0 ≤ y then (if y = 0 ∧ 0 ≤ x then 0 else f y) else -(f (-y))

/-- The angle of a vector as LOAD_ANGLE shows it: no rule rounds it, so that it is the one towards zero or the next, as a free choice has
it, where it is no multiple of 45 degrees (R203; log 16). -/
def freeAngle (x y : Int) : Int :=
  let a := angleCenti x y
  if x = 0 || y = 0 || x.natAbs = y.natAbs || !Config.roundUp 37 y x.natAbs then a else if 0 < y then a + 1 else a - 1

/-! ## Speeds -/

/-- RATE units of 2^-48 microstep per MOT clock for a speed of w/32,000 µstep/s, towards zero (R179). -/
def rateOf (w : Nat) : Nat := w * 2 ^ 48 / 5120000000000

/-- Register form, 8 fractional bits, of a RATE (R7, R181). -/
def velOfRate (r : Int) : Int := freeRound 1 (r * 160000000 * 256) (2 ^ 48)

/-- Σ of ⌊(a·i + b)/m⌋ for i < n, with a, b and m non-negative. -/
def floorSum : Nat → Nat → Nat → Nat → Nat → Nat
  | 0, _, _, _, _ => 0
  | f + 1, n, m, a, b =>
    if n = 0 ∨ m = 0 then 0
    else
      let t := n * (n - 1) / 2 * (a / m) + n * (b / m)
      let a' := a % m
      let b' := b % m
      let y := a' * n + b'
      if y < m then t else t + floorSum f (y / m) a' m (y % m)

/-! ## CRC-32 of IEEE 802.3 (R447, R474) -/

/-- One bit of the reflected CRC. -/
def crcBit (c : Word) : Word := if bit c 0 then (c >>> 1) ^^^ 0xEDB88320 else c >>> 1

/-- One byte of the reflected CRC. -/
def crcByte (c : Word) (b : Byte) : Word :=
  let x := c ^^^ BitVec.ofNat 32 b.toNat
  crcBit (crcBit (crcBit (crcBit (crcBit (crcBit (crcBit (crcBit x)))))))

/-- CRC-32 of bytes. -/
def crc32 (l : List Byte) : Word := ~~~(l.foldl crcByte 0xFFFFFFFF)

end Sys2Proof.Machine
end

