-- ==== Sys2Proof/Machine/Flags.lean ====
section
/-! DEFINITION. The FLAGS words of the blocks: a flag that becomes 1 sets PG_IRQ bit 8 + k of its page (R186, R214,
R243, R261, R296, R298, R358, R397, R420, R446, R464, R489, R508). -/

namespace Sys2Proof.Machine


/-- Set bit `k` of AX FLAGS. -/
def State.axFlag0 (i : Fin 12) (k : Nat) (s : State) : State :=
  let r := s.flagIrq (.ax i) s.ax[i].flags (BitVec.ofNat 32 (2 ^ k))
  { r.2 with ax := upd r.2.ax i (fun x => { x with flags := r.1 }) }

/-- Set bit `k` of DRV FLAGS. -/
def State.drvFlag (i : Fin 12) (k : Nat) (s : State) : State :=
  let r := s.flagIrq (.drv i) s.coil[i].flags (BitVec.ofNat 32 (2 ^ k))
  { r.2 with coil := upd r.2.coil i (fun x => { x with flags := r.1 }) }

/-- Page of a feedback channel: 0 to 11 FB00 to FB11, 12 and 13 FBX0 and FBX1 (R258). -/
def fbPage (i : Fin 14) : PageId := if h : i.val < 12 then .fb ⟨i.val, h⟩ else .fbx ⟨i.val - 12, by omega⟩

/-- Set bit `k` of FB FLAGS. -/
def State.fbFlag (i : Fin 14) (k : Nat) (s : State) : State :=
  let r := s.flagIrq (fbPage i) s.fb[i].flags (BitVec.ofNat 32 (2 ^ k))
  { r.2 with fb := upd r.2.fb i (fun x => { x with flags := r.1 }) }

/-- Set bit `k` of GEAR FLAGS. -/
def State.gearFlag (i : Fin 12) (k : Nat) (s : State) : State :=
  let r := s.flagIrq (.gear i) s.gear[i].flags (BitVec.ofNat 32 (2 ^ k))
  { r.2 with gear := upd r.2.gear i (fun x => { x with flags := r.1 }) }

/-- Set bit `k` of CAM FLAGS. -/
def State.camFlag (i : Fin 4) (k : Nat) (s : State) : State :=
  let r := s.flagIrq (.cam i) s.cam[i].flags (BitVec.ofNat 32 (2 ^ k))
  { r.2 with cam := upd r.2.cam i (fun x => { x with flags := r.1 }) }

/-- Set bit `k` of PTL FLAGS. -/
def State.ptlFlag (i : Fin 8) (k : Nat) (s : State) : State :=
  let r := s.flagIrq (.ptl i) s.ptl[i].flags (BitVec.ofNat 32 (2 ^ k))
  { r.2 with ptl := upd r.2.ptl i (fun x => { x with flags := r.1 }) }

/-- Set bit `k` of SIDE FLAGS. -/
def State.sideFlag (i : Fin 2) (k : Nat) (s : State) : State :=
  let r := s.flagIrq (.side i) s.side[i].flags (BitVec.ofNat 32 (2 ^ k))
  { r.2 with side := upd r.2.side i (fun x => { x with flags := r.1 }) }

/-- Set bit `k` of LSW FLAGS. -/
def State.lswFlag (i : Fin 24) (k : Nat) (s : State) : State :=
  let r := s.flagIrq (.lsw i) s.lsw[i].flags (BitVec.ofNat 32 (2 ^ k))
  { r.2 with lsw := upd r.2.lsw i (fun x => { x with flags := r.1 }) }

/-- Set bit `k` of CAN FLAGS. -/
def State.canFlag (i : Fin 4) (k : Nat) (s : State) : State :=
  let r := s.flagIrq (.can i) s.can[i].flags (BitVec.ofNat 32 (2 ^ k))
  { r.2 with can := upd r.2.can i (fun x => { x with flags := r.1 }) }

/-- Set bit `k` of STN FLAGS. -/
def State.stnFlag (i : Fin 16) (k : Nat) (s : State) : State :=
  let r := s.flagIrq (.stn i) s.stn[i].flags (BitVec.ofNat 32 (2 ^ k))
  { r.2 with stn := upd r.2.stn i (fun x => { x with flags := r.1 }) }

/-- Set bit `k` of EVQ FLAGS. -/
def State.evqFlag (i : Fin 8) (k : Nat) (s : State) : State :=
  let r := s.flagIrq (.evq i) s.evq[i].flags (BitVec.ofNat 32 (2 ^ k))
  { r.2 with evq := upd r.2.evq i (fun x => { x with flags := r.1 }) }

/-- Set bit `k` of LSWG FLAGS. -/
def State.lswgFlag (k : Nat) (s : State) : State :=
  let r := s.flagIrq .lswg s.lswg.flags (BitVec.ofNat 32 (2 ^ k))
  { r.2 with lswg := { r.2.lswg with flags := r.1 } }

/-- Set bit `k` of PRG FLAGS. -/
def State.prgFlag (k : Nat) (s : State) : State :=
  let r := s.flagIrq .prg s.prg.flags (BitVec.ofNat 32 (2 ^ k))
  { r.2 with prg := { r.2.prg with flags := r.1 } }

/-- Set bit `k` of REC FLAGS. -/
def State.recFlag (k : Nat) (s : State) : State :=
  let r := s.flagIrq .recd s.recd.flags (BitVec.ofNat 32 (2 ^ k))
  { r.2 with recd := { r.2.recd with flags := r.1 } }

/-- Set bit `k` of PAIR FLAGS. -/
def State.pairFlag (k : Nat) (s : State) : State :=
  let r := s.flagIrq .pair s.pair.flags (BitVec.ofNat 32 (2 ^ k))
  { r.2 with pair := { r.2.pair with flags := r.1 } }

/-- Set bit `k` of SEC FLAGS. -/
def State.secFlag (k : Nat) (s : State) : State :=
  let r := s.flagIrq .sec s.sec.flags (BitVec.ofNat 32 (2 ^ k))
  { r.2 with sec := { r.2.sec with flags := r.1 } }

end Sys2Proof.Machine
end

