-- ==== Sys2Proof/Machine/Planner.lean ====
section
/-! DEFINITION. The motion planner's arithmetic (R153 to R178): speeds in units of 1/32,000 µstep/s, in which a register
speed is 125 units per 1/256 µstep/s and an acceleration of a µsteps/s² changes speed by 2a units per control period;
positions in units of 1/1,024,000,000 µstep, in which a period from w0 to w1 travels w0 + w1 units. Every period is
exact in these units. -/

namespace Sys2Proof.Machine

/-- Position units in one microstep. -/
def unitsPerStep : Nat := 1024000000

/-- Half a microstep: a rate multiplier starts from rest half a microstep on, so it emits the target microstep half a microstep before the
planned position reaches the target (R180). -/
def halfStep : Nat := 512000000

/-- Speed units of a register speed. -/
def spd (v : Nat) : Nat := v * 125

/-- The limits and caps a plan obeys (R161, R162, R122). -/
structure Bounds where
  /-- Lowest position in microsteps. -/
  lo : Int := -(2 ^ 39)
  /-- Highest position in microsteps. -/
  hi : Int := 2 ^ 39 - 1
  /-- Cap on every move's top speed, register form (R122). -/
  cap : Nat := 0xFFFFFFFF
  /-- QDEC. -/
  qdec : Nat := 512000
  deriving DecidableEq, Repr

/-! ## The discretised law -/

/-- Speed one period of deceleration later, towards end speed `we` (R155, R156): D2 above V_BREAK, D1 below; a period
that would pass V_BREAK or the end speed ends on it exactly. -/
def decNext (pr : Profile) (w we : Nat) : Nat :=
  let wb := spd pr.vBreak
  if wb < w then max (max wb we) (w - 2 * pr.d2) else max we (w - 2 * pr.d1)

/-- Speed one period of acceleration later, up to `top` (R155, R156). -/
def accNext (pr : Profile) (w top : Nat) : Nat :=
  let wb := spd pr.vBreak
  if w < wb then min (min wb top) (w + 2 * pr.a1) else min top (w + 2 * pr.a2)

/-- Distance of a deceleration from `w` to `we` at `d` µsteps/s² in whole periods, the last one smaller (R156). -/
def segDist (w we d : Nat) : Nat :=
  if w ≤ we then 0
  else
    let n := ceilDiv (w - we) (2 * max 1 d)
    w + we + 2 * ((n - 1) * w - max 1 d * (n * (n - 1)))

/-- Stopping distance of R157 in position units, before rounding to a whole microstep. -/
def decDist (pr : Profile) (w we : Nat) : Nat :=
  let wb := spd pr.vBreak
  if w ≤ we then 0
  else if wb ≤ we then segDist w we pr.d2
  else if w ≤ wb then segDist w we pr.d1
  else segDist w wb pr.d2 + segDist wb we pr.d1

/-- S of R157 as every test of fit uses it: rounded up to a whole microstep, in position units. -/
def stopDist (pr : Profile) (w we : Nat) : Nat := ceilDiv (decDist pr w we) unitsPerStep * unitsPerStep

/-- S(v, ve) of R157, rounded up to a whole microstep; register speeds. -/
def stopS (pr : Profile) (v ve : Nat) : Nat := ceilDiv (decDist pr (spd v) (spd ve)) unitsPerStep

/-- The lowest register speed to which full deceleration from `w` comes within `dist` position units. -/
def slowest (pr : Profile) (w dist : Nat) : Nat :=
  let top := ceilDiv w 125
  top - highest (fun k => decide (stopDist pr w (spd (top - k)) ≤ dist)) 40 0 top

/-- Highest register speed, at least `ve` and at most `top`, whose S down to `ve` fits in `dist` microsteps (R158,
bound 3 of R164). -/
def fitSpeed (pr : Profile) (ve top dist : Nat) : Nat :=
  highest (fun v => decide (stopS pr v ve ≤ dist)) 40 ve (max ve top)

/-- Speed after whole periods of acceleration that end within `dist` position units, starting at `w` (bound 4 of R164). -/
def accReach (pr : Profile) (w top dist : Nat) : Nat :=
  let wb := spd pr.vBreak
  let run (w a lim d : Nat) : Nat × Nat :=
    if lim ≤ w then (w, d)
    else
      let k := highest (fun k => decide (2 * k * w + 2 * a * k * k ≤ d)) 40 0 ((lim - w) / (2 * max 1 a))
      let w1 := w + 2 * a * k
      let d1 := d - (2 * k * w + 2 * a * k * k)
      if k = (lim - w) / (2 * max 1 a) ∧ w1 < lim ∧ w1 + lim ≤ d1 then (lim, d1 - (w1 + lim)) else (w1, d1)
  let r := run w pr.a1 (min wb top) dist
  if r.1 < min wb top then r.1 else (run r.1 pr.a2 top r.2).1

/-! ## Moves -/

/-- A move's top speed in register form (R155, R122): MV_VMAX where given, otherwise V_MAX; MV_VEL for a VEL move. -/
def Move.top (pr : Profile) (b : Bounds) (m : Move) : Nat :=
  min b.cap (if m.kind = 2 then m.vel else if m.vmax = 0 then pr.vMax else m.vmax)

/-- Start speed of an ABS or REL move from rest over `dist` microsteps (R158). -/
def startSpeed (pr : Profile) (b : Bounds) (m : Move) (dist : Nat) : Nat :=
  let v := min pr.vStart (m.top pr b)
  if m.kind = 2 then v else min v (fitSpeed pr pr.vStop v dist)

/-- Targets of a list of moves in order, from a position and a direction: move, base, target, and direction of travel. A move that
covers nothing keeps the direction, and a VEL move, whose end is not known beforehand, has base and target equal. -/
def legs : Int → Bool → List Move → List (Move × Int × Int × Bool)
  | _, _, [] => []
  | x, neg, m :: l =>
    let y : Int := m.goal * unitsPerStep
    if m.kind = 2 then (m, x, x, m.neg) :: legs x m.neg l
    else
      let d := if y = x then neg else decide (y < x)
      (m, x, y, d) :: legs y d l

/-- Backward pass of R165: the end speed of each leg by bounds 1 to 3, none where the axis rests at it. -/
def backPass (pr : Profile) (b : Bounds) : List (Move × Int × Int × Bool) → List (Option Nat)
  | [] => []
  | [_] => [none]
  | (m, _, _, d) :: (n, y0, y1, e) :: l =>
    let rest := backPass pr b ((n, y0, y1, e) :: l)
    let top := min (m.top pr b) (n.top pr b)
    let v : Option Nat :=
      if m.kind = 2 || n.late || d ≠ e then none
      else if n.kind = 2 then some top
      else
        let ve := (rest.headD none).getD pr.vStop
        some (min top (fitSpeed pr (min ve top) top ((y1 - y0).natAbs / unitsPerStep)))
    v :: rest

/-- Forward pass of R165: bound 4, each joint no faster than the move before it can reach from its start speed; a move behind a VEL move
starts from that move's velocity. One that starts from rest below V_STOP keeps its speed and steps to zero at its target (R158, log 30). -/
def forePass (pr : Profile) (b : Bounds) (w : Nat) : List (Move × Int × Int × Bool) → List (Option Nat) → List (Option Nat)
  | (m, x0, x1, _) :: l, e :: es =>
    let dist := (x1 - x0).natAbs
    let w0 := if w = 0 then spd (startSpeed pr b m (dist / unitsPerStep)) else w
    if m.kind = 2 then e :: forePass pr b (spd (m.top pr b)) l es
    else if w = 0 && decide (0 < w0) && decide (w0 < spd pr.vStop) then none :: forePass pr b 0 l es
    else
      let e' := e.map (fun v => min v (max (w0 / 125) (accReach pr w0 (spd (m.top pr b)) dist / 125)))
      e' :: forePass pr b (match e' with | some v => spd v | none => 0) l es
  | _, _ => []

/-- End speeds of the moves held, from a position, direction and speed (R164, R165). A joint speed of zero is a rest. -/
def joints (pr : Profile) (b : Bounds) (x : Int) (neg : Bool) (w : Nat) (ms : List Move) : List (Option Nat) :=
  (forePass pr b w (legs x neg ms) (backPass pr b (legs x neg ms))).map (fun e => if e = some 0 then none else e)

/-- The junction speed at the next joint ahead, 0 if there is none (R165): a VEL move ends in no joint. -/
def nextJoint : List Move → List (Option Nat) → Nat
  | m :: n :: l, e :: es => if m.kind = 2 then nextJoint (n :: l) es else e.getD 0
  | _, _ => 0

/-- Joint speeds raised to what the axis can still slow to before them, where a profile comes into force while it moves (R178). -/
def liftEnds (pr : Profile) (p : Plan) (es : List (Option Nat)) : List (Option Nat) :=
  List.zipWith (fun (m : Move) (e : Option Nat) => e.map (fun v => max v (slowest pr p.w (m.goal * unitsPerStep - p.x).natAbs))) p.moves es

/-! ## Stops -/

/-- Position of rest of a stop without target (R160): where the ramp from `w` to V_STOP ends, or the first whole
microstep beyond it in the direction of motion. -/
def restPoint (x : Int) (neg : Bool) (dist : Nat) : Int :=
  let u : Int := unitsPerStep
  if neg then (x - dist) / u * u else -((-(x + dist)) / u) * u

/-- Deceleration profile of a stop: D2 and D1, or one rate straight to V_STOP (R160). -/
def stopProfile (pr : Profile) (rate : Option Nat) : Profile :=
  match rate with
  | none => pr
  | some r => { pr with d1 := r, d2 := r, vBreak := 0 }

/-- Put a stop in the plan, replacing its moves by those that follow the rest (R160, R167, R282); at rest there is none to make. The
position of rest in `k` is filled in. -/
def Plan.beginStop (pr : Profile) (b : Bounds) (k : StopPlan) (after : List Move) (p : Plan) : Plan :=
  let q : Plan := { p with moves := after, held := none, fixed := false, noRaise := false, mayPass := false, begun := p.begun && k.turn }
  if p.w = 0 then { q with ends := joints pr b p.x p.neg 0 after, stop := none, dec := false, old := none }
  else
    let dest := restPoint p.x p.neg (decDist (stopProfile pr k.rate) p.w (spd pr.vStop))
    { q with ends := joints pr b dest p.neg 0 after, stop := some { k with dest }, dec := true }

/-! ## One period -/

/-- Moves at the head of a plan at rest that complete at once (R158, R163): the plan without them and their number. -/
def Plan.settle (b : Bounds) : Nat → Plan → Nat → Plan × Nat
  | 0, p, n => (p, n)
  | f + 1, p, n =>
    match p.moves with
    | m :: l =>
      if p.w = 0 ∧ (m.kind ≠ 2 ∧ m.goal * unitsPerStep = p.x ∨ m.kind = 2 ∧ min b.cap m.vel = 0) then
        Plan.settle b f { p with moves := l, ends := p.ends.tail, back := false, old := none, begun := false, mayPass := false } (n + 1)
      else (p, n)
    | [] => (p, n)

/-- A period at constant acceleration from `w0` to `w1` that does not end anything. -/
def Plan.run (p : Plan) (w0 w1 : Nat) (neg : Bool) (st : AxState) (done : Nat) : Period :=
  let x := if neg then p.x - (w0 + w1 : Nat) else p.x + (w0 + w1 : Nat)
  { w0, w1, neg, x, done, st, plan := { p with x, w := w1, neg } }

/-- A period in which the axis comes to rest at `x` (R156, R179). -/
def Plan.land (p : Plan) (w0 w1 : Nat) (neg : Bool) (x : Int) (st : AxState) (done : Nat) : Period :=
  { w0, w1, neg, x, done, st, stop := true,
    plan := { p with x, w := 0, neg, dec := false, noRaise := false, fixed := false, mayPass := false, old := none } }

/-- The period of a stop in progress: once its deceleration has begun it holds no speed any more, and runs what is left at the end speed
(R156, R177). -/
def Plan.stopPeriod (pr : Profile) (p : Plan) (k : StopPlan) (done : Nat) : Period :=
  let r := (k.dest - p.x).natAbs
  let holds := k.hold && decide (2 * p.w + stopDist (stopProfile pr k.rate) p.w (spd pr.vStop) ≤ r)
  let w1 := if p.w ≤ spd pr.vStop || holds then p.w else decNext (stopProfile pr k.rate) p.w (spd pr.vStop)
  let st := if k.shown then AxState.stopping else .decel
  if r ≤ p.w + w1 + halfStep then
    { Plan.land { p with stop := none } p.w w1 p.neg k.dest st (done + b2n k.unfinished) with limitHit := k.limit }
  else { Plan.run { p with stop := some { k with hold := holds } } p.w w1 p.neg st done with lastDecel := !k.shown && p.moves.isEmpty }

/-- The speed chosen for the end of a period of an ABS or REL move with `r` units left and end speed `we` (R155, R156,
R158, R177), with whether the final deceleration has begun. -/
def Plan.choose (pr : Profile) (p : Plan) (w we top r : Nat) : Nat × Bool :=
  let final := (decNext pr w (min w we), true)
  if p.fixed then (w, false)
  else if p.dec then final
  else if top < w then
    let d := decNext pr w top
    if w + d + stopDist pr d we ≤ r then (d, false) else final
  else
    let a := accNext pr w top
    if !p.noRaise && decide (w < a) && decide (w + a + stopDist pr a we ≤ r) then (a, false)
    else if 2 * w + stopDist pr w we ≤ r && decide (0 < w) then (w, false)
    else final

/-- AX STATE of a period (R184). CRUISE is shown at any constant speed that no completed VEL move holds, below the top speed too (DESIGN
CHOICE, log 45). -/
def stateOf (w0 w1 : Nat) (dec : Bool) : AxState :=
  if w0 < w1 then .accel else if w1 < w0 || dec then .decel else .cruise

/-- End speed of the active move (R155). -/
def Plan.endSpeed (pr : Profile) (p : Plan) : Nat := match p.ends.headD none with | some v => spd v | none => spd pr.vStop

/-- The ABS and REL moves whose ends lie within `t` units of the plan's position, or whose target microstep is emitted where the axis rests
at it: the plan without them, their number, and the target at which it rests (R163, R180). -/
def Plan.pass : Nat → Nat → Plan → Nat → Plan × Nat × Option Int
  | 0, _, p, n => (p, n, none)
  | f + 1, t, p, n =>
    match p.moves with
    | m :: l =>
      let y : Int := m.goal * unitsPerStep
      let rests := (p.ends.headD none).isNone
      if m.kind = 2 || decide (t + (if rests then halfStep else 0) < (y - p.x).natAbs) then (p, n, none)
      else
        let q : Plan := { p with moves := l, ends := p.ends.tail, back := false, mayPass := false }
        match p.ends.headD none with
        | none => ({ q with begun := false }, n + 1, some y)
        | some _ => Plan.pass f t { q with dec := false, noRaise := false, fixed := false, begun := decide (l ≠ []) } (n + 1)
    | [] => (p, n, none)

/-- Units from the plan's position to the target of its first move; none where a VEL move or nothing is first. -/
def Plan.room (p : Plan) : Option Nat :=
  match p.moves with
  | m :: _ => if m.kind = 2 then none else some (m.goal * unitsPerStep - p.x).natAbs
  | [] => none

/-- A period from `w` to `w1` of moves that follow each other: every joint in it is passed at the one acceleration it keeps (R156). `dec`
and `next` say whether the final deceleration of the move that ends, or of the one then active, has begun. After a joint an old profile is
given up, unless the new one cannot stop from here (R176, R178; log 46). -/
def Plan.through (pr0 : Profile) (p : Plan) (w w1 : Nat) (neg dec next : Bool) (done : Nat) : Period :=
  let g := p.pass 17 (w + w1) 0
  let q := g.1
  let st := stateOf w w1 (dec || next)
  let joint := if g.2.1 = 0 then none else p.ends.headD none
  match g.2.2 with
  | some y => { Plan.land q w w1 neg y st (done + g.2.1) with joint }
  | none =>
    if g.2.1 = 0 then Plan.run { p with dec := dec || next } w w1 neg st done
    else
      let keep := match q.room with | some r => decide (r < w + w1 + stopDist pr0 w1 (q.endSpeed pr0)) | none => false
      { Plan.run { q with old := if keep then q.old else none, dec := next } w w1 neg st (done + g.2.1) with joint }

/-- The period of an ABS or REL move that is moving towards its target, from speed `w` (R155 to R167). Where it takes a joint, the next
move must still be able to end from the speed it leaves. -/
def Plan.movePeriod (pr pr0 : Profile) (b : Bounds) (p0 : Plan) (m : Move) (w : Nat) (neg : Bool) (done : Nat) : Period :=
  let p : Plan := { p0 with begun := true, mayPass := false }
  let r := (m.goal * unitsPerStep - p.x).natAbs
  let c := p.choose pr w (p.endSpeed pr) (spd (m.top pr b)) r
  let g := p.pass 17 (w + c.1) 0
  let we := g.1.endSpeed pr
  let ends : Bool := match g.2.2, g.1.room with
    | some _, _ => decide (g.2.1 ≤ 1) || decide (c.1 ≤ spd pr.vStop)
    | none, some d => decide (g.2.1 = 0) || decide (w + c.1 + stopDist pr c.1 we ≤ d)
    | none, none => true
  if ends then { p.through pr0 w c.1 neg c.2 false done with lastDecel := c.2 && decide (p.moves.length = 1) }
  else
    let low := if g.2.2.isSome then spd pr.vStop else we
    { p.through pr0 w (decNext pr w (min w low)) neg c.2 true done with lastDecel := decide (g.1.moves.length ≤ 1) }

/-- The VEL move, or the held velocity, of a plan ends in a stop; `unfinished` moves complete at the rest. -/
def Plan.velStop (pr : Profile) (b : Bounds) (k : StopPlan) (held : Bool) (p : Plan) : Plan :=
  p.beginStop pr b { k with unfinished := !held } (if held then p.moves else p.moves.tail)

/-- The period of a VEL move, or of a held velocity, towards `v` in direction `neg` from speed `w` (R155, R162, R166). -/
def Plan.velPeriod (pr : Profile) (b : Bounds) (p0 : Plan) (v w : Nat) (neg : Bool) (held : Bool) (done : Nat) : Period :=
  let p : Plan := { p0 with begun := !held }
  let vt := min b.cap v
  let lim : Int := (if neg then b.lo else b.hi) * unitsPerStep
  let room : Int := if neg then p.x - lim else lim - p.x
  let r := room.toNat
  let ws := spd pr.vStop
  let finish (w1 : Nat) (q : Plan) : Plan :=
    if held || w1 ≠ spd vt then q
    else { q with moves := q.moves.tail, ends := q.ends.tail, held := some v, noRaise := false, old := none, begun := false }
  let n1 (w1 : Nat) : Nat := if held || w1 ≠ spd vt then 0 else 1
  let w1 := if w < spd vt then (if p.noRaise then w else accNext pr w (spd vt)) else if spd vt < w then decNext pr w (spd vt) else w
  let shown (w1 : Nat) : AxState := if held && w1 = w then .holdVel else stateOf w w1 false
  let atOnce : Bool := !held && w = spd vt
  let stopAt (q : Plan) : Period := match q.stop with
    | some k => Plan.stopPeriod pr q k done
    | none => { Plan.run q 0 0 neg .idle (done + b2n !held) with limitHit := true }
  if vt = 0 then
    -- the velocity is zero: the axis comes to rest from V_STOP at a whole microstep (R155, R160)
    stopAt (Plan.velStop pr b {} held p)
  else if decide (0 ≤ room) && decide (w + w1 + stopDist pr w1 ws ≤ r) then
    if atOnce then { Plan.run (finish w1 p) w w1 neg .holdVel done with early := 1 }
    else Plan.run (finish w1 p) w w1 neg (shown w1) (done + n1 w1)
  else if decide (0 ≤ room) && decide (2 * w + stopDist pr w ws ≤ r) && decide (0 < w) then
    if atOnce then { Plan.run (finish w p) w w neg .holdVel done with early := 1 }
    else Plan.run (finish w p) w w neg (shown w) (done + n1 w)
  else if decide (0 ≤ room) && decide (stopDist pr w ws ≤ r) then
    -- the final deceleration to the limit (R162)
    let k : StopPlan := { dest := lim, limit := true, unfinished := !held }
    let q : Plan := { p with w, neg, stop := some k, dec := true, held := none, begun := false
                             moves := if held then p.moves else p.moves.tail, ends := if held then p.ends else p.ends.tail }
    if r = 0 || p.w = 0 then { Plan.land { q with stop := none } 0 0 neg p.x .idle (done + b2n !held) with limitHit := true }
    else Plan.stopPeriod pr q k done
  else
    -- too close to stop there with D2 and D1: stopped as for QSTOP, which discards every move (R160, R162)
    { stopAt ({ p with neg }.beginStop pr b { rate := some b.qdec, limit := true, shown := true } []) with drop := p.moves.length }

/-- A stop at a limit, held against the limit as it is now: a nearer one that D2 and D1 no longer reach stops the axis as QSTOP, which
discards every move (R160, R162). -/
def Plan.limitPeriod (pr : Profile) (b : Bounds) (p : Plan) (k : StopPlan) (done : Nat) : Period :=
  let lim : Int := (if p.neg then b.lo else b.hi) * unitsPerStep
  let dest := if p.neg then max k.dest lim else min k.dest lim
  let room : Int := if p.neg then p.x - dest else dest - p.x
  if dest = k.dest || (decide (0 ≤ room) && decide (stopDist pr p.w (spd pr.vStop) ≤ room.toNat)) then p.stopPeriod pr { k with dest } done
  else
    let q := p.beginStop pr b { k with rate := some b.qdec, shown := true, unfinished := false } []
    let n := p.moves.length + b2n k.unfinished
    match q.stop with
    | some k => { q.stopPeriod pr k done with drop := n }
    | none => { Plan.run q 0 0 p.neg .idle done with drop := n }

/-- The period that begins the turn of the active move: to zero with D2 and D1, from where it goes on from rest (R166, R167). -/
def Plan.turnPeriod (pr : Profile) (b : Bounds) (p : Plan) (done : Nat) : Period :=
  let q := p.beginStop pr b { turn := true } p.moves
  match q.stop with
  | some k => { q.stopPeriod pr k done with lastDecel := false }
  | none => Plan.run q 0 0 p.neg .idle done

/-- The first period of an ABS or REL move from rest (R158): one that runs at one speed steps to zero at its target, whatever follows it. One
whose top speed is capped at zero does not move (R122). -/
def Plan.startPeriod (pr pr0 : Profile) (b : Bounds) (p : Plan) (m : Move) (done : Nat) : Period :=
  let tgt : Int := m.goal * unitsPerStep
  let neg := decide (tgt < p.x)
  let dist := (tgt - p.x).natAbs
  let top := m.top pr b
  let v0 := startSpeed pr b m (dist / unitsPerStep)
  let fixed (v : Nat) : Period := Plan.movePeriod pr pr0 b { p with fixed := true, ends := none :: p.ends.tail } m (spd v) neg done
  if top = 0 then { Plan.run p 0 0 p.neg .idle done with stop := true }
  else if v0 = 0 then
    let w1 := accNext pr 0 (spd top)
    if decide (0 < w1) && decide (w1 + stopDist pr w1 (p.endSpeed pr) ≤ dist) then p.movePeriod pr pr0 b m 0 neg done
    else fixed (max 1 (min pr.vStop top))
  else if v0 < pr.vStop then fixed v0
  else p.movePeriod pr pr0 b m (spd v0) neg done

/-- The next control period of a plan whose moves that complete at once are taken out (R155 to R169). A move that starts has its joints
computed from where it starts. -/
def Plan.next0 (pr0 : Profile) (b : Bounds) (p : Plan) : Period :=
  let done := 0
  let pr := (p.old).getD pr0
  match p.stop with
  | some k => if k.limit && k.rate.isNone then p.limitPeriod pr b k done else p.stopPeriod pr k done
  | none =>
    match p.moves with
    | [] =>
      match p.held with
      | some v => if p.w = 0 then { Plan.run { p with held := none } 0 0 p.neg .idle done with stop := true }
                  else p.velPeriod pr b v p.w p.neg true done
      | none => { Plan.run { p with w := 0 } 0 0 p.neg .idle done with stop := true }
    | m :: _ =>
      let p : Plan := { p with
        held := none, mayPass := p.mayPass || p.held.isSome
        ends := if p.w = 0 || !p.begun then joints pr b p.x p.neg p.w p.moves else p.ends }
      if m.kind = 2 then
        if p.w = 0 then
          p.velPeriod pr b m.vel (spd (startSpeed pr b m 0)) m.neg false done
        else if p.neg = m.neg then p.velPeriod pr b m.vel p.w p.neg false done
        -- the sign reverses: to zero from V_STOP, then from V_START the other way (R166)
        else { p with begun := true }.turnPeriod pr b done
      else if p.w = 0 then { p.startPeriod pr pr0 b m done with returned := p.back }
      else
        let tgt : Int := m.goal * unitsPerStep
        let ahead : Bool := if p.neg then decide (tgt ≤ p.x) else decide (p.x ≤ tgt)
        -- the target cannot be reached without passing it (R167)
        if !ahead || (p.mayPass && !p.fixed && decide ((tgt - p.x).natAbs < stopDist pr p.w (p.endSpeed pr))) then
          { p with back := true, begun := true }.turnPeriod pr b done
        else p.movePeriod pr pr0 b m p.w p.neg done

/-- The next control period of a plan (R155 to R169). -/
def Plan.next (pr : Profile) (b : Bounds) (p : Plan) : Period :=
  let r := p.settle b 17 0
  let q := Plan.next0 pr b r.1
  { q with early := q.early + r.2 }

/-- A plan holds nothing that moves the axis. -/
def Plan.idle (p : Plan) : Bool := p.moves.isEmpty && p.stop.isNone && p.held.isNone && decide (p.w = 0)

/-- Periods planned from a plan, as far as its moves reach, at most `n` (R169). -/
def planAhead (pr : Profile) (b : Bounds) : Nat → Plan → List Period
  | 0, _ => []
  | n + 1, p => if p.idle then [] else let q := p.next pr b; q :: planAhead pr b n q.plan

end Sys2Proof.Machine
end

