-- ==== Sys2Proof/Machine/Axis.lean ====
section
/-! DEFINITION. Axes: acceptance of commands, the queue, the Furrow, squashes, HALT, and the setpoints sent to the
Plough dies (R153 to R186). -/

namespace Sys2Proof.Machine

/-! ## What an axis reads of its pages -/

/-- Committed profile of an axis (Table 07-10). -/
def State.profile (s : State) (a : Fin 12) : Profile :=
  let g (o : Nat) : Nat := (s.com (.ax a) o).toNat
  ⟨g 0x060, g 0x064, g 0x068, g 0x06C, g 0x070, g 0x074, g 0x078, g 0x07C⟩

/-- Soft limits of an axis: LIM_LO to LIM_HI with LIM_CFG.EN = 1, the range ends always; the cap of SERVICE (R122, R162). -/
def State.bounds (s : State) (a : Fin 12) : Bounds :=
  let p : PageId := .ax a
  let full := s.cf p 0x090 0 1 = 0
  { lo := if full then -(2 ^ 39) else sx 40 ((s.com p 0x080).toNat + 2 ^ 32 * s.cf p 0x084 0 8)
    hi := if full then 2 ^ 39 - 1 else sx 40 ((s.com p 0x088).toNat + 2 ^ 32 * s.cf p 0x08C 0 8)
    cap := if s.mc.mode = .service then s.cfg.svcVmax else 0xFFFFFFFF
    qdec := (s.com p 0x094).toNat }

/-- The portals in use and their member axes: LEAF0, LEAF1, STEP of a portal (R262, Table 11-8); 15 is none. -/
def State.member (s : State) (p : Fin 8) (k : Nat) : Option (Fin 12) :=
  let n := fld s.cfg.assign0[p] (4 * k) 4
  if h : n < 12 then (if fld s.cfg.assign0[p] 0 4 = 15 then none else some ⟨n, h⟩) else none

/-- The portal an axis belongs to, with its place in it (R268). -/
def State.portalOf (s : State) (a : Fin 12) : Option (Fin 8 × Nat) :=
  ((List.finRange 8).flatMap (fun p => [(p, 0), (p, 1), (p, 2)])).find? (fun (p, k) => s.member p k = some a)

/-- Level of a DIN input named by number, in SEQ order (R239); a number above 47 is none. -/
def State.dinSeq (s : State) (n : Nat) : Bool := if h : n < 48 then s.din[(⟨n, h⟩ : Fin 48)].seqLevel else false

/-- An axis is driven by an engine (R244). -/
def Axis.following (x : Axis) : Bool := x.engine.isSome

/-- AX.OWNER: 2 while an engine drives the axis, 1 where host software owns it, otherwise 0 (Table 07-10). -/
def State.axOwner (s : State) (a : Fin 12) : Nat :=
  if s.ax[a].following || s.ax[a].leaving then 2
  else if s.mc.mode = .service || bit s.cfg.axHost a.val then 1 else 0

/-- The writer owns the axis (R161, R268): in SERVICE host software; otherwise host software owns the axes the
configuration image marks, and a member axis takes commands from the door cycle alone. -/
def State.ownsAxis (s : State) (wr : Writer) (a : Fin 12) : Bool :=
  if s.mc.mode = .service then wr = .host
  else if (s.portalOf a).isSome then wr = .doorCycle
  else if bit s.cfg.axHost a.val then wr = .host
  else wr ≠ .host

/-! ## The Furrow -/

/-- The plan of an axis at rest. -/
def restPlan (pos : Int) : Plan := { x := pos * unitsPerStep }

/-- A zero-speed period at rest. -/
def restPeriod (p : Plan) : Period := { x := p.x, stop := true, plan := { p with w := 0 } }

/-- The commit-point state: what is planned for the end of the committed period (R170). -/
def Axis.commitPlan (x : Axis) : Plan :=
  match x.furrow with
  | _ :: q :: _ => q.plan
  | [q] => q.plan
  | [] => restPlan x.pos

/-- The running and the committed period; zero-speed ones where nothing is planned (R169). -/
def Axis.front (x : Axis) : List Period :=
  match x.furrow with
  | a :: b :: _ => [a, b]
  | [a] => [a, restPeriod a.plan]
  | [] => [restPeriod (restPlan x.pos), restPeriod (restPlan x.pos)]

/-- The uncommitted setpoints (R169). -/
def Axis.uncommitted (x : Axis) : List Period := x.furrow.drop 2

/-- The axis moves or has motion planned (R171). -/
def Axis.active (x : Axis) : Bool :=
  x.furrow.any (fun q => decide (q.w0 ≠ 0) || decide (q.w1 ≠ 0) || !q.plan.idle)

/-- The axis moves: its running setpoint has a speed. -/
def Axis.moves (x : Axis) : Bool := match x.furrow with | q :: _ => decide (q.w0 ≠ 0) || decide (q.w1 ≠ 0) | [] => false

/-- FURROW_FILL (Table 07-10). It reads 2 from reset on, as its effect text and R169 have it at rest, where the table's reset column gives
0 (DESIGN CHOICE, log 77). -/
def Axis.fill (x : Axis) : Nat := max 2 x.furrow.length

/-- Two plans give the same setpoint (R171, cause 9). -/
def sameSetpoint (a b : Period) : Bool :=
  decide (a.w0 = b.w0) && decide (a.w1 = b.w1) && decide (a.neg = b.neg) && decide (a.x = b.x) && decide (a.stop = b.stop)

/-- A new plan changes at least one setpoint already planned (R171). -/
def changesPlan : List Period → List Period → Bool
  | [], _ => false
  | _ :: _, [] => true
  | a :: l, b :: m => !sameSetpoint a b || changesPlan l m

/-- Count one squash event of `n` setpoints (R174). -/
def Axis.squash (cause n : Nat) (x : Axis) : Axis :=
  { x with sqEvents := inc x.sqEvents 0xFFFFFFFF, sqPeriods := min (x.sqPeriods + n) 0xFFFFFFFF, sqCount := n, sqCause := cause }

/-- What an earlier taking in period `m` has applied and reported; nothing where there was none. -/
def Axis.tookIn (x : Axis) (m : Nat) : Took :=
  match x.took with | some t => if t.period = m then t else { period := m } | none => { period := m }

/-- A taking in period `m` has counted as a squash event (R172). -/
def Axis.squashed (x : Axis) (m : Nat) : Bool := (x.tookIn m).counted

/-- A squash of `n` setpoints in period `m`, which one event counts however often something is taken in it (R172, R174). -/
def Axis.squashOnce (m cause n : Nat) (x : Axis) : Axis :=
  if x.squashed m then { x with sqCause := min x.sqCause cause } else x.squash cause n

/-- What a taking of the period held or had applied is forgotten; that it counted as a squash event stands (R172). -/
def Axis.forget (x : Axis) : Axis := { x with took := x.took.map (fun t => { period := t.period, counted := t.counted }) }

/-- Change an axis. -/
def State.modAx (a : Fin 12) (f : Axis → Axis) (s : State) : State := { s with ax := upd s.ax a f }

/-- Change a rate multiplier. -/
def State.modDrv (a : Fin 12) (f : Drive → Drive) (s : State) : State := { s with drv := upd s.drv a f }

/-- Change the coils of an axis. -/
def State.modCoil (a : Fin 12) (f : Coils → Coils) (s : State) : State := { s with coil := upd s.coil a f }

/-- Change the counters and detectors of an axis. -/
def State.modWatch (a : Fin 12) (f : Watch → Watch) (s : State) : State := { s with watch := upd s.watch a f }

/-- A report on a member axis during a close: the close is not learned (R285). -/
def State.unlearn (a : Fin 12) (s : State) : State :=
  match s.portalOf a with
  | some (p, _) => { s with ptlRun := upd s.ptlRun p (fun r => { r with learnable := false }) }
  | none => s

/-- ACT_TAG: MV_TAG of the active move; 0 until a move has been active, and open while none is after that (log 19). -/
def State.actTag (s : State) (a : Fin 12) : Nat :=
  match s.ax[a].queue with
  | m :: _ => m.tag
  | [] => if s.ax[a].tagged then Config.free 32 (s.tb * 12 + a.val) % 65536 else 0

/-- Set FLAGS bit `k` of an axis: the event of the same name is raised even if the flag was already 1 (R186). -/
def State.axFlag (a : Fin 12) (k : Nat) (s : State) : State :=
  let x := s.ax[a]
  ((if k = 7 then s.unlearn a else s).axFlag0 a k).ev (.ax a) (0x2000 + k)
    (leBytes 2 (s.actTag a) ++ [b8 x.st.code, 0] ++ leBytes 5 (tc 40 x.pos))

/-- The profile that the planner works with while things wait: the one that the first PARAM among them replaces, which it has not taken yet
(R176). -/
def profileUntil (l : List Taken) (pr : Profile) : Profile :=
  (l.findSome? (fun t => match t with | .param was => some was | _ => none)).getD pr

/-- The profile the planner works with: the committed one once its PARAM is taken (R176). -/
def State.planProfile (s : State) (a : Fin 12) : Profile := profileUntil (s.ax[a].taken.map (·.2)) (s.profile a)

/-- Fill the Furrow from its last plan to 512 setpoints (R169, R175). -/
def State.refill (a : Fin 12) (s : State) : State :=
  let x := s.ax[a]
  if x.following then s
  else
    let f := if x.furrow.length < 2 then x.front else x.furrow
    let last := match f.getLast? with | some q => q.plan | none => restPlan x.pos
    if last.idle then s.modAx a (fun x => { x with furrow := f })
    else s.modAx a (fun x => { x with furrow := f ++ planAhead (s.planProfile a) (s.bounds a) (512 - f.length) last })

/-- Where the axis is headed next, for HEADLAND_V (R165) and POS_END (Table 07-10): the next joint may lie in the running or the committed
period. -/
def Axis.refreshEnds (x : Axis) : Axis :=
  let p := x.commitPlan
  { x with
    headV := (x.front.findSome? (·.joint)).getD (nextJoint p.moves p.ends)
    posEnd := match (x.queue.filter (fun m => m.kind ≠ 2)).getLast? with | some m => m.goal | none => x.posEnd }

/-- An axis holds no move, taken, waiting or held for a start group, and no setpoint but those of rest at its position (R186, R511). -/
def State.axEmpty (a : Fin 12) (s : State) : State :=
  let pos := s.drv[a].acc / 2 ^ 24
  let t := (s.modAx a (fun x => { x.forget with
      queue := [], taken := [], furrow := [restPeriod (restPlan pos), restPeriod (restPlan pos)], vel := 0
      accEnd := pos * 2 ^ 24 + 0x800000, headV := 0 })).modDrv a (fun d =>
    { d with next := d.next.map (fun e => (e.1, { endPos := pos, stop := true })) })
  { t with gear := upd t.gear a (fun g => { g with waiting := none }) }

/-- A waiting member's held moves are discarded, and WAITING clears (R248). -/
def State.unwait (a : Fin 12) (s : State) : State :=
  if s.gear[a].waiting.isNone then s
  else
    let t := s.modAx a (fun x => { x.forget with queue := [] }.refreshEnds)
    { t with gear := upd t.gear a (fun g => { g with waiting := none }) }

/-! ## HALT (R173) and the end of following (R257) -/

/-- The coils take a state; free and brake set the level to 0 (R191, R201), with MS_FIX.EN = 1 as well: the level of MS_FIX comes back at the
first aligned microstep, where R191 says "at all times" (DESIGN CHOICE, log 83). While no coil is driven, I_SET, U_A, U_B, DUTY_A and DUTY_B
read 0, of which no rule speaks (DESIGN CHOICE, log 77). -/
def Coils.enter (c : Coil) (x : Coils) : Coils :=
  match c with
  | .free => { x with coil := .free, level := 0, iSet := 0, uA := 0, uB := 0, dA := 0, dB := 0, laValid := false, blind := false
                      legA := (0, 0), legB := (0, 0), pwm := [] }
  | .brake => { x with coil := .brake, level := 0, iSet := 0, uA := 0, uB := 0, dA := 0, dB := 0, laValid := false, blind := false
                       legA := (0, 0), legB := (0, 0), pwm := [] }
  | .holding => { x with coil := .holding, laValid := false, blind := false }
  | .driven => { x with coil := .driven }

/-- The gate-drive supply of an axis is off: cut under SF6, or by PAIR_ACT_I, or its Plough die is unpowered (R71, R202, R471). -/
def State.supplyOff (s : State) (a : Fin 12) : Bool :=
  s.coil[a].gateCut || s.watch[a].pairCut || !s.domOn (dieDom (ploughDie a))

/-- The mode keeps every bridge off (Tables 05-1 and 05-5); a Junction reset leaves the standstill it found. -/
def State.axesOff (s : State) : Bool := match s.mc.mode with
  | .sleep | .config | .standby => true
  | .boot => !s.boot.fromJct
  | .run | .degraded | .service | .safeHold => false

/-- What the coils of an axis take that no setpoint drives and no hold keeps: all switches off without a supply, in a mode that keeps them
off, and while a bridge fault stands; the brake while an overvoltage stands; otherwise STBY_MODE (R70, R200 to R202, Table 05-5). No rule
ranks the switches off of a mode, or of a bridge fault, against R70's brake: the model puts them first (DESIGN CHOICE, log 77). -/
def State.standbyCoil (s : State) (a : Fin 12) : Coil :=
  if s.supplyOff a || s.axesOff || HaltCause.bridgeFault ∈ s.ax[a].halts then .free
  else if HaltCause.vmotOv ∈ s.ax[a].halts then .brake
  else if s.cf (.drv a) 0x054 8 1 = 1 then .brake else .free

/-- The coils of an axis take their standstill at once, without the hold (R201). -/
def State.restCoil (a : Fin 12) (s : State) : State :=
  (s.modCoil a (Coils.enter (s.standbyCoil a))).modWatch a (fun w => { w with live := false, hold := false })

/-- The Plough die takes standstill at once and drops its setpoints (R128, R173, R201); the position stays. -/
def State.standstill (a : Fin 12) (s : State) : State :=
  let pos := s.drv[a].acc / 2 ^ 24
  let sp : Setpoint := { endPos := pos, stop := true }
  ((s.modDrv a (fun d => { d with acc := pos * 2 ^ 24 + 0x800000, rate := 0, slope := 0, sp := sp, next := [] })).modWatch a
    (fun w => { w with restAt := s.tb })).restCoil a

/-- Page of an engine: 0 to 11 GEAR, 16 to 19 CAM. -/
def enginePage (e : Nat) : PageId :=
  if h : e < 12 then .gear ⟨e, h⟩ else .cam (Fin.ofNat 4 e)

/-- GEAR FLAGS bit that a cause of Table 10-1 sets; the CAM bit is one lower. -/
def FollowEnd.flag : FollowEnd → Option Nat
  | .overspeed => some 1 | .masterLost => some 2 | .limit => some 3
  | .disengage | .halt | .obstacle | .release | .mode => none

/-- An engaged engine of an axis ends (R257): ENGAGED clears, any arm is cancelled, the cause's flag is set and
FOLLOW_END is raised. -/
def State.endFollow (a : Fin 12) (cause : FollowEnd) (s : State) : State :=
  match s.ax[a].engine with
  | none => s
  | some e =>
    let t := if h : e < 12 then
        let u := { s with gear := upd s.gear ⟨e, h⟩ (fun g => { g with engaged := false, arm := none, outs := [] }) }
        match cause.flag with | some k => u.gearFlag ⟨e, h⟩ k | none => u
      else
        let u := { s with cam := upd s.cam (Fin.ofNat 4 e) (fun c => { c with engaged := false, outs := [] }) }
        match cause.flag with | some k => u.camFlag (Fin.ofNat 4 e) (k - 1) | none => u
    (t.modAx a (fun x => { x with engine := none, leaving := true })).ev (enginePage e) 0x2404 [b8 cause.code, b8 a.val]

/-- The period in which what arrives now is taken (R170). -/
def State.takePeriod (s : State) : Nat := if s.tb % 10000 < 6800 then s.tb / 10000 else s.tb / 10000 + 1

/-- The other members of an axis's start group that move take a STOP in period m; a STOP passed on is not passed on again (R249). -/
def State.passStop (a : Fin 12) (m : Nat) (s : State) : State :=
  let c := s.com (.gear a) 0x060
  if bit c 0 && bit c 3 then
    forAll ((List.finRange 12).filter (fun b => b ≠ a && bit (s.com (.gear b) 0x060) 0 &&
        fld (s.com (.gear b) 0x060) 1 2 = fld c 1 2 && s.ax[b].moves))
      (fun b t => t.modAx b (fun x => { x with taken := x.taken ++ [(m, .passed)] })) s
  else s

/-- A HALT cause arises on an axis (R173): standstill at once, queue flushed, Furrow squashed, STATE HALTED. -/
def State.halt (a : Fin 12) (cause : HaltCause) (s : State) : State :=
  let x := s.ax[a]
  if cause ∈ x.halts then s
  else if x.halts ≠ [] then (s.modAx a (fun x => { x with halts := x.halts ++ [cause] })).restCoil a
  else
    let follow := x.following
    let n := if follow then 0 else x.uncommitted.length
    let s1 := if x.moves then s.passStop a s.takePeriod else s
    let s2 := ((s1.endFollow a (if cause = .safeHold then .mode else .halt)).modAx a (fun x => { x with halts := [cause] })).standstill a
    let pos := s2.drv[a].acc / 2 ^ 24
    let s3 := s2.modAx a (fun x =>
      let y := if x.active || follow then x.squashOnce s.takePeriod 1 n else x
      { y with st := .halted, leaving := false, queue := [], taken := []
               took := some { period := s.takePeriod, counted := x.active || follow || x.squashed s.takePeriod }, furrow := [restPeriod (restPlan pos), restPeriod (restPlan pos)],
               pos := pos, vel := 0, accEnd := pos * 2 ^ 24 + 0x800000, headV := 0 })
    let s4 := { s3 with gear := upd s3.gear a (fun g => { g with waiting := none }) }
    (if (x.active || follow) && !x.squashed s.takePeriod then s4.statAxis a 5 1 else s4).axFlag a 6

/-- The feedback channel of an axis. -/
def fbOf (a : Fin 12) : Fin 14 := ⟨a.val, by omega⟩

/-- POS_US of a channel: POS scaled, halves towards positive infinity; POS itself on FBX (R216, R234). -/
def State.fbUs (s : State) (c : Fin 14) : Int :=
  if c.val < 12 then
    roundHalfUp (s.fb[c].pos * (256 * s.cf (fbPage c) 0x054 0 16 : Nat)) (max 1 (s.com (fbPage c) 0x050).toNat)
  else s.fb[c].pos

/-- The feedback position of an axis in microsteps (R173). -/
def State.posUs (s : State) (a : Fin 12) : Int :=
  s.fbUs (fbOf a)

/-- The axis has an encoder: MODE 1 or 2, and no encoder fault (R215). -/
def State.hasEncoder (s : State) (a : Fin 12) : Bool :=
  s.cf (.fb a) 0x058 0 2 ≠ 0 && !bit s.fb[fbOf a].flags 0

/-- Set the setpoint of an axis to a position, at rest; POS_CMD shows it at once or at the next boundary (R173, R232). In MODE 2 POS_ERR
stays with POS_CMD at the latest frame's latch instant (R233). -/
def State.alignAxis (a : Fin 12) (pos : Int) (now : Bool) (s : State) : State :=
  let c := fbOf a
  let t : State := if s.cf (.fb a) 0x058 0 2 = 2 then s else { s with fb := upd s.fb c (fun f => { f with cmdAt := pos }) }
  (t.modDrv a (fun d => { d with acc := pos * 2 ^ 24 + 0x800000, rate := 0, slope := 0, sp := { endPos := pos, stop := true },
                                 next := [] })).modAx a
    (fun x => { x with pos := if now then pos else x.pos, vel := 0, took := none, accEnd := pos * 2 ^ 24 + 0x800000,
                       furrow := [restPeriod (restPlan pos), restPeriod (restPlan pos)] })

/-- A HALT cause clears, and the coils take what the causes left ask for (R173, R201): with the last one POS_CMD takes the feedback position where there is an encoder, and
POS_UNCERTAIN is set where there is none; STATE returns to IDLE. No rule says whether that return starts a new STBY_DELAY hold as R200's
does: the coils keep STBY_MODE without one (DESIGN CHOICE, log 83). -/
def State.unhalt (a : Fin 12) (cause : HaltCause) (s : State) : State :=
  let x := s.ax[a]
  if cause ∉ x.halts then s
  else
    let rest := x.halts.filter (· ≠ cause)
    let s1 := (s.modAx a (fun x => { x with halts := rest })).restCoil a
    if rest ≠ [] then s1
    else
      let s2 := s1.modAx a (fun x => { x with st := .idle })
      if s.hasEncoder a then s2.alignAxis a (s.posUs a) true else s2.axFlag a 7

/-- HALT every axis of a Plough die (R69, R70, R80, R208). -/
def State.haltDie (d : Fin 8) (cause : HaltCause) (s : State) : State :=
  forAll ((List.finRange 12).filter (fun a => ploughDie a = d)) (fun a t => t.halt a cause) s

/-- A HALT cause clears on every axis of a Plough die. -/
def State.unhaltDie (d : Fin 8) (cause : HaltCause) (s : State) : State :=
  forAll ((List.finRange 12).filter (fun a => ploughDie a = d)) (fun a t => t.unhalt a cause) s

/-! ## Acceptance (R159 to R162, R170) -/

/-- The move the MV_ fields hold, for KIND and DIR of MOVE_CTL (R159). -/
def State.mvFields (s : State) (a : Fin 12) (kind : Nat) (neg : Bool) : Move :=
  { kind, neg, tag := s.cf (.ax a) 0x054 0 16
    goal := sx 40 ((s.com (.ax a) 0x044).toNat + 2 ^ 32 * s.cf (.ax a) 0x048 0 8)
    vel := (s.com (.ax a) 0x04C).toNat, vmax := (s.com (.ax a) 0x050).toNat }

/-- Moves accepted by GO and not yet taken (R160). -/
def Axis.pendingMoves (x : Axis) : List Move := x.taken.filterMap (fun e => match e.2 with | .go m _ _ => some m | _ => none)

/-- Moves held: those of the queue and those accepted by GO and not yet taken (R160, Table 07-10). -/
def Axis.used (x : Axis) : Nat := x.queue.length + x.pendingMoves.length

/-- Position at the commit point in whole microsteps. -/
def Axis.commitPos (x : Axis) : Int := (2 * x.commitPlan.x + unitsPerStep) / (2 * unitsPerStep)

/-- End position of the last ABS or REL move of a list. -/
def endOf (l : List Move) : Option Int :=
  match (l.filter (fun m => m.kind ≠ 2)).getLast? with | some m => some m.goal | none => none

/-- A move with its target resolved against a base (R159). -/
def Move.based (m : Move) (rel : Bool) (base : Int) : Move := if rel then { m with goal := base + m.goal } else m

/-- Order in which what is taken in one period is applied: triggers by cause, PARAM, then commands (R172). -/
def Taken.rank : Taken → Nat
  | .obstacle _ _ => 0 | .limit => 1 | .qstop => 2 | .release => 3 | .follow _ => 4 | .param _ => 5
  | .go _ _ _ | .imm _ _ _ | .stop _ | .flush | .passed => 6

/-- Insert by period and rank, after entries of the same. -/
def insertDue (t : Nat × Taken) : List (Nat × Taken) → List (Nat × Taken)
  | [] => [t]
  | u :: l => if t.1 < u.1 || (t.1 = u.1 && decide (t.2.rank < u.2.rank)) then t :: u :: l else u :: insertDue t l

/-- What waits, in the order in which it will be applied (R170, R172). -/
def Axis.dueOrder (x : Axis) : List Taken := (x.taken.foldl (fun acc t => insertDue t acc) []).map (·.2)

/-- A move waits to be taken (R160). -/
def Axis.entering (x : Axis) : Bool := x.taken.any (fun e => match e.2 with | .go _ _ _ | .imm _ _ _ => true | _ => false)

/-- The moves the axis will hold once all that waits has been taken, every target resolved (R159, R160, R172). -/
def Axis.heldAfter (x : Axis) : List Move :=
  x.dueOrder.foldl (fun (l : List Move) t => match t with
    | .go m rel _ => l ++ [m.based rel ((endOf l).getD x.commitPos)]
    | .imm m rel _ => [m.based rel x.commitPos]
    | .flush => l.take 1
    | .param _ => l
    | .stop _ | .qstop | .limit | .release | .obstacle _ _ | .follow _ | .passed => []) x.queue

/-- End position of the last queued ABS or REL move, taken or waiting; none if there is none (R159). -/
def Axis.lastEnd (x : Axis) : Option Int := endOf x.heldAfter

/-- A target or direction is barred by the limits of R162: soft limits and range ends for a target, an active limit
input for a move towards it. -/
def State.barred (s : State) (a : Fin 12) (m : Move) (base : Int) : Bool :=
  let b := s.bounds a
  let dirNeg := if m.kind = 2 then m.neg else decide (m.goal < base)
  let dirPos := if m.kind = 2 then !m.neg else decide (base < m.goal)
  (m.kind ≠ 2 && (decide (m.goal < b.lo) || decide (b.hi < m.goal)))
    || (dirNeg && s.dinSeq (s.cf (.ax a) 0x090 8 6)) || (dirPos && s.dinSeq (s.cf (.ax a) 0x090 16 6))

/-- The mode lets axes move (R161). -/
def State.modeMoves (s : State) : Bool := s.mc.mode = .run || s.mc.mode = .degraded || s.mc.mode = .service

/-- The code with which a command to an axis is refused on arrival, if it is (R160, R161): `cmd` is the bit of Table
07-4, `m` the move with its target resolved against `base`. -/
def State.axRefusal (s : State) (wr : Writer) (a : Fin 12) (cmd : Nat) (m : Move) (base : Int) : Option Nat :=
  let x := s.ax[a]
  let moves := cmd = 0 || cmd = 1
  if m.kind = 3 then some 0x44
  else if cmd = 0 && 16 ≤ x.used then some 0x40
  else if !s.modeMoves then some 0x43
  else if s.mc.mode = .degraded && s.dieAbsent (ploughDie a) then some 0x43
  else if !(s.pg (.ax a)).en then some 0x43
  else if x.st = .halted || x.halts ≠ [] || x.following then some 0x43
  else if !s.ownsAxis wr a then some 0x42
  else if moves && m.vmax ≠ 0 && (decide (2000000 * 256 < m.vmax) || decide (m.vmax < (s.profile a).vStop)) then some 0x45
  else if moves && m.kind = 2 && 2000000 * 256 < m.vel then some 0x45
  else if moves && s.barred a m base then some 0x41
  else none

/-- Put what has been accepted among the things to take (R170). -/
def State.accept (a : Fin 12) (t : Taken) (s : State) : State :=
  s.modAx a (fun x => { x with taken := x.taken ++ [(s.takePeriod, t)] })

/-- A command to an axis with its move: the refusal code, or none and the state with the command accepted. The base of a REL move is
counted when the planner takes it (R159); on arrival its target is checked against the base as it then stands. -/
def State.axCommand (wr : Writer) (a : Fin 12) (cmd : Nat) (m : Move) (handle : Nat) (s : State) : Option Nat × State :=
  let x := s.ax[a]
  let base := match (if cmd = 0 then x.lastEnd else none) with | some e => e | none => x.commitPos
  let rel := m.kind = 1
  let m1 := m.based rel base
  match s.axRefusal wr a cmd m1 base with
  | some c => (some c, s)
  | none =>
    let t : Taken := match cmd with
      | 0 => .go m rel handle
      | 1 => .imm m rel handle
      | 2 => .stop 6
      | 3 => .qstop
      | _ => .flush
    (none, s.accept a t)

/-- A write of MOVE_CTL by a writer: exactly one command bit, or MOVE_CONFLICT (R160). -/
def State.moveCtl (wr : Writer) (a : Fin 12) (w : Word) (s : State) : State :=
  let c := fld w 0 5
  let cmd : Option Nat := match c with | 1 => some 0 | 2 => some 1 | 4 => some 2 | 8 => some 3 | 16 => some 4 | _ => none
  match cmd with
  | none => s.err (.ax a) 0x44 0 0x040
  | some k =>
    match s.axCommand wr a k (s.mvFields a (fld w 8 2) (bit w 12)) 0 with
    | (some code, _) => s.err (.ax a) code 0 0x040
    | (none, t) => t

/-! ## Taking (R170 to R172, R176, R177) -/

/-- What is taken is a command of Table 07-4. -/
def Taken.command : Taken → Bool
  | .go _ _ _ | .imm _ _ _ | .stop _ | .qstop | .flush => true
  | .obstacle _ _ | .limit | .release | .follow _ | .param _ | .passed => false

/-- The SQ_LAST cause of what is taken (Table 07-5). -/
def Taken.cause : Taken → Nat
  | .obstacle _ _ => 2 | .limit => 3 | .qstop => 4 | .release => 5 | .stop c => c | .imm _ _ _ => 7 | .param _ => 8
  | .go _ _ _ => 9 | .flush => 9 | .passed => 6
  | .follow c => match c with | .overspeed => 4 | .limit => 3 | .halt => 1 | .obstacle => 2 | .release => 5
                              | .disengage | .masterLost | .mode => 6

/-- Insert by rank, after entries of the same rank. -/
def insertRank (t : Taken) : List Taken → List Taken
  | [] => [t]
  | u :: l => if t.rank < u.rank then t :: u :: l else u :: insertRank t l

/-- What is taken, in the order of R172. -/
def sortTaken (l : List Taken) : List Taken := l.foldl (fun acc t => insertRank t acc) []

/-- The work of one taking: the plan so far, the causes applied that squash at once, and the least cause of all. -/
structure Taking where
  /-- Plan from the commit point. -/
  plan : Plan
  /-- Moves held for a start group (R247). -/
  held : List Move := []
  /-- A trigger or command that squashes was applied. -/
  hard : Bool := false
  /-- Least cause code applied. -/
  least : Nat := 99
  /-- FLAGS bits to set, in order. -/
  flags : List Nat := []
  /-- The committed setpoints include the last queued move's final deceleration, while the axis moves (R168). -/
  lastDecel : Bool := false
  /-- Late appends (R168). -/
  late : Nat := 0
  /-- Profile deferrals (R176). -/
  deferred : Nat := 0
  /-- Refusals at the taking: code and handle (R161, R268). -/
  refused : List (Nat × Nat) := []
  deriving DecidableEq, Repr

/-- Replan with moves, from the plan of a taking. With `late`, an append that is late or that follows a late one, the active move stays as
it is; any other replan frees what a final deceleration had fixed, and may raise speed (R168, R177). -/
def Taking.withMoves (pr : Profile) (b : Bounds) (ms : List Move) (late : Bool) (k : Taking) : Taking :=
  let p := k.plan
  let es := joints pr b p.x p.neg p.w ms
  { k with plan := { p with
      moves := ms, dec := late && p.dec, noRaise := late && p.noRaise
      ends := if p.begun && p.old.isSome then liftEnds (p.old.getD pr) { p with moves := ms } es else es } }

/-- The first point ahead at which a path reverses or ends: its position, or none where a VEL move takes it on in its direction (R176). -/
def pathEnd (x : Int) (neg : Bool) : List Move → Option Int
  | [] => some x
  | n :: l =>
    let y : Int := n.goal * unitsPerStep
    if n.kind = 2 then (if n.neg = neg then none else some x)
    else if y ≠ x ∧ decide (y < x) ≠ neg then some x
    else pathEnd y neg l

/-- The fit test of R176: the stopping distance under the new profile, to the present end speed of the active move, against the distance to
the first point ahead at which the path reverses or ends. `use` is the profile in use. So that no parameter write makes the axis overshoot
(R178), the axis must also be able to come to rest by that point; where the active move ends at rest the two are one (log 46). -/
def fits (pr use : Profile) (p : Plan) : Bool :=
  match p.moves with
  | [] => true
  | m :: l =>
    let tgt : Int := m.goal * unitsPerStep
    match if m.kind = 2 then none else pathEnd tgt (decide (tgt < p.x)) l with
    | none => true
    | some y =>
      let d := (y - p.x).natAbs
      decide (stopDist pr p.w (p.endSpeed use) ≤ d) &&
        decide (stopDist pr p.w (spd (if y = tgt then use.vStop else pr.vStop)) ≤ d)

/-- A new profile is taken while the axis moves (R176 to R178): with whether it is deferred for the active move, and the plan. A move that
fits takes the whole new profile; a V_STOP so low that it could not be reached by the rest leaves the end speed the test was made with
(R178, log 46). -/
def Plan.takeProfile (pr was : Profile) (b : Bounds) (p : Plan) : Bool × Plan :=
  let use := p.old.getD was
  let es := joints pr b p.x p.neg p.w p.moves
  let wait : Bool × Plan := (true, { p with old := some use, ends := if p.stop.isNone then liftEnds use p es else p.ends })
  match p.stop with
  | some k =>
    let velTurn := k.turn && (match p.moves with | m :: _ => decide (m.kind = 2) | [] => false)
    if k.shown then wait
    -- a VEL move that is ramping always passes: one that turns, and one to velocity zero
    else if velTurn || (!k.turn && !k.limit) then (false, { p with old := none }.beginStop pr b k p.moves)
    else
      let d := (k.dest - p.x).natAbs
      if stopDist pr p.w (spd use.vStop) ≤ d then
        (false, { p with
          old := if d < stopDist pr p.w (spd pr.vStop) then some { pr with vStop := use.vStop } else none, stop := some { k with hold := true } })
      else wait
  | none =>
    if !fits pr use p then wait
    else
      let rests := match p.moves, p.ends.headD none with | m :: _, none => decide (m.kind ≠ 2) | _, _ => false
      let tight := match p.room with | some d => decide (d < stopDist pr p.w (spd pr.vStop)) | none => false
      (false, { p with
        ends := liftEnds pr p es, noRaise := p.noRaise || p.dec, dec := false
        old := if rests && tight then some { pr with vStop := use.vStop } else none })

/-- A nearer limit is committed while the axis stops, turns, or comes to rest from a velocity: where it would come to rest beyond the limit, it
is stopped as for QSTOP, and sets LIMIT_HIT at its rest (R162). -/
def Plan.nearLimit (pr : Profile) (b : Bounds) (p : Plan) : Plan :=
  match p.stop with
  | none => p
  | some k =>
    let lim : Int := (if p.neg then b.lo else b.hi) * unitsPerStep
    let beyond := if p.neg then decide (k.dest < lim) else decide (lim < k.dest)
    if !beyond || k.limit then p
    else match k.rate with
      | some _ => { p with stop := some { k with limit := true } }
      | none => p.beginStop pr b { rate := some b.qdec, limit := true, shown := true } []

/-- Apply one thing taken in a period (Table 07-4, Table 07-5). `stopping` says that STATE is STOPPING (R177). `group` says the axis is at rest in a start group and
holds its moves; `portalSeg` that the door cycle's own segment excludes commands (R268). STATE shows STOPPING while the axis stops at an
obstacle, too (DESIGN CHOICE, log 45). -/
def Taking.apply (pr : Profile) (b : Bounds) (barred : Move → Bool) (group portalSeg stopping : Bool) (t : Taken) (k : Taking) : Taking :=
  let p := k.plan
  let use := p.old.getD pr
  let cause := t.cause
  let hard (k : Taking) : Taking := { k with hard := true, least := min k.least cause, lastDecel := false }
  let soft (k : Taking) : Taking := { k with least := min k.least cause }
  let handleOf : Nat := match t with | .go _ _ h => h | .imm _ _ h => h | _ => 0
  let pos : Int := (2 * p.x + unitsPerStep) / (2 * unitsPerStep)
  let stop (k : Taking) (rate : Option Nat) (after : List Move) : Taking :=
    hard { k with plan := p.beginStop use b { rate, shown := true } after }
  if portalSeg && t.command then { k with refused := k.refused ++ [(0x43, handleOf)] }
  else match t with
  | .go m rel _ =>
    let m1 := m.based rel ((endOf (if group then k.held else p.moves)).getD pos)
    if group then { k with held := k.held ++ [m1] }
    else if k.lastDecel then
      soft ({ k with flags := k.flags ++ [2], late := k.late + 1, lastDecel := false }.withMoves pr b (p.moves ++ [{ m1 with late := true }])
        true)
    else soft (k.withMoves pr b (p.moves ++ [m1]) (p.moves.tail.any (·.late)))
  | .imm m rel h =>
    let m1 := m.based rel pos
    if rel && barred m1 then { k with refused := k.refused ++ [(0x41, h)] }
    else if group then { k with held := [m1] }
    else hard ({ k with plan := { p with stop := none, dec := false, held := none, fixed := false, begun := false, mayPass := true
                                         back := false, old := none } }.withMoves pr b [m1] false)
  | .stop _ => stop { k with held := [] } none []
  | .qstop => stop { k with held := [] } (some b.qdec) []
  | .passed => if portalSeg then k else stop k none []
  | .flush =>
    let q := { k with held := [] }.withMoves pr b (if p.begun then p.moves.take 1 else []) false
    soft { q with plan := { q.plan with mayPass := q.plan.mayPass || p.begun } }
  | .limit => if portalSeg then soft { k with flags := k.flags ++ [5] } else stop { k with flags := k.flags ++ [5] } (some b.qdec) []
  | .release => stop k none []
  | .obstacle r rev => stop k (some r) rev.toList
  | .follow c =>
    match c with
    | .overspeed => if portalSeg then soft k else stop k (some b.qdec) []
    | .limit => if portalSeg then soft { k with flags := k.flags ++ [5] } else stop { k with flags := k.flags ++ [5] } (some b.qdec) []
    | .disengage | .masterLost | .halt | .obstacle | .release | .mode => if portalSeg then soft k else stop k none []
  | .param was =>
    if p.w = 0 then
      let q := { k with plan := { p with old := none } }.withMoves pr b p.moves false
      soft (if stopping then { q with flags := q.flags ++ [3], deferred := q.deferred + 1 } else q)
    else
      let r := p.takeProfile pr was b
      let q := r.2.nearLimit (r.2.old.getD pr) b
      if r.1 then soft { k with flags := k.flags ++ [3], deferred := k.deferred + 1, plan := q } else soft { k with plan := q }

/-- What a period takes is applied in order, each thing under the profile in force until the PARAM that follows it (R172, R176). -/
def Taking.applyAll (pr : Profile) (b : Bounds) (barred : Move → Bool) (group seg stopping : Bool) : List Taken → Taking → Taking
  | [], k => k
  | t :: l, k => Taking.applyAll pr b barred group seg stopping l (k.apply (profileUntil l pr) b barred group seg stopping t)

/-- The committed setpoints include a reduction of speed that belongs to the final deceleration of the last queued move: in the committed
period, or in a running one that ends at rest with nothing behind it (R168). -/
def finalDecel (front : List Period) : Bool :=
  match front with
  | [q, r] => r.lastDecel || (q.lastDecel && q.stop && r.plan.idle)
  | _ => false

/-- The cause with which following ends when something is taken on a slave (Table 10-1). -/
def followCause : Taken → FollowEnd
  | .follow c => c | .obstacle _ _ => .obstacle | .limit => .limit | .release => .release
  | .go _ _ _ | .imm _ _ _ | .stop _ | .qstop | .flush | .param _ | .passed => .disengage

/-- What an earlier taking of the period has not reported. -/
def unreported {α : Type} [BEq α] (past now : List α) : List α := past.foldl List.erase now

/-- What an axis takes in period `m` (R170 to R172, R257). The Furrow is filled again at once (R175; log 44). -/
def State.takeDue (a : Fin 12) (m : Nat) (s0 : State) : State :=
  let due0 := sortTaken ((s0.ax[a].taken.filter (fun e => decide (e.1 ≤ m))).map (·.2))
  let ends := s0.ax[a].following && due0.any (fun t => match t with | .param _ => false | _ => true)
  let s := if ends then s0.endFollow a (match due0 with | t :: _ => followCause t | [] => .disengage) else s0
  let x := s.ax[a]
  let due := sortTaken ((x.taken.filter (fun e => decide (e.1 ≤ m))).map (·.2))
  if due = [] then s
  else if x.following then s.modAx a (fun x => { x with taken := x.taken.filter (fun e => !decide (e.1 ≤ m)) })
  else
    let pr := profileUntil ((x.taken.filter (fun e => decide (m < e.1))).map (·.2)) (s.profile a)
    let b := s.bounds a
    let grp := s.com (.gear a) 0x060
    let group := bit grp 0 && x.st = .idle && !x.active
    let past := x.tookIn m
    let all := past.applied ++ due
    let seg := (s.portalOf a).isSome && all.any (fun t => match t with | .obstacle _ _ | .release => true | _ => false)
    let front := x.front
    let held := if past.applied ≠ [] then past.held else if s.gear[a].waiting.isSome then x.queue else []
    let base := if past.applied ≠ [] then past.plan else x.commitPlan
    let k := Taking.applyAll pr b (fun mv => s.barred a mv x.commitPos) group seg (x.st = .stopping) (sortTaken all)
      { plan := base, held, lastDecel := x.moves && finalDecel front }
    let old := x.uncommitted
    let new := planAhead pr b 510 k.plan
    let ahead := (front.map (·.done)).foldl (· + ·) 0 + (front.tail.map (fun q => q.early + q.drop)).foldl (· + ·) 0
    let queue := if group then k.held else x.queue.take ahead ++ k.plan.moves
    let changed := k.hard || changesPlan old new
    let counts := k.least < 99 && ((x.active && changed) || ends)
    let s1 := s.modAx a (fun x =>
      let y := { x with taken := x.taken.filter (fun e => !decide (e.1 ≤ m)), queue := queue,
                        tagged := x.tagged || decide (queue ≠ []),
                        furrow := front.take 1 ++ (front.drop 1).map (fun (q : Period) => { q with plan := k.plan }) ++ new,
                        lateCount := min (x.lateCount + (k.late - past.late)) 0xFFFF
                        deferCount := min (x.deferCount + (k.deferred - past.deferred)) 0xFFFF }
      let z := if counts then y.squashOnce m k.least (if ends then 0 else old.length) else y
      let took : Took :=
        { period := m, plan := base, counted := counts || x.squashed m, held, applied := all, flags := k.flags, late := k.late
          deferred := k.deferred, refused := k.refused }
      { z with took := some took }.refreshEnds)
    let s2 := { s1 with gear := upd s1.gear a (fun g =>
      { g with waiting := if group && k.held ≠ [] then (match g.waiting with | some w => some w | none => some m) else none }) }
    let s3 := forAll (unreported past.flags k.flags) (fun f t => t.axFlag a f)
      ((s2.statAxis a 5 (b2n (counts && !x.squashed m))).statAxis a 6 (k.late - past.late))
    let s4 := forAll (unreported past.refused k.refused) (fun r t =>
      if r.2 = 0 then t.err (.ax a) r.1 0 0x040
      else { t with prgx := { t.prgx with outcomes := t.prgx.outcomes.map (fun o => if o.1 = r.2 then (o.1, r.1, o.2.2) else o) } }) s3
    if x.moves && due.any (fun t => t ≠ .passed && 1 ≤ t.cause && decide (t.cause ≤ 6)) then s4.passStop a m else s4

/-! ## Setpoints (R179 to R181) -/

/-- The setpoint of a planned period, with ACC as it leaves it: RATE0 is corrected so that the fraction left over by
R180's truncation is spread over later periods (R181; log 23). -/
def setpointOf (acc : Int) (q : Period) : Setpoint × Int :=
  if q.w0 = 0 ∧ q.w1 = 0 then
    let pos := acc / 2 ^ 24
    ({ endPos := pos, stop := true, neg := q.neg }, pos * 2 ^ 24 + 0x800000)
  else
    let r0 := rateOf q.w0
    let slope : Int := ((rateOf q.w1 : Int) - r0) / 10000
    let ideal : Int := (q.x * 2 ^ 24) / unitsPerStep + 0x800000
    let want : Int := if q.neg then acc - ideal else ideal - acc
    let sum (b : Nat) : Int :=
      if slope < 0 then
        -- the same clocks in reverse order have a rising rate
        (floorSum 100 10000 (2 ^ 24) slope.natAbs ((b : Int) + slope * 9999).toNat : Nat)
      else (floorSum 100 10000 (2 ^ 24) slope.toNat b : Nat)
    let adj : Int := (want - sum r0) * 2 ^ 24 / 10000
    let rate : Nat := (max (if slope < 0 then -(slope * 9999) else 0) ((r0 : Int) + adj)).toNat
    let travel := sum rate
    let accEnd := if q.neg then acc - travel else acc + travel
    if q.stop then
      -- the target microstep, which this period emits, ends the motion, whatever of the period is left (R155, R180)
      let pos := q.x / unitsPerStep
      let need : Int := if q.neg then acc - ((pos + 1) * 2 ^ 24 - 1) else pos * 2 ^ 24 - acc
      let more := ceilDiv (need - sum r0).toNat 10000
      ({ rate0 := r0 + more * 2 ^ 24, slope, neg := q.neg, endPos := pos, stop := true }, pos * 2 ^ 24 + 0x800000)
    else ({ rate0 := rate, slope, neg := q.neg, endPos := accEnd / 2 ^ 24, stop := false }, accEnd)

/-- The multiplier's speed at the end of the period of a setpoint, in register form (R180, R181). -/
def Setpoint.endVel (p : Setpoint) : Int :=
  let v := if p.stop then 0 else velOfRate (p.rate0 + 10000 * p.slope)
  if p.neg then -v else v

/-- Signed speed in register form of 1/32,000 µstep/s (R7, R181). -/
def velReg (w : Nat) (neg : Bool) : Int := let v := freeRound 2 w 125; if neg then -v else v

/-- The setpoint of the period after the one that starts now is committed and sent: a zero-speed one at rest, and on an axis disabled by
PG_CTL.EN (R169, R186). -/
def State.commitSetpoint (n : Nat) (a : Fin 12) (s : State) : State :=
  let x := s.ax[a]
  let r := setpointOf x.accEnd (match x.furrow, (s.pg (.ax a)).en with | _ :: q :: _, true => q | _, _ => restPeriod x.commitPlan)
  (s.modAx a (fun x => { x with accEnd := r.2 })).modDrv a (fun d => { d with next := d.next ++ [(n + 1, r.1)] })

/-- Moves of an axis complete (R163). -/
def State.movesDone (a : Fin 12) (n : Nat) (s : State) : State :=
  forAll (List.replicate n ()) (fun _ t =>
    (t.axFlag a 0).modAx a (fun x => { x with queue := x.queue.tail, moveCount := inc x.moveCount 0xFFFFFFFF })) s

/-- The period that ran ends on an axis: its moves complete, POS_CMD and VEL_CMD take the boundary's values, and STATE
shows the period that starts (R163, R181, R184). -/
def State.endPeriod (a : Fin 12) (s : State) : State :=
  let x := s.ax[a]
  match x.furrow with
  | [] => s
  | q :: l =>
    if x.st = .halted then s.modAx a (fun x => { x with pos := s.drv[a].sp.endPos, vel := 0 })
    else
      let run := match l with | r :: _ => r | [] => restPeriod q.plan
      let s0 := (((s.statAxis a 0 (q.done + run.early)).statAxis a 1 (s.drv[a].sp.endPos - x.pos).natAbs).statAxis a 2
        (b2n (s.coil[a].coil = .driven)))
      let rest := run.w0 = 0 ∧ run.w1 = 0
      let s1 := s0.modAx a (fun x =>
        { x with furrow := if l = [] then [run] else l
                 st := if x.following then .follow else if rest then .idle else run.st
                 leaving := x.leaving && !rest
                 pos := s.drv[a].sp.endPos
                 vel := s.drv[a].sp.endVel })
      let s2 := (s1.movesDone a q.done).modAx a (fun x => { x with queue := x.queue.drop run.drop })
      let s3 := if q.limitHit then s2.axFlag a 5 else s2
      let s4 := (if run.returned then s3.axFlag a 4 else s3).movesDone a run.early
      let came := q.stop && (decide (q.w0 ≠ 0) || decide (0 < q.done))
      let idle := s1.ax[a].st = .idle && x.st ≠ .idle
      let s5 := if (came || (run.stop && decide (0 < run.early))) && s4.ax[a].queue = [] && s4.gear[a].waiting.isNone then s4.axFlag a 1 else s4
      if idle then s5.modWatch a (fun w => { w with restAt := s.tb }) else s5

/-- A boundary on an axis that its planner drives: refill, and commit of the next setpoint (R169, R175). -/
def State.planBoundary (n : Nat) (a : Fin 12) (s : State) : State :=
  if s.ax[a].following then s else ((s.refill a).modAx a Axis.refreshEnds).commitSetpoint n a

end Sys2Proof.Machine
end

