-- ==== Sys2Proof/Machine/Drive.lean ====
section
/-! DEFINITION. The Plough dies: the rate multiplier, microstep levels, the voltage law, standstill, the load-angle
estimator, stall, bridge protection (R179 to R214). -/

namespace Sys2Proof.Machine

/-! ## The rate multiplier (R180) -/

/-- One MOT clock of the rate multiplier, with whether a microstep is emitted. -/
def Drive.clockStep (d : Drive) : Drive × Bool :=
  let inc : Int := d.rate / 2 ^ 24
  let acc := if d.sp.neg then d.acc - inc else d.acc + inc
  let emit := decide (acc / 2 ^ 24 ≠ d.acc / 2 ^ 24)
  if d.sp.stop && decide (acc / 2 ^ 24 = d.sp.endPos) then
    ({ d with acc := acc / 2 ^ 24 * 2 ^ 24 + 0x800000, rate := 0, slope := 0, clock := d.clock + 1 }, emit)
  else ({ d with acc := acc, rate := d.rate + d.slope, clock := d.clock + 1 }, emit)

/-- Clocks up to and including the next that emits a microstep, at most `f`. -/
def Drive.toEmit : Nat → Drive → Drive × Bool
  | 0, d => (d, false)
  | f + 1, d => let r := d.clockStep; if r.2 then r else Drive.toEmit f r.1

/-- The quantum of a level (Table 08-1). -/
def quantum (k : Nat) : Nat := 4 ^ k

/-- Switch to the requested level if position `p` is aligned for the coarser of the two (R190, R191). -/
def State.tryLevel (a : Fin 12) (p : Int) (s : State) : State :=
  let c := s.coil[a]
  if c.levelReq ≠ c.level ∧ p % (quantum (max c.levelReq c.level) : Nat) = 0 then
    (s.modCoil a (fun c => { c with level := c.levelReq })).modWatch a (fun w => { w with levelSw := inc w.levelSw 0xFFFFFFFF })
  else s

/-- DELAY of an axis's feedback channel in MODE 1, the clocks by which POS_CMD is delayed for POS_ERR (R219, R233). -/
def State.cmdDelay (s : State) (a : Fin 12) : Nat := if s.cf (.fb a) 0x058 0 2 = 1 then s.cf (.fb a) 0x058 4 5 + 3 else 0

/-- The running period is the last before AX STATE becomes IDLE (R200). -/
def Axis.lastPeriod (x : Axis) : Bool := match x.furrow with | q :: _ => q.stop && q.plan.idle && !x.following | [] => false

/-- The multiplier has run on to `r`, with whether a microstep is emitted there: POS_CMD is noted as it stood at the delayed clock, the
level may switch, and an axis with no STBY_DELAY that comes to rest takes its standstill at this clock (R190, R200, R233). -/
def State.ran (a : Fin 12) (r : Drive × Bool) (s : State) : State :=
  let d := s.drv[a]
  let at_ := 10000 - s.cmdDelay a
  let s1 := if s.cf (.fb a) 0x058 0 2 ≠ 2 && decide (d.clock ≤ at_) && decide (at_ < r.1.clock) then
      { s with fb := upd s.fb (fbOf a) (fun f => { f with cmdAt := d.acc / 2 ^ 24 }) } else s
  let s2 := s1.modDrv a (fun _ => r.1)
  let s3 := if r.2 then s2.tryLevel a (r.1.acc / 2 ^ 24) else s2
  if r.2 && r.1.sp.stop && r.1.rate = 0 && r.1.slope = 0 && s3.watch[a].live && s3.ax[a].lastPeriod && s3.cf (.drv a) 0x054 0 8 = 0 then
    s3.restCoil a
  else s3

/-- The next microstep within the running period, if there is one: the multiplier stands after it and the level may switch. -/
def State.emitOne (a : Fin 12) (s : State) : Option State :=
  let r := (s.drv[a]).toEmit (10000 - s.drv[a].clock)
  if r.2 && !s.drv[a].motLost then some (s.ran a r) else none

/-- Run a period up to clock `c`, microstep by microstep. -/
def State.runTo (a : Fin 12) (c : Nat) : Nat → State → State
  | 0, s => s
  | f + 1, s => if c ≤ s.drv[a].clock then s else State.runTo a c f (s.ran a ((s.drv[a]).toEmit (c - s.drv[a].clock)))

/-- Microsteps of one period are at least 80 clocks apart (R179), so this many runs finish it. -/
def runFuel : Nat := 10000

/-- Numerator of the speed in full steps per second over 2^56 (R189): RATE × 160,000,000. -/
def fullStepNum (rate : Int) : Int := rate * 160000000

/-- The level requested for a speed (R189). -/
def levelRequest (th : Nat → Nat) (rate0 : Int) (lvl : Nat) : Nat :=
  let v := (fullStepNum rate0).natAbs
  let up (r k : Nat) : Nat := if r = k ∧ th (k + 1) * 2 ^ 56 ≤ v then k + 1 else r
  let down (r k : Nat) : Nat := if r = k ∧ 8 * v < th k * 7 * 2 ^ 56 then k - 1 else r
  let r1 := [0, 1, 2, 3].foldl up lvl
  [4, 3, 2, 1].foldl down r1

/-- Thresholds TH1 to TH4 of an axis. -/
def State.threshold (s : State) (a : Fin 12) (k : Nat) : Nat :=
  match k with
  | 1 => s.cf (.drv a) 0x060 0 16
  | 2 => s.cf (.drv a) 0x060 16 16
  | 3 => s.cf (.drv a) 0x064 0 16
  | 4 => s.cf (.drv a) 0x064 16 16
  | _ => 0

/-- The level an axis requests: fixed by MS_FIX, or by the speed (R189, R191). -/
def State.requestLevel (a : Fin 12) (s : State) : State :=
  let w := s.com (.drv a) 0x068
  let req := if bit w 3 then min 4 (fld w 0 3) else levelRequest (s.threshold a) s.drv[a].sp.rate0 s.coil[a].level
  s.modCoil a (fun c => { c with levelReq := req })

/-- Current amplitude in force: I_RUN or I_HOLD × min(s_v, s_T), moving also × s_app (R193). -/
def State.amplitude (s : State) (a : Fin 12) : Nat :=
  let die : Fin 2 := if a.val < 6 then 0 else 1
  let sc := min s.pwr.sv[die] s.pwr.sT[die]
  if s.coil[a].coil = .driven then
    (freeRound 3 (s.cf (.drv a) 0x050 0 16 * sc * s.coil[a].sApp : Nat) 100000000).toNat
  else (freeRound 3 (s.cf (.drv a) 0x050 16 16 * sc : Nat) 1000000).toNat

/-- The coils of an axis are driven or held: an estimator that did not run, the coils having been FREE or BRAKE, starts afresh (R203;
log 47). -/
def State.energise (a : Fin 12) (c : Coil) (s : State) : State :=
  let off := s.coil[a].coil = .free || s.coil[a].coil = .brake
  (s.modCoil a (Coils.enter c)).modWatch a (fun w => if off then { w with emf := [], iPrev := (0, 0), driven := 0 } else w)

/-- The coils leave rest for a moving setpoint (R200): DRIVEN, and the estimator counts from here (R204). Windings that were not driven
carry no current as the estimator counts it (R203; log 47). -/
def State.driveCoils (a : Fin 12) (s : State) : State :=
  let t := s.modWatch a (fun w => { w with live := true, hold := false })
  if s.coil[a].coil = .driven || s.supplyOff a || s.axesOff then t
  else (t.energise a .driven).modWatch a (fun w => { w with driven := 0 })

/-- An axis whose STATE has become IDLE: HOLDING for STBY_DELAY, then the standstill mode (R200). -/
def State.restCoils (a : Fin 12) (s : State) : State :=
  if !s.watch[a].live then s
  else if s.cf (.drv a) 0x054 0 8 = 0 || s.axesOff then s.restCoil a
  else
    let t := s.modWatch a (fun w => { w with live := false, hold := true })
    if t.supplyOff a then t else t.energise a .holding

/-- A control period in which the estimator does not run: neither stall condition is present (R203, R207). -/
def State.stallIdle (a : Fin 12) (s : State) : State :=
  s.modWatch a (fun w => { w with
    angleRun := 0, stallRun := 0, clearRun := w.clearRun + 1, stalled := w.stalled && decide (w.clearRun + 1 < s.cf (.drv a) 0x078 8 8) })

/-- The first MOT clock of period `n` on a Plough die: the last period's clocks are finished, ACC is compared with END_POS
(R182), the setpoint is applied, and a level is requested (R180, R189). Without the MOT clock nothing of it happens (R128). -/
def State.ploughPeriodAt (n : Nat) (a : Fin 12) (s0 : State) : State :=
  if s0.drv[a].motLost then s0
  else
    let s3 := State.runTo a 10000 runFuel s0
    let s3a := if s3.cf (.fb a) 0x058 0 2 = 0 then
        { s3 with fb := upd s3.fb (fbOf a) (fun f => { f with cmdAt := s3.drv[a].acc / 2 ^ 24 }) } else s3
    let limited := s3a.coil[a].vLimPeriod
    let s4 := if limited then
        (s3a.modCoil a (fun c => { c with vLimPeriod := false })).modWatch a (fun w => { w with vlimPeriods := inc w.vlimPeriods 0xFFFFFFFF })
      else s3a
    let s5 := if s4.drv[a].acc / 2 ^ 24 ≠ s4.drv[a].sp.endPos then (s4.axFlag a 8).halt a .planMismatch else s4
    let halted := s5.ax[a].halts ≠ []
    let l := s5.drv[a].next.filter (fun e => decide (n < e.1))
    let s6 := match s5.drv[a].next.find? (fun e => e.1 = n) with
      | some (_, sp) =>
        if halted then s5.modDrv a (fun d => { d with per := n, next := l, clock := 0 })
        else s5.modDrv a (fun d => { d with per := n, sp := sp, rate := sp.rate0, slope := sp.slope, next := l, clock := 0, missed := 0 })
      | none => s5.modDrv a (fun d =>
          { d with per := n, next := l, sp := { endPos := d.acc / 2 ^ 24, stop := true }, rate := 0, slope := 0, clock := 0, missed := d.missed + 1 })
    let s7 := (if s6.coil[a].coil = .free || s6.coil[a].coil = .brake then s6.stallIdle a else s6).requestLevel a
    if halted then s7
    else
      let sp := s7.drv[a].sp
      if sp.rate0 ≠ 0 ∨ sp.slope ≠ 0 then s7.driveCoils a
      else if s7.ax[a].st = .idle then s7.restCoils a else s7

/-- The period that starts now, or the next one the die has not begun. -/
def State.ploughPeriod (a : Fin 12) (s : State) : State := s.ploughPeriodAt (max (s.drv[a].per + 1) (periodOf s.tb)) a

/-- PLOUGH_PERIOD_START (R180). -/
def execPloughPeriodStart (a : Fin 12) (s : State) : Host.Outcome State Fault Refusal :=
  .next (s.ploughPeriod a)

/-- MICROSTEP_EMIT (R180): the clocks up to the next microstep of the running period are carried out; with none left in
the period nothing happens (log 11). -/
def execMicrostepEmit (a : Fin 12) (s : State) : Host.Outcome State Fault Refusal :=
  match s.emitOne a with
  | some t => .next (t.to (t.period * periodCounts + t.drv[a].clock))
  | none => .next s

/-! ## The voltage law (R194 to R196) -/

/-- The position the vector stands at: p rounded to the level's quantum, halves towards positive infinity (R188). -/
def vectorPos (p : Int) (level : Nat) : Int :=
  let q : Int := (quantum level : Nat)
  (2 * p + q) / (2 * q) * q

/-- N_half: MOT clocks from a counter valley to the peak (R198). -/
def State.nHalf (s : State) (a : Fin 12) : Nat := if s.cf (.drv a) 0x070 0 1 = 1 then 5000 else 2500

/-- Sign of the dead-time correction of leg P: that of the phase current at the last valley, none below 100 mA or with DTC = 0 (R197). -/
def State.dtcSign (s : State) (a : Fin 12) (i : Int) : Int :=
  if s.cf (.drv a) 0x070 24 1 = 0 || decide (i.natAbs < 100) then 0 else if i < 0 then -1 else 1

/-- High-side times of legs P and M for a phase voltage `u` in nV at VMOT_m `v` in nV, in MOT clocks: N_half × (1 ± d)/2, corrected by
DEAD_T × f_PWM, which is 0.8 clocks for each 10 ns. Leg P gains what it loses where the current flows out of it, and leg M the other way
(R197, R198; log 48). The corrected time may lie within the 2 % that R198 leaves to the low side: no rule says that the margin binds the
correction too (DESIGN CHOICE, log 83). -/
def State.legs (s : State) (a : Fin 12) (u v i : Int) : Int × Int :=
  let n : Int := s.nHalf a
  let c : Int := s.dtcSign a i * (8 * s.cf (.drv a) 0x070 8 8 : Nat) * v
  let leg (x : Int) : Int := clampI 0 n (freeRound 36 x (10 * v).toNat)
  (leg (5 * n * (v + u) + c), leg (5 * n * (v - u) - c))

/-- The demanded peaks of a PWM period join its window: a valley begins a period, with the measured currents (R208). -/
def Coils.watchPwm (valley : Bool) (da db : Nat) (c : Coils) : Coils :=
  { c with pwm := match valley, c.pwm with
      | false, (x, y) :: l => ((x.1, max x.2 da), (y.1, max y.2 db)) :: l
      | _, l => (((c.iA.natAbs, da), (c.iB.natAbs, db)) :: l).take 64 }

/-- One voltage update from the multiplier's position and speed, VMOT in mV and, at a valley, the phase currents in mA.
Voltages are in nV. -/
def State.voltageUpdate (a : Fin 12) (vmot : Nat) (atValley : Bool) (valley : Option (Int × Int)) (s0 : State) : State :=
  let s := match valley with
    | some (ia, ib) => if atValley then s0.modCoil a (fun c => { c with iA := ia, iB := ib }) else s0
    | none => s0
  let c := s.coil[a]
  if c.coil = .free || c.coil = .brake then s
  else
    let i := s.amplitude a
    let d := s.drv[a]
    let rate : Int := if d.sp.neg then -d.rate else d.rate
    let rph := s.cf (.drv a) 0x040 0 16
    let lph := s.cf (.drv a) 0x044 0 16
    let ke := s.cf (.drv a) 0x048 0 16
    let e : Int := fullStepNum rate * (ke * 1000 : Nat) / 2 ^ 56
    let ff := s.cf (.drv a) 0x04C 0 1 = 1 && c.laValid
    let t := turnCenti (if ff then c.angle else 0)
    let ud : Int := (rph * i * 1000 : Nat) + (if ff then e * t.2 / unitScale else 0)
    let uq : Int := fullStepNum rate * (lph * i : Nat) * 1570796326795 / (2 ^ 56 * 1000000000000) +
      (if ff then e * t.1 / unitScale else e)
    let avail := vmot * 960000
    let mag2 := (ud * ud + uq * uq).toNat
    let limited := decide (avail * avail < mag2)
    let scale (u : Int) : Int := if limited then u * avail / (max 1 (isqrt mag2) : Nat) else u
    let k := (vectorPos (d.acc / 2 ^ 24) c.level % 1024).toNat
    let ua := (scale ud * cosTable k - scale uq * sinTable k) / tableOne
    let ub := (scale ud * sinTable k + scale uq * cosTable k) / tableOne
    let v : Int := (vmot * 1000000 : Nat)
    let s1 := s.modCoil a (fun c =>
      { c with iSet := i, uA := freeRound 4 ua 10000000, uB := freeRound 4 ub 10000000,
               dA := freeRound 5 (ua * 32768) v.toNat, dB := freeRound 5 (ub * 32768) v.toNat,
               legA := s.legs a ua v c.iA, legB := s.legs a ub v c.iB
               vLim := limited, vLimPeriod := c.vLimPeriod || limited }.watchPwm atValley
          ((i * (cosTable k).natAbs) / tableOne) ((i * (sinTable k).natAbs) / tableOne))
    if !limited then s1
    else
      let s2 := (s1.unlearn a).drvFlag a 5
      let due := match c.vLimEvt with | none => true | some t => decide (t + ms 100 ≤ s2.tb)
      if due then (s2.modCoil a (fun c => { c with vLimEvt := some s2.tb })).ev (.drv a) 0x2103 (leBytes 2 (mv16 vmot)) else s2

/-- Instant of the next voltage update of an axis: the first multiple of N_half not yet past, after the last update (R195). -/
def State.updateAt (s : State) (a : Fin 12) : Nat :=
  let n := s.nHalf a
  let t := ceilDiv s.tb n * n
  match s.coil[a].updAt with | some u => if u < t then t else (u / n + 1) * n | none => t

/-- VOLTAGE_UPDATE (R194, R195): at the next peak or valley of the PWM counter, which starts on control-period boundaries; the
multiplier runs up to that clock. Without the MOT clock there is none (R128). -/
def execVoltageUpdate (a : Fin 12) (vmot : Nat) (valley : Option (Int × Int)) (s : State) : Host.Outcome State Fault Refusal :=
  if s.drv[a].motLost then .next s
  else
    let t := s.updateAt a
    let s1 := State.runTo a (min 10000 (t - s.drv[a].per * periodCounts)) runFuel (s.to t)
    .next ((s1.voltageUpdate a vmot (t % (2 * s.nHalf a) = 0) valley).modCoil a (fun c => { c with updAt := some t }))

/-! ## Standstill (R200 to R202, R128) -/

/-- STANDSTILL_DELAY_EXPIRY (R200): STBY_DELAY has passed since the axis came to rest, and the coils take STBY_MODE. -/
def execStandstillDelayExpiry (a : Fin 12) (s : State) : Host.Outcome State Fault Refusal :=
  if s.coil[a].coil = .holding || s.watch[a].hold then
    .next ((s.to (s.watch[a].restAt + ms (10 * s.cf (.drv a) 0x054 0 8))).restCoil a)
  else .next s

/-- The axes of Plough A (0) or Plough B (1). -/
def axesOf (d : Fin 2) : List (Fin 12) := (List.finRange 12).filter (fun a => decide (a.val < 6) = decide (d.val = 0))

/-- Every axis of a Plough die takes its standstill mode (R128). -/
def State.standstillDie (d : Fin 2) (s : State) : State := forAll (axesOf d) (fun a t => t.standstill a) s

/-- An axis runs on to the end of the second PWM period from `t0`, into the next control period where that lies in it, and takes standstill
there (R128). -/
def State.standstillPwm (t0 : Nat) (a : Fin 12) (s : State) : State :=
  let e := (t0 / (2 * s.nHalf a) + 2) * (2 * s.nHalf a)
  let next := (s.drv[a].per + 1) * periodCounts
  let s1 := if next < e then s.ploughPeriodAt (s.drv[a].per + 1) a else s
  ((State.runTo a (min 10000 (e - s1.drv[a].per * periodCounts)) runFuel s1).to e).standstill a

/-- LINK_RESET_RECEIVED (R128): the link endpoint is flushed, and standstill is taken at the end of the second PWM period. -/
def execLinkResetReceived (d : Fin 2) (s : State) : Host.Outcome State Fault Refusal :=
  let die : Fin 8 := if d.val = 0 then 3 else 4
  let t := forAll (axesOf d) (fun a t => t.standstillPwm s.tb a) s
  .next { t with links := upd t.links die (fun l => { l with out := {}, inn := {}, lost := l.lost + l.inn.evs.length }) }

/-- SETPOINT_TIMEOUT (R128): no setpoint for two PWM periods. -/
def execSetpointTimeout (d : Fin 2) (s : State) : Host.Outcome State Fault Refusal :=
  .next (s.standstillDie d)

/-- MOT_CLOCK_LOSS (R128): the forwarded MOT clock is lost; the standstill is held statically until the die's link has trained again
(log 49). -/
def execMotClockLoss (d : Fin 2) (s : State) : Host.Outcome State Fault Refusal :=
  .next (forAll (axesOf d) (fun a t => t.modDrv a (fun r => { r with motLost := true })) (s.standstillDie d))

/-- Side of an axis's gate-drive supply: its portal's side, or the configured gate side outside a portal (R317). -/
def State.gateSide (s : State) (a : Fin 12) : Fin 2 :=
  match s.portalOf a with
  | some (p, _) => if fld s.cfg.assign1[p] 16 2 = 1 then 1 else 0
  | none => if bit s.cfg.axGate a.val then 1 else 0

/-- Side of an axis by the map its Plough die holds (R317). -/
def State.heldSide (s : State) (a : Fin 12) : Fin 2 := if bit s.safe.gateHeld a.val then 1 else 0

/-- The gate-drive supply of an axis is cut (R202): its hold runs on, and an axis that is moving as R193 has it is halted. -/
def State.cutGate (a : Fin 12) (s : State) : State :=
  let moving := s.ax[a].moves || s.watch[a].live
  let s1 := s.modCoil a (fun c => Coils.enter .free { c with gateCut := true })
  if moving then s1.halt a .gateCut else s1

/-- The coils of an axis whose gate-drive supply is on, as R200 has them: driven while the axis is moving, HOLDING for the rest of
STBY_DELAY, or the standstill mode; R201 for one that is halted. -/
def State.coilsOn (a : Fin 12) (s : State) : State :=
  if s.supplyOff a || s.axesOff || s.ax[a].halts ≠ [] then s.restCoil a
  else if s.watch[a].live then s.driveCoils a
  else if s.watch[a].hold && decide (s.tb < s.watch[a].restAt + ms (10 * s.cf (.drv a) 0x054 0 8)) then s.energise a .holding
  else s.restCoil a

/-- The gate-drive supply of an axis returns (R202). -/
def State.restoreGate (a : Fin 12) (s : State) : State :=
  if !s.coil[a].gateCut then s
  else ((s.modCoil a (fun c => { c with gateCut := false })).unhalt a .gateCut).coilsOn a

/-- Both channels' gate halves of a side permit its gate-drive supply (Table 12-7). -/
def State.gateOn (s : State) (side : Fin 2) : Bool := bit s.grd.out.gate side && bit s.sbx.out.gate side

/-- GATE_CUT (R202): the gate-drive supply of a side is cut under SF6, which a half that is off does. -/
def execGateCut (side : Fin 2) (s : State) : Host.Outcome State Fault Refusal :=
  .next (if s.gateOn side then s
    else forAll ((List.finRange 12).filter (fun a => s.heldSide a = side)) (fun a t => t.cutGate a) s)

/-- GATE_RESTORE (R202): both halves of a side are on. -/
def execGateRestore (side : Fin 2) (s : State) : Host.Outcome State Fault Refusal :=
  .next (if s.gateOn side then
      forAll ((List.finRange 12).filter (fun a => s.heldSide a = side)) (fun a t => t.restoreGate a) s
    else s)

/-- The gate map that the configuration gives: bit n for AXnn on SIDE1 (R317). -/
def State.gateMapCfg (s : State) : Word :=
  (List.finRange 12).foldl (fun w n => putBit w n.val (decide ((s.gateSide n).val = 1))) 0

/-- Guard, unless it has halted, loads the gate map into both Plough dies (R317, R320); each axis has its gate-drive supply or not as the halves of its side then stand. -/
def State.loadGateMap (s : State) : State :=
  let t : State := { s with safe := { s.safe with gateHeld := if s.grd.halted then s.safe.gateHeld else s.gateMapCfg } }
  forAll (List.finRange 12) (fun a u => if u.gateOn (u.heldSide a) then u.restoreGate a else u.cutGate a) t

/-! ## Load angle, torque, stall (R203 to R207) -/

/-- A stall is declared (R207). The portal of a member takes it with its event (R266). -/
def State.declareStall (a : Fin 12) (byPos : Bool) (value : Int) (s : State) : State :=
  let s1 := (((s.unlearn a).drvFlag a 4).modWatch a (fun w => { w with stallCount := inc w.stallCount 0xFFFF, stalled := true, clearRun := 0 })).ev
    (.drv a) 0x2102 ([b8 (b2n byPos), 0, 0, 0] ++ leBytes 4 (tc 32 value))
  let s2 := (if s1.hasEncoder a then s1 else s1.axFlag a 7).statAxis a 3 1
  match s2.portalOf a with
  | some _ => s2
  | none => if s2.cf (.drv a) 0x078 16 1 = 1 then s2.halt a .stall else s2

/-- The stall detector's run of periods (R206, R207). -/
def State.stallStep (a : Fin 12) (s : State) : State :=
  let c := s.coil[a]
  let enc := s.hasEncoder a
  let w := s.com (.drv a) 0x078
  let n := fld w 8 8
  let byAngle := c.laValid && decide (fld w 0 8 * 100 < c.angle.natAbs)
  let byPos := !c.laValid && c.coil = .driven && enc && decide (s.cf (.drv a) 0x07C 0 16 < c.posErr.natAbs)
  let s1 := s.modCoil a (fun c => { c with blind := c.coil = .driven && !c.laValid && !enc })
  if byAngle || byPos then
    let s2 := s1.modWatch a (fun w =>
      { w with angleRun := if byAngle then w.angleRun + 1 else 0, stallRun := if byPos then w.stallRun + 1 else 0, clearRun := 0 })
    if n ≤ max s2.watch[a].angleRun s2.watch[a].stallRun && !s2.watch[a].stalled then
      s2.declareStall a byPos (if byPos then c.posErr else c.angle)
    else s2
  else s1.stallIdle a

/-- The estimator's step over one control period: average voltages in mV, average currents and currents at the period's
end in mA (R203 to R205). -/
def State.estimate (a : Fin 12) (u i e : Int × Int) (s : State) : State :=
  let c := s.coil[a]
  if c.coil = .free || c.coil = .brake then s
  else
    let rph : Int := s.cf (.drv a) 0x040 0 16
    let lph : Int := s.cf (.drv a) 0x044 0 16
    let w := s.watch[a]
    let em (u i e p : Int) : Int := 1000 * u - rph * i - 16 * lph * (e - p)
    let v := (em u.1 i.1 e.1 w.iPrev.1, em u.2 i.2 e.2 w.iPrev.2)
    let nf := max 1 (s.cf (.drv a) 0x078 24 8)
    let emf := (v :: w.emf).take nf
    let sum := emf.foldl (fun t x => (t.1 + x.1, t.2 + x.2)) ((0, 0) : Int × Int)
    let cnt := max 1 emf.length
    let driven := if c.coil = .driven then w.driven + 1 else 0
    let rate := s.drv[a].sp.rate0
    let valid := c.coil = .driven &&
      decide (s.cf (.drv a) 0x07C 16 16 * 2 ^ 56 ≤ (fullStepNum rate).natAbs) && decide (nf ≤ driven)
    let sgn : Int := if s.drv[a].sp.neg then -1 else 1
    let raw := 9000 - sgn * freeAngle (i.1 * sum.1 + i.2 * sum.2) (i.1 * sum.2 - i.2 * sum.1)
    let delta := if 18000 < raw then raw - 36000 else if raw < -18000 then raw + 36000 else raw
    let mag := isqrt ((i.1 * i.1 + i.2 * i.2).natAbs * 1000000)
    let torque := freeRound 6 (s.cf (.drv a) 0x048 16 16 * mag * (turnCenti delta).2) (10000000 * unitScale)
    let eEst := (freeRound 7 (isqrt (sum.1 * sum.1 + sum.2 * sum.2).natAbs) (10000 * cnt)).toNat
    let s1 := (s.modWatch a (fun w => { w with emf := emf, driven := driven, iPrev := e })).modCoil a (fun c =>
      { c with laValid := valid, eEst := eEst, angle := if valid then delta else c.angle, tEst := if valid then torque else c.tEst })
    let s2 := match s1.portalOf a with
      | some (p, k) => if h : k < 2 then
            { s1 with ptlIn := upd s1.ptlIn p (fun x => { x with fresh := x.fresh.set k true }) } else s1
      | none => s1
    s2.stallStep a

/-- LOAD_ANGLE_ESTIMATE (R203): once per control period while DRIVEN or HOLDING. -/
def execLoadAngleEstimate (a : Fin 12) (u i e : Int × Int) (s : State) : Host.Outcome State Fault Refusal :=
  .next (s.estimate a u i e)

/-- A HALT cause raised by a stall ends: with an encoder at standstill, without one at the end of the period after the
halt (R207). Checked at the boundary that starts period n. -/
def State.endStallHalt (n : Nat) (a : Fin 12) (s : State) : State :=
  if HaltCause.stall ∈ s.ax[a].halts then
    if s.hasEncoder a then (if s.fb[fbOf a].still then s.unhalt a .stall else s)
    else if periodOf s.watch[a].restAt + 2 ≤ n then s.unhalt a .stall else s
  else s

/-! ## Bridge protection (R208, R209) -/

/-- A bridge fault latches its FLAGS bit, frees the axis and halts it (R208). -/
def State.bridgeFault (a : Fin 12) (k : Nat) (s : State) : State :=
  let s1 := s.drvFlag a k
  let s2 := (s1.halt a .bridgeFault).restCoil a
  s2.ev (.drv a) 0x2101 [b8 (s2.coil[a].flags.toNat)]

/-- OVERCURRENT_TRIP (R208). -/
def execOvercurrentTrip (a : Fin 12) (s : State) : Host.Outcome State Fault Refusal :=
  .next ((s.modWatch a (fun w => { w with ocCount := inc w.ocCount 0xFFFF, ocAt := s.tb })).bridgeFault a 0 |>.statAxis a 4 1)

/-- The open-phase condition of Table 08-3 on a phase: over 64 PWM periods driven or held, the peak measured current has stayed below 10 %
of the peak demanded, which is at least 200 mA. -/
def State.phaseOpen (s : State) (a : Fin 12) (phaseB : Bool) : Bool :=
  let c := s.coil[a]
  let l := c.pwm.map (fun e => if phaseB then e.2 else e.1)
  let want : Nat := (l.map (·.2)).foldl max 0
  let seen : Nat := (l.map (·.1)).foldl max 0
  (c.coil = .driven || c.coil = .holding) && decide (64 ≤ l.length) && decide (200 ≤ want) && decide (10 * seen < want)

/-- OPEN_PHASE_DETECT (R208): 64 PWM periods under 10 % of the demanded peak, while DRIVEN or HOLDING. -/
def execOpenPhaseDetect (a : Fin 12) (phaseB : Bool) (s : State) : Host.Outcome State Fault Refusal :=
  .next (if s.phaseOpen a phaseB then s.bridgeFault a (if phaseB then 2 else 1) else s)

/-- GDRV_UV (R208): the die's gate-drive supply has been low for 2 µs, other than by an SF6 cut; or, with `low` false, it
measures above its threshold again, which R209 asks about. -/
def execGdrvUv (d : Fin 2) (low : Bool) (s : State) : Host.Outcome State Fault Refusal :=
  .next (forAll (axesOf d) (fun a t =>
      let u := t.modWatch a (fun w => { w with gdrvLow := low })
      if low then u.bridgeFault a 3 else u) s)

/-- A W1C write to DRV FLAGS, bit by bit: a refused OC or GDRV_UV stays set and is reported, and the others written with it clear (R209). -/
def State.drvFlagsWrite (a : Fin 12) (w : Word) (s : State) : State :=
  let c := s.coil[a]
  let oc := bit w 0 && bit c.flags 0 && decide (s.tb < s.watch[a].ocAt + ms 10)
  let gd := bit w 3 && bit c.flags 3 && s.watch[a].gdrvLow
  let w1 := if oc then clrBit w 0 else w
  let w2 := if gd then clrBit w1 3 else w1
  let had := c.flags &&& 0xF
  let s1 := s.modCoil a (fun c => { c with flags := c.flags &&& ~~~w2 })
  let s2 := if had ≠ 0 && s1.coil[a].flags &&& 0xF = 0 then s1.unhalt a .bridgeFault else s1
  if oc || gd then s2.err (.drv a) 0x40 0 0x084 else s2

/-- DRV_FLAG_CLEAR (R209): host software writes FLAGS. -/
def execDrvFlagClear (a : Fin 12) (w : Word) (s : State) : Host.Outcome State Fault Refusal :=
  .next (s.gated (.drv a) 0x084 w true (State.drvFlagsWrite a w))

end Sys2Proof.Machine
end

