-- ==== Sys2Proof/Machine/Coord.lean ====
section
/-! DEFINITION. Coupled axes: start groups, gear engines, cam engines, and the control-period boundary that drives them
and the planners (R160, R169, R244 to R261). -/

namespace Sys2Proof.Machine

/-! ## The master (R250, R258) -/

/-- Feedback channel of a master source code; 15 is none (R258). -/
def masterOf (src : Nat) : Option (Fin 14) := if h : src < 14 then some ⟨src, h⟩ else none

/-- STA.VALID of a channel: MODE 1 or 2 and no encoder fault (R241). -/
def State.fbValid (s : State) (c : Fin 14) : Bool :=
  (s.cf (fbPage c) 0x058 0 2 = 1 || s.cf (fbPage c) 0x058 0 2 = 2) && !bit s.fb[c].flags 0

/-- MSRC of a gear engine. -/
def State.gearSrc (s : State) (a : Fin 12) : Nat := s.cf (.gear a) 0x05C 0 4

/-- SETUP.MSRC of a cam engine. -/
def State.camSrc (s : State) (c : Fin 4) : Nat := s.cf (.cam c) 0x044 8 4

/-- SETUP.AXIS of a cam engine. -/
def State.camAxis (s : State) (c : Fin 4) : Fin 12 := Fin.ofNat 12 (s.cf (.cam c) 0x044 0 4)

/-- Fine position of a channel at the boundary of a period; the newest one where that one is not held, and POS before
any (R250). -/
def State.fineAt (s : State) (c : Fin 14) (n : Nat) : Int :=
  match s.fb[c].fines.find? (fun e => e.1 = n) with
  | some e => e.2
  | none => match s.fb[c].fines with | e :: _ => e.2 | [] => s.fb[c].pos * 65536

/-! ## The gear relation (R252 to R254) -/

/-- S of a fine master position under a reference pair and a ratio (R252). -/
def gearPos (refM refS num : Int) (den : Nat) (m : Int) : Int := refS + roundHalfUp ((m - refM) * num) (den * 65536)

/-- A committed ratio takes effect once the sample of its boundary is in: the reference moves to that sample (R252). -/
def State.applyRatio (a : Fin 12) (s : State) : State :=
  let g := s.gear[a]
  match g.ratio, masterOf (s.gearSrc a) with
  | some (n, num, den), some c =>
    match s.fb[c].fines.find? (fun e => decide (n ≤ e.1)) with
    | none => s
    | some _ =>
      let m := s.fineAt c n
      { s with gear := upd s.gear a (fun g =>
          { g with refM := m, refS := gearPos g.refM g.refS g.num g.den m, num := num, den := den, ratio := none
                   last := some (n * periodCounts, g.refM, g.refS, g.num, g.den) }) }
  | _, _ => s

/-- Change a gear engine. -/
def State.modGear (a : Fin 12) (f : Gear → Gear) (s : State) : State := { s with gear := upd s.gear a f }

/-- Change a cam engine. -/
def State.modCam (c : Fin 4) (f : Cam → Cam) (s : State) : State := { s with cam := upd s.cam c f }

/-- The relation an armed crossing at count `t` leaves (R253, R254). A crossing at or before the boundary of the last committed ratio has
taken effect before that commit, which then replaces the armed ratio: the reference of the commit moves with it. A ratio that still waits
for its boundary's sample is left waiting. -/
def Gear.crossed (t : Nat) (num : Int) (den : Nat) (pos : Int) (g : Gear) : Gear :=
  match g.last with
  | some (b, refM, refS, n, d) =>
    if t ≤ b then
      let x := gearPos refM refS n d (pos * 65536)
      { g with before := some (t, refM, refS, n, d), refS := gearPos (pos * 65536) x num den g.refM, last := none }
    else
      { g with before := some (t, g.refM, g.refS, g.num, g.den), refS := gearPos g.refM g.refS g.num g.den (pos * 65536)
               refM := pos * 65536, num, den }
  | none =>
    { g with before := some (t, g.refM, g.refS, g.num, g.den), refS := gearPos g.refM g.refS g.num g.den (pos * 65536)
             refM := pos * 65536, num, den }

/-- An armed crossing at count `t` (R253, R254). The page goes on showing the committed NUM and DEN, which a later ENGAGE takes: no rule
copies the armed pair into them (DESIGN CHOICE, log 77). -/
def State.cross (a : Fin 12) (t : Nat) (s0 : State) : State :=
  let s := match s0.gear[a].ratio with
    | some (n, _, _) => if t ≤ n * periodCounts then s0 else s0.applyRatio a
    | none => s0
  match s.gear[a].arm with
  | none => s
  | some (num, den, pos, _) =>
    let s1 := s.modGear a (fun g0 =>
      let g := g0.crossed t num den pos
      { g with arm := none, crossTb := stampOf t, crossCount := inc g.crossCount 0xFFFF })
    (s1.gearFlag a 0).ev (.gear a) 0x2403 (leBytes 2 s1.gear[a].crossCount ++ [0, 0, 0, 0] ++ leBytes 6 (stampOf t))

/-- The comparators of a master's die look at a decoded transition that moved POS from `old` to `new` (R253). -/
def State.crossings (c : Fin 14) (old new : Int) (t : Nat) (s : State) : State :=
  forAll ((List.finRange 12).filter (fun a =>
      s.gearSrc a = c.val && (match s.gear[a].arm with
        | some (_, _, pos, dir) => new = pos && ((dir ≠ 1 && old = pos - 1) || (dir ≠ 0 && old = pos + 1))
        | none => false)))
    (fun a t' => t'.cross a t) s

/-- S of a gear engine for the sample of period `n`: a sample stamped no later than the last crossing keeps the
relation before it (R253). -/
def State.gearOut (s : State) (a : Fin 12) (n : Nat) (m : Int) : Int :=
  let g := s.gear[a]
  match g.before with
  | some (t, refM, refS, num, den) =>
    if n * periodCounts ≤ t then gearPos refM refS num den m else gearPos g.refM g.refS g.num g.den m
  | none => gearPos g.refM g.refS g.num g.den m

/-! ## The cam relation (R255, R256) -/

/-- Point i of a committed table. -/
def State.camPoint (s : State) (c : Fin 4) (i : Nat) : Int := (s.com (.cam c) (0x400 + 4 * i)).toInt

/-- Twice the tangent at point i (R255). -/
def State.camTangent2 (s : State) (c : Fin 4) (i : Nat) : Int :=
  let d (j : Nat) : Int := s.camPoint c (j + 1) - s.camPoint c j
  if i = 0 then 2 * d 0
  else if 255 ≤ i then 2 * d 254
  else if d (i - 1) * d i ≤ 0 then 0
  else
    let top : Int := 6 * (min (d (i - 1)).natAbs (d i).natAbs : Nat)
    clampI (-top) top (d (i - 1) + d i)

/-- M_START of a cam engine in counts. -/
def State.camStart (s : State) (c : Fin 4) : Int :=
  sx 40 ((s.com (.cam c) 0x048).toNat + 2 ^ 32 * s.cf (.cam c) 0x04C 0 8)

/-- round(Y(M)), the interval, and whether M lies at or before P_0 or at or beyond P_255 (R255, R251). -/
def State.camY (s : State) (c : Fin 4) (m : Int) : Int × Nat × Bool × Bool :=
  let step := max 1 (s.cf (.cam c) 0x050 0 24)
  let d : Nat := step * 65536
  let r := m - s.camStart c * 65536
  if r ≤ 0 then (s.camPoint c 0, 0, true, false)
  else if 255 * (d : Int) ≤ r then (s.camPoint c 255, 254, false, true)
  else
    let i := (r / d).toNat
    let k := r % d
    let n : Int := d
    let y := 2 * (2 * k ^ 3 - 3 * k ^ 2 * n + n ^ 3) * s.camPoint c i + (k ^ 3 - 2 * k ^ 2 * n + k * n ^ 2) * s.camTangent2 c i
      + 2 * (-2 * k ^ 3 + 3 * k ^ 2 * n) * s.camPoint c (i + 1) + (k ^ 3 - k ^ 2 * n) * s.camTangent2 c (i + 1)
    (roundHalfUp y (2 * d ^ 3), i, false, false)

/-- A master sample arrives at the engines that take it: M_NOW, and what the CAM page shows of it (R258, R259). -/
def State.sampleEngines (c : Fin 14) (m : Int) (s : State) : State :=
  let s1 := forAll ((List.finRange 12).filter (fun a => s.gearSrc a = c.val))
    (fun a t => (t.modGear a (fun g => { g with mNow := m })).applyRatio a) s
  forAll ((List.finRange 4).filter (fun k => s.camSrc k = c.val)) (fun k t =>
    let y := t.camY k m
    t.modCam k (fun x => { x with mNow := m, yNow := y.1, seg := y.2.1, below := y.2.2.1, above := y.2.2.2 })) s1

/-! ## Engaging and ending (R244, R245, R256, R257) -/

/-- The code with which an ENGAGE of engine `me` on axis `a` with master source `src` is refused (R244, R245). -/
def State.engageRefusal (s : State) (wr : Writer) (a : Fin 12) (me src : Nat) : Option Nat :=
  let x := s.ax[a]
  if x.engine.isSome && x.engine ≠ some me then some 0x40
  else if !s.modeMoves || !s.ownsAxis wr a || !(s.pg (.ax a)).en then some 0x42
  else if x.st ≠ .idle || x.queue ≠ [] || x.heldAfter ≠ [] || x.active || s.gear[a].waiting.isSome then some 0x42
  else match masterOf src with
    | none => some 0x42
    | some c =>
      if src = a.val || !s.fbValid c || !bit s.present (ploughDie a).val || !bit s.present (pageDie (fbPage c)).val then some 0x42
      else if !s.fb[c].still then some 0x41
      else none

/-- Period from which an engagement counts, and the master's sample it refers to: M(b_{m−1}) (R252, R256). -/
def State.engageRef (s : State) (src : Nat) : Nat × Int :=
  let m := s.takePeriod
  (m, match masterOf src with | some c => s.fineAt c (m - 1) | none => 0)

/-- The axis follows an engine from here on (R244). -/
def State.follow (a : Fin 12) (e : Nat) (s : State) : State :=
  s.modAx a (fun x => { x with engine := some e, st := .follow, leaving := false, furrow := x.front })

/-- ENGAGE of a gear engine: the refusal code, or none with the engine engaged (R245, R252). -/
def State.gearEngage (wr : Writer) (a : Fin 12) (s : State) : Option Nat × State :=
  match s.engageRefusal wr a a.val (s.gearSrc a) with
  | some c => (some c, s)
  | none =>
    let r := s.engageRef (s.gearSrc a)
    (none, (s.modGear a (fun g =>
      { g with engaged := true, since := r.1, refM := r.2, refS := s.ax[a].pos, outs := [s.ax[a].pos], before := none, ratio := none, last := none
               num := (s.com (.gear a) 0x044).toInt, den := (s.com (.gear a) 0x048).toNat })).follow a a.val)

/-- ENGAGE of a cam engine (R245, R256). -/
def State.camEngage (wr : Writer) (c : Fin 4) (s : State) : Option Nat × State :=
  let a := s.camAxis c
  match s.engageRefusal wr a (16 + c.val) (s.camSrc c) with
  | some k => (some k, s)
  | none =>
    let r := s.engageRef (s.camSrc c)
    (none, (s.modCam c (fun g =>
      { g with engaged := true, since := r.1, ofs := s.ax[a].pos - (s.camY c r.2).1, outs := [s.ax[a].pos] })).follow a
        (16 + c.val))

/-- ARM of a gear engine (R253): refused with ARM_BUSY while armed. -/
def State.gearArm (a : Fin 12) (s : State) : Option Nat × State :=
  if s.gear[a].arm.isSome then (some 0x43, s)
  else
    let p : PageId := .gear a
    (none, s.modGear a (fun g =>
      { g with arm := some ((s.com p 0x04C).toInt, (s.com p 0x050).toNat,
                            sx 40 ((s.com p 0x054).toNat + 2 ^ 32 * s.cf p 0x058 0 8), s.cf p 0x058 8 2) }))

/-- DISENGAGE: the end of following is taken under R170; an engine that is not engaged ignores it (R257). -/
def State.disengage (a : Fin 12) (e : Nat) (s : State) : State :=
  if s.ax[a].engine = some e then s.accept a (.follow .disengage) else s

/-- A control command of an engine, 0 to 11 GEAR, 16 to 19 CAM, by the bits of CTL (Tables 10-3, 10-4): the refusal
code, or none and the effect. Exactly one bit is asked for (CTL_CONFLICT). -/
def State.engineCommand (wr : Writer) (e ctl : Nat) (s : State) : Option Nat × State :=
  if h : e < 12 then
    let a : Fin 12 := ⟨e, h⟩
    match ctl % 16 with
    | 1 => s.gearEngage wr a
    | 2 => (none, (s.modGear a (fun g => { g with arm := none })).disengage a e)
    | 4 => s.gearArm a
    | 8 => (none, s.modGear a (fun g => { g with arm := none }))
    | _ => (some 0x44, s)
  else
    let c : Fin 4 := Fin.ofNat 4 e
    match ctl % 4 with
    | 1 => s.camEngage wr c
    | 2 => (none, s.disengage (s.camAxis c) e)
    | _ => (some 0x44, s)

/-- A write of CTL on the page of an engine. -/
def State.engineCtl (wr : Writer) (e : Nat) (w : Word) (s : State) : State :=
  match s.engineCommand wr e w.toNat with
  | (some code, t) => t.err (enginePage e) code 0 0x040
  | (none, t) => t

/-- The master channel is lost to every engine that follows it (Table 10-1). -/
def State.masterLost (c : Fin 14) (s : State) : State :=
  forAll (List.finRange 12) (fun a t =>
    match t.ax[a].engine with
    | some e =>
      let src := if h : e < 12 then t.gearSrc ⟨e, h⟩ else t.camSrc (Fin.ofNat 4 e)
      if src = c.val then t.accept a (.follow .masterLost) else t
    | none => t) s

/-! ## An engine's setpoint (R251) -/

/-- A period of constant rate from one whole microstep to another. -/
def followPeriod (from_ to_ : Int) : Period :=
  let w := (to_ - from_).natAbs * 512000000
  let neg := decide (to_ < from_)
  { w0 := w, w1 := w, neg, x := to_ * unitsPerStep, stop := decide (to_ = from_), st := .follow
    plan := { x := to_ * unitsPerStep, w, neg } }

/-- The engine of an axis computes the setpoint of period n + 1 just before the boundary that starts n, from the master's
sample of n − 1; a cause of Table 10-1 it finds ends following at once, and the setpoint is not issued (R251, R257). -/
def State.engineStep (n : Nat) (a : Fin 12) (s0 : State) : State :=
  match s0.ax[a].engine with
  | none => s0
  | some e =>
    let s := if h : e < 12 then s0.applyRatio ⟨e, h⟩ else s0
    let src := if h : e < 12 then s.gearSrc ⟨e, h⟩ else s.camSrc (Fin.ofNat 4 e)
    let since := if h : e < 12 then s.gear[(⟨e, h⟩ : Fin 12)].since else s.cam[(Fin.ofNat 4 e)].since
    let outs := if h : e < 12 then s.gear[(⟨e, h⟩ : Fin 12)].outs else s.cam[(Fin.ofNat 4 e)].outs
    let prev := match outs with | o :: _ => o | [] => s.ax[a].pos
    let m := match masterOf src with | some c => s.fineAt c (n - 1) | none => 0
    -- a block reset has taken the master away: the last setpoint stands until the end it asks for is taken (R511)
    let out := if n ≤ since || !(s.pg (.ax a)).en || (masterOf src).isNone then prev
      else if h : e < 12 then s.gearOut ⟨e, h⟩ (n - 1) m else s.cam[(Fin.ofNat 4 e)].ofs + (s.camY (Fin.ofNat 4 e) m).1
    let b := s.bounds a
    let stop (c : FollowEnd) : State := (s.modAx a (fun x => { x with taken := x.taken ++ [(n - 1, .follow c)] })).takeDue a (n - 1)
    if min (s.profile a).vMax b.cap < (out - prev).natAbs * 4096000 then stop .overspeed
    else if out < b.lo ∨ b.hi < out then stop .limit
    else
      let t := s.modAx a (fun x => { x with furrow := x.front ++ [followPeriod prev out] })
      if h : e < 12 then t.modGear ⟨e, h⟩ (fun g => { g with outs := [out, prev] })
      else t.modCam (Fin.ofNat 4 e) (fun g => { g with outs := [out, prev] })

/-! ## Start groups (R246 to R248) -/

/-- Members of a start group. -/
def State.members (s : State) (grp : Fin 4) : List (Fin 12) :=
  fins 12 (fun a => bit (s.com (.gear a) 0x060) 0 && s.cf (.gear a) 0x060 1 2 = grp.val)

/-- Axis set of a list, bit n for AXnn. -/
def axisMask (l : List (Fin 12)) : Nat := l.foldl (fun m a => m ||| 2 ^ a.val) 0

/-- The test of a start group in period m: with every member IDLE, holding a move, and on a Plough die that is not absent, all start at
period m + 2 (R247, R248). -/
def State.groupTest (m : Nat) (grp : Fin 4) (s : State) : State :=
  let l := s.members grp
  match l with
  | [] => s
  | low :: _ =>
    if l.all (fun a => s.ax[a].st = .idle && s.gear[a].waiting.isSome && s.ax[a].queue ≠ []
        && s.domOn (dieDom (ploughDie a)) && !s.dieAbsent (ploughDie a)) then
      let tb := (m + 2) * periodCounts
      let t := forAll l (fun a t =>
        let x := t.ax[a]
        let p := x.commitPlan
        let pr := t.planProfile a
        let b := t.bounds a
        let plan : Plan := { p with moves := x.queue, ends := joints pr b p.x p.neg p.w x.queue, stop := none, held := none, dec := false }
        ((t.modAx a (fun x => { x with furrow := x.front ++ planAhead pr b 510 plan }.refreshEnds)).modGear a
          (fun g => { g with waiting := none, startTb := stampOf tb })).gearFlag a 5) s
      t.ev (.gear low) 0x2401 ([b8 grp.val, 0] ++ leBytes 2 (axisMask l) ++ [0, 0] ++ leBytes 6 (stampOf tb))
    else s

/-- Deadline of a waiting member, if its GRP_TMO sets one (R248). -/
def State.groupDeadline (s : State) (a : Fin 12) : Option Nat :=
  match s.gear[a].waiting with
  | some w => let tmo := s.cf (.gear a) 0x060 16 16
              if tmo = 0 then none else some (w * periodCounts + ms tmo)
  | none => none

/-- GROUP_TIMEOUT (R248): a member has waited for longer than its GRP_TMO; every waiting member's held moves are discarded. Table 16-7
gives the event no page; as for GROUP_START it is the GEAR page of the lowest member that waits (DESIGN CHOICE, log 77). -/
def execGroupTimeout (grp : Fin 4) (s : State) : Host.Outcome State Fault Refusal :=
  let l := s.members grp
  match l.filterMap s.groupDeadline with
  | [] => .next s
  | d :: ds =>
    let w := l.filter (fun a => s.gear[a].waiting.isSome)
    let t := forAll w (fun a t => (t.unwait a).gearFlag a 4) (s.to (ds.foldl min d))
    .next (t.ev (.gear (w.headD 0)) 0x2402 ([b8 grp.val, 0] ++ leBytes 2 (axisMask w)))

/-! ## The control-period boundary (R169, R170, R175) -/

/-- The axes that hold a STOP passed on within the start group take it in the same period n, whichever member it reaches (R249). -/
def State.takePassed (n : Nat) (s : State) : State :=
  forAll (List.finRange 12) (fun a u => if u.ax[a].taken.any (fun e => e.2 = .passed) then u.takeDue a n else u) s

/-- What Junction does at the boundary that starts period n, after all that period n − 1 takes (R169, R247, R251). -/
def State.boundaryAt (n : Nat) (s0 : State) : State :=
  let axes := List.finRange 12
  let s1 := (forAll axes (fun a t => t.takeDue a (n - 1)) s0).takePassed (n - 1)
  let s2 := forAll (List.finRange 4) (fun g t => t.groupTest (n - 1) g) s1
  let s3 := (forAll axes (fun a t => t.engineStep n a) s2).takePassed (n - 1)
  let s4 := forAll axes (fun a t => t.endPeriod a) s3
  let s5 := forAll axes (fun a t => t.endStallHalt n a) s4
  forAll axes (fun a t => if t.ax[a].following then t.commitSetpoint n a else t.planBoundary n a) s5

/-- Positions of the leaves at the boundary of period n, while a reference close runs: POS_US for a leaf with an encoder, the
setpoint for one without (R292). -/
def State.refSample (n : Nat) (s : State) : State :=
  forAll (List.finRange 8) (fun p t =>
    if t.ptl[p].refRun then
      let at_ (k : Nat) : Int := match t.member p k with
        | some a => if t.hasEncoder a then t.posUs a else t.ax[a].pos
        | none => 0
      { t with ptlRun := upd t.ptlRun p (fun r => { r with hist := ((n, at_ 0, at_ 1) :: r.hist).take 512 }) }
    else t) s

/-! ## The commands of the AX, GEAR and CAM pages (R160, R245, R253, R257) -/

/-- A write of MOVE_CTL by host software with one command bit. -/
def State.hostMove (a : Fin 12) (bits kind : Nat) (neg : Bool) (s : State) : State :=
  let w := mkWord [(0, 5, bits), (8, 2, kind), (12, 1, b2n neg)]
  s.gated (.ax a) 0x040 w true (State.moveCtl .host a w)

/-- GO (R160). -/
def execGo (a : Fin 12) (kind : Fin 4) (neg : Bool) (s : State) : Host.Outcome State Fault Refusal :=
  .next (s.hostMove a 1 kind.val neg)

/-- IMM (R160). -/
def execImm (a : Fin 12) (kind : Fin 4) (neg : Bool) (s : State) : Host.Outcome State Fault Refusal :=
  .next (s.hostMove a 2 kind.val neg)

/-- STOP (R160). -/
def execStop (a : Fin 12) (s : State) : Host.Outcome State Fault Refusal := .next (s.hostMove a 4 0 false)

/-- QSTOP (R160). -/
def execQstop (a : Fin 12) (s : State) : Host.Outcome State Fault Refusal := .next (s.hostMove a 8 0 false)

/-- FLUSH (R160). -/
def execFlush (a : Fin 12) (s : State) : Host.Outcome State Fault Refusal := .next (s.hostMove a 16 0 false)

/-- A write of CTL of an engine by host software. -/
def State.hostEngine (e bits : Nat) (s : State) : State :=
  s.gated (enginePage e) 0x040 (BitVec.ofNat 32 bits) true (State.engineCtl .host e (BitVec.ofNat 32 bits))

/-- GEAR_ENGAGE (R245). -/
def execGearEngage (a : Fin 12) (s : State) : Host.Outcome State Fault Refusal := .next (s.hostEngine a.val 1)

/-- GEAR_DISENGAGE (R257). -/
def execGearDisengage (a : Fin 12) (s : State) : Host.Outcome State Fault Refusal := .next (s.hostEngine a.val 2)

/-- GEAR_ARM (R253). -/
def execGearArm (a : Fin 12) (s : State) : Host.Outcome State Fault Refusal := .next (s.hostEngine a.val 4)

/-- GEAR_DISARM (R253). -/
def execGearDisarm (a : Fin 12) (s : State) : Host.Outcome State Fault Refusal := .next (s.hostEngine a.val 8)

/-- CAM_ENGAGE (R256). -/
def execCamEngage (c : Fin 4) (s : State) : Host.Outcome State Fault Refusal := .next (s.hostEngine (16 + c.val) 1)

/-- CAM_DISENGAGE (R257). -/
def execCamDisengage (c : Fin 4) (s : State) : Host.Outcome State Fault Refusal := .next (s.hostEngine (16 + c.val) 2)

end Sys2Proof.Machine
end

