-- ==== Sys2Proof/Machine/Feedback.lean ====
section
/-! DEFINITION. Feedback channels: quadrature, SSI, speed, presets, probes, and the door switch inputs (R215 to R243). -/

namespace Sys2Proof.Machine

/-- Change a feedback channel. -/
def State.modFb (c : Fin 14) (f : Fb → Fb) (s : State) : State := { s with fb := upd s.fb c f }

/-- Change SSI and probes of a feedback channel. -/
def State.modFbx (c : Fin 14) (f : FbAux → FbAux) (s : State) : State := { s with fbx := upd s.fbx c f }

/-- INPUT.MODE of a channel. -/
def State.fbMode (s : State) (c : Fin 14) : Nat := s.cf (fbPage c) 0x058 0 2

/-- DELAY: FILT + 3 in MODE 1, otherwise 0 (R219, R241). -/
def State.fbDelay (s : State) (c : Fin 14) : Nat := if s.fbMode c = 1 then s.cf (fbPage c) 0x058 4 5 + 3 else 0

/-- ENC_FAULT of a channel. -/
def State.encFault (s : State) (c : Fin 14) : Bool := bit s.fb[c].flags 0

/-- The axis of a channel; FBX has none. -/
def axisOf (c : Fin 14) : Option (Fin 12) := if h : c.val < 12 then some ⟨c.val, h⟩ else none

/-- Standstill (R231): VEL is 0 and no run is open. -/
def Fb.standstill (f : Fb) : Fb := { f with still := true, vel := 0, rate := (0, 1), runDir := 0, runLen := 0, stamps := [] }

/-- A transition joins the run in direction `d` at stamp `t`; a reversal starts a new run, from which VEL is 0; the second transition of a
run leaves standstill (R230, R231). -/
def Fb.runStep (d : Int) (t : Nat) (f : Fb) : Fb :=
  let g := if f.runDir = d then { f with runLen := f.runLen + 1, stamps := t :: f.stamps }
    else { f with runDir := d, runLen := 1, stamps := [t], rate := (0, 1), vel := 0 }
  { g with still := g.still && decide (g.runLen < 2)
           stamps := g.stamps.take 2 ++ (g.stamps.drop 2).filter (fun u => decide (t ≤ u + 16 * periodCounts)) }

/-- RAW and POS take a change of `n` counts in direction `d`: with HYST_EN the first count after a reversal is absorbed
(R220). -/
def Fb.count (hyst : Bool) (d : Int) (n : Nat) (f : Fb) : Fb :=
  let absorb := hyst && f.lastDir ≠ 0 && d ≠ f.lastDir
  { f with raw := f.raw + d * n, pos := f.pos + d * (if absorb then n - 1 else n : Nat)
           hyst := if absorb then inc f.hyst 0xFFFF else f.hyst, lastDir := d }

/-- What a channel reports keeps a close of its axis from being learned (R285). -/
def State.unlearnFb (c : Fin 14) (s : State) : State := match axisOf c with | some a => s.unlearn a | none => s

/-- An encoder fault is declared (R223): POS and VEL freeze, POS_UNCERTAIN is set, the engines learn of it; the portal
takes the cause with the event (R266). -/
def State.encDeclare (c : Fin 14) (cause : Nat) (s : State) : State :=
  if s.encFault c then s
  else
    let s1 := ((s.unlearnFb c).fbFlag c 0).modFb c (fun f => { f with cause := cause, uncertain := true, window := none })
    let s2 := s1.raise (pageDie (fbPage c)) (evSource (fbPage c)) 0x2201 [b8 cause]
    let s3 := match axisOf c with
      | some a => s2.statAxis a 7 1
      | none => s2
    s3.masterLost c

/-! ## Quadrature (R217 to R225) -/

/-- Place of filtered A and B in the order 00, 10, 11, 01, in which each edge of A leads the edge of B. -/
def quadPlace (a b : Bool) : Nat := if a then (if b then 2 else 1) else (if b then 3 else 0)

/-- A legal transition in direction `d` with stamp `t` (R220, R222, R230). -/
def State.quadStep (c : Fin 14) (d : Int) (t : Nat) (s : State) : State :=
  let f := s.fb[c]
  let hyst := s.cf (fbPage c) 0x058 3 1 = 1
  let s1 := s.modFb c (fun f =>
    let g := (f.count hyst d 1).runStep d t
    { g with
      trail := ((t, f.pos) :: f.trail).take 16
      window := match f.window with | some (l, n) => if 1000 ≤ l + 1 then none else some (l + 1, n) | none => none })
  if s1.fb[c].pos ≠ f.pos then s1.crossings c f.pos s1.fb[c].pos t else s1

/-- An illegal transition (R221, R222). -/
def State.quadIllegal (c : Fin 14) (s : State) : State :=
  let n := (match s.fb[c].window with | some (_, n) => n | none => 0) + 1
  let s1 := ((s.unlearnFb c).modFb c (fun f =>
    { f with qerr := inc f.qerr 0xFFFF, uncertain := true
             window := match f.window with | some (l, _) => some (l, n) | none => some (0, n) })).fbFlag c 1
  if s.cf (fbPage c) 0x058 16 8 < n then s1.encDeclare c 1 else s1

/-- FILT of a channel in MOT clocks (R218). -/
def State.fbFilt (s : State) (c : Fin 14) : Nat := s.cf (fbPage c) 0x058 4 5

/-- A change of line `k` at clock `t` would end a level shorter than `n` clocks, which the filter lets no decoder see (R218). -/
def Fb.tooShort (f : Fb) (k : Fin 3) (t n : Nat) : Bool := match f.edges[k] with | some e => decide (t < e + n) | none => false

/-- ENCODER_TRANSITION (R220): the filtered lines stand at `a` and `b` at the decode clock `t`. A level of a line shorter than FILT clocks
never gets here (R218). With DIR_INV = 0, B leading counts negative and A leading positive (R217; log 61). -/
def execEncoderTransition (c : Fin 14) (a b : Bool) (t : Nat) (s0 : State) : Host.Outcome State Fault Refusal :=
  let s := s0.to t
  let f := s.fb[c]
  let k := (quadPlace a b + 4 - quadPlace f.lvA f.lvB) % 4
  let e (i : Fin 3) (b : Bool) (v : Vector (Option Nat) 3) : Vector (Option Nat) 3 := if b then upd v i (fun _ => some s.tb) else v
  let s1 := s.modFb c (fun f => { f with lvA := a, lvB := b, edges := e 0 (a ≠ f.lvA) (e 1 (b ≠ f.lvB) f.edges) })
  if (a ≠ f.lvA && f.tooShort 0 s.tb (s.fbFilt c)) || (b ≠ f.lvB && f.tooShort 1 s.tb (s.fbFilt c)) then .next s
  else if s.fbMode c ≠ 1 || s.encFault c || k = 0 then .next s1
  else if k = 2 then .next (s1.quadIllegal c)
  else
    let d : Int := if decide (k = 1) = (s.cf (fbPage c) 0x058 2 1 = 0 : Bool) then 1 else -1
    .next (s1.quadStep c d (s1.tb - s.fbDelay c))

/-- INDEX_EDGE (R225): a rising edge of the filtered Z at clock `t`; recognised with A and B high. Two rising edges lie a high and a low
level of FILT clocks apart (R218). Under ENC_FAULT, of which R225 does not speak, no index is recognised (DESIGN CHOICE, log 77). -/
def execIndexEdge (c : Fin 14) (t : Nat) (s0 : State) : Host.Outcome State Fault Refusal :=
  let s := s0.to t
  let f := s.fb[c]
  if f.tooShort 2 s.tb (2 * s.fbFilt c) then .next s
  else
    let s1 := s.modFb c (fun f => { f with edges := upd f.edges 2 (fun _ => some s.tb) })
    if s.fbMode c = 1 && !s.encFault c && f.lvA && f.lvB then .next ((s1.modFb c (fun f => { f with idxPos := f.pos })).fbFlag c 3)
    else .next s1

/-! ## SSI (R226 to R229) -/

/-- MOT clocks from a frame's latch instant to the end of its final cycle as sampled (R226, Table 09-6). -/
def State.ssiClocks (s : State) (c : Fin 14) : Nat :=
  let cfg := s.com (fbPage c) 0x060
  let n := fld cfg 0 6
  ((if bit cfg 13 then 2 * n else n) + 1) * 2 * s.cf (fbPage c) 0x064 0 10 + s.cf (fbPage c) 0x064 16 8

/-- The module clocks ENCnn_A: in a pair the active one alone (R470). Of a module of a pair that is neither active nor in STANDBY the rule
says no more than that it does not clock: it listens as a standby does (DEDUCED, log 87). -/
def State.clocksSsi (s : State) : Bool := !s.cfg.paired || s.pair.actO

/-- A frame may start at this boundary: SSI_PER periods after the last, whose clock has stayed high for TM since its end (R226). -/
def State.ssiDue (s : State) (c : Fin 14) : Bool :=
  match s.fbx[c].lastFrame with
  | none => true
  | some n => decide (n + s.cf (fbPage c) 0x068 0 5 ≤ s.period)
      && decide (n * periodCounts + s.ssiClocks c + us (s.cf (fbPage c) 0x064 24 6) ≤ s.period * periodCounts)

/-- SSI_FRAME_START (R226): at a boundary, every SSI_PER control periods. A module of a pair that is not active clocks nothing: the frame is
then the active module's, which begins where its clock falls at ENCnn_A (R470). -/
def execSsiFrameStart (c : Fin 14) (s : State) : Host.Outcome State Fault Refusal :=
  if s.fbMode c = 2 && s.fbx[c].frame.isNone && (!s.clocksSsi || s.ssiDue c) then
    let cmd := match axisOf c with | some a => s.drv[a].acc / 2 ^ 24 | none => 0
    let t := if s.clocksSsi then s.period * periodCounts else s.tb
    .next (s.modFbx c (fun x => { x with frame := some t, lastFrame := some s.period, cmdLatch := cmd }))
  else .next s

/-- Gray decoding of a number of at most `n` bits (R227). -/
def grayDecode : Nat → Nat → Nat
  | 0, g => g
  | n + 1, g => g ^^^ grayDecode n (g >>> 1)

/-- A good frame is taken into POS (R228). The first one sets RAW as well, for which the rule gives no value (DESIGN CHOICE, log 77). -/
def State.ssiGood (c : Fin 14) (p change : Int) (latch : Nat) (s : State) : State :=
  let pg := fbPage c
  let x := s.fbx[c]
  let ofs := sx 40 ((s.com pg 0x070).toNat + 2 ^ 32 * s.cf pg 0x074 0 8)
  let old := s.fb[c].pos
  let d : Int := if change < 0 then -1 else 1
  let hyst := s.cf pg 0x058 3 1 = 1
  let s1 := match x.prev with
    | none => s.modFb c (fun f => { f with pos := p + ofs, raw := p + ofs, uncertain := false })
    | some _ =>
      if change = 0 then s.modFb c (fun f => { f with uncertain := false })
      else s.modFb c (fun f =>
        { ((f.count hyst d change.natAbs).runStep d latch) with uncertain := false })
  let s2 := s1.modFb c (fun f => { f with cmdAt := x.cmdLatch })
  let s3 := s2.modFbx c (fun x =>
    { x with prev := some p, raw := BitVec.ofInt 32 p, badRun := 0, align := false
             frames := ((latch, some s2.fb[c].pos) :: x.frames).take 3 })
  let s4 := match x.prev with
    | some _ => if s3.fb[c].pos ≠ old then s3.crossings c old s3.fb[c].pos latch else s3
    | none => s3
  match axisOf c with
  | some a => if x.align then s4.alignAxis a (s4.fbUs c) false else s4
  | none => s4

/-- A bad frame (R227). -/
def State.ssiBad (c : Fin 14) (latch : Nat) (s : State) : State :=
  let s1 := (s.modFbx c (fun x =>
    { x with errs := inc x.errs 0xFFFF, badRun := x.badRun + 1, frames := ((latch, none) :: x.frames).take 3 })).fbFlag c 2
  if s.cf (fbPage c) 0x060 24 4 ≤ s1.fbx[c].badRun then s1.encDeclare c 2 else s1

/-- SSI_FRAME_DONE (R227): the bits of the frame, of its second copy, and the level at the final cycle. -/
def execSsiFrameDone (c : Fin 14) (d1 d2 : Nat) (last : Bool) (s0 : State) : Host.Outcome State Fault Refusal :=
  let pg := fbPage c
  match s0.fbx[c].frame with
  | none => .next s0
  | some latch =>
    let cfg := s0.com pg 0x060
    let n := fld cfg 0 6
    let dbl := bit cfg 13
    let s := (s0.to (latch + s0.ssiClocks c)).modFbx c (fun x => { x with frame := none })
    if s.fbMode c ≠ 2 || s.encFault c then .next s
    else
      let st := fld cfg 8 3
      let w := n - st
      let stat := d1 % 2 ^ st
      let code := d1 % 2 ^ n / 2 ^ st
      let v := if bit cfg 11 then grayDecode w code else code
      let p : Int := if bit cfg 12 then sx w v else v
      let change := match s.fbx[c].prev with | some q => sx w ((p - q) % 2 ^ w).toNat | none => 0
      let jump := s.cf pg 0x06C 0 24
      let s1 := s.modFbx c (fun x => { x with stat := stat })
      if last || (dbl && decide (d1 % 2 ^ n ≠ d2 % 2 ^ n)) || decide (stat &&& fld cfg 16 5 ≠ 0)
          || (jump ≠ 0 && decide (jump < change.natAbs)) then .next (s1.ssiBad c latch)
      else .next (s1.ssiGood c p change latch)

/-! ## Encoder supply and fault clearing (R223, R224) -/

/-- A low VENC5 is an encoder fault of every channel in MODE 1 or 2 (Table 09-1). -/
def State.vencDeclare (c : Fin 14) (s : State) : State :=
  if s.fb[c].vencLow && (s.fbMode c = 1 || s.fbMode c = 2) then s.encDeclare c 3 else s

/-- VENC_FAULT (R223): VENC5 has been below 4.5 V for 100 µs; with `low` false it is good again, which R224 asks about. -/
def execVencFault (low : Bool) (s : State) : Host.Outcome State Fault Refusal :=
  .next (forAll (List.finRange 14) (fun c t =>
    (t.modFb c (fun f => { f with vencLow := low })).vencDeclare c) s)

/-- The channel of an axis with an encoder reports standstill: a HALT cause raised by a stall ends (R207, R231). -/
def State.stallStill (c : Fin 14) (s : State) : State :=
  match axisOf c with
  | some a => if HaltCause.stall ∈ s.ax[a].halts && s.hasEncoder a && s.fb[c].still then s.unhalt a .stall else s
  | none => s

/-- A W1C write to FB FLAGS, bit by bit: a refused ENC_FAULT stays set and is reported (R224). -/
def State.fbFlagsWrite (c : Fin 14) (w : Word) (s : State) : State :=
  let f := s.fb[c]
  let low := bit w 0 && bit f.flags 0 && f.vencLow
  let w1 := if low then clrBit w 0 else w
  let s1 := s.modFb c (fun f => { f with flags := f.flags &&& ~~~w1 })
  if low then s1.err (fbPage c) 0x42 0 0x084
  else if bit w 0 && bit f.flags 0 then
    ((s1.modFb c (fun f => { f.standstill with cause := 0 })).modFbx c (fun x => { x with prev := none, badRun := 0 })).stallStill c
  else s1

/-- FB_FLAG_CLEAR (R224): host software writes FLAGS. -/
def execFbFlagClear (c : Fin 14) (w : Word) (s : State) : Host.Outcome State Fault Refusal :=
  .next (s.gated (fbPage c) 0x084 w true (State.fbFlagsWrite c w))

/-! ## Speed and fine position (R230, R231, R233, R250) -/

/-- The speed of R230 at boundary instant `b`: whole intervals and the counts of TB they took. -/
def Fb.speed (f : Fb) (b win : Nat) : Nat × Nat :=
  if f.still || f.runLen < 2 then (0, 1)
  else
    let l := f.stamps.filter (fun t => decide (b ≤ t + win * periodCounts))
    match l, l.getLast? with
    | t :: _ :: _, some t0 => (l.length - 1, max 1 (t - t0))
    | _, _ => match f.stamps with
      | t :: u :: _ => (1, max 1 (max (t - u) (b - t)))
      | _ => (0, 1)

/-- VEL in register form (R216, R230). -/
def State.velOf (s : State) (c : Fin 14) (r : Nat × Nat) (dir : Int) : Int :=
  let num := r.1 * 160000000 * 256
  let v := if c.val < 12 then
      freeRound 9 (num * (256 * s.cf (fbPage c) 0x054 0 16) : Nat) (r.2 * max 1 (s.com (fbPage c) 0x050).toNat)
    else freeRound 9 (num : Nat) r.2
  clampI (-(2 ^ 31 - 1)) (2 ^ 31 - 1) (dir * v)

/-- The fine master position at boundary instant `b` (R250). -/
def Fb.fine (f : Fb) (b : Nat) : Int :=
  if f.still then f.pos * 65536
  else
    let last := match f.stamps with | t :: _ => t | [] => b
    let frac := min (freeRound 8 (f.rate.1 * (b - last) * 65536 : Nat) f.rate.2) 65535
    if 0 < f.runDir then f.pos * 65536 + frac else f.pos * 65536 - frac

/-- FB_SPEED_UPDATE (R230): at a boundary the channel computes VEL, POS_ERR and the fine position. VEL stays under a fault and with the
channel off (R223, R242). -/
def execFbSpeedUpdate (c : Fin 14) (s : State) : Host.Outcome State Fault Refusal :=
  let b := s.period * periodCounts
  let win := s.cf (fbPage c) 0x058 24 5
  let s1 := if s.encFault c || s.fbMode c = 0 then s else s.modFb c (fun f =>
    let r := f.speed b win
    { f with rate := r, vel := s.velOf c r f.runDir })
  let m := s1.fb[c].fine b
  let s2 := s1.modFb c (fun f => { f with fines := ((s.period, m) :: f.fines.filter (fun e => e.1 ≠ s.period)).take 4 })
  let s3 := match axisOf c with
    | some a => if s2.hasEncoder a then s2.modCoil a (fun k => { k with posErr := s2.fbUs c - s2.fb[c].cmdAt }) else s2
    | none => s2
  .next (s3.sampleEngines c m)

/-- SPEED_TIMEOUT (R231): SPD_TMO has passed without a counted transition. Under a fault, and with the channel off, VEL stays (R223,
R242). -/
def execSpeedTimeout (c : Fin 14) (s : State) : Host.Outcome State Fault Refusal :=
  if s.encFault c || s.fbMode c = 0 then .next s
  else match s.fb[c].stamps with
  | t :: _ => .next (((s.to (t + ms (s.cf (fbPage c) 0x05C 0 16))).modFb c Fb.standstill).stallStill c)
  | [] => .next ((s.modFb c Fb.standstill).stallStill c)

/-! ## Presets and restarts (R232, R242) -/

/-- POS and RAW are set to a value; the axis's setpoint is aligned (R232). -/
def State.presetTo (c : Fin 14) (v : Int) (s : State) : State :=
  let s1 := s.modFb c (fun f => { f.standstill with pos := v, raw := v, uncertain := false, trail := [] })
  match axisOf c with
  | some a => ((s1.stallStill c).alignAxis a (s1.fbUs c) false).modAx a (fun x => { x with flags := clrBit x.flags 7 })
  | none => s1

/-- A write of 1 to CTL.PRESET (R229, R232). -/
def State.presetWrite (c : Fin 14) (w : Word) (s : State) : State :=
  let p := fbPage c
  let idle := match axisOf c with | some a => s.ax[a].st = .idle || s.ax[a].st = .halted | none => true
  if !bit w 0 then s
  else if s.fbMode c = 2 then s.err p 0x41 0 0x040
  else if !idle then s.err p 0x40 0 0x040
  else s.presetTo c (sx 40 ((s.com p 0x044).toNat + 2 ^ 32 * s.cf p 0x048 0 8))

/-- PRESET (R232): host software writes CTL.PRESET. -/
def execPreset (c : Fin 14) (s : State) : Host.Outcome State Fault Refusal :=
  .next (s.gated (fbPage c) 0x040 1 true (State.presetWrite c 1))

/-- The channel restarts in its committed mode at a commit boundary; in MODE 0 VEL keeps its value (R242). -/
def State.fbRestart (c : Fin 14) (s0 : State) : State :=
  let s := s0.vencDeclare c
  let s1 := (s.modFb c (fun f =>
      { f.standstill with
        vel := if s.fbMode c = 0 then f.vel else 0, lastDir := 0, uncertain := true, window := none, trail := [] })).modFbx c
    (fun x => { x with frame := none, lastFrame := none, prev := none, badRun := 0, frames := [], align := s.fbMode c = 2 })
  match s.fbMode c, axisOf c with
  | 1, some a =>
    let v := roundHalfUp (s.ax[a].pos * ((s.com (fbPage c) 0x050).toNat : Int)) (256 * max 1 (s.cf (fbPage c) 0x054 0 16))
    let s2 := (s1.modFb c (fun f => { f with pos := v, raw := v })).stallStill c
    s2.alignAxis a (s2.fbUs c) false
  | 0, _ => s1.masterLost c
  | _, _ => s1.stallStill c

/-! ## Probes (R235 to R237) -/

/-- POS once every transition stamped at or before `t` has been applied, and no later one (R236). -/
def Fb.posAt (f : Fb) (t : Nat) : Int :=
  match (f.trail.filter (fun e => decide (t < e.1))).getLast? with | some e => e.2 | none => f.pos

/-- Change one probe slot of a channel. -/
def State.modPrb (c : Fin 14) (k : Fin 4) (f : Probe → Probe) (s : State) : State :=
  s.modFbx c (fun x => { x with prb := upd x.prb k f })

/-- The filter merges an edge with the probe's last one: they are closer than 18 clocks (R237). -/
def Probe.merges (p : Probe) (te : Nat) : Bool := match p.edge with | some e => decide (te < e + 18) | none => false

/-- One channel sees a probe edge with stamp `te` (R236, R237). -/
def State.probeSeen (k : Fin 4) (rising : Bool) (te : Nat) (c : Fin 14) (s : State) : State :=
  let cfg := s.com (fbPage c) 0x078
  let p := s.fbx[c].prb[k]
  if p.merges te then s
  else
    let s1 := s.modPrb c k (fun p => { p with edge := some te })
    if !bit cfg (2 * k.val + (if rising then 0 else 1)) then s1
    else if !bit cfg (8 + k.val) && (bit s.fb[c].flags (4 + k.val) || p.pend ≠ []) then s1.fbFlag c 8
    else s1.modPrb c k (fun p => { p with pend := p.pend ++ [te] })

/-- PROBE_EDGE (R236): an edge of a probe is detected at clock `t`, 18 after it reached the pad (R235). -/
def execProbeEdge (k : Fin 4) (rising : Bool) (t : Nat) (s : State) : Host.Outcome State Fault Refusal :=
  .next (forAll (List.finRange 14) (fun c u => u.probeSeen k rising (t - 18) c) (s.to t))

/-- The slot of a probe is written (R236, R237). -/
def State.probeStore (c : Fin 14) (k : Fin 4) (pos : Int) (te : Nat) (s : State) : State :=
  let s1 := if bit s.fb[c].flags (4 + k.val) then s.fbFlag c 8 else s
  let s2 := (s1.modPrb c k (fun p => { p with pos := pos, te := te, pend := p.pend.tail })).fbFlag c (4 + k.val)
  s2.ev (fbPage c) 0x2202 ([b8 k.val] ++ leBytes 5 (tc 40 pos) ++ leBytes 6 (stampOf te))

/-- PROBE_LATCH_DONE (R236) of the oldest edge that waits. In MODE 2 it waits for the frame after t_e, and interpolates between
two good frames; a frame before t_e that the channel does not hold, as after a restart, counts as a bad one (DEDUCED, log 77). -/
def execProbeLatchDone (c : Fin 14) (k : Fin 4) (s0 : State) : Host.Outcome State Fault Refusal :=
  match s0.fbx[c].prb[k].pend with
  | [] => .next s0
  | te :: _ =>
    if s0.fbMode c ≠ 2 then
      let s := s0.to (te + max 18 (s0.fbDelay c))
      .next (s.probeStore c k (s.fb[c].posAt te) te)
    else
      let fr := s0.fbx[c].frames
      match (fr.filter (fun e => decide (te ≤ e.1))).getLast?, fr.find? (fun e => decide (e.1 < te)) with
      | none, _ => .next s0
      | some (t1, some p1), some (t0, some p0) =>
        .next (s0.probeStore c k (p0 + freeNearest 10 ((p1 - p0) * (te - t0 : Nat)) (t1 - t0)) te)
      | _, _ => .next ((s0.modPrb c k (fun p => { p with pend := p.pend.tail })).fbFlag c 8)

/-! ## Door switch inputs (R238 to R240) -/

/-- Filter time of a DIN filter code, in µs (Table 09-3). -/
def dinTime (code : Nat) : Nat :=
  match code % 8 with | 0 => 10 | 1 => 100 | 2 => 1000 | 3 => 3000 | 4 => 5000 | 5 => 10000 | 6 => 20000 | _ => 50000

/-- DIN_EDGE (R238): an input has been sampled at a level from the sample at `first` on, without a break, up to `t`; once that is its filter
time it is accepted, with Gauge's own count of the sample that completes the filter as its stamp (R23). Nothing is sampled between a reset and the
start-up (R49). The effects on the input image, the portals and the limit inputs
come with its release in SEQ order (R239). -/
def execDinEdge (n : Fin 48) (level : Bool) (first t : Nat) (s0 : State) : Host.Outcome State Fault Refusal :=
  let filt := us (dinTime s0.cfg.dinFilt[n])
  let done := first + filt
  let s := s0.to (if t < done then t else done)
  if !s.domOn 8 || !s.boot.started || s.din[n].level = level || decide (t < done) then .next s
  else
    let s1 := { s with din := upd s.din n (fun d => { d with level := level, chg := true, since := done }) }
    .next (s1.raiseAt (s.dieStamp 6 done) 6 (evSource .dev) 0x0104
      ([b8 n.val, b8 (b2n level), b8 s.cfg.dinFilt[n], 0, 0, 0] ++ leBytes 6 (stampOf (s.dieCount 6 done - filt))) [])

end Sys2Proof.Machine
end

