-- ==== Sys2Proof/Machine/PairTx.lean ====
section
/-! DEFINITION. What a module of a pair sends: frames, the motion of its axes and portals, images, loads and envelopes
(R474, Tables 18-2 to 18-4). -/

namespace Sys2Proof.Machine

/-! ## Frames (R474) -/

/-- The next frame count is used up. -/
def State.pairCount (s : State) : State := { s with pair := { s.pair with txCount := (s.pair.txCount + 1) % 2 ^ 32 } }

/-- A frame with its header of 16 bytes and its CRC, in little-endian order. -/
def State.pairBytes (s : State) (kind : Nat) (payload : List Byte) : List Byte :=
  let l := [b8 kind, b8 s.pair.version] ++ leBytes 2 payload.length ++ leBytes 4 s.pair.txCount ++ leBytes 6 (stampOf s.tb) ++ [0, 0]
    ++ payload
  l ++ leBytes 4 (crc32 l).toNat

/-- Send a frame. -/
def State.pairSend (kind : Nat) (payload : List Byte) (s : State) : State :=
  (s.post (.pairFrame (s.pairBytes kind payload))).pairCount

/-- Send a frame whose payload has no byte layout. -/
def State.pairMsg (m : PairMsg) (s : State) : State :=
  (s.post (.pairMsg s.pair.version s.pair.txCount (stampOf s.tb) m)).pairCount

/-- The module is active in a formed pair, and so sends its motion and inputs. -/
def State.pairActive (s : State) : Bool := s.cfg.paired && s.pair.formed && s.pair.actO

/-! ## HELLO (R475) -/

/-- First bytes of the hash of the applied configuration image. -/
def State.pairHash (s : State) : List Byte := s.sec.cfgHash.take 8

/-- HELLO: stepping A2 offers v1 and v2. -/
def State.sendHello (s : State) : State :=
  s.pairMsg (.hello 3 s.cfg.second Config.serial (s.grd.word.getD 0) s.pairHash s.prg.image.layout s.mc.mode.code)

/-- HELLO goes out again on a change, once the versions are agreed; STA.PRG_DIFF follows the LAYOUT that runs (R475). -/
def State.helloChange (s : State) : State :=
  if s.cfg.paired && s.pair.formed then
    { s with pair := { s.pair with prgDiff := decide (s.prg.image.layout ≠ s.pairx.layout) } }.sendHello
  else s

/-! ## QUEUE and MOTION -/

/-- What a QUEUE frame says of an axis now; an engaged cam gives its offset as REF_S (log 50). -/
def State.queueMsg (s : State) (a : Fin 12) : QueueMsg :=
  let x := s.ax[a]
  { moves := x.queue, prof := s.profile a
    engine := x.engine.map (fun e =>
      if h : e < 12 then
        let g := s.gear[(⟨e, h⟩ : Fin 12)]
        (e, s.gearSrc ⟨e, h⟩, g.num, g.den, g.refM, g.refS)
      else (e, s.camSrc (Fin.ofNat 4 e), 1, 1, 0, s.cam[(Fin.ofNat 4 e)].ofs))
    arm := match x.engine with
      | some e => if h : e < 12 then s.gear[(⟨e, h⟩ : Fin 12)].arm else none
      | none => none }

/-- A QUEUE frame of an axis. -/
def State.sendQueue (a : Fin 12) (s : State) : State := s.pairMsg (.queue a.val s.pairx.sent[a].1 (s.queueMsg a))

/-- The queue counter of an axis rises and its QUEUE frame is sent, where its queue, profile or engine has changed. -/
def State.queueChange (a : Fin 12) (s : State) : State :=
  let q := s.queueMsg a
  let old := s.pairx.sent[a]
  if old.2 = some q then s
  else { s with pairx := { s.pairx with sent := s.pairx.sent.set a ((old.1 + 1) % 256, some q) } }.sendQueue a

/-- MOTION axis entry (Table 18-3). -/
def State.motionAxis (s : State) (a : Fin 12) : List Byte :=
  let x := s.ax[a]
  let p := x.commitPlan
  leBytes 8 (tc 64 x.commitPos) ++ leBytes 4 (tc 32 (velReg p.w p.neg)) ++ leBytes 2 (s.actTag a) ++ [b8 x.st.code, b8 s.pairx.sent[a].1]
    ++ leBytes 8 (tc 64 (s.posUs a)) ++ leBytes 2 (fld x.flags 0 9) ++ [0, 0, 0, 0, 0, 0]

/-- The timer that counts towards the next step of a portal's state; the switch checks are not it. -/
def Timer.steps : Timer → Bool
  | .swClosed | .swOpen | .swConflict => false
  | .cw | .reopen | .nudgePause | .autoClose | .unlock | .lock | .retry | .step | .refWait => true

/-- Remaining time of a portal's running timer in control periods; no rule says how a part of one is rounded (log 16). -/
def State.ptlRemain (s : State) (p : Fin 8) : Nat :=
  match s.ptlIn[p].timers.find? (fun e => e.1.steps) with
  | some e => (freeRound 28 ((e.2 - s.tb : Nat) : Int) periodCounts).toNat
  | none => 0

/-- MOTION portal entry (Table 18-4). -/
def State.motionPtl (s : State) (p : Fin 8) : List Byte :=
  let x := s.ptl[p]
  let r := s.ptlRun[p]
  let marks := b2n (r.nudgeMark || r.nudgeStop) + 2 * b2n (x.refRun || r.needRef) + 4 * min r.retries 7
  [b8 x.st.code, b8 x.prev, b8 x.obsInClose, b8 x.nudgeObs] ++ leBytes 4 (s.ptlRemain p) ++ leBytes 2 x.flags.toNat ++ [b8 marks, 0]
    ++ leBytes 8 s.cyc[p].openSeq ++ List.replicate 12 0

/-- At a boundary the changed QUEUE frames go out, then MOTION. -/
def State.sendMotion (s : State) : State :=
  if !s.pairActive then s
  else
    let t := forAll (List.finRange 12) (fun a u => u.queueChange a) s
    t.pairSend 0x10 ((List.finRange 12).flatMap (fun a => t.motionAxis a) ++ (List.finRange 8).flatMap (fun p => t.motionPtl p))

/-! ## IMAGE, LOADS, ENV -/

/-- IMAGE: the input image of a cycle in two fragments. -/
def State.sendImage (s : State) : State :=
  if !s.pairActive then s
  else
    let l := s.prg.input.flatMap (fun w => leBytes 4 w.toNat)
    let frag (k : Nat) (t : State) : State :=
      t.pairSend 0x12 (leBytes 4 s.prg.cycle ++ [b8 k, 0, 0, 0] ++ padTo 1024 (l.drop (1024 * k)))
    frag 1 (frag 0 s)

/-- LOADS (v2): the states of all 24 channels as last sent to the Switch die. -/
def State.sendLoads (s : State) : State :=
  if !s.pairActive || s.pair.version < 2 then s
  else s.pairSend 0x13 ((List.finRange 24).flatMap (fun c =>
    leBytes 4 (mkWord [(0, 2, s.lsw[c].cmd), (16, 10, s.lsw[c].cmdDuty)]).toNat))

/-- ENV (v2): the 64 words of a leaf. -/
def State.sendEnv (p : Fin 8) (leaf : Nat) (words : List Word) (s : State) : State :=
  if !s.pairActive || s.pair.version < 2 then s
  else s.pairSend 0x14 ([b8 p.val, b8 leaf] ++ words.flatMap (fun w => leBytes 4 w.toNat))

end Sys2Proof.Machine
end

