-- ==== Sys2Proof/Machine/Loads.lean ====
section
/-! DEFINITION. Load switch channels: commands, inrush, trips and retries, clamp buckets, off-state check, pulsing, gating,
packets, watchdog and fail-safe states (R329 to R358). -/

namespace Sys2Proof.Machine

/-- Change a load channel. -/
def State.modLsw (c : Fin 24) (f : Lsw → Lsw) (s : State) : State := { s with lsw := upd s.lsw c f }

/-- Change counts, bucket and instants of a load channel. -/
def State.modLswx (c : Fin 24) (f : LswAux → LswAux) (s : State) : State := { s with lswx := upd s.lswx c f }

/-- Every load channel, in order. -/
def allLsw : List (Fin 24) := List.finRange 24

/-! ## Ownership (R333) -/

/-- The channel is the lock solenoid or the chime of a portal in use (R333, Table 11-8). -/
def State.doorOwns (s : State) (c : Fin 24) : Bool :=
  (List.finRange 8).any (fun p =>
    let w := s.cfg.assign0[p]
    fld w 0 4 ≠ 15 && (fld w 22 5 = c.val || fld w 27 5 = c.val))

/-- The owner of a channel (R333). -/
def State.lswOwner (s : State) (c : Fin 24) : Writer :=
  if s.mc.mode = .service then .host
  else if s.doorOwns c then .doorCycle
  else if bit s.cfg.lswHost c.val then .host
  else .program

/-! ## The output of a channel (R336, R338, R339, R342, R344, R346, R349, R351) -/

/-- Load type profiles: duration in ms and multiple in 1/8 (Table 13-2). -/
def State.inrush (s : State) (c : Fin 24) : List (Nat × Nat) :=
  let cust (k : Nat) : List (Nat × Nat) :=
    let w (i : Nat) : Word := s.cfg.cust[(Fin.ofNat 6 (3 * k + i))]
    ([w 0, w 1, w 2].map (fun x => (fld x 16 16, fld x 0 8))).takeWhile (fun e => e.1 ≠ 0)
  match s.cf (.lsw c) 0x048 16 3 with
  | 0 => [(10, 48), (30, 24), (60, 12)]
  | 1 => [(2, 32), (8, 12)]
  | 2 => [(50, 32), (150, 16), (300, 12)]
  | 3 => [(500, 16), (1500, 10)]
  | 4 => [(20, 16), (80, 10)]
  | 5 => [(20, 24), (10, 12)]
  | 6 => cust 0
  | _ => cust 1

/-- End instants of the segments of a window that starts at `t`. -/
def segEnds : Nat → List (Nat × Nat) → List (Nat × Nat)
  | _, [] => []
  | t, (d, m) :: l => (t + ms d, m) :: segEnds (t + ms d) l

/-- The state and duty in force for a channel on the Switch die, before anything holds it off (Table 13-5, R353). -/
def State.lswState (s : State) (c : Fin 24) : Nat × Nat :=
  let x := s.lsw[c]
  if s.lswg.clkFailed then (x.fs, x.fsDuty)
  else match s.lswg.wdt with
    | .disarmed => (0, 0)
    | .running | .hold => (x.got, x.gotDuty)
    | .failWdt | .failCmd => (x.fs, x.fsDuty)

/-- A Switch die whose LSW clock has failed no longer answers on its link, nor does a Guard that has halted (R320, R353). -/
def State.mute (s : State) (d : Fin 8) : Bool := (d = 5 && s.lswg.clkFailed) || (d = 1 && s.grd.halted)

/-- What holds a channel off whatever its state. -/
def State.lswHeld (s : State) (c : Fin 24) : Bool :=
  let x := s.lsw[c]
  s.lswg.uv || bit x.flags 1 || bit x.flags 2 || x.gated || x.pause.isSome || x.hot || x.due || !s.domOn 7

/-- Output for a state and a duty: a duty of 0 is off, of 1,023 on (R344). -/
def outOf (st duty : Nat) : Nat := if st = 2 then (if duty = 0 then 0 else if duty = 1023 then 1 else 2) else if st = 1 then 1 else 0

/-- The limit in force in mA: M × I_LIM in a segment of the window, I_LIM after it, up to the ceiling of Table 13-1 (R330, R335). -/
def State.limitNow (s : State) (c : Fin 24) : Nat :=
  let i := s.cf (.lsw c) 0x048 0 16
  let done := (s.inrush c).length - s.lsw[c].segs.length
  match s.lsw[c].segs, (s.inrush c).drop done with
  | _ :: _, e :: _ => min (e.2 * i / 8) (if c.val < 16 then 20000 else 50000)
  | _, _ => min i (if c.val < 16 then 20000 else 50000)

/-- I_SC in mA (R330, R337). -/
def State.iSc (s : State) (c : Fin 24) : Nat := min (2 * s.limitNow c) (if c.val < 16 then 25000 else 60000)

/-- Period of a generator in LSW clocks (R344). -/
def lswPeriod (freq : Nat) : Nat := (64000000 + freq) / (2 * max 1 freq)

/-- Period of a generator in counts; on the watchdog RC a free value whose frequency lies within 10 % of it (R344, R353; log 2). -/
def State.genPeriod (s : State) (freq : Nat) : Nat :=
  let p := 5 * lswPeriod freq
  let least := ceilDiv (10 * p) 11
  max 5 (if s.lswg.clkFailed then least + Config.free 44 freq % (10 * p / 9 - least + 1) else p)

/-- The AUTO channels of equal FREQ that pulse with a duty from 1 to 1,022, ascending (R345). -/
def State.autoGroup (s : State) (freq : Nat) : List (Fin 24) :=
  fins 24 (fun c => s.lsw[c].out = 2 && s.lswx[c].freq = freq && s.lswx[c].auto)

/-- The phase a pulsing channel takes at its next period start, with the duty it takes there (R344, R345, R357). -/
def State.phaseDue (s : State) (c : Fin 24) : Nat :=
  if s.cf (.lsw c) 0x050 12 1 = 1 then
    let t := s.modLsw c (fun x => { x with out := outOf 2 (s.lswState c).2 })
    let g := (t.modLswx c (fun x => { x with freq := s.cf (.lsw c) 0x050 16 16, auto := true })).autoGroup (s.cf (.lsw c) 0x050 16 16)
    if c ∈ g then g.idxOf c * 1024 / max 1 g.length else 0
  else s.cf (.lsw c) 0x050 0 10

/-- A channel takes its committed FREQ and AUTO and its phase at a period start (R344, R345, R357). -/
def State.takePhase (c : Fin 24) (s : State) : State :=
  (s.modLswx c (fun x => { x with freq := s.cf (.lsw c) 0x050 16 16, auto := decide (s.cf (.lsw c) 0x050 12 1 = 1) })).modLsw c
    (fun x => { x with phase := s.phaseDue c })

/-- The next period start of a channel: the first instant of its new phase not before the running period is over, so a period
before a changed phase is lengthened (R344, R345). Where the one reference of equal FREQ lies, no rule says: a free value (log 2);
the first period starts at the first such instant after the generator's start (DESIGN CHOICE, log 79). -/
def State.nextPeriod (s : State) (c : Fin 24) : Nat :=
  let f := s.cf (.lsw c) 0x050 16 16
  let p := s.genPeriod f
  let past := match s.lswx[c].perAt with | some a => a + s.genPeriod s.lswx[c].freq | none => s.lswx[c].genAt
  let r := Config.free 43 f + (freeRound 40 (p * s.phaseDue c : Nat) 1024).toNat
  past + (r % p + p - past % p) % p

/-- A channel conducts at instant `t`: a pulsing one for the first DUTY / 1,023 of each period. One that begins after the next start is
over has the committed FREQ and the new DUTY (R344, R345). -/
def State.conducts (s : State) (c : Fin 24) (t : Nat) : Bool :=
  s.lsw[c].out = 1 || (s.lsw[c].out = 2 && match s.lswx[c].perAt with
    | some a =>
      let b := s.nextPeriod c
      let q := s.genPeriod (s.cf (.lsw c) 0x050 16 16)
      decide (a ≤ t) && (if t < b then decide ((t - a) * 1023 < s.lsw[c].duty * s.genPeriod s.lswx[c].freq)
        else decide ((t - b) % q * 1023 < (s.lswState c).2 * q))
    | none => false)

/-- The output of a channel becomes `target`; switching on opens a new inrush window (R336), switching off suspends the check of
R343 for 10 ms. -/
def State.setOut (c : Fin 24) (target : Nat) (s : State) : State :=
  let x := s.lsw[c]
  if x.out = target then s
  else if target = 0 then
    (s.modLsw c (fun x => { x with out := 0, segs := [], limiting := false, rev := false })).modLswx c
      (fun y => { y with offAt := s.tb, since := s.tb, checkAt := s.tb + ms 10, limRun := 0 })
  else if x.out = 0 then
    (s.modLsw c (fun x => { x with out := target, segs := segEnds s.tb (s.inrush c), offHigh := false })).modLswx c
      (fun y => { y with switches := inc y.switches 0xFFFFFFFF, since := s.tb, onAt := s.tb, vOn := x.vOut, limRun := 0, limAt := s.tb })
  else s.modLsw c (fun x => { x with out := target })

/-- A channel's output follows its state and what holds it off. A generator that starts takes its duty and phase; while it runs a new
DUTY waits for the period start (R344). -/
def State.settle (c : Fin 24) (s0 : State) : State :=
  let want := s0.lswState c
  -- a state of off cancels a pending retry (R338) and ends a gating episode (R346)
  let s1 := if want.1 = 0 then s0.modLsw c (fun x => { x with due := false, defer := false, hot := false, episode := false }) else s0
  let x1 := s1.lsw[c]
  let s := if x1.gated && want.1 ≠ 0 && !x1.episode then (s1.modLsw c (fun x => { x with episode := true })).lswFlag c 5 else s1
  let held := s.lswHeld c
  let run := want.1 = 2 && !held
  let ran := run && s.lswx[c].gen
  let duty := if ran then s.lsw[c].duty else want.2
  let s2 := ((s.modLsw c (fun x => { x with duty := duty })).modLswx c (fun y =>
    { y with gen := run, perAt := if ran then y.perAt else none, genAt := if ran then y.genAt else s.tb })).setOut c
      (if held then 0 else outOf want.1 duty)
  if run && !ran then s2.takePhase c else s2

/-- Every channel follows its state. -/
def State.settleAll (s : State) : State := forAll allLsw (fun c t => t.settle c) s

/-- A channel adjacent to `c` is inside its inrush window (R329, R340). -/
def State.nearInrush (s : State) (c : Fin 24) : Bool :=
  allLsw.any (fun d => (d.val + 1 = c.val || d.val = c.val + 1) && s.lsw[d].segs ≠ [])

/-- A retry that is due takes place, or is deferred by a neighbour's window; it waits out an undervoltage and a hot sensor
(R338, R340, R349, R353). -/
def State.retry (c : Fin 24) (s : State) : State :=
  let x := s.lsw[c]
  if !x.due || x.pause.isSome || x.hot || s.lswg.uv || s.lswg.clkFailed then s
  else if s.nearInrush c then s.modLsw c (fun x => { x with defer := true })
  else (s.modLsw c (fun x => { x with due := false, defer := false })).settle c

/-! ## Trips (R337 to R340) -/

/-- A channel trips: it switches off, and waits for a retry or latches (R337, R338). -/
def State.lswTrip (c : Fin 24) (cause : Nat) (s : State) : State :=
  if s.lsw[c].out = 0 then s
  else
    let s1 := ((s.modLsw c (fun x => { x with trip := cause, tries := inc x.tries 15 })).modLswx c
      (fun y => { y with trips := inc y.trips 0xFFFF, since := s.tb })).lswFlag c 0
    let k := s1.lsw[c].tries
    let s2 := s1.ev (.lsw c) 0x5101 [b8 cause, b8 k]
    if s2.cf (.lsw c) 0x04C 20 4 ≤ k then
      (((s2.lswFlag c 1).modLswx c (fun y => { y with latches := inc y.latches 0xFFFF })).ev (.lsw c) 0x5102 [b8 k]).settle c
    else
      (s2.modLsw c (fun x =>
        { x with pause := some (s2.tb + ms (min (10 * 2 ^ (k - 1)) 1280)), due := true, hot := decide (cause = 3) })).settle c

/-- LSW_FAST_TRIP (R337): the current crosses I_SC. -/
def execLswFastTrip (c : Fin 24) (s : State) : Host.Outcome State Fault Refusal := .next (s.lswTrip c 1)

/-- LSW_OC_TIMEOUT (R337): outside the inrush window the channel has been in limit for longer than T_OC. A channel that is on and in
limit comes to that instant; of a pulsing one the on phases sampled so far must exceed it. On the watchdog RC only the other two causes
trip (R353). -/
def execLswOcTimeout (c : Fin 24) (s : State) : Host.Outcome State Fault Refusal :=
  let x := s.lsw[c]
  let y := s.lswx[c]
  let toc := 16000 * s.cf (.lsw c) 0x04C 0 16
  .next (if x.segs ≠ [] || s.lswg.clkFailed then s
    else if x.out = 1 && x.limiting then (s.to (y.limAt + (toc - y.limRun) + 1)).lswTrip c 2
    else if x.out = 2 && decide (toc < y.limRun) then s.lswTrip c 2
    else s)

/-- LSW_THERMAL_TRIP (R337). -/
def execLswThermalTrip (c : Fin 24) (s : State) : Host.Outcome State Fault Refusal := .next (s.lswTrip c 3)

/-- LSW_RETRY (R338): the pause ends. A command of off has cancelled the retry where none is due. -/
def execLswRetry (c : Fin 24) (s : State) : Host.Outcome State Fault Refusal :=
  match s.lsw[c].pause with
  | none => .next s
  | some t =>
    if s.lswg.clkFailed then .next s
    else
      let s1 := (s.to t).modLsw c (fun x => { x with pause := none })
      .next (if s1.lsw[c].due then s1.retry c else s1.settle c)

/-- LSW_RETRY_DEFERRED (R340): no adjacent channel is in its window any more. -/
def execLswRetryDeferred (c : Fin 24) (s : State) : Host.Outcome State Fault Refusal :=
  .next (if s.lsw[c].defer then s.retry c else s)

/-- LSW_CHANNEL_COOLED (R338): the sensor has fallen below 135 °C after a THERMAL trip. -/
def execLswChannelCooled (c : Fin 24) (s : State) : Host.Outcome State Fault Refusal :=
  .next (if s.lsw[c].hot then (s.modLsw c (fun x => { x with hot := false })).retry c else s)

/-- LSW_TRIES_RESET (R338): the channel has carried its commanded state for 10 s without a trip; one that is held off does not carry a
state of on or pulsing. -/
def execLswTriesReset (c : Fin 24) (s : State) : Host.Outcome State Fault Refusal :=
  let x := s.lsw[c]
  let want := s.lswState c
  if x.pause.isSome || x.due || bit x.flags 1 || (s.lswHeld c && decide (outOf want.1 want.2 ≠ 0)) then .next s
  else .next ((s.to (s.lswx[c].since + ms 10000)).modLsw c (fun x => { x with tries := 0 }))

/-- INRUSH_SEGMENT_END (R335, R336): the next multiple, or the steady limit, takes effect; time in limit counts from the window's end. -/
def execInrushSegmentEnd (c : Fin 24) (s : State) : Host.Outcome State Fault Refusal :=
  match s.lsw[c].segs with
  | [] => .next s
  | e :: l => .next (((s.to e.1).modLsw c (fun x => { x with segs := l })).modLswx c (fun y =>
      if l = [] then { y with limRun := 0, limAt := max s.tb e.1 } else y))

/-! ## Clamp energy (R341, R342) -/

/-- Budget of the clamp bucket in 1/1,600 µJ, and its leak per TB count (R341). -/
def clampRating (c : Fin 24) : Nat × Nat := if c.val < 16 then (300000 * 1600, 2) else (1000000 * 1600, 5)

/-- The bucket as it stands now (R341). -/
def State.bucketNow (s : State) (c : Fin 24) : Nat := s.lswx[c].bucket - (s.tb - s.lswx[c].bucketAt) * (clampRating c).2

/-- CLAMP_BKT in 0.1 mJ, saturating (R356). -/
def State.clampBkt (s : State) (c : Fin 24) : Nat := min (freeRound 11 (s.bucketNow c) 160000).toNat 0xFFFF

/-- The clamp has absorbed `uj` µJ in a switch-off (R341, R342). -/
def State.clampAdd (c : Fin 24) (uj : Nat) (s : State) : State :=
  let b := s.bucketNow c + uj * 1600
  let s1 := s.modLswx c (fun y => { y with bucket := b, bucketAt := s.tb, clampLast := uj })
  if (clampRating c).1 < b && !bit s.lsw[c].flags 2 then
    ((s1.lswFlag c 2).ev (.lsw c) 0x5103 (leBytes 2 (s1.clampBkt c))).settle c
  else s1

/-- A W1C write to LSW FLAGS: OC_LATCH always clears and resets the count, CLAMP_LATCH alone is refused while the bucket is
above a quarter of its budget (R339, R342). -/
def State.lswFlagsWrite (c : Fin 24) (w : Word) (s : State) : State :=
  let f := s.lsw[c].flags
  let stays := bit w 2 && bit f 2 && decide ((clampRating c).1 < 4 * s.bucketNow c)
  let s0 := if stays then s.err (.lsw c) 0x42 0 0x064 else s
  let s1 := s0.modLsw c (fun x => { x with flags := x.flags &&& ~~~(if stays then clrBit w 2 else w) })
  let s2 := if bit w 1 && bit f 1 then
      s1.modLsw c (fun x => { x with tries := 0, pause := none, due := false, defer := false, hot := false }) else s1
  s2.settle c

/-- OC_LATCH_CLEAR (R339). -/
def execOcLatchClear (c : Fin 24) (s : State) : Host.Outcome State Fault Refusal :=
  .next (s.gated (.lsw c) 0x064 2 true (State.lswFlagsWrite c 2))

/-- CLAMP_LATCH_CLEAR (R342). -/
def execClampLatchClear (c : Fin 24) (s : State) : Host.Outcome State Fault Refusal :=
  .next (s.gated (.lsw c) 0x064 4 true (State.lswFlagsWrite c 4))

/-! ## Off-state check and reverse blocking (R332, R343) -/

/-- OFF_HIGH_SET (R343): the output of an off channel has been above the threshold for 5 ms. -/
def execOffHighSet (c : Fin 24) (s0 : State) : Host.Outcome State Fault Refusal :=
  let x := s0.lsw[c]
  if x.out ≠ 0 || s0.lswg.uv || s0.cf (.lsw c) 0x054 0 1 = 0 || x.offHigh then .next s0
  else
    let t := s0.to (s0.lswx[c].checkAt + ms 5)
    let s := (t.modLsw c (fun x => { x with offHigh := true })).modLswx c (fun y => { y with checkAt := t.tb })
    .next ((s.lswFlag c 3).ev (.lsw c) 0x5104 (leBytes 2 (tc 16 x.vOut)))

/-- OFF_HIGH_CLEAR (R343): the output has been below the threshold for 5 ms. -/
def execOffHighClear (c : Fin 24) (s : State) : Host.Outcome State Fault Refusal :=
  let t := s.to (s.lswx[c].checkAt + ms 5)
  if !s.lsw[c].offHigh then .next s
  else .next ((t.modLsw c (fun x => { x with offHigh := false })).modLswx c (fun y => { y with checkAt := t.tb }))

/-- REV_BLOCK (R332): the output of an on channel rises 20 mV above VLSW. -/
def execRevBlock (c : Fin 24) (s : State) : Host.Outcome State Fault Refusal :=
  .next (if s.lsw[c].out = 0 then s else (s.modLsw c (fun x => { x with rev := true })).lswFlag c 4)

/-- REV_BLOCK_RELEASE (R332). -/
def execRevBlockRelease (c : Fin 24) (s : State) : Host.Outcome State Fault Refusal :=
  .next (s.modLsw c (fun x => { x with rev := false }))

/-- A write of OL_EN: with it 0 the check stops, and with it 1 the spans start anew (R343). -/
def State.olWrite (c : Fin 24) (w : Word) (s : State) : State :=
  if bit w 0 then s.modLswx c (fun y => { y with checkAt := max y.checkAt s.tb }) else s.modLsw c (fun x => { x with offHigh := false })

/-! ## Pulse generators (R344, R345) -/

/-- PULSE_PERIOD_START (R344): a new DUTY, FREQ or phase takes effect. -/
def execPulsePeriodStart (c : Fin 24) (s : State) : Host.Outcome State Fault Refusal :=
  let duty := (s.lswState c).2
  if !s.lswx[c].gen then .next s
  else
    let t := s.nextPeriod c
    .next (((((s.to t).modLsw c (fun x => { x with duty := duty })).setOut c (outOf 2 duty)).takePhase c).modLswx c
      (fun y => { y with perAt := some t }))

/-! ## Samples (R335, R337, R347) -/

/-- What the output of a capacitive load can have reached at `t`: 2.5 V/ms within the window (Table 13-2). -/
def State.riseBound (s : State) (c : Fin 24) (t : Nat) (v : Int) : Int :=
  if s.cf (.lsw c) 0x048 16 3 = 5 && decide (s.lsw[c].segs ≠ []) then min v (s.lswx[c].vOn + 250 * (t - s.lswx[c].onAt : Nat) / 160000)
  else v

/-- One sample of the converter: above I_SC the channel trips FAST; at the limit in force it is limiting and, outside the window, its
time in limit grows by what has passed while it conducts; below it the run is broken; an off phase of its own pulse leaves the run as
it is (R336, R337). -/
def State.lswSample (c : Fin 24) (e : Nat × Nat × Int) (s : State) : State :=
  let s1 := s.modLswx c (fun y => { y with samples := e :: y.samples, limAt := max y.limAt e.1 })
  if !s.conducts c e.1 then s1.modLsw c (fun x => { x with limiting := false })
  else if s.iSc c < e.2.1 then s1.lswTrip c 1
  else if e.2.1 < s.limitNow c then (s1.modLsw c (fun x => { x with limiting := false })).modLswx c (fun y => { y with limRun := 0 })
  else (s1.modLsw c (fun x => { x with limiting := true })).modLswx c (fun y =>
    if s.lsw[c].segs = [] then { y with limRun := y.limRun + min (us 10) (e.1 - s.lswx[c].limAt) } else y)

/-- The samples that I_MEAS and V_OUT are the mean of: the last 1 ms, or the last whole pulse periods that span at least 1 ms (R347). -/
def State.meanWindow (s : State) (c : Fin 24) : List (Nat × Nat × Int) :=
  let y := s.lswx[c]
  let p := s.genPeriod y.freq
  let within (e : Nat × Nat × Int) : Bool := match (if s.lsw[c].out = 2 then y.perAt else none) with
    | some a => decide (e.1 ≤ a) && decide (a < e.1 + (ms 1 + p - 1) / p * p)
    | none => decide (s.tb < e.1 + ms 1)
  match y.samples.filter within with
  | [] => y.samples.take 1
  | l => l

/-- The channel's samples since the last update, 10 µs apart and the last of the present instant; I_MEAS and V_OUT follow; no rule says
how a mean is rounded (R347, log 16). -/
def State.lswSamples (c : Fin 24) (l : List (Nat × Int)) (s : State) : State :=
  let n := l.length
  let at_ (k : Nat) : Nat := s.tb - us 10 * (n - 1 - k)
  let s1 := (l.zipIdx).foldl (fun t e => t.lswSample c (at_ e.2, e.1.1, s.riseBound c (at_ e.2) e.1.2)) s
  let w := s1.meanWindow c
  let d := max 1 w.length
  (s1.modLsw c (fun x =>
    { x with
      iMeas := min (freeRound 38 (w.foldl (fun t e => t + (e.2.1 : Nat)) (0 : Int)) d).toNat 0xFFFF
      vOut := clampI (-0x8000) 0x7FFF (freeRound 39 (w.foldl (fun t e => t + e.2.2) (0 : Int)) d) })).modLswx c
    (fun y => { y with samples := y.samples.filter (fun e => decide (s.tb < e.1 + ms 41)) })

/-! ## Solenoid permit gating (R346) -/

/-- The combined solenoid permit of a portal: both halves on (Table 12-1). -/
def State.solPermit (s : State) (p : Nat) : Bool := bit s.grd.out.sol p && bit s.sbx.out.sol p

/-- The gate of a channel follows its portal's permit. -/
def State.gateLsw (p : Nat) (s : State) : State :=
  forAll ((s.lswg.gates.filter (fun g => g.1 = p)).map (·.2)) (fun n t =>
    if h : n < 24 then
      let c : Fin 24 := ⟨n, h⟩
      let hold := !t.solPermit p
      (t.modLsw c (fun x => { x with gated := hold, episode := x.episode && hold })).settle c
    else t) s

/-- SOL_PERMIT_CHANGE (R346): a portal's solenoid permit has changed. -/
def execSolPermitChange (p : Fin 8) (s : State) : Host.Outcome State Fault Refusal := .next (s.gateLsw p.val)

/-! ## LSENSE (R348) -/

/-- The select code in force follows the pads or SEL_CODE. -/
def State.selectSense (s : State) : State :=
  let w := s.com .lswg 0x040
  { s with lswg := { s.lswg with selIn := if bit w 8 then fld w 0 5 else s.lswg.pads } }

/-- LSEL_CHANGE (R348): the pads carry another select code. -/
def execLselChange (code : Fin 32) (s : State) : Host.Outcome State Fault Refusal :=
  .next ({ s with lswg := { s.lswg with pads := code.val } }.selectSense)

/-! ## Supply dips (R349) -/

/-- VLSW_UV begins or ends on the Switch die (R349): every channel off, or on again with a new window. -/
def State.lswUv (on : Bool) (s : State) : State :=
  if on then
    let s1 := { s with lswg := { s.lswg with uv := true, uvCount := inc s.lswg.uvCount 0xFFFF } }.lswgFlag 2
    forAll allLsw (fun c t => t.modLsw c (fun x => { x with offHigh := false })) s1.settleAll
  else
    let s1 := { s with lswg := { s.lswg with uv := false } }.settleAll
    forAll allLsw (fun c t => (t.modLswx c (fun y => { y with checkAt := max y.checkAt s.tb })).retry c) s1

/-! ## Packets and the watchdog (R334, R350 to R353) -/

/-- The commanded states as Junction's packet carries them. -/
def State.lswStates (s : State) : List (Nat × Nat) := allLsw.map (fun c => (s.lsw[c].cmd, s.lsw[c].cmdDuty))

/-- Junction sends a packet of a mode: 1 NORMAL, 2 FAILSAFE, 3 ALL_OFF, 4 store (R350, R352). With ALL_OFF its own commanded
states become off, and sending stops. -/
def State.lswSend (mode : Nat) (s : State) : State :=
  if s.dieAbsent 5 || !s.domOn 7 then s
  else
    let body := if mode = 4 then allLsw.map (fun c => s.cfg.lswFs[c]) else s.lswStates
    let s1 := { s with lswg := { s.lswg with
      air := s.lswg.air ++ [(mode, body)], sending := if mode = 4 then s.lswg.sending else if mode = 3 then 0 else mode } }
    if mode = 3 then forAll allLsw (fun c t => t.modLsw c (fun x => { x with cmd := 0 })) s1 else s1

/-- LSW_PACKET_INTERVAL (R350): in SERVICE and SAFE_HOLD throughout, in RUN and DEGRADED from the first publication. -/
def execLswPacketInterval (s : State) : Host.Outcome State Fault Refusal :=
  .next (match s.mc.mode with
    | .safeHold => if s.pairx.handed then s else if s.pairx.gaveUpAt.isNone then s.lswSend 2 else if s.lswg.sending = 1 then s.lswSend 1 else s
    | .service => s.lswSend 1
    | .run | .degraded => if s.lswg.sending = 1 then s.lswSend 1 else s
    | .sleep | .boot | .config | .standby => s)

/-- The packet at the front, if it has the mode. -/
def State.lswFront (s : State) (mode : Nat) : Option (List (Nat × Nat)) :=
  match s.lswg.air with | e :: _ => if e.1 = mode then some e.2 else none | [] => none

/-- The front packet leaves the line. -/
def State.lswPop (s : State) : State := { s with lswg := { s.lswg with air := s.lswg.air.tail } }

/-- The watchdog enters a state, and a command packet has been taken at the present instant. -/
def State.wdtTo (w : WdtState) (s : State) : State := { s with lswg := { s.lswg with wdt := w, lastPkt := s.tb } }

/-- FLAGS.FAILSAFE is set and LSW_FAILSAFE raised (R351): cause 1 watchdog, 2 command. -/
def State.lswFailsafe (cause : Nat) (s : State) : State := (s.lswgFlag 1).ev .lswg 0x5002 [b8 cause]

/-- LSW_NORMAL_PACKET (R350): the commanded states apply at one LSW clock. -/
def execLswNormalPacket (s : State) : Host.Outcome State Fault Refusal :=
  match s.lswFront 1 with
  | none => .next s
  | some l =>
    let s1 := s.lswPop
    if s1.lswg.clkFailed then .next s1
    else
      let s2 := forAll allLsw (fun c t =>
        let e := l.getD c.val (0, 0)
        let same := t.lsw[c].got = e.1
        (t.modLsw c (fun x => { x with got := e.1, gotDuty := e.2 })).modLswx c
          (fun y => if same then y else { y with since := t.tb })) s1
      .next (s2.wdtTo .running).settleAll

/-- LSW_FAILSAFE_PACKET (R350): the stored fail-safe states apply at once. -/
def execLswFailsafePacket (s : State) : Host.Outcome State Fault Refusal :=
  match s.lswFront 2 with
  | none => .next s
  | some _ =>
    let s1 := s.lswPop
    if s1.lswg.clkFailed then .next s1
    else
      let enter := s1.lswg.wdt ≠ .failCmd
      let s2 := s1.wdtTo .failCmd
      .next (if enter then s2.lswFailsafe 2 else s2).settleAll

/-- LSW_ALL_OFF_PACKET (R350): every channel off, the watchdog disarmed. -/
def execLswAllOffPacket (s : State) : Host.Outcome State Fault Refusal :=
  match s.lswFront 3 with
  | none => .next s
  | some _ =>
    let s1 := s.lswPop
    .next (if s1.lswg.clkFailed then s1 else (s1.wdtTo .disarmed).settleAll)

/-- LSW_STORE_PACKET (R352): the fail-safe store is loaded. -/
def execLswStorePacket (s : State) : Host.Outcome State Fault Refusal :=
  match s.lswFront 4 with
  | none => .next s
  | some l =>
    let s1 := s.lswPop
    if s1.lswg.clkFailed then .next s1
    else .next (forAll allLsw (fun c t =>
      let e := l.getD c.val (0, 0)
      t.modLsw c (fun x => { x with fs := e.1, fsDuty := e.2 })) s1).settleAll

/-- FLAGS.WDT_EXPIRED is set, WDT_COUNT increments and WDT_EXPIRED is raised (R351). -/
def State.wdtExpired (s : State) : State :=
  ({ s with lswg := { s.lswg with wdtCount := inc s.lswg.wdtCount 0xFFFF } }.lswgFlag 0).ev .lswg 0x5001
    (leBytes 4 s.lswg.lastPkt)

/-- The watchdog enters FAIL_WDT. -/
def State.failWdt (s : State) : State :=
  ({ s with lswg := { s.lswg with wdt := .failWdt } }.lswFailsafe 1).settleAll

/-- The watchdog enters HOLD, or FAIL_WDT at once where LSW_HOLD is 0. -/
def State.holdWdt (s : State) : State :=
  let s1 : State := { s with lswg := { s.lswg with wdt := .hold, holdAt := s.tb } }
  if s.cfg.lswHold = 0 then s1.wdtExpired.failWdt else s1.wdtExpired

/-- The instant at which LSW_WDT runs out. -/
def State.wdtEnd (s : State) : State := s.to (s.lswg.lastPkt + ms s.cfg.lswWdt)

/-- LSW_WDT_EXPIRY (R351): no packet for LSW_WDT. -/
def execLswWdtExpiry (s : State) : Host.Outcome State Fault Refusal :=
  if s.lswg.wdt = .running then .next s.wdtEnd.holdWdt
  else if s.lswg.wdt = .failCmd then .next s.wdtEnd.wdtExpired.failWdt
  else .next s

/-- LSW_HOLD_EXPIRY (R351): LSW_HOLD has passed in HOLD. -/
def execLswHoldExpiry (s : State) : Host.Outcome State Fault Refusal :=
  if s.lswg.wdt = .hold then .next (s.to (s.lswg.holdAt + ms s.cfg.lswHold)).failWdt else .next s

/-! ## Commands (R333, R334, R344) -/

/-- The code with which a command to a channel is refused (R333). -/
def State.lswRefusal (s : State) (wr : Writer) (c : Fin 24) : Option Nat :=
  if s.lswOwner c ≠ wr then some 0x40 else if !s.modeMoves then some 0x41 else none

/-- CMD.STATE and DUTY of a channel at Junction, without a packet. -/
def State.lswSet (c : Fin 24) (st : Nat) (duty : Nat) (s : State) : State :=
  s.modLsw c (fun x => { x with cmd := st, cmdDuty := duty })

/-- Load states are delivered: a command packet, and in a pair a LOADS frame (R334, R474). -/
def State.lswDeliver (s : State) : State := (s.lswSend 1).sendLoads

/-- A write of CMD.STATE by host software or the door cycle: a packet follows (R334). -/
def State.lswCmdWrite (wr : Writer) (c : Fin 24) (w : Word) (s : State) : State :=
  match s.lswRefusal wr c with
  | some code => s.err (.lsw c) code 0 0x040
  | none =>
    if fld w 0 2 = 3 then s.err (.lsw c) 0x43 0 0x040
    else (s.lswSet c (fld w 0 2) s.lsw[c].cmdDuty).lswDeliver

/-- A write of DUTY (R344). -/
def State.lswDutyWrite (wr : Writer) (c : Fin 24) (w : Word) (s : State) : State :=
  match s.lswRefusal wr c with
  | some code => s.err (.lsw c) code 0 0x044
  | none => (s.lswSet c s.lsw[c].cmd (fld w 0 10)).lswDeliver

/-- LSW_CMD (R334): host software writes CMD.STATE. -/
def execLswCmd (c : Fin 24) (st : Fin 4) (s : State) : Host.Outcome State Fault Refusal :=
  let w := BitVec.ofNat 32 st.val
  .next (s.gated (.lsw c) 0x040 w true (State.lswCmdWrite .host c w))

/-- LSW_DUTY (R344): host software writes DUTY. -/
def execLswDuty (c : Fin 24) (duty : Fin 1024) (s : State) : Host.Outcome State Fault Refusal :=
  let w := BitVec.ofNat 32 duty.val
  .next (s.gated (.lsw c) 0x044 w true (State.lswDutyWrite .host c w))

end Sys2Proof.Machine
end

