-- ==== Sys2Proof/Machine/Can.lean ====
section
/-! DEFINITION. The CAN controllers: ring, readers and windows, transmit FIFO, fault confinement (R398 to R420). -/

namespace Sys2Proof.Machine

/-- Change a controller. -/
def State.modCan (n : Fin 4) (f : Can → Can) (s : State) : State := { s with can := upd s.can n f }

/-- Change the counters of a controller. -/
def State.modCanc (n : Fin 4) (f : CanCnt → CanCnt) (s : State) : State := { s with canc := upd s.canc n f }

/-- A bit of the committed MODE word (Table 15-5). -/
def State.canMode (s : State) (n : Fin 4) (b : Nat) : Bool := bit (s.com (.can n) 0x04C) b

/-- XCVR.MODE; CAN2 and CAN3 have no transceiver of the module's (R400). -/
def State.xcvr (s : State) (n : Fin 4) : Nat := if n.val < 2 then s.cf (.can n) 0x050 0 2 else 0

/-- Stations configured on a controller (R387, R410). -/
def State.stationsOn (s : State) (n : Fin 4) : Nat := (fins 16 (fun i => s.cfg.stn[i].bus = some n.val)).length

/-- An extended identifier in the station range (R387). -/
def stationId (w0 : Word) : Bool := bit w0 29 && decide (0x1E000000 ≤ fld w0 0 29) && decide (fld w0 0 29 ≤ 0x1EFFFFFF)

/-- Payload length for a DLC (R406). -/
def dlcLen (fd rtr : Bool) (dlc : Nat) : Nat :=
  if rtr then 0
  else if dlc ≤ 8 then dlc
  else if !fd then 8
  else match dlc with | 9 => 12 | 10 => 16 | 11 => 20 | 12 => 24 | 13 => 32 | 14 => 48 | _ => 64

/-- The controller takes part in the bus. -/
def Can.onBus (c : Can) : Bool := c.fc = .active || c.fc = .passive

/-- No frame is on the bus of a controller that takes part in it: STA.BUS_IDLE. -/
def Can.busIdle (c : Can) : Bool := c.onBus && !c.txActive && !c.rxActive

/-- The head may contend for the bus (R400, R411, R413, R416). -/
def State.canSends (s : State) (n : Fin 4) : Bool :=
  let c := s.can[n]
  c.onBus && !c.stopping && !s.canMode n 4 && s.xcvr n = 0 && c.fifo ≠ []

/-- An attempt of the head begins wherever it may contend and the bus is idle; ONE_SHOT holds for it as it stands (R412). -/
def State.canAttempt (n : Fin 4) (s : State) : State :=
  if s.canSends n && s.can[n].busIdle then s.modCan n (fun c => { c with txActive := true, oneShot := s.canMode n 3 }) else s

/-! ## The ring and its readers (R405 to R409) -/

/-- The frame is marked STN, so the program reader counts it as read (R407). -/
def Frame.stn (f : Frame) : Bool := bit f.w1 8

/-- The program reader moves past frames of the stations. -/
def Can.skipStn (c : Can) : Can :=
  match c.ring.find? (fun f => decide (c.prgAt ≤ f.num) && !f.stn) with
  | some f => { c with prgAt := f.num }
  | none => { c with prgAt := c.nextNum }

/-- The receive window and the shadow buffer take copies of the host reader's next frames; the first frame taken after a
loss carries LOST_BEFORE (R407, R408). -/
def Can.fillWindow (host : Bool) (c : Can) : Can :=
  if !host then c
  else
    let take (after : Nat) : Option Frame := c.ring.find? (fun f => decide (after ≤ f.num) && decide (c.hostAt ≤ f.num))
    match c.window, c.shadow with
    | none, _ => match take 0 with
      | none => c
      | some f =>
        match take (f.num + 1) with
        | none => { c with window := some (f, c.hostLost), hostLost := false }
        | some g => { c with window := some (f, c.hostLost), hostLost := false, shadow := some (g, false) }
    | some (f, _), none => match take (f.num + 1) with
      | none => c
      | some g => { c with shadow := some (g, c.hostLost), hostLost := false }
    | some _, some _ => c

/-- The oldest slot is overwritten: a reader that has not read it loses it, and the frame that reader receives next, be it in the shadow
buffer already, carries LOST_BEFORE (R407). -/
def Can.overwrite (host prg : Bool) (c : Can) : Can × Bool × Bool :=
  match c.ring with
  | [] => (c, false, false)
  | f :: l =>
    let h := host && decide (c.hostAt ≤ f.num)
    let p := prg && decide (c.prgAt ≤ f.num) && !f.stn
    let held := c.shadow.any (fun e => decide (f.num < e.1.num))
    ({ c with ring := l, hostAt := if h then f.num + 1 else c.hostAt, hostLost := c.hostLost || (h && !held)
              shadow := c.shadow.map (fun e => (e.1, e.2 || (h && held)))
              prgAt := if p then f.num + 1 else c.prgAt, prgLost := c.prgLost || p }, h, p)

/-- The words of a frame in the layout of Table 15-3. -/
def Frame.word (f : Frame) (lost : Bool) (w : Nat) : Word :=
  match w with
  | 0 => f.w0
  | 1 => putBit f.w1 9 lost
  | 2 => BitVec.ofNat 32 f.seq
  | 3 => BitVec.ofNat 32 (f.seq / 2 ^ 32)
  | 4 => BitVec.ofNat 32 f.val
  | 5 => mkWord [(0, 16, f.val / 2 ^ 32), (16, 16, f.sof / 2 ^ 32)]
  | 6 => BitVec.ofNat 32 f.sof
  | 7 => BitVec.ofNat 32 (f.num % 256)
  | k => BitVec.ofNat 32 (leNat ((f.data.drop (4 * (k - 8))).take 4))

/-- W1 as a slot shows it: the reserved bits and LOST_BEFORE 0, the length, STN and OWN filled in (Table 15-3). -/
def State.slotW1 (s : State) (n : Fin 4) (w0 w1 : Word) (own : Bool) (len : Nat) : Word :=
  mkWord [(0, 4, fld w1 0 4), (4, 1, fld w1 4 1), (5, 1, fld w1 5 1), (6, 1, fld w1 6 1), (7, 1, b2n own),
          (8, 1, b2n (stationId w0 && decide (0 < s.stationsOn n))), (10, 1, fld w1 10 1), (16, 7, len)]

/-- A frame that became valid at `val` is stored and raised as an event, or dropped or lost under the full-ring rule
(R405, R407). -/
def State.canStore (n : Fin 4) (w0 w1 : Word) (data : List Byte) (own : Bool) (sof val : Nat) (s : State) : State :=
  let c := s.can[n]
  let host := s.canMode n 11
  let prg := s.canMode n 12
  let full := decide (256 ≤ c.ring.length)
  let unread := match c.ring with
    | f :: _ => (host && decide (c.hostAt ≤ f.num)) || (prg && decide (c.prgAt ≤ f.num) && !f.stn)
    | [] => false
  if full && unread && c.lockMode then
    let s1 := s.modCanc n (fun k => { k with rxDrop := inc k.rxDrop 0xFFFF })
    if c.dropRun then s1 else (s1.modCan n (fun c => { c with dropRun := true })).canFlag n 5
  else
    let (c1, hl, pl) := if full then c.overwrite host prg else (c, false, false)
    let len := dlcLen (bit w1 4) (bit w1 10) (fld w1 0 4)
    let f : Frame := { w0 := w0, w1 := s.slotW1 n w0 w1 own len, data := data.take len, val := stampOf val, sof := stampOf sof, num := c1.nextNum }
    let c2 : Can := { c1 with ring := c1.ring ++ [f], nextNum := c1.nextNum + 1, dropRun := false
                              hostAt := if host then c1.hostAt else c1.nextNum + 1, prgAt := if prg then c1.prgAt else c1.nextNum + 1 }
    let s1 := (s.modCan n (fun _ => (c2.skipStn).fillWindow host)).modCanc n (fun k =>
      { k with rx := inc k.rx 0xFFFFFFFF, rxLost := if hl then inc k.rxLost 0xFFFF else k.rxLost
               prgLost := if pl then inc k.prgLost 0xFFFF else k.prgLost })
    let s2 := if hl || pl then s1.canFlag n 4 else s1
    s2.raiseAt val 0 (evSource (.can n)) 0x6001
      (leBytes 4 f.w0.toNat ++ leBytes 4 f.w1.toNat ++ padTo 4 f.data) (f.data.drop 4)

/-- The window's frame is done with: the host reader advances, and the shadow buffer becomes the window (R408). -/
def Can.advance (host : Bool) (c : Can) : Can :=
  match c.window with
  | none => c
  | some (f, _) =>
    Can.fillWindow host { c with hostAt := max c.hostAt (f.num + 1), window := c.shadow, shadow := none, locked := false }

/-- A word of the receive window; 0 without an unread frame (R408). -/
def Can.windowWord (c : Can) (w : Nat) : Word := match c.window with | some (f, l) => f.word l w | none => 0

/-- A read of window word `w` as it acts in lock mode (R409). -/
def State.windowRead (n : Fin 4) (w : Nat) (s : State) : State :=
  let c := s.can[n]
  match c.window with
  | none => s
  | some (f, _) =>
    if !c.lockMode then s
    else
      let last := 7 + ceilDiv (fld f.w1 16 7) 4
      if w = last then s.modCan n (fun c => c.advance (s.canMode n 11)) else s.modCan n (fun c => { c with locked := true })

/-! ## Fault confinement (R414 to R417) -/

/-- Move to the state TEC and REC give; each change sets its flag and raises CAN_STATE (R414). -/
def State.canConfine (n : Fin 4) (s : State) : State :=
  let c := s.can[n]
  if !c.onBus then s
  else
    let to_ : FcState := if 256 ≤ c.tec then .busOff else if 128 ≤ c.tec ∨ 128 ≤ c.rxErr then .passive else .active
    if to_ = c.fc then s
    else
      let s1 := s.modCan n (fun c => { c with fc := to_, recovering := to_ = .busOff && s.canMode n 7 })
      let s2 := match to_ with
        | .passive => s1.canFlag n 0
        | .busOff => (s1.canFlag n 1).modCanc n (fun k => { k with busOff := inc k.busOff 0xFFFF })
        | .active | .init => s1
      s2.ev (.can n) 0x6002 ([b8 to_.code, 0] ++ leBytes 2 (min s2.can[n].tec 0x100) ++ [b8 s2.can[n].rxErr])

/-- An exchange of a station changes (R390): its transmission instant is set, or it is taken away. -/
def State.modFlight (i ctr : Nat) (f : Nat × Option Nat → Option (Nat × Option Nat)) (s : State) : State :=
  if h : i < 16 then
    { s with stn := upd s.stn ⟨i, h⟩ (fun x => { x with flights := x.flights.filterMap (fun e => if e.1 = ctr then f e else some e) }) }
  else s

/-- A station frame has left the FIFO unsent: its exchange counts as missed when its reply time, which then runs from
here, ends (R411). -/
def State.stnUnsent (f : TxFrame) (s : State) : State :=
  match f.stn with
  | some i => s.modFlight i (fld f.w0 8 8) (fun e => some (e.1, some s.tb))
  | none => s

/-- The controller enters INIT (R417). -/
def State.canInit (n : Fin 4) (s : State) : State :=
  s.modCan n (fun c =>
    { c with offHeld := c.offHeld || c.fc = .busOff, fc := .init, tec := 0, rxErr := 0, recovering := false, txActive := false
             rxActive := false, aborting := false, dropping := false, stopping := false })

/-- What follows the end of a frame on the bus: INIT where EN was written 0, otherwise the next attempt (R411, R417). -/
def State.canAfter (n : Fin 4) (s : State) : State := if s.can[n].stopping then s.canInit n else s.canAttempt n

/-- TX_FAIL of a frame, with a cause: 1 arbitration lost, 2 an error (R412). -/
def State.txFailed (n : Fin 4) (f : TxFrame) (cause : Nat) (s : State) : State :=
  ((s.canFlag n 3).modCanc n (fun k => { k with txFail := inc k.txFail 0xFFFF })).ev (.can n) 0x6003 (leBytes 4 f.w0.toNat ++ [b8 cause])

/-- What follows where the bus may have fallen idle: nothing while a frame is on it. -/
def State.canAfterRx (n : Fin 4) (s : State) : State :=
  if s.can[n].txActive || s.can[n].rxActive then s else s.canAfter n

/-- The head's attempt fails with a cause: 1 arbitration lost, to a frame that is then received; 2 an error. The head stays for a retry
unless its removal waits or it has one attempt (R392, R411, R412). -/
def State.attemptFail (n : Fin 4) (cause : Nat) (s : State) : State :=
  let c := s.can[n]
  match c.fifo with
  | [] => s
  | f :: l =>
    if !c.txActive then s
    else
      let s1 := s.modCan n (fun c => { c with txActive := false, rxActive := cause = 1, aborting := false, dropping := false })
      if !(c.aborting || c.dropping || c.oneShot) then s1
      else
        let s2 := (s1.modCan n (fun c => { c with fifo := l })).stnUnsent f
        let s3 := if c.aborting then s2.canFlag n 7 else s2
        if c.oneShot then s3.txFailed n f cause else s3

/-- An error of a kind of STA.LEC, met as transmitter or receiver, ends the frame received. `more` says that the standard's eightfold rule
applies to a receiver, `spare` that one of its exceptions spares a transmitter (R414, R415). An attempt that leads to bus-off has
failed (R416); with EN written 0 the controller then enters INIT (R417). -/
def State.canError (n : Fin 4) (kind : Nat) (tx more spare : Bool) (s : State) : State :=
  let c := s.can[n]
  if kind = 0 || !c.onBus || s.xcvr n = 2 then s
  else
    let s1 := (s.modCan n (fun c => { c with lec := kind, rxActive := c.rxActive && tx })).modCanc n (fun k =>
      match kind with
      | 1 => { k with stuff := inc k.stuff 0xFF }
      | 2 => { k with form := inc k.form 0xFF }
      | 3 => { k with ack := inc k.ack 0xFFFF }
      | 6 => { k with crc := inc k.crc 0xFF }
      | _ => { k with bit := inc k.bit 0xFF })
    if s.canMode n 4 then s1.canAfterRx n
    else
      let spared := spare && ((kind = 3 && c.fc = .passive) || kind = 1)
      let s2 := s1.modCan n (fun c =>
        if tx then { c with tec := if spared then c.tec else c.tec + 8 }
        else { c with rxErr := min (c.rxErr + (if more then 8 else 1)) 0xFF })
      let off := decide (256 ≤ s2.can[n].tec)
      ((if off then s2.attemptFail n 2 else s2).canConfine n).canAfterRx n

/-- CAN_BUS_ERROR (R414): a bus error. -/
def execCanBusError (n : Fin 4) (kind : Fin 7) (tx more spare : Bool) (s : State) : Host.Outcome State Fault Refusal :=
  .next (s.canError n kind.val tx more spare)

/-- A frame of another node has become valid at the present instant: it is stored, and the receive error counter follows the standard
(R405, R414). -/
def State.canReceive (n : Fin 4) (w0 w1 : Word) (data : List Byte) (sof : Nat) (s : State) : State :=
  let d := s.draw
  let t := if s.canMode n 4 then s
    else if 127 < s.can[n].rxErr then
      d.2.modCan n (fun c => { c with rxErr := 119 + Config.free 20 d.1 % 9 })
    else s.modCan n (fun c => { c with rxErr := c.rxErr - 1 })
  (t.canStore n w0 w1 data false sof s.tb).canConfine n

/-- CAN_FRAME_RX (R405): a frame of another node becomes valid at `val`, with its start of frame at `sof`. To a classical node the FDF bit
is a protocol exception, or with PXHD = 1 a form error (R399), which counts as a receiver's (DEDUCED, log 85). -/
def execCanFrameRx (n : Fin 4) (w0 w1 : Word) (data : List Byte) (sof val : Nat) (s0 : State) :
    Host.Outcome State Fault Refusal :=
  let s := s0.to val
  if !s.can[n].onBus || s.xcvr n = 2 then .next s
  else if bit w1 4 && !s.canMode n 1 && s.canMode n 8 then .next (s.canError n 2 false false false)
  else
    let t := if bit w1 4 && !s.canMode n 1 then s else s.canReceive n w0 w1 data sof
    .next ((t.modCan n (fun c => { c with rxActive := false })).canAfterRx n)

/-- CAN_TX_COMPLETE (R411): the head has been sent; its start and end of frame. An FD frame of an error-passive controller carries ESI
(Table 15-3). -/
def execCanTxComplete (n : Fin 4) (sof val : Nat) (s0 : State) : Host.Outcome State Fault Refusal :=
  let c := s0.can[n]
  match c.fifo with
  | [] => .next s0
  | f :: l =>
    if !c.txActive then .next s0
    else
      let s := s0.to val
      let w1 := putBit (if s.canMode n 2 then f.w1 else clrBit f.w1 5) 6 (bit f.w1 4 && c.fc = .passive)
      let s1 := ((s.modCan n (fun c => { c with fifo := l, txActive := false, aborting := false, dropping := false, tec := c.tec - 1 })).modCanc n
        (fun k => { k with tx := inc k.tx 0xFFFFFFFF })).post (.canFrame n.val f.w0 w1 f.data)
      let s2 := match f.stn with
        | some i => s1.modFlight i (fld f.w0 8 8) (fun e => some (e.1, some s1.tb))
        | none => s1
      let s3 := if s.canMode n 10 then s2.canStore n f.w0 w1 f.data true sof s2.tb else s2
      .next ((s3.canConfine n).canAfter n)

/-- CAN_TX_ATTEMPT_FAIL (R412): the attempt loses arbitration, or meets an error. -/
def execCanTxAttemptFail (n : Fin 4) (error : Bool) (s : State) : Host.Outcome State Fault Refusal :=
  .next (if s.can[n].txActive then (s.attemptFail n (if error then 2 else 1)).canAfterRx n else s)

/-- CAN_RECOVERY_DONE (R414): the recovery sequence completes. -/
def execCanRecoveryDone (n : Fin 4) (s : State) : Host.Outcome State Fault Refusal :=
  let c := s.can[n]
  if c.fc = .busOff && c.recovering then
    let s1 := (s.modCan n (fun c => { c with fc := .active, tec := 0, rxErr := 0, recovering := false, offHeld := false })).canFlag n 2
    .next ((s1.ev (.can n) 0x6002 [0, 0, 0, 0, 0]).canAttempt n)
  else .next s

/-- CAN_WUP_DETECT (R400): a wake-up pattern in STANDBY. -/
def execCanWupDetect (n : Fin 4) (s : State) : Host.Outcome State Fault Refusal :=
  .next (if n.val < 2 && s.xcvr n = 2 then s.canFlag n 8 else s)

/-- EN becomes 1: the committed TIMING group takes effect, and INIT at the end of a frame is no longer wanted (R419). -/
def State.canTiming (n : Fin 4) (s : State) : State :=
  let p : PageId := .can n
  s.modCan n (fun c => { c with stopping := false, timing := [s.com p 0x040, s.com p 0x044, s.com p 0x048] })

/-- A controller takes part: bus-off held through INIT is resumed with its recovery rule (R417, R419). -/
def State.canStart (n : Fin 4) (s : State) : State :=
  ((s.modCan n (fun c =>
    { c with fc := if c.offHeld then .busOff else .active, recovering := c.offHeld && s.canMode n 7, offHeld := false })).canTiming n).canAttempt n

/-- A write of PG_CTL.EN on a CAN page (R417): a frame in progress on the bus ends first. -/
def State.canEnable (n : Fin 4) (on : Bool) (s : State) : State :=
  let s1 := s.modPg (.can n) (fun g => { g with en := on })
  if on then (if s1.can[n].fc = .init then s1.canStart n else s1.canTiming n)
  else if s1.can[n].txActive || s1.can[n].rxActive then s1.modCan n (fun c => { c with stopping := true })
  else if s1.can[n].fc = .init then s1 else s1.canInit n

/-- A commit of group 1 takes effect (R407, R409, R414, R419); `old` is the MODE word before it. -/
def State.canModeCommit (n : Fin 4) (old : Word) (s : State) : State :=
  let new := s.com (.can n) 0x04C
  let s1 := s.modCan n (fun c =>
    { c with
      hostAt := if bit new 11 && !bit old 11 then c.nextNum else c.hostAt
      prgAt := if bit new 12 && !bit old 12 then c.nextNum else c.prgAt
      window := if bit new 11 && bit old 11 then c.window else none
      shadow := if bit new 11 && bit old 11 then c.shadow else none
      locked := c.locked && decide (bit new 9 = bit old 9) && bit new 11 && bit old 11
      lockMode := bit new 9
      recovering := c.recovering || (c.fc = .busOff && bit new 7) })
  (s1.modCan n (fun c => c.fillWindow (bit new 11))).canAttempt n

/-- A write of XCVR.MODE (R400): a transceiver that drives nothing holds the frame of an attempt under way in the FIFO, unless it is to be
removed, and one in STANDBY receives nothing more. -/
def State.canXcvr (n : Fin 4) (w : Word) (s : State) : State :=
  let s1 := s.setCom (.can n) 0x050 (w &&& 3)
  let s2 := if s1.xcvr n = 0 then s1
    else match s1.can[n].fifo with
    | f :: l =>
      let c := s1.can[n]
      if !c.txActive then s1
      else
        let s3 := s1.modCan n (fun c => { c with txActive := false, aborting := false, dropping := false })
        if !(c.aborting || c.dropping) then s3
        else
          let s4 := (s3.modCan n (fun c => { c with fifo := l })).stnUnsent f
          if c.aborting then s4.canFlag n 7 else s4
    | [] => s1
  (if s2.xcvr n = 2 then s2.modCan n (fun c => { c with rxActive := false }) else s2).canAfterRx n

/-! ## Transmission (R410, R411) and CTL -/

/-- The code with which a push is refused (R410). -/
def State.pushRefusal (s : State) (n : Fin 4) (w0 w1 : Word) : Option Nat :=
  let ns := s.stationsOn n
  if 32 - ns ≤ s.can[n].fifo.length then some 0x40
  else if (bit w1 10 && bit w1 4) || ((bit w1 4 || bit w1 5) && !s.canMode n 1) || (bit w1 5 && !bit w1 4)
      || (decide (0 < ns) && stationId w0) then some 0x41
  else none

/-- A frame enters the FIFO; W0 and W1 and as many bytes as the DLC gives are taken (R406). -/
def State.canQueue (n : Fin 4) (w0 w1 : Word) (data : List Byte) (stn : Option Nat) (s : State) : State :=
  let len := dlcLen (bit w1 4) (bit w1 10) (fld w1 0 4)
  let id := if bit w0 29 then fld w0 0 29 else fld w0 0 11
  let f : TxFrame := ⟨mkWord [(0, 29, id), (29, 1, fld w0 29 1)],
    mkWord [(0, 4, fld w1 0 4), (4, 1, fld w1 4 1), (5, 1, fld w1 5 1), (10, 1, fld w1 10 1), (16, 7, len)], padTo len data, stn⟩
  (s.modCan n (fun c => { c with fifo := c.fifo ++ [f] })).canAttempt n

/-- A push by host software or the program: the refusal code, or none and the frame queued. -/
def State.canPush (n : Fin 4) (w0 w1 : Word) (data : List Byte) (s : State) : Option Nat × State :=
  match s.pushRefusal n w0 w1 with
  | some 0x40 => (some 0x40, s.canFlag n 6)
  | some c => (some c, s)
  | none => (none, s.canQueue n w0 w1 data none)

/-- The frames of the FIFO but the head in an attempt are removed, or the head alone (R411). -/
def State.canAbort (n : Fin 4) (all : Bool) (s : State) : State :=
  let c := s.can[n]
  match c.fifo with
  | [] => s
  | f :: l =>
    if c.txActive then
      let s1 := if all then forAll l (fun g t => t.stnUnsent g) s else s
      s1.modCan n (fun c => { c with aborting := true, fifo := if all then [f] else c.fifo })
    else
      let gone := if all then f :: l else [f]
      ((forAll gone (fun g t => t.stnUnsent g) s).modCan n (fun c => { c with fifo := if all then [] else l })).canAttempt n

/-- A write of CTL (Table 15-5). A controller that listens only takes SEND_WUP and drives nothing (R413; DESIGN CHOICE, log 85). ABORT_HEAD, TX_FLUSH, RECOVER and SEND_WUP are not among what stays writable under LOCK
(R420). -/
def State.canCtl (n : Fin 4) (w : Word) (s : State) : State :=
  let p : PageId := .can n
  let c := s.can[n]
  match fld w 0 6 with
  | 1 =>
    let tx (k : Nat) : Word := s.com p (0x200 + 4 * k)
    let data := (List.range 16).flatMap (fun k => leBytes 4 (tx (8 + k)).toNat)
    match s.canPush n (tx 0) (tx 1) data with
    | (some code, t) => t.err p code 0 0x054
    | (none, t) => t
  | 2 => if c.window.isNone then s.err p 0x43 0 0x054 else s.modCan n (fun c => c.advance (s.canMode n 11))
  | 4 => s.canAbort n false
  | 8 => s.canAbort n true
  | 16 => if c.fc ≠ .busOff || c.recovering then s.err p 0x44 0 0x054 else s.modCan n (fun c => { c with recovering := true })
  | 32 =>
    if !(n.val < 2 && s.xcvr n = 0 && c.busIdle) then s.err p 0x45 0 0x054
    else if s.canMode n 4 then s else s.post (.canWup n.val)
  | _ => s.err p 0x42 0 0x054

/-- CTL bits that stay writable under LOCK (R420). -/
def canCtlFree (w : Word) : Bool := fld w 0 6 = 1 || fld w 0 6 = 2

/-- A write of CTL by host software. -/
def State.hostCan (n : Fin 4) (bits : Nat) (s : State) : State :=
  let w := BitVec.ofNat 32 bits
  s.gated (.can n) 0x054 w (canCtlFree w) (State.canCtl n w)

/-- PUSH (R410): the transmit window's frame. -/
def execPush (n : Fin 4) (s : State) : Host.Outcome State Fault Refusal := .next (s.hostCan n 1)

/-- POP (R408). -/
def execPop (n : Fin 4) (s : State) : Host.Outcome State Fault Refusal := .next (s.hostCan n 2)

/-- ABORT_HEAD (R411). -/
def execAbortHead (n : Fin 4) (s : State) : Host.Outcome State Fault Refusal := .next (s.hostCan n 4)

/-- TX_FLUSH (R411). -/
def execTxFlush (n : Fin 4) (s : State) : Host.Outcome State Fault Refusal := .next (s.hostCan n 8)

/-- RECOVER (R414). -/
def execRecover (n : Fin 4) (s : State) : Host.Outcome State Fault Refusal := .next (s.hostCan n 16)

/-- SEND_WUP (R400). -/
def execSendWup (n : Fin 4) (s : State) : Host.Outcome State Fault Refusal := .next (s.hostCan n 32)

/-- CAN_ENABLE (R417): a write of PG_CTL with EN that restates VIEW. -/
def execCanEnable (n : Fin 4) (on : Bool) (s : State) : Host.Outcome State Fault Refusal :=
  let g := s.pg (.can n)
  .next (s.gated (.can n) 0x00C (mkWord [(0, 1, b2n on), (4, 1, b2n g.view)]) (g.en = on) (State.canEnable n on))

end Sys2Proof.Machine
end

