-- ==== Sys2Proof/Machine/Signature.lean ====
section
/-! DEFINITION. The signature scheme that R495 names: SHA-512, MGF1 and RSASSA-PSS with a salt of 64 bytes, over moduli of 4,096 bits and the
exponent 65,537 (R492). The rule names the scheme; its arithmetic is that of FIPS 180-4 and RFC 8017 (PRESUMED, log 18). -/

namespace Sys2Proof.Machine

/-! ## Big-endian numbers (R492) -/

/-- The number a big-endian list of bytes spells. -/
def beNat (l : List Byte) : Nat := l.foldl (fun n b => n * 256 + b.toNat) 0

/-- Big-endian bytes of a number. -/
def beBytes (n v : Nat) : List Byte := (leBytes n v).reverse

/-! ## SHA-512 -/

/-- The constants of the 80 rounds. -/
def shaK : List Nat :=
  [0x428a2f98d728ae22, 0x7137449123ef65cd, 0xb5c0fbcfec4d3b2f, 0xe9b5dba58189dbbc, 0x3956c25bf348b538,
   0x59f111f1b605d019, 0x923f82a4af194f9b, 0xab1c5ed5da6d8118, 0xd807aa98a3030242, 0x12835b0145706fbe,
   0x243185be4ee4b28c, 0x550c7dc3d5ffb4e2, 0x72be5d74f27b896f, 0x80deb1fe3b1696b1, 0x9bdc06a725c71235,
   0xc19bf174cf692694, 0xe49b69c19ef14ad2, 0xefbe4786384f25e3, 0x0fc19dc68b8cd5b5, 0x240ca1cc77ac9c65]
  ++ [0x2de92c6f592b0275, 0x4a7484aa6ea6e483, 0x5cb0a9dcbd41fbd4, 0x76f988da831153b5, 0x983e5152ee66dfab,
   0xa831c66d2db43210, 0xb00327c898fb213f, 0xbf597fc7beef0ee4, 0xc6e00bf33da88fc2, 0xd5a79147930aa725,
   0x06ca6351e003826f, 0x142929670a0e6e70, 0x27b70a8546d22ffc, 0x2e1b21385c26c926, 0x4d2c6dfc5ac42aed,
   0x53380d139d95b3df, 0x650a73548baf63de, 0x766a0abb3c77b2a8, 0x81c2c92e47edaee6, 0x92722c851482353b]
  ++ [0xa2bfe8a14cf10364, 0xa81a664bbc423001, 0xc24b8b70d0f89791, 0xc76c51a30654be30, 0xd192e819d6ef5218,
   0xd69906245565a910, 0xf40e35855771202a, 0x106aa07032bbd1b8, 0x19a4c116b8d2d0c8, 0x1e376c085141ab53,
   0x2748774cdf8eeb99, 0x34b0bcb5e19b48a8, 0x391c0cb3c5c95a63, 0x4ed8aa4ae3418acb, 0x5b9cca4f7763e373,
   0x682e6ff3d6b2b8a3, 0x748f82ee5defb2fc, 0x78a5636f43172f60, 0x84c87814a1f0ab72, 0x8cc702081a6439ec]
  ++ [0x90befffa23631e28, 0xa4506cebde82bde9, 0xbef9a3f7b2c67915, 0xc67178f2e372532b, 0xca273eceea26619c,
   0xd186b8c721c0c207, 0xeada7dd6cde0eb1e, 0xf57d4f7fee6ed178, 0x06f067aa72176fba, 0x0a637dc5a2c898a6,
   0x113f9804bef90dae, 0x1b710b35131c471b, 0x28db77f523047d84, 0x32caab7b40c72493, 0x3c9ebe0a15c9bebc,
   0x431d67c49c100d4c, 0x4cc5d4becb3e42b6, 0x597f299cfc657e2a, 0x5fcb6fab3ad6faec, 0x6c44198c4a475817]

/-- The eight words of a hash value. -/
structure Sha where
  /-- First word. -/
  a : Nat
  /-- Second word. -/
  b : Nat
  /-- Third word. -/
  c : Nat
  /-- Fourth word. -/
  d : Nat
  /-- Fifth word. -/
  e : Nat
  /-- Sixth word. -/
  f : Nat
  /-- Seventh word. -/
  g : Nat
  /-- Eighth word. -/
  h : Nat
  deriving DecidableEq, Repr

/-- The initial hash value. -/
def shaInit : Sha :=
  ⟨0x6a09e667f3bcc908, 0xbb67ae8584caa73b, 0x3c6ef372fe94f82b, 0xa54ff53a5f1d36f1,
   0x510e527fade682d1, 0x9b05688c2b3e6c1f, 0x1f83d9abfb41bd6b, 0x5be0cd19137e2179⟩

/-- A word of 64 bits rotated right. -/
def rotr64 (n x : Nat) : Nat := (x >>> n ||| x <<< (64 - n)) % 2 ^ 64

/-- The message schedule, newest word first, extended by `n` words. -/
def shaExtend : Nat → List Nat → List Nat
  | 0, l => l
  | n + 1, l =>
    let x := l.getD 14 0
    let y := l.getD 1 0
    let s0 := rotr64 1 x ^^^ rotr64 8 x ^^^ x >>> 7
    let s1 := rotr64 19 y ^^^ rotr64 61 y ^^^ y >>> 6
    shaExtend n ((s1 + l.getD 6 0 + s0 + l.getD 15 0) % 2 ^ 64 :: l)

/-- One round with its constant and its word of the schedule. -/
def shaRound (v : Sha) (kw : Nat × Nat) : Sha :=
  let s1 := rotr64 14 v.e ^^^ rotr64 18 v.e ^^^ rotr64 41 v.e
  let ch := (v.e &&& v.f) ^^^ ((2 ^ 64 - 1 - v.e) &&& v.g)
  let t1 := v.h + s1 + ch + kw.1 + kw.2
  let s0 := rotr64 28 v.a ^^^ rotr64 34 v.a ^^^ rotr64 39 v.a
  let maj := (v.a &&& v.b) ^^^ (v.a &&& v.c) ^^^ (v.b &&& v.c)
  ⟨(t1 + s0 + maj) % 2 ^ 64, v.a, v.b, v.c, (v.d + t1) % 2 ^ 64, v.e, v.f, v.g⟩

/-- One block of 128 bytes is taken into a hash value. -/
def shaBlock (v : Sha) (block : List Byte) : Sha :=
  let m := (List.range 16).map (fun k => beNat ((block.drop (8 * k)).take 8))
  let u := (shaK.zip (shaExtend 64 m.reverse).reverse).foldl shaRound v
  let add (x y : Nat) : Nat := (x + y) % 2 ^ 64
  ⟨add v.a u.a, add v.b u.b, add v.c u.c, add v.d u.d, add v.e u.e, add v.f u.f, add v.g u.g, add v.h u.h⟩

/-- `n` blocks of a padded message. -/
def shaBlocks : Nat → Sha → List Byte → Sha
  | 0, v, _ => v
  | n + 1, v, l => shaBlocks n (shaBlock v (l.take 128)) (l.drop 128)

/-- SHA-512 of bytes: the message, a bit of 1, zeros, and the length in bits, in whole blocks. -/
def sha512 (l : List Byte) : List Byte :=
  let n := ceilDiv (l.length + 17) 128
  let v := shaBlocks n shaInit (l ++ 0x80#8 :: List.replicate (128 * n - l.length - 17) 0 ++ beBytes 16 (8 * l.length))
  [v.a, v.b, v.c, v.d, v.e, v.f, v.g, v.h].flatMap (beBytes 8)

/-! ## RSASSA-PSS -/

/-- The mask of `n` bytes that MGF1 makes from a seed. -/
def mgf1 (seed : List Byte) (n : Nat) : List Byte :=
  ((List.range (ceilDiv n 64)).flatMap (fun i => sha512 (seed ++ beBytes 4 i))).take n

/-- x to the power 65,537 modulo n, by sixteen squarings. -/
def powE (n x : Nat) : Nat := (List.range 16).foldl (fun y _ => y * y % n) (x % n) * x % n

/-- The encoded message of 512 bytes fits a digest: trailer 0xBC, zeros up to a byte of 1 and the salt of 64 bytes under the mask, and the hash
of eight zeros, the digest and the salt. -/
def pssFits (digest em : List Byte) : Bool :=
  let masked := em.take 447
  let h := (em.drop 447).take 64
  let db := List.zipWith (fun x y => x ^^^ y) masked (mgf1 h 447)
  let salt := db.drop 383
  decide (em.drop 511 = [0xBC#8]) && decide ((masked.headD 0).toNat < 128)
    && decide ((db.headD 0).toNat % 128 = 0) && ((db.take 382).drop 1).all (fun b => b = 0) && decide ((db.drop 382).take 1 = [1#8])
    && decide (sha512 (List.replicate 8 0 ++ digest ++ salt) = h)

/-- Whether a signature over a digest verifies under a modulus (R495, R501). -/
def pssVerifies (modulus digest signature : List Byte) : Bool :=
  let n := beNat modulus
  let x := beNat signature
  decide (signature.length = 512) && decide (x < n) && pssFits digest (beBytes 512 (powE n x))

end Sys2Proof.Machine
end

