-- ==== Sys2Proof/Machine/Image.lean ====
section
/-! DEFINITION. Images in Granary: where they lie, and what Guard checks of a firmware, configuration or program image
before it is used (R308, R359 to R361, R494 to R498). -/

namespace Sys2Proof.Machine

/-! ## Places (Table 01-7, R498) -/

/-- Logical base of program slot 0 or 1. -/
def slotBase (n : Nat) : Nat := 0x03200000 + n % 2 * 0x400000

/-- Logical base of retained buffer 0 or 1. -/
def retBase (n : Nat) : Nat := 0x03A00000 + n % 2 * 0x80000

/-- Logical base of configuration copy 0 or 1. -/
def cfgBase (n : Nat) : Nat := 0x03B00000 + n % 2 * 0x80000

/-- Logical base of firmware copy 0 or 1. -/
def fwBase (n : Nat) : Nat := 0x03C00000 + n % 2 * 0x100000

/-- SRAM base of program bank 0 or 1 (Table 14-3). -/
def bankBase (n : Nat) : Nat := if n % 2 = 0 then 0x0C0000 else 0x240000

/-! ## The checks of R495 -/

/-- MAGIC of an image kind (R496). -/
def imageMagic (kind : Nat) : Nat :=
  match kind with | 1 => 0x47574A4F | 2 => 0x4A574A4F | 3 => 0x46434A4F | _ => 0x47504A4F

/-- Largest IMAGE_SIZE of a kind (R496). -/
def imageMax (kind : Nat) : Nat :=
  match kind with | 1 => 0x40000 | 2 => 0xC0000 | 3 => 0x80000 | _ => 0x400000

/-- Anti-rollback counter of a kind: FW, CFG or PRG (R491, R500). -/
def State.rbCounter (s : State) (kind : Nat) : Nat :=
  match kind with | 1 => s.fuses.rb[0] | 2 => s.fuses.rb[0] | 3 => s.fuses.rb[1] | _ => s.fuses.rb[2]

/-- State of owner slot 1 to 4. -/
def State.slotState (s : State) (k : Nat) : SlotState := if h : k - 1 < 4 then s.fuses.slots[(⟨k - 1, h⟩ : Fin 4)] else .empty

/-- A number in the image at a base. -/
def State.img (s : State) (base off n : Nat) : Nat := s.mem.granary.nat (base + off) n

/-- IMAGE_SIZE of the image at a base. -/
def State.imgSize (s : State) (base : Nat) : Nat := s.img base 0x008 4

/-- SHA-512 of the whole image at a base (R495). -/
def State.imgHash (s : State) (base : Nat) : List Byte := sha512 (s.mem.granary.readBytes base (s.imgSize base))

/-- Item 1 of R495: MAGIC, FMT major, PART and IMAGE_SIZE. -/
def State.imgHeader (s : State) (kind base : Nat) : Bool :=
  let size := s.imgSize base
  decide (s.img base 0 4 = imageMagic kind) && decide (s.img base 5 1 = 1) && decide (s.img base 6 2 = 0x1260)
    && decide (size % 32 = 0) && decide (1056 + 0x18 ≤ size) && decide (size ≤ imageMax kind)

/-- Item 2 of R495: the signature block. -/
def State.imgBlock (s : State) (kind base : Nat) : Bool :=
  let b := base + (s.imgSize base - 1056)
  decide (s.img b 0 4 = 0x4B534A4F) && decide (s.img b 4 1 = kind) && decide (s.img b 6 2 = 4096) && decide (s.img b 8 4 = 65537)

/-- The key hash of a modulus (R492). -/
def keyHash (modulus : List Byte) : List Byte := sha512 (modulus ++ [0, 1, 0, 1])

/-- Item 3 of R495: the signer. -/
def State.imgKey (s : State) (kind base : Nat) : Bool :=
  let b := base + (s.imgSize base - 1056)
  let signer := s.img b 5 1
  let modulus := s.mem.granary.readBytes (b + 0x020) 512
  if kind ≤ 2 then decide (signer = 0) && !s.sec.fuseErr && decide (keyHash modulus = Config.rootHash)
  else
    if h : 1 ≤ signer ∧ signer ≤ 4 then
      decide (s.slotState signer = .active) && decide (s.fuses.moduli[(⟨signer - 1, by omega⟩ : Fin 4)] = modulus)
    else false

/-- Item 4 of R495: the signature. -/
def State.imgSigned (s : State) (base : Nat) : Bool :=
  let n := s.imgSize base - 1056
  pssVerifies (s.mem.granary.readBytes (base + n + 0x020) 512) (sha512 (s.mem.granary.readBytes base n))
    (s.mem.granary.readBytes (base + n + 0x220) 512)

/-- Bytes of the image at a base that a verification reads. -/
def State.imgSpan (s : State) (base : Nat) : Nat := max 32 (min (s.imgSize base) 0x400000)

/-- Guard can read the whole image at a base: Granary answers, and no word of it is uncorrectable (R33, R85; log 76). -/
def State.imgReadable (s : State) (base : Nat) : Bool := !s.noGranary && (s.mem.tornIn 2 base (s.imgSpan base)).isEmpty

/-- The reason R495 gives for an image: 0 accepted, 1 SIGNATURE, 6 ROLLBACK (Table 19-4). An image that cannot be read whole passes no
check (DEDUCED, log 76). -/
def State.imgReason (s : State) (kind base : Nat) : Nat :=
  if !s.imgReadable base then 1
  else if !(s.imgHeader kind base && s.imgBlock kind base && s.imgKey kind base && s.imgSigned base) then 1
  else if s.img base 0x00C 4 < s.rbCounter kind || 255 < s.img base 0x00C 4 then 6
  else 0

/-- Guard has read an image of Granary, and raises the outcome of its verification (R33, R84, R509). -/
def State.imgEvent (kind base reason : Nat) (s0 : State) : State :=
  let s := s0.granUse base (s0.imgSpan base)
  if reason = 0 then
    s.ev .sec 0xA001 ([b8 kind, b8 (s.img (base + (s.imgSize base - 1056)) 5 1), 0, 0]
      ++ leBytes 4 (s.img base (if kind = 4 then 0x018 else 0x014) 4))
  else s.ev .sec 0xA002 [b8 kind, b8 reason]

/-! ## Firmware copies (R498) -/

/-- Base of the Junction firmware image of a copy: the next 32-byte boundary after Guard's. -/
def State.jctImage (s : State) (copy : Nat) : Nat := fwBase copy + ceilDiv (s.imgSize (fwBase copy)) 32 * 32

/-- The reason for which the Guard image of a copy fails, or 0. -/
def State.guardReason (s : State) (copy : Nat) : Nat := s.imgReason 1 (fwBase copy)

/-- The reason for which the Junction image of a copy fails, or 0: it fits the copy, and both images carry the same VERSION and
ROLLBACK. -/
def State.jctReason (s : State) (copy : Nat) : Nat :=
  let g := fwBase copy
  let j := s.jctImage copy
  let r := s.imgReason 2 j
  if r ≠ 0 then r
  else if s.img g 0x014 4 ≠ s.img j 0x014 4 || s.img g 0x00C 4 ≠ s.img j 0x00C 4 || g + 0x100000 < j + s.imgSize j then 1
  else 0

/-- The reason for which a firmware copy fails, or 0. -/
def State.fwReason (s : State) (copy : Nat) : Nat :=
  if s.guardReason copy ≠ 0 then s.guardReason copy else s.jctReason copy

/-! ## Program images (R359 to R361) -/

/-- Sections of the program image at a base: type, image offset, size, bank address. -/
def State.sections (s : State) (base : Nat) : List (Nat × Nat × Nat × Nat) :=
  (List.range (s.img base 0x038 2)).map (fun k =>
    let o := 0x040 + 16 * k
    (s.img base o 2, s.img base (o + 4) 4, s.img base (o + 8) 4, s.img base (o + 12) 4))

/-- A section type is loaded into the bank (Table 14-2). -/
def sectLoaded (t : Nat) : Bool := (1 ≤ t && decide (t ≤ 5)) || t = 9

/-- A section type has a size only, and no bytes in the image (Table 14-2). -/
def sectSizeOnly (t : Nat) : Bool := t = 4 || t = 9

/-- Ranges of the form (start, length) do not overlap one another. -/
def disjoint : List (Nat × Nat) → Bool
  | [] => true
  | (a, n) :: l => l.all (fun (b, m) => n = 0 || m = 0 || decide (a + n ≤ b) || decide (b + m ≤ a)) && disjoint l

/-- The sections keep R360 and Table 14-1: a section that is not loaded has bank address 0. -/
def sectionsOk (l : List (Nat × Nat × Nat × Nat)) (bankSize : Nat) : Bool :=
  l.all (fun (t, _, n, a) => 1 ≤ t && decide (t ≤ 9) && (if sectLoaded t then decide (a + n ≤ bankSize) else a = 0))
  && disjoint ((l.filter (fun e => !sectSizeOnly e.1)).map (fun e => (e.2.1, e.2.2.1)))
  && disjoint ((l.filter (fun e => sectLoaded e.1)).map (fun e => (e.2.2.2, e.2.2.1)))

/-- A task table keeps R372: at most fifteen tasks, each number of Table 14-8 once, those that are not optional among them, k and k × MAIN_PERIOD of the further cyclic ones,
cores and priorities, init and error task on core 0. -/
def tasksOk (l : List Config.TaskRow) (mainPeriod : Nat) : Bool :=
  decide (l.length ≤ 15) && decide ((l.map (·.num)).Nodup) && [0, 14, 15].all (fun n => l.any (fun k => k.num = n)) && l.all (fun k =>
    (decide (k.num ≤ 12) || k.num = 14 || k.num = 15) && decide (k.core ≤ 1) && decide (k.prio ≤ 15)
      && (decide (k.num = 0 ∨ 4 < k.num) || (1 ≤ k.every && decide (k.every ≤ 100) && decide (k.every * mainPeriod ≤ 10000))) && (decide (k.num < 14) || k.core = 0))

/-- The task table of the image at a base, none where it breaks R372. -/
def State.taskTable (s : State) (base : Nat) : Option (List Task) :=
  match Config.taskTable (match (s.sections base).find? (fun e => e.1 = 6) with
    | some (_, o, n, _) => s.mem.granary.readBytes (base + o) n
    | none => []) with
  | some l => if tasksOk l (s.img base 0x030 2) then
      some (l.map (fun k => ⟨k.num, k.every, k.code, k.source, k.sin, k.core, k.prio, k.entry, k.stack, k.stackSize⟩)) else none
  | none => none

/-- The header values of the program image at a base lie within Table 14-1. -/
def State.prgHeader (s : State) (base : Nat) : Bool :=
  let g (o n : Nat) : Nat := s.img base o n
  decide (g 0x01C 4 ≤ 0x180000) && 1 ≤ g 0x030 2 && decide (g 0x030 2 ≤ 1000) && 2 ≤ g 0x032 2 && decide (g 0x032 2 ≤ 16)
    && decide (g 0x034 4 % 32 = 0) && decide (g 0x034 4 ≤ 0x78000) && 1 ≤ g 0x038 2 && decide (g 0x038 2 ≤ 12)
    && decide (g 0x03A 6 = 0) && decide (0x040 + 16 * g 0x038 2 ≤ s.imgSize base - 1056)

/-- The reason for which the program image in a slot is refused, or 0 (R361): a broken header, section or task table is the
SIGNATURE reason, which takes in the header checks. -/
def State.prgReason (s : State) (slot : Nat) : Nat :=
  let base := slotBase slot
  let r := s.imgReason 4 base
  if r ≠ 0 then r
  else if s.prgHeader base && sectionsOk (s.sections base) (s.img base 0x01C 4) && (s.taskTable base).isSome then 0 else 1

/-- The verified image of a slot. -/
def State.imageOf (s : State) (slot : Nat) : Image :=
  let base := slotBase slot
  let g (o n : Nat) : Nat := s.img base o n
  let tasks := (s.taskTable base).getD []
  { id := g 0x010 8, version := g 0x018 4, rollback := g 0x00C 4, layout := g 0x020 8, migFrom := g 0x028 8
    mainPeriod := g 0x030 2, taskLimit := g 0x032 2, retSize := g 0x034 4, tasks
    sects := s.sections base, hash := s.imgHash base }

/-- One section is set in a bank at `b` to its image value; what cannot be read gives bytes that nothing determines (log 76). -/
def State.loadSection (s : State) (slot b : Nat) (m : Memory) (e : Nat × Nat × Nat × Nat) : Memory :=
  if !sectLoaded e.1 then m
  else
    let m1 := m.erase (b + e.2.2.2) e.2.2.1
    let a := slotBase slot + e.2.1
    if sectSizeOnly e.1 then m1
    else if !s.noGranary && s.mem.tornIn 2 a e.2.2.1 = [] then m1.place (s.mem.granary.cells a e.2.2.1 (b + e.2.2.2))
    else m1.writeBytes (b + e.2.2.2) (s.granBytes a e.2.2.1)

/-- The reads of Granary that the loaded sections of a slot's image take. -/
def State.readSections (slot : Nat) (im : Image) (s : State) : State :=
  (forAll im.sects (fun e t => if sectLoaded e.1 && !sectSizeOnly e.1 then t.granUse (slotBase slot + e.2.1) e.2.2.1 else t) s).draw.2

/-- The loaded sections of a slot's image are set in a bank to their image values (R360, R378, R381). -/
def State.loadBank (slot bank : Nat) (im : Image) (s0 : State) : State :=
  let b := bankBase bank
  let s := s0.readSections slot im
  { s with mem := { s.mem with sram := im.sects.foldl (s.loadSection slot b) (s.mem.sram.erase b 0x180000) } }

/-- The RETAIN section of an image: its place in the bank, and its size. -/
def Image.retain (im : Image) : Option (Nat × Nat) := (im.sects.find? (fun e => e.1 = 5)).map (fun e => (e.2.2.2, e.2.2.1))

/-! ## Configuration images (R308, R496, R497) -/

/-- Directory of the configuration image at a base: ID, LEN, OFFSET. -/
def State.cfgDir (s : State) (base : Nat) : List (Nat × Nat × Nat) :=
  (List.range (s.img base 0x018 2)).map (fun k =>
    (s.img base (0x020 + 8 * k) 2, s.img base (0x022 + 8 * k) 2, s.img base (0x024 + 8 * k) 4))

/-- Address and LEN of a record. -/
def State.cfgRec (s : State) (base id : Nat) : Option (Nat × Nat) :=
  ((s.cfgDir base).find? (fun e => e.1 = id)).map (fun e => (base + e.2.2, e.2.1))

/-- The LEN of a record is the one Table 19-9 gives; IDs from 0x8000 are ignored. -/
def cfgLenOk (id len : Nat) : Bool :=
  match id with
  | 0x0001 => len = 32 | 0x0002 => len = 48 | 0x0003 => len = 48 | 0x0004 => len = 64 | 0x0005 => len = 96
  | 0x0006 => len = 28 | 0x0007 => len = 256 | 0x0008 => len % 8 = 0 && decide (len ≤ 8 * 1024) | 0x0009 => len = 8
  | 0x000A => len = 8 | 0x0010 => len % 8 = 0 && decide (len ≤ 8 * 8192)
  | n => n = 0 || decide (0x8000 ≤ n)

/-- A page that PAGE_INIT may address (R497). -/
def pageInitTarget : PageId → Bool
  | .ax _ | .drv _ | .fb _ | .fbx _ | .gear _ | .cam _ | .ptl _ | .lswg | .lsw _ | .can _ => true
  | .dev | .clk | .pwr | .rst | .tb | .hif | .evq _ | .side _ | .safe | .prg | .stn _ | .recd | .stat | .pair | .sec
  | .dbg => false

/-- An entry of PAGE_INIT keeps R497: it addresses a word that holds an RW or RWS field, PG_IEN, or PG_CTL, and writes no WO
command field. -/
def pageInitOk (addr v : Nat) : Bool :=
  let o := addr % 4096
  decide (addr % 4 = 0) && (match pageAt (addr / 4096) with
    | none => false
    | some p => pageInitTarget p &&
      (if o < 0x040 then (o = 0x018 || (o = 0x00C && decide (v / 2 % 4 = 0)))
       else match regAt p o with
         | some r => (r.rw ≠ 0 || r.rws ≠ []) && decide (v &&& r.wo = 0)
         | none => false))

/-- The byte at an address. -/
def State.imgB (s : State) (a : Nat) : Nat := s.img a 0 1

/-- The axes that two PORTALS records give their portals have none in common, unless one of the portals is unused (R14). -/
def portalsApart (x y : Word) : Bool :=
  fld x 0 4 = 15 || fld y 0 4 = 15 ||
    (List.range 3).all (fun i => decide (12 ≤ fld x (4 * i) 4) || (List.range 3).all (fun j => decide (fld x (4 * i) 4 ≠ fld y (4 * j) 4)))

/-- The values of one record lie within their stated ranges (Table 19-9). A CUSTk word whose SEG_T is 0 ends its profile and is no segment, so its
SEG_M is not held to 8 … 255 (DEDUCED, log 88). -/
def State.cfgRecOk (s : State) (base id a len : Nat) : Bool :=
  let b (o : Nat) : Nat := s.imgB (a + o)
  let w (o : Nat) : Nat := s.img a o 2
  let d (o : Nat) : Nat := s.img a o 4
  match id with
  | 0x0001 =>
    decide (b 4 ≤ 1) && (decide (b 5 ≤ 47) || b 5 = 0x3F) && 50 ≤ w 6 && decide (w 6 ≤ 5000) && decide (d 8 ≤ 512000000)
      && 20 ≤ w 12 && decide (w 12 ≤ 1000) && decide (b 14 ≤ 3) && (List.range 17).all (fun k => b (15 + k) = 0)
  | 0x0002 => (List.range 20).all (fun k => (List.range 4).all (fun j => decide (b (24 + k) / 4 ^ j % 4 ≠ 3)))
  | 0x0003 => (List.range 12).all (fun k => decide (b (4 * k) ≤ 1) && decide (b (4 * k + 1) ≤ 1))
  | 0x0004 =>
    let word (p : Nat) : Word := BitVec.ofNat 32 (d (8 * p))
    (List.range 8).all (fun p => (List.range p).all (fun q => portalsApart (word p) (word q))) && (List.range 8).all (fun p =>
      let x := word p
      let y : Word := BitVec.ofNat 32 (d (8 * p + 4))
      let axis (n : Nat) : Bool := n < 12 || n = 15
      axis (fld x 0 4) && axis (fld x 4 4) && axis (fld x 8 4) && (decide (fld x 12 4 < 4) || fld x 12 4 = 15)
        && (decide (fld x 16 6 < 48) || fld x 16 6 = 63) && (decide (fld x 22 5 < 24) || fld x 22 5 = 31)
        && (decide (fld x 27 5 < 24) || fld x 27 5 = 31) && decide (fld y 18 2 < 3)
        && (decide (fld y 0 5 < 16) || fld y 0 5 = 31) && (decide (fld y 8 5 < 16) || fld y 8 5 = 31))
  | 0x0005 => (List.range 24).all (fun c => decide (b (4 * c) % 4 ≤ 2))
  | 0x0006 => 1 ≤ b 0 && decide (b 0 ≤ 250) && decide (w 2 ≤ 500)
      && (List.range 6).all (fun k => w (6 + 4 * k) = 0 || decide (8 ≤ b (4 + 4 * k)))
  | 0x0007 => (List.range 16).all (fun k =>
      let o := 16 * k
      b o = 0xFF || (decide (b o ≤ 3) && decide (b (o + 1) ≤ 64) && decide (b (o + 2) ≤ 64) && decide (b (o + 3) % 16 ≠ 0)
        && decide (b (o + 3) / 16 ≠ 0) && 10 ≤ w (o + 4) && decide (w (o + 4) ≤ 5000) && 5 ≤ w (o + 6) && decide (w (o + 6) ≤ 1000)
        && (w (o + 14) = 0 || (match s.cfgRec base 0x0008 with
          | some (_, n) => decide (w (o + 12) + w (o + 14) ≤ n / 8)
          | none => false))))
  | 0x0008 => (List.range (len / 8)).all (fun k =>
      decide (b (8 * k) ≤ 63) && decide (b (8 * k + 1) ≤ 7) && 1 ≤ b (8 * k + 2) && decide (b (8 * k + 2) ≤ 32) && decide (b (8 * k + 3) ≤ 1))
  | 0x0009 => 1 ≤ w 0 && 1 ≤ w 2 && decide (w 4 ≤ 7) && decide (b 6 ≤ 1)
  | 0x000A => decide (b 0 ≤ 3) && 1 ≤ b 1 && decide (b 1 ≤ 100) && 100 ≤ w 2 && decide (w 2 ≤ 5000)
  | 0x0010 => (List.range (len / 8)).all (fun k => pageInitOk (d (8 * k)) (d (8 * k + 4)))
  | _ => true

/-- Guard's check of the image against its seal word (R308): the portals in use are those of PTL_EN, and the gate side that the
AXES record gives a member axis is its portal's. -/
def State.sealAgrees (s : State) (base : Nat) (word : Word) : Bool :=
  match s.cfgRec base 0x0004 with
  | none => false
  | some (a, _) => (List.range 8).all (fun p =>
      let x : Word := BitVec.ofNat 32 (s.img a (8 * p) 4)
      let used := decide (fld x 0 4 ≠ 15)
      decide (used = bit word (2 + p)) && (!used || (match s.cfgRec base 0x0003 with
        | none => true
        | some (b, _) => [fld x 0 4, fld x 4 4, fld x 8 4].all (fun n =>
            decide (12 ≤ n) || decide (s.imgB (b + 4 * n + 1) % 2 = b2n (bit word (10 + p)))))))

/-- The directory and records of the configuration image at a base keep R497. -/
def State.cfgRecordsOk (s : State) (base : Nat) : Bool :=
  let n := s.img base 0x018 2
  let dir := s.cfgDir base
  let stop := s.imgSize base - 1056
  1 ≤ n && decide (n ≤ 64) && decide (s.img base 0x01A 6 = 0)
    && dir.all (fun (_, len, o) => decide (o % 4 = 0) && decide (0x020 + 8 * n ≤ o) && decide (o + len ≤ stop))
    && disjoint (dir.map (fun e => (e.2.2, e.2.1)))
    && decide ((dir.map (·.1)).Nodup)
    && (s.cfgRec base 0x0001).isSome && (s.cfgRec base 0x0004).isSome
    && dir.all (fun (id, len, o) => cfgLenOk id len && s.cfgRecOk base id (base + o) len)

/-- The reason for which a configuration copy is refused, or 0; with `word` the seal word of the boot's check (R308, R497). -/
def State.cfgReason (s : State) (copy : Nat) (word : Option Word) : Nat :=
  let base := cfgBase copy
  let r := s.imgReason 3 base
  if r ≠ 0 then r
  else if !s.cfgRecordsOk base then 1
  else match word with
    | some w => if s.sealAgrees base w then 0 else 1
    | none => 0

end Sys2Proof.Machine
end

