-- ==== Sys2Proof/Machine/Status.lean ====
section
/-! DEFINITION. The status words of the pages: what the read-only and write-1-to-clear fields of each block table show
(Tables 01-10, 01-11, 03-9, 04-7, 04-8, 05-9, 07-10, 08-9, 09-4, 10-3, 10-4, 11-8, 11-9, 12-12, 13-6, 13-7, 14-15, 14-17, 15-5,
16-9, 16-10, 18-9, 19-6). The recorder's and the statistics' words stand with the recorder. -/

namespace Sys2Proof.Machine

/-- Low word of a wide number. -/
def lo32 (n : Nat) : Word := BitVec.ofNat 32 n

/-- The word above the lowest. -/
def hi32 (n : Nat) : Word := BitVec.ofNat 32 (n / 2 ^ 32)

/-- Bits of a word from truth values by number. -/
def bitsOf (n : Nat) (p : Nat → Bool) : Word := (List.range n).foldl (fun w k => putBit w k (p k)) 0

/-- A count in steps of `den`, where no rule says how it is rounded (log 16), saturating. -/
def stepsOf (site num den top : Nat) : Nat := min (freeRound site num den).toNat top

/-- DEV (Table 01-10 and 09-4). -/
def State.devWord (s : State) (o : Nat) : Word :=
  if o = 0x040 then 0x12604102
  else if o = 0x044 then lo32 Config.serial
  else if o = 0x048 then hi32 Config.serial
  else if o = 0x04C then s.present
  else if o = 0x050 then s.lost
  else if o = 0x100 then bitsOf 32 (fun n => s.din[Fin.ofNat 48 n].level)
  else if o = 0x104 then bitsOf 16 (fun n => s.din[Fin.ofNat 48 (32 + n)].level)
  else if o = 0x108 then bitsOf 32 (fun n => s.din[Fin.ofNat 48 n].chg)
  else if o = 0x10C then bitsOf 16 (fun n => s.din[Fin.ofNat 48 (32 + n)].chg)
  else if 0x110 ≤ o ∧ o < 0x128 then
    mkWord ((List.range 8).map (fun j => (4 * j, 3, s.cfg.dinFilt[Fin.ofNat 48 (2 * (o - 0x110) + j)])))
  else if 0x128 ≤ o ∧ o < 0x134 then
    mkWord ((List.range 16).map (fun j => (2 * j, 2, s.cfg.dinType[Fin.ofNat 48 (4 * (o - 0x128) + j)])))
  else if 0x054 ≤ o ∧ o < 0x070 then
    let l := s.links[Fin.ofNat 8 ((o - 0x054) / 4 + 1)]
    mkWord [(0, 2, l.st.code), (2, 10, l.lateDrop), (12, 4, l.worstRun), (16, 16, l.retries)]
  else 0

/-- TB (Table 01-11): FINE reads 1 while TB counts MOT clocks (R22). -/
def State.tbWord (s : State) (o : Nat) : Word :=
  if o = 0x040 then lo32 s.tb else if o = 0x044 then hi32 s.tb else if o = 0x048 then mkWord [(0, 16, s.epoch)]
  else if o = 0x04C then mkWord [(0, 1, b2n (bit s.clk.run 5)), (1, 1, b2n s.slept)]
  else if o = 0x050 then lo32 s.seq.next else if o = 0x054 then hi32 s.seq.next
  else if o = 0x058 then mkWord [(0, 16, min s.seq.inside.length 0xFFFF), (16, 16, s.seq.holdMax)]
  else 0

/-- s_T in per cent; no rule says how it is rounded (log 58). -/
def Power.scalePct (w : Power) (d : Fin 2) : Nat := (freeRound 35 w.sT[d] 10000).toNat

/-- DOM_STA: in DEGRADED every domain but those of absent dies counts as on (Tables 03-9, 05-1; log 41). -/
def State.domSta (s : State) : Word :=
  if s.mc.mode = .degraded then
    (List.finRange 8).foldl (fun w d => if s.dieAbsent d then clrBit w (dieDom d) else w) s.pwr.domains
  else s.pwr.domains

/-- A temperature of a die as its field shows it: 0x8000 while the die is unpowered, kept off or absent (Table 03-10, note). -/
def State.tempShown (s : State) (d : Fin 8) (t : Nat) : Nat := if s.dieOn d then t else 0x8000

/-- TEMP_BP: the baseplate's sensor is on Gauge (R81), and without Gauge there is no value (R82). -/
def State.baseShown (s : State) : Nat := s.tempShown 6 s.pwr.tempBp

/-- PWR (Table 03-9). -/
def State.pwrWord (s : State) (o : Nat) : Word :=
  let w := s.pwr
  if o = 0x040 then s.domSta
  else if o = 0x048 then mkWord [(0, 16, mv16 w.vlog), (16, 16, mv16 w.vlsw)]
  else if o = 0x04C then mkWord [(0, 16, mv16 w.vmot[0]), (16, 16, mv16 w.vmot[1])]
  else if o = 0x050 then mkWord [(0, 16, mv16 w.vlogMin)]
  else if o = 0x054 then w.sta else if o = 0x058 then w.latch
  else if o = 0x05C then mkWord [(0, 16, s.baseShown)]
  else if 0x060 ≤ o ∧ o < 0x070 then
    let t (k : Nat) : Nat := let d := Fin.ofNat 8 ((o - 0x060) / 2 + k); s.tempShown d w.tempD[d]
    mkWord [(0, 16, t 0), (16, 16, t 1)]
  else if o = 0x070 then mkWord [(0, 16, s.tempShown 3 w.thEst[0]), (16, 16, s.tempShown 4 w.thEst[1])]
  else if o = 0x074 then mkWord [(0, 8, w.scalePct 0), (8, 8, w.scalePct 1)]
  else 0

/-- CLK (Table 04-7). -/
def State.clkWord (s : State) (o : Nat) : Word :=
  let c := s.clk
  if o = 0x040 then [2, 10, 11].foldl (fun w k => putBit w k (s.clkRuns k)) c.run else if o = 0x044 then c.fail else if o = 0x048 then c.lock
  else if o = 0x050 then lo32 c.snapTb else if o = 0x054 then hi32 c.snapTb
  else if o = 0x05C then mkWord [(0, 16, c.dropCnt), (16, 16, c.lateCnt)]
  else 0

/-- RST (Table 04-8). -/
def State.rstWord (s : State) (o : Nat) : Word :=
  let r := s.rst
  if o = 0x040 then r.cause else if o = 0x044 then r.jctCause else if o = 0x048 then lo32 r.fullCount
  else if o = 0x04C then lo32 r.jctCount else if o = 0x054 then r.absent else if o = 0x058 then mkWord [(0, 16, r.lostEvents)]
  else 0

/-- An enabled interrupt of a page is set (R423). -/
def State.irqSet (s : State) (p : PageId) : Bool := (s.pg p).irq &&& (s.pg p).ien ≠ 0

/-- The PCI Express link lets the queues write: Bus Master Enable, and L0 or L1 (R424). -/
def State.busUp (s : State) : Bool := s.hif.master && (s.hif.link = 2 || s.hif.link = 3)

/-- HIF (Tables 05-9, 16-9). -/
def State.hifWord (s : State) (o : Nat) : Word :=
  let h := s.hif
  let m := s.mc
  if o = 0x044 then mkWord [(0, 8, h.agree), (8, 1, b2n h.negFail)]
  else if o = 0x048 then 0x7
  else if o = 0x04C then
    mkWord [(0, 4, h.link), (4, 4, h.width), (8, 4, h.speed), (16, 1, b2n h.master), (17, 1, b2n h.msix), (18, 1, b2n h.msi)]
  else if o = 0x054 then mkWord [(0, 16, h.recov), (16, 16, h.corr)]
  else if o = 0x058 then bitsOf 16 (fun r => allPages.any (fun p => pageNo p / 16 = r && s.irqSet p))
  else if o = 0x060 then
    bitsOf 8 (fun q => s.evq[Fin.ofNat 8 q].running) ||| (bitsOf 8 (fun q => bit s.evq[Fin.ofNat 8 q].flags 0) <<< 8)
  else if o = 0x100 then mkWord [(0, 3, m.mode.code), (3, 1, b2n m.busy), (8, 3, m.prev)]
  else if o = 0x108 then mkWord [(0, 8, m.cause), (8, 8, m.prevCause)]
  else if o = 0x10C then m.wakeCause
  else if o = 0x120 then mkWord [(0, 16, s.boot.time)]
  else if o = 0x124 then lo32 m.entrySeq else if o = 0x128 then hi32 m.entrySeq
  else if o = 0x900 then h.pba
  else 0

/-- AX (Table 07-10). -/
def State.axWord (s : State) (a : Fin 12) (o : Nat) : Word :=
  let x := s.ax[a]
  if o = 0x0A0 then mkWord [(0, 3, x.st.code), (8, 5, x.used), (16, 16, s.actTag a)]
  else if o = 0x0A4 then x.flags
  else if o = 0x0A8 then lo32 (tc 40 x.pos) else if o = 0x0AC then hi32 (tc 40 x.pos)
  else if o = 0x0B0 then BitVec.ofInt 32 x.vel
  else if o = 0x0B4 then lo32 (tc 40 x.posEnd) else if o = 0x0B8 then hi32 (tc 40 x.posEnd)
  else if o = 0x0BC then lo32 x.headV
  else if o = 0x0C0 then mkWord [(0, 10, x.fill)]
  else if o = 0x0C4 then lo32 x.sqEvents else if o = 0x0C8 then lo32 x.sqPeriods
  else if o = 0x0CC then mkWord [(0, 4, x.sqCause), (16, 16, min x.sqCount 0xFFFF)]
  else if o = 0x0D0 then mkWord [(0, 16, x.lateCount), (16, 16, x.deferCount)]
  else if o = 0x0D4 then lo32 x.moveCount
  else if o = 0x0D8 then mkWord [(0, 2, s.axOwner a)]
  else 0

/-- DRV (Table 08-9). -/
def State.drvWord (s : State) (a : Fin 12) (o : Nat) : Word :=
  let k := s.coil[a]
  let w := s.watch[a]
  let sv := s.pwr.sv[Fin.ofNat 2 (a.val / 6)]
  if o = 0x080 then
    mkWord [(0, 3, k.level), (4, 3, k.levelReq), (8, 2, k.coil.code), (12, 1, b2n k.laValid), (13, 1, b2n k.vLim),
            (14, 1, b2n k.blind), (15, 1, b2n k.gateCut)]
  else if o = 0x084 then k.flags
  else if o = 0x088 then mkWord [(0, 16, k.iSet), (16, 8, (freeRound 13 sv 10000).toNat), (24, 8, k.sApp)]
  else if o = 0x08C then mkWord [(0, 16, tc 16 k.iA), (16, 16, tc 16 k.iB)]
  else if o = 0x090 then mkWord [(0, 16, tc 16 k.uA), (16, 16, tc 16 k.uB)]
  else if o = 0x094 then mkWord [(0, 16, tc 16 k.dA), (16, 16, tc 16 k.dB)]
  else if o = 0x098 then mkWord [(0, 16, tc 16 k.angle), (16, 16, min k.eEst 0xFFFF)]
  else if o = 0x09C then mkWord [(0, 16, tc 16 k.tEst)]
  else if o = 0x0A0 then mkWord [(0, 24, tc 24 (clampI (-8388607) 8388607 k.posErr))]
  else if o = 0x0A4 then mkWord [(0, 16, w.ocCount), (16, 16, w.stallCount)]
  else if o = 0x0A8 then lo32 w.vlimPeriods else if o = 0x0AC then lo32 w.levelSw
  else 0

/-- FB and FBX (Table 09-5). -/
def State.fbWord (s : State) (c : Fin 14) (o : Nat) : Word :=
  let f := s.fb[c]
  let x := s.fbx[c]
  if o = 0x080 then
    mkWord [(0, 1, b2n f.uncertain), (1, 1, b2n ((s.fbMode c = 1 || s.fbMode c = 2) && !bit f.flags 0)),
            (2, 2, if f.runDir = 0 then 0 else if 0 < f.runDir then 1 else 2), (4, 1, b2n f.still), (8, 3, f.cause)]
  else if o = 0x084 then f.flags
  else if o = 0x088 then lo32 (tc 40 f.pos) else if o = 0x08C then hi32 (tc 40 f.pos)
  else if o = 0x090 then lo32 (tc 40 f.raw) else if o = 0x094 then hi32 (tc 40 f.raw)
  else if o = 0x098 then lo32 (tc 40 (s.fbUs c)) else if o = 0x09C then hi32 (tc 40 (s.fbUs c))
  else if o = 0x0A0 then BitVec.ofInt 32 f.vel
  else if o = 0x0A4 then lo32 (tc 40 f.idxPos) else if o = 0x0A8 then hi32 (tc 40 f.idxPos)
  else if o = 0x0AC then mkWord [(0, 16, f.hyst), (16, 16, f.qerr)]
  else if o = 0x0B0 then mkWord [(0, 16, x.errs), (16, 5, x.stat)]
  else if o = 0x0B4 then x.raw
  else if o = 0x0B8 then mkWord [(0, 16, s.fbDelay c)]
  else if 0x0C0 ≤ o ∧ o < 0x0F0 then
    let p := x.prb[Fin.ofNat 4 ((o - 0x0C0) / 12)]
    match (o - 0x0C0) % 12 with
    | 0 => lo32 (tc 40 p.pos)
    | 4 => mkWord [(0, 8, tc 40 p.pos / 2 ^ 32), (16, 16, p.te / 2 ^ 32)]
    | _ => lo32 p.te
  else 0

/-- GEAR (Table 10-3). -/
def State.gearWord (s : State) (a : Fin 12) (o : Nat) : Word :=
  let g := s.gear[a]
  if o = 0x080 then mkWord [(0, 1, b2n g.engaged), (1, 1, b2n g.arm.isSome), (2, 1, b2n g.waiting.isSome)]
  else if o = 0x084 then g.flags
  else if o = 0x088 then lo32 (tc 56 g.refM) else if o = 0x08C then hi32 (tc 56 g.refM)
  else if o = 0x090 then lo32 (tc 40 g.refS) else if o = 0x094 then hi32 (tc 40 g.refS)
  else if o = 0x098 then lo32 (tc 56 g.mNow) else if o = 0x09C then hi32 (tc 56 g.mNow)
  else if o = 0x0A0 then lo32 g.crossTb
  else if o = 0x0A4 then mkWord [(0, 16, g.crossTb / 2 ^ 32), (16, 16, g.crossCount)]
  else if o = 0x0A8 then lo32 g.startTb else if o = 0x0AC then mkWord [(0, 16, g.startTb / 2 ^ 32)]
  else 0

/-- CAM (Table 10-4). -/
def State.camWord (s : State) (c : Fin 4) (o : Nat) : Word :=
  let g := s.cam[c]
  if o = 0x080 then mkWord [(0, 1, b2n g.engaged), (8, 8, g.seg), (16, 1, b2n g.below), (17, 1, b2n g.above)]
  else if o = 0x084 then g.flags
  else if o = 0x088 then lo32 (tc 40 g.ofs) else if o = 0x08C then hi32 (tc 40 g.ofs)
  else if o = 0x090 then lo32 (tc 56 g.mNow) else if o = 0x094 then hi32 (tc 56 g.mNow)
  else if o = 0x098 then BitVec.ofInt 32 g.yNow
  else 0

/-- Samples of an envelope bin, oldest first (R285). -/
def State.envBin (s : State) (p : Fin 8) (leaf b : Nat) : List Int :=
  match s.env.find? (fun e => e.1 = (p.val, leaf, b)) with | some e => e.2 | none => []

/-- ENV_b: the mean of a bin's samples in 0.1 N; no rule says how it is rounded (R285, log 16). -/
def State.envMean (s : State) (p : Fin 8) (leaf b : Nat) : Int :=
  let l := s.envBin p leaf b
  freeRound 14 (l.foldl (· + ·) 0) l.length

/-- The leaves of a portal: 0, and 1 where there is a second. -/
def State.leavesOf (s : State) (p : Fin 8) : List Nat := [0, 1].filter (fun k => (s.member p k).isSome)

/-- STA.LEARNED: every bin of every leaf holds at least four samples (R286). -/
def State.learned (s : State) (p : Fin 8) : Bool :=
  s.leavesOf p ≠ [] && (s.leavesOf p).all (fun k => (List.range 64).all (fun b => 4 ≤ (s.envBin p k b).length))

/-- Side of a portal, from the sealed bank (Table 11-8). -/
def State.sideOf (s : State) (p : Fin 8) : Fin 2 := Fin.ofNat 2 (fld s.cfg.assign1[p] 16 1)

/-- A word of an envelope: count and mean (Table 11-8). -/
def State.envWord (s : State) (p : Fin 8) (leaf b : Nat) : Word :=
  mkWord [(0, 16, tc 16 (s.envMean p leaf b)), (27, 5, (s.envBin p leaf b).length)]

/-- F in a half word: 0x8000 where it is not valid. -/
def fHalf (f : Option Int) : Nat := match f with | some v => tc 16 (clampI (-32767) 32767 v) | none => 0x8000

/-- PTL (Table 11-8). -/
def State.ptlWord (s : State) (p : Fin 8) (o : Nat) : Word :=
  let x := s.ptl[p]
  let i := s.ptlIn[p]
  if o = 0x044 then
    mkWord [(0, 4, x.st.code), (4, 4, x.prev), (8, 4, x.obsInClose), (12, 4, x.nudgeObs), (16, 1, b2n s.side[s.sideOf p].release),
            (17, 1, b2n i.closedSw), (18, 1, b2n i.lockedSw), (19, 1, b2n i.openSw), (20, 1, b2n x.refRun), (21, 1, b2n x.suspended),
            (22, 1, b2n (s.learned p)), (23, 1, b2n x.gateWait), (24, 8, if x.st = .fault then x.cause else 0)]
  else if o = 0x048 then x.flags
  else if o = 0x04C then x.lastObs
  else if o = 0x050 then lo32 x.lastObsSeq else if o = 0x054 then hi32 x.lastObsSeq
  else if o = 0x058 then
    let now (k : Fin 2) : Nat := match s.member p k.val with
      | some a => if s.coil[a].laValid then fHalf x.fNow[k] else 0x8000
      | none => 0x8000
    mkWord [(0, 16, now 0), (16, 16, now 1)]
  else if o = 0x05C then mkWord [(0, 16, fHalf (some (x.fPeak[0].getD 0))), (16, 16, fHalf (some (x.fPeak[1].getD 0)))]
  else if o = 0x060 then lo32 x.cycles
  else if o = 0x064 then mkWord [(0, 16, x.nudgeCount), (16, 16, x.obsCount)]
  else if o = 0x068 then mkWord [(0, 16, x.faultCount), (16, 16, x.lockFails)]
  else if o = 0x06C then mkWord [(0, 16, x.edgeCount), (16, 16, x.learnCount)]
  else if o = 0x070 then s.cfg.assign0[p] else if o = 0x074 then s.cfg.assign1[p]
  else if 0x400 ≤ o ∧ o < 0x500 then s.envWord p 0 ((o - 0x400) / 4)
  else if 0x500 ≤ o ∧ o < 0x600 then s.envWord p 1 ((o - 0x500) / 4)
  else 0

/-- A portal in use (Table 11-8). -/
def State.ptlUsed (s : State) (p : Fin 8) : Bool := decide (fld s.cfg.assign0[p] 0 4 ≠ 15)

/-- The portals of a side, of those in use. -/
def State.portalsOf (s : State) (d : Fin 2) : List (Fin 8) := fins 8 (fun p => s.ptlUsed p && s.sideOf p = d)

/-- The states that count as moving on a SIDE page (Table 11-9). -/
def PtlState.moving (t : PtlState) : Bool :=
  match t with
  | .opening | .closing | .nudge | .obstacleStop | .reversing => true
  | .closedLocked | .released | .open | .closeWarn | .reopenHold | .locking | .isolated | .egress | .fault | .unused => false

/-- SIDE (Table 11-9). -/
def State.sideWord (s : State) (d : Fin 2) (o : Nat) : Word :=
  let x := s.side[d]
  let l := s.portalsOf d
  let on (f : Fin 8 → Bool) : Nat := (l.filter f).foldl (fun m p => m ||| 2 ^ p.val) 0
  if o = 0x044 then
    mkWord [(0, 1, b2n (x.relGrd && x.relSbx)), (1, 1, b2n x.relGrd), (2, 1, b2n x.relSbx), (3, 1, b2n x.allLocked),
            (8, 8, on (fun _ => true)), (16, 8, on (fun p => s.ptlIn[p].closedSw && s.ptlIn[p].lockedSw)),
            (24, 8, on (fun p => s.ptl[p].st.moving))]
  else if o = 0x048 then x.flags
  else if o = 0x04C then lo32 x.count
  else if o = 0x050 then lo32 x.relSeq else if o = 0x054 then hi32 x.relSeq
  else 0

/-- The permit word of Table 12-12 from a channel's permits. -/
def Permits.word (p : Permits) : Word :=
  mkWord [(0, 4, p.sout.toNat), (4, 2, p.rel.toNat), (6, 2, p.gate.toNat), (8, 8, p.sol.toNat), (16, 1, b2n p.zs), (17, 1, b2n p.loopOk)]

/-- PERMIT_SBX from the last good frame: ZS and LOOP_OK from SIN00 and SOUT0_L (Table 12-12). -/
def State.permitSbx (s : State) : Word :=
  let f := s.safe.frame.toNat
  let b (lo n : Nat) : Nat := f / 2 ^ lo % 2 ^ n
  mkWord [(0, 4, b 32 4), (4, 2, b 36 2), (6, 2, b 38 2), (8, 8, b 40 8), (16, 1, b 0 1), (17, 1, b 32 1)]

/-- PERMIT: the AND of both (Table 12-12). -/
def State.permit (s : State) : Word := s.grd.out.word &&& s.permitSbx

/-- Guard withdraws its SF2 and SF7 halves: in SAFE_HOLD, and while the link is lost (R124, R322). -/
def State.withdrawn (s : State) : Bool := s.mc.mode = .safeHold || s.safe.linkLost

/-- SAFE (Table 12-12). -/
def State.safeWord (s : State) (o : Nat) : Word :=
  let g := s.grd
  let x := s.safe
  let fb (k : Nat) : Bool := x.frame.getLsbD k
  if o = 0x040 then g.word.getD 0
  else if o = 0x044 then x.sealLast
  else if o = 0x048 then x.sealBits ||| mkWord [(5, 1, b2n g.sealOk), (6, 1, b2n (fb 48))]
  else if o = 0x04C then bitsOf 32 (fun n => g.sin[Fin.ofNat 32 n].value)
  else if o = 0x050 then BitVec.ofNat 32 x.frame.toNat
  else if o = 0x054 then bitsOf 32 (fun n => g.sin[Fin.ofNat 32 n].a.level)
  else if o = 0x058 then bitsOf 32 (fun n => g.sin[Fin.ofNat 32 n].b.level)
  else if o = 0x05C then bitsOf 32 (fun n => g.sin[Fin.ofNat 32 n].fault ≠ 0)
  else if 0x060 ≤ o ∧ o < 0x070 then
    mkWord ((List.range 8).map (fun j => (4 * j, 4, g.sin[Fin.ofNat 32 (2 * (o - 0x060) + j)].fault)))
  else if o = 0x070 then g.out.word else if o = 0x074 then s.permitSbx else if o = 0x078 then s.permit
  else if o = 0x07C then
    mkWord [(0, 4, x.rbH.toNat), (4, 4, g.outFault.toNat), (8, 4, (bitsOf 4 (fun k => g.tp[Fin.ofNat 4 k].fault)).toNat)]
  else if o = 0x080 then
    mkWord [(0, 1, b2n (g.running && !g.halted)), (1, 1, b2n x.frames), (2, 1, b2n (fb 49)), (3, 1, b2n (fb 50)), (4, 1, b2n (fb 51)),
            (5, 1, b2n x.diverge), (6, 1, b2n s.withdrawn), (16, 16, x.frameCnt)]
  else if o = 0x084 then x.divPermit else if o = 0x088 then x.divSin
  else if o = 0x08C then mkWord [(0, 16, x.tpCount), (16, 16, x.discCount)]
  else if o = 0x090 then mkWord [(0, 16, x.outCount), (16, 16, x.divCount)]
  else if o = 0x094 then x.gateMap
  else 0

/-- LSWG (Table 13-6). -/
def State.lswgWord (s : State) (o : Nat) : Word :=
  let g := s.lswg
  if o = 0x044 then mkWord [(0, 3, g.wdt.code), (4, 1, b2n g.uv), (16, 5, g.selIn)]
  else if o = 0x048 then mkWord [(0, 8, s.cfg.lswWdt), (16, 16, s.cfg.lswHold)]
  else if o = 0x04C then g.flags
  else if o = 0x050 then mkWord [(0, 16, g.uvCount), (16, 16, g.wdtCount)]
  else if o = 0x054 then lo32 g.lastPkt
  else if o = 0x058 then mkWord [(0, 16, min g.pCond 0xFFFF)]
  else if 0x060 ≤ o ∧ o < 0x078 then s.cfg.cust[Fin.ofNat 6 ((o - 0x060) / 4)]
  else 0

/-- LSW (Table 13-7); CMD.STATE and DUTY read as commanded. -/
def State.lswWord (s : State) (c : Fin 24) (o : Nat) : Word :=
  let x := s.lsw[c]
  let y := s.lswx[c]
  if o = 0x040 then mkWord [(0, 2, x.cmd)] else if o = 0x044 then mkWord [(0, 10, x.cmdDuty)]
  else if o = 0x058 then mkWord [(0, 10, x.fsDuty), (10, 2, x.fs)]
  else if o = 0x060 then
    mkWord [(0, 2, x.out), (3, 1, b2n x.limiting), (4, 1, b2n (x.segs ≠ [])), (5, 1, b2n x.pause.isSome), (6, 1, b2n x.defer),
            (7, 1, b2n x.gated), (8, 1, b2n x.rev), (9, 1, b2n x.offHigh), (16, 10, x.phase), (26, 2, x.trip), (28, 4, x.tries)]
  else if o = 0x064 then x.flags
  else if o = 0x068 then mkWord [(0, 16, min x.iMeas 0xFFFF), (16, 16, tc 16 (clampI (-32768) 32767 x.vOut))]
  else if o = 0x06C then mkWord [(0, 16, stepsOf 15 y.clampLast 100 0xFFFF), (16, 16, s.clampBkt c)]
  else if o = 0x070 then mkWord [(0, 16, y.latches), (16, 16, y.trips)]
  else if o = 0x074 then lo32 y.switches
  else 0

/-- Tag and layout of a buffer. -/
def State.retTagOf (s : State) (b : Nat) : Nat := s.mem.granary.nat (retBase b) 8

/-- LAYOUT of a buffer. -/
def State.retLayout (s : State) (b : Nat) : Nat := s.mem.granary.nat (retBase b + 8) 8

/-- Bytes of a buffer: its header and the RET_SIZE of the image whose LAYOUT it has; of another image's, all it can have (R379). -/
def State.retLen (s : State) (b : Nat) : Nat :=
  let l := s.retLayout b
  64 + (if l = s.prg.image.layout then s.prg.image.retSize else if l = s.prg.sidImage.layout then s.prg.sidImage.retSize else 0x78000)

/-- A retained buffer is valid: its header is complete, and its words read without an uncorrectable error (R380). -/
def State.retOk (s : State) (b : Nat) : Bool :=
  !s.noGranary && s.mem.granary.nat (retBase b + 16) 1 = 1 && (s.mem.tornIn 2 (retBase b) (s.retLen b)).isEmpty

/-- The newest valid buffer. -/
def State.retPick (s : State) : Option Nat :=
  match s.retOk 0, s.retOk 1 with
  | true, true => some (if s.retTagOf 0 < s.retTagOf 1 then 1 else 0)
  | true, false => some 0
  | false, true => some 1
  | false, false => none

/-- PRG (Table 14-15). RET_VALID and RET_SEQ follow the buffers as they stand; with no valid one RET_SEQ reads 0 (log 81). -/
def State.prgWord (s : State) (o : Nat) : Word :=
  let p := s.prg
  let x := s.prgx
  if o = 0x044 then mkWord [(0, 1, b2n p.loadOpen)]
  else if o = 0x048 then lo32 p.loadLen
  else if o = 0x04C then
    mkWord [(0, 3, p.run.code), (8, 1, p.slot), (9, 1, b2n p.lastWarm), (10, 1, b2n s.retPick.isSome), (12, 3, p.siding.code)]
  else if o = 0x050 then p.flags
  else if o = 0x054 then lo32 (min x.cycles 0xFFFFFFFF)
  else if o = 0x058 then mkWord [(0, 16, x.traps), (16, 16, x.skips)]
  else if o = 0x05C then mkWord [(0, 16, p.image.mainPeriod), (16, 16, p.image.taskLimit)]
  else if o = 0x060 then mkWord [(0, 16, x.last), (16, 16, x.max)]
  else if o = 0x064 then lo32 p.image.id else if o = 0x068 then hi32 p.image.id else if o = 0x06C then lo32 p.image.version
  else if o = 0x070 then lo32 p.sidImage.id else if o = 0x074 then hi32 p.sidImage.id else if o = 0x078 then lo32 p.sidImage.version
  else if o = 0x07C then lo32 ((s.retPick.map s.retTagOf).getD 0) else if o = 0x080 then hi32 ((s.retPick.map s.retTagOf).getD 0)
  else if o = 0x084 then mkWord [(0, 16, x.migNew), (16, 16, x.migKept)]
  else if o = 0x088 then mkWord [(0, 16, x.migDropped), (16, 16, x.migTime)]
  else if o = 0x08C then mkWord [(16, 8, x.trapCause), (24, 8, x.trapTask)]
  else if o = 0x090 then x.trapPc else if o = 0x094 then x.trapVal
  else if o = 0x098 then mkWord [(0, 16, x.retLate), (16, 16, x.retLast)]
  else if o = 0x09C then mkWord [(0, 16, x.evtLost)]
  else if 0x100 ≤ o ∧ o < 0x140 then
    let t := x.taskTimes[Fin.ofNat 16 ((o - 0x100) / 4)]
    mkWord [(0, 16, t.1), (16, 16, t.2)]
  else 0

/-- Word `i` of a list of bytes, short ones padded with zeros. -/
def wordAt (l : List Byte) (i : Nat) : Word := BitVec.ofNat 32 (leNat ((l.drop (4 * i)).take 4))

/-- STN (Table 14-17). -/
def State.stnWord (s : State) (i : Fin 16) (o : Nat) : Word :=
  let x := s.stn[i]
  let c := s.cfg.stn[i]
  if o = 0x040 then mkWord [(0, 3, x.st.code), (12, 2, c.bus.getD 0), (16, 4, x.version), (24, 8, x.status)]
  else if o = 0x044 then mkWord [(8, 4, c.missMax), (12, 4, c.goodN), (16, 8, c.inLen), (24, 8, c.outLen)]
  else if o = 0x048 then mkWord [(0, 16, c.replyTmo), (16, 16, c.wdt)]
  else if o = 0x04C then x.flags
  else if o = 0x050 then lo32 x.exch
  else if o = 0x054 then mkWord [(0, 16, x.drops), (16, 16, x.misses)]
  else if o = 0x058 then x.typeId
  else if o = 0x05C then lo32 x.serial else if o = 0x060 then hi32 x.serial
  else if o = 0x064 then mkWord [(0, 8, x.counter), (8, 8, x.missRun)]
  else if o = 0x068 then lo32 x.lostSeq else if o = 0x06C then hi32 x.lostSeq
  else if 0x100 ≤ o ∧ o < 0x140 then wordAt x.frozen ((o - 0x100) / 4)
  else if 0x140 ≤ o ∧ o < 0x180 then wordAt x.delivered ((o - 0x140) / 4)
  else 0

/-- Triple sampling is in force: with TRIPLE 0 at a nominal bit of 640 clocks or more (R403). -/
def State.tripleOn (s : State) (n : Fin 4) : Bool :=
  let w := match s.can[n].timing with | w :: _ => w | [] => s.com (.can n) 0x040
  match s.cf (.can n) 0x04C 5 2 with
  | 0 => decide (640 ≤ (fld w 16 8 + 1) * (1 + (fld w 24 8 + 1) + (fld w 8 7 + 1)))
  | 1 => true
  | _ => false

/-- CAN (Table 15-5). -/
def State.canWord (s : State) (n : Fin 4) (o : Nat) : Word :=
  let c := s.can[n]
  let k := s.canc[n]
  if o = 0x060 then
    mkWord [(0, 2, c.fc.code), (2, 1, b2n c.recovering), (3, 1, b2n (s.tripleOn n)), (4, 1, b2n c.txActive),
            (5, 1, b2n c.rxActive), (6, 1, b2n c.busIdle), (7, 1, b2n c.locked), (8, 3, c.lec), (16, 6, c.fifo.length)]
  else if o = 0x064 then mkWord [(0, 8, c.rxErr), (16, 9, if c.fc = .busOff then 0x100 else c.tec)]
  else if o = 0x068 then c.flags
  else if o = 0x06C then
    mkWord [(0, 9, (c.ring.filter (fun f => s.canMode n 11 && decide (c.hostAt ≤ f.num))).length),
            (16, 9, (c.ring.filter (fun f => s.canMode n 12 && decide (c.prgAt ≤ f.num) && !f.stn)).length)]
  else if o = 0x070 then mkWord [(0, 16, k.rxDrop), (16, 16, k.rxLost)]
  else if o = 0x074 then mkWord [(16, 16, k.prgLost)]
  else if o = 0x078 then lo32 k.rx else if o = 0x07C then lo32 k.tx
  else if o = 0x080 then mkWord [(0, 8, k.crc), (8, 8, k.form), (16, 8, k.stuff), (24, 8, k.bit)]
  else if o = 0x084 then mkWord [(0, 16, k.busOff), (16, 16, k.ack)]
  else if o = 0x088 then mkWord [(0, 7, k.tdc), (16, 16, k.txFail)]
  else if 0x100 ≤ o ∧ o < 0x160 then c.windowWord ((o - 0x100) / 4)
  else 0

/-- EVQ (Table 16-10). -/
def State.evqWord (s : State) (q : Fin 8) (o : Nat) : Word :=
  let x := s.evq[q]
  if o = 0x060 then mkWord [(0, 16, x.head)] else if o = 0x064 then mkWord [(0, 16, x.tail)]
  else if o = 0x068 then mkWord [(0, 1, b2n x.running), (1, 1, b2n x.lost.isSome), (2, 1, b2n (x.running && !s.busUp))]
  else if o = 0x06C then x.flags
  else if o = 0x070 then lo32 x.lostCount
  else if o = 0x074 then lo32 x.startSeq else if o = 0x078 then hi32 x.startSeq
  else if o = 0x07C then lo32 x.lastSeq else if o = 0x080 then hi32 x.lastSeq
  else if o = 0x084 then lo32 x.written
  else 0

/-- The mean of the offsets held; no rule says how it is rounded (R484, log 16). -/
def Pair.meanOfs (p : Pair) : Int := freeRound 16 (p.offs.foldl (· + ·) 0) p.offs.length

/-- PAIR.TB_OFS, saturating (Table 18-9). -/
def Pair.tbOfs (p : Pair) : Int := clampI (-(2 ^ 31 - 1)) (2 ^ 31 - 1) p.meanOfs

/-- An axis mirror is valid: its queue counter is that of the last QUEUE frame taken (Table 18-2). -/
def AxMirror.valid (m : AxMirror) : Bool := m.qcnt = some m.cnt

/-- STA.MIRROR_OK: in STANDBY, the mirror is within 125 µs and every axis mirror valid (Table 18-9). -/
def State.mirrorOk (s : State) : Bool :=
  s.mc.mode = .standby && (match s.pair.motionAt with | some t => decide (s.tb ≤ t + us 125) | none => false)
    && s.pairx.ax.toList.all AxMirror.valid

/-- STA.PARTNER_READY: formed, and a STATUS no more than 3 ms old reports STANDBY with MIRROR_OK (R480). -/
def State.partnerReady (s : State) : Bool :=
  s.pair.formed && decide (s.tb ≤ s.pair.statusAt + ms 3) && s.pair.partnerMode = 7 && s.pair.partnerMirror

/-- MIRROR_AGE in 0.1 µs (Table 18-9). -/
def State.mirrorAge (s : State) : Nat :=
  match s.pair.motionAt with | some t => min ((s.tb - t) / 16) 0xFFFF | none => 0xFFFF

/-- PAIR (Table 18-9). -/
def State.pairWord (s : State) (o : Nat) : Word :=
  let p := s.pair
  if o = 0x044 then
    mkWord [(0, 1, b2n s.cfg.paired), (1, 1, b2n s.cfg.second), (8, 8, s.cfg.overlap), (16, 16, s.cfg.electTmo)]
  else if o = 0x048 then
    mkWord [(0, 2, p.link.code), (5, 1, b2n p.actO), (6, 1, b2n p.actI), (7, 1, b2n s.mirrorOk), (8, 1, b2n s.partnerReady),
            (9, 1, b2n p.prgDiff), (16, 8, p.version), (24, 8, p.partnerMode)]
  else if o = 0x04C then p.flags
  else if o = 0x050 then mkWord [(0, 16, p.gap), (16, 16, s.mirrorAge)]
  else if o = 0x054 then mkWord [(0, 16, p.giveups), (16, 16, p.takeovers)]
  else if o = 0x058 then mkWord [(0, 16, p.losses), (16, 16, p.crcErr)]
  else if o = 0x05C then lo32 p.serial else if o = 0x060 then hi32 p.serial
  else if o = 0x064 then lo32 p.takeSeq else if o = 0x068 then hi32 p.takeSeq
  else if o = 0x06C then BitVec.ofInt 32 p.tbOfs
  else 0

/-- SLOT_STA (Table 19-6). -/
def State.slotSta (s : State) : Nat :=
  s.fuses.slots[0].code + 4 * s.fuses.slots[1].code + 16 * s.fuses.slots[2].code + 64 * s.fuses.slots[3].code

/-- A hexadecimal digit in ASCII. -/
def hexDigit (upper : Bool) (n : Nat) : Byte := BitVec.ofNat 8 (if n < 10 then 0x30 + n else if upper then 0x37 + n else 0x57 + n)

/-- The device certificate: at most 1,536 bytes, with the DEV serial as 16 hexadecimal digits for its subject serial number (R503). What stands
around it, and the case of the digits, are the device's own (log 7). -/
def certificate : List Byte :=
  let head := Config.certHead.take 1520
  head ++ (List.range 16).map (fun k => hexDigit Config.certUpper (Config.serial / 16 ^ (15 - k) % 16)) ++ Config.certTail.take (1520 - head.length)

/-- SEC (Table 19-6). -/
def State.secWord (s : State) (o : Nat) : Word :=
  let x := s.sec
  if o = 0x044 then mkWord [(0, 2, x.target), (8, 1, b2n x.loadOpen)]
  else if o = 0x048 then lo32 x.loadLen
  else if o = 0x04C then
    mkWord [(3, 1, b2n x.nonceValid), (4, 2, s.debugSta), (6, 1, b2n x.fuseErr), (7, 1, b2n x.attReady), (8, 3, x.load.code),
            (11, 1, x.fwCopy), (12, 1, x.cfgCopy), (13, 1, b2n x.fwPend), (14, 1, b2n x.cfgPend), (15, 1, b2n x.busy.isSome)]
  else if o = 0x050 then mkWord [(0, 8, s.slotSta)]
  else if o = 0x054 then mkWord [(0, 8, s.fuses.rb[0]), (8, 8, s.fuses.rb[1]), (16, 8, s.fuses.rb[2])]
  else if o = 0x058 then x.flags
  else if o = 0x05C then mkWord [(0, 8, x.refReason), (8, 8, x.refKind)]
  else if o = 0x060 then lo32 x.fwVersion else if o = 0x064 then lo32 x.cfgVersion
  else if o = 0x068 then mkWord [(0, 11, certificate.length)]
  else if 0x080 ≤ o ∧ o < 0x0C0 then wordAt Config.rootHash ((o - 0x080) / 4)
  else if 0x0C0 ≤ o ∧ o < 0x0E0 then wordAt x.nonce ((o - 0x0C0) / 4)
  else if 0x600 ≤ o ∧ o < 0xA00 then wordAt x.report ((o - 0x600) / 4)
  else if 0xA00 ≤ o then wordAt certificate ((o - 0xA00) / 4)
  else 0

end Sys2Proof.Machine
end

