-- ==== Sys2Proof/Machine/Recorder.lean ====
section
/-! DEFINITION. The cycle recorder and the statistics: records, the detail region, clear tokens, histograms
(R447 to R467, R501, R502). -/

namespace Sys2Proof.Machine

/-- Size of the detail region in bytes (Table 01-7). -/
def recSize : Nat := 50331648

/-- Change the recorder. -/
def State.modRec (f : Recorder → Recorder) (s : State) : State := { s with recd := f s.recd }

/-- REC.CFG.TYPE_EN bit `k` (Table 17-7). -/
def State.typeEn (s : State) (k : Nat) : Bool := bit (s.com .recd 0x048) (16 + k)

/-! ## Building and staging records (R447, R451) -/

/-- Bytes of a record: header and payload, in whole units of 16 bytes. -/
def Rec0.size (r : Rec0) : Nat := 16 + ceilDiv r.payload.length 16 * 16

/-- A record as bytes (Table 17-1). -/
def Rec0.bytes (r : Rec0) : List Byte :=
  let n := r.size
  let head := leBytes 8 r.seq ++ leBytes 2 r.type ++ [b8 r.sev, b8 (n / 16 - 1)]
  let body := padTo (n - 16) r.payload
  head ++ leBytes 4 (crc32 (head ++ [0, 0, 0, 0] ++ body)).toNat ++ body

/-- SEV_FLAGS of a record written now (Table 17-1). -/
def State.sevFlags (s : State) (sev : Nat) (user : Bool) : Nat :=
  sev % 16 + 16 * b2n (s.mc.mode = .service) + 32 * b2n (s.mc.mode = .degraded) + 64 * b2n user

/-- Bytes in the staging buffer. -/
def Recorder.staged (r : Recorder) : Nat := (r.stage.map Rec0.size).foldl (· + ·) 0

/-- One record is dropped and counted (R451, R453, R454, R462). -/
def State.recDrop (s : State) : State := s.modRec (fun r => { r with drops := inc r.drops 0xFFFFFFFF })

/-- A record with its SEQ enters the staging buffer, the CLEARED record before every other (R451, R459). -/
def State.stageRec (x : Rec0) (s : State) : State :=
  if s.noGranary then s.recDrop
  else if 65536 < s.recd.staged + x.size then s.recDrop.recFlag 1
  else s.modRec (fun r =>
    let l := if x.type = 0x0071 then x :: r.stage else r.stage ++ [x]
    { r with stage := l, stageMax := max r.stageMax ((l.map Rec0.size).foldl (· + ·) 0 / 16) })

/-- A record waits for the SEQ of its event (R447). -/
def State.awaitRec (source code : Nat) (type sev : Nat) (user : Bool) (payload : List Byte) (s : State) : State :=
  s.modRec (fun r => { r with await := r.await ++ [(source, code, ⟨0, type, s.sevFlags sev user, payload⟩)] })

/-- The next SEQ is taken from the block reserved in the system area, or from a new one, whose boundary is written first (R29). No rule says
what becomes of the boundary while Granary cannot be reached: it goes on as if it were stored (DESIGN CHOICE, log 83). -/
def State.takeSeq (s : State) : Nat × State :=
  let t := if decide (s.seq.limit ≤ s.seq.next) && !s.noGranary then s.granTouch else s
  let q := t.seq
  (q.next, { t with seq := { q with next := q.next + 1, limit := if q.limit ≤ q.next then q.next + 65536 else q.limit } })

/-- A record of no event of its own takes a SEQ to itself, since no two records carry the same SEQ (R448; log 25). -/
def State.ownRec (type sev : Nat) (payload : List Byte) (s : State) : State :=
  let r := s.takeSeq
  r.2.stageRec ⟨r.1, type, s.sevFlags sev false, payload⟩

/-! ## The region (R448, R451 to R455) -/

/-- A record as found in the region: offset, length, type, severity, SEQ. -/
abbrev Found := Nat × Nat × Nat × Nat × Nat

/-- The header at a region offset; what an uncorrectable word holds is not determined (R33; log 76). -/
def State.recAt (s : State) (o : Nat) : Found :=
  let g (k n : Nat) : Nat := leNat (s.granBytes (o + k) n)
  (o, (g 11 1 % 32 + 1) * 16, g 8 2, g 10 1 % 16, g 0 8)

/-- Records from an offset on, until `n` bytes are passed. -/
def State.recWalk (s : State) : Nat → Nat → Nat → List Found
  | 0, _, _ => []
  | f + 1, o, n =>
    if n = 0 then []
    else
      let r := s.recAt (o % recSize)
      r :: State.recWalk s f ((o + r.2.1) % recSize) (n - r.2.1)

/-- The records of the used space, from HEAD to TAIL. -/
def State.records (s : State) : List Found := s.recWalk (s.recd.used / 16) s.recd.head s.recd.used

/-- A record counts as VOID: filler, or at or below the clear floor (R459). `floor` is one above the highest cleared SEQ. -/
def State.isVoid (s : State) (r : Found) : Bool := r.2.2.1 = 0 || decide (r.2.2.2.2 < s.recd.floor)

/-- The records that count. -/
def State.liveRecords (s : State) : List Found := s.records.filter (fun r => !s.isVoid r)

/-- FIRST_SEQ: lowest SEQ in the region above the floor; 0 where there is none (log 26). -/
def State.firstSeq (s : State) : Nat :=
  match s.liveRecords with
  | [] => 0
  | r :: l => l.foldl (fun m x => min m x.2.2.2.2) r.2.2.2.2

/-- FREE: bytes free at TAIL. -/
def Recorder.free (r : Recorder) : Nat := recSize - r.used

/-- HEAD advances past VOID records at the start of the used space (R454, R459). -/
def State.advanceHead (s : State) : State :=
  let n := ((s.records.takeWhile s.isVoid).map (fun r => r.2.1)).foldl (· + ·) 0
  s.modRec (fun r => { r with head := (r.head + n) % recSize, used := r.used - n })

/-- A VOID record of `n` bytes. -/
def voidRec (n : Nat) : List Byte := Rec0.bytes ⟨0, 0, 0, List.replicate (n - 16) 0⟩

/-- Bytes at TAIL that a record of `n` bytes takes, the VOID record before the region's end included (R448). -/
def Recorder.need (r : Recorder) (n : Nat) : Nat := if recSize < r.tail + n then recSize - r.tail + n else n

/-- A record is appended at TAIL (R448, R451). -/
def State.recAppend (x : Rec0) (s : State) : State :=
  let r := s.recd
  let n := x.size
  let wrap := decide (recSize < r.tail + n)
  let s1 := if wrap then s.granWrite r.tail (voidRec (recSize - r.tail)) else s
  let at_ := if wrap then 0 else r.tail
  (s1.granWrite at_ x.bytes).modRec (fun r =>
    { r with lastAt := some (at_, n), tail := (at_ + n) % recSize, used := r.used + r.need n, lastSeq := x.seq, fullRec := r.fullRec || x.type = 0x0070 })

/-- Length of a record with as many of the VOID records directly after it as `need` bytes take, within the region (R454). -/
def State.room (s : State) (need : Nat) : List Found → Nat → Nat
  | [], n => n
  | r :: l, n => if need ≤ n || !s.isVoid r || r.1 = 0 then n else State.room s need l (n + r.2.1)

/-- The records with the room each offers to a record of `need` bytes. -/
def State.rooms (s : State) (need : Nat) : List Found → List (Found × Nat)
  | [] => []
  | r :: l => (r, s.room need l r.2.1) :: State.rooms s need l

/-- The victim of a record of `n` bytes and severity `sev`: the oldest that R454 allows. -/
def State.victim (s : State) (n sev : Nat) : Option (Found × Nat) :=
  ((s.rooms n s.records).filter (fun (r, room) =>
    !s.isVoid r && decide (r.2.2.2.1 ≤ sev) && r.2.2.1 ≠ 0x0070 && r.2.2.1 ≠ 0x0071 && decide (n ≤ room))).foldl
    (fun best v => match best with
      | none => some v
      | some b => if v.1.2.2.2.2 < b.1.2.2.2.2 then some v else some b) none

/-- The FULL record follows the REC_FULL event (R453). -/
def State.recFull (seq : Nat) (s : State) : State :=
  let s1 := ((s.modRec (fun r => { r with full := true, firstDrop := seq })).recFlag 0).recDrop
  (s1.awaitRec (evSource .recd) 0x8003 0x0070 15 false (leBytes 8 seq)).ev .recd 0x8003 (leBytes 4 s1.recd.free)

/-- One staged record goes to the region under the policy in force (R451, R453, R454). The system area's note of an overwrite stands until the
next record is taken up or recording resumes, since no command says that the overwrite is complete (DESIGN CHOICE, log 86). -/
def State.recStore (x : Rec0) (s : State) : State :=
  let n := x.size
  let reserve := x.type = 0x0070 || x.type = 0x0071
  if !s.recd.policy then
    if reserve then (if s.recd.need n ≤ s.recd.free then s.recAppend x else s.recDrop)
    else if s.recd.full then s.recDrop
    else if s.recd.need n + 1024 ≤ s.recd.free then s.recAppend x
    else s.recFull x.seq
  else
    let s1 := if s.recd.need n ≤ s.recd.free then s else s.advanceHead
    if s1.recd.need n ≤ s1.recd.free then s1.recAppend x
    else match s1.victim n (x.sev % 16) with
      | some (v, room) =>
        let s2 := s1.granWrite v.1 x.bytes
        let s3 := if n < room then s2.granWrite (v.1 + n) (voidRec (room - n)) else s2
        (s3.modRec (fun r => { r with note := some (v.1, n), lastAt := some (v.1, n), ovw := inc r.ovw 0xFFFFFFFF, lastSeq := x.seq, fullRec := r.fullRec || x.type = 0x0070 })).recFlag 2
      | none => s1.recDrop

/-- The oldest staged record is written; while the CLEARED record waits for its SEQ no other is (R459). -/
def State.recWriteNext (s : State) : State :=
  match s.recd.stage with
  | [] => s
  | x :: l =>
    if s.recd.await.any (fun e => e.2.2.type = 0x0071) then s
    else
      let t := s.modRec (fun r => { r with stage := l, note := if s.noGranary then r.note else none })
      if t.noGranary then t.recDrop else t.recStore x

/-- RECORD_WRITE (R451). -/
def execRecordWrite (s : State) : Host.Outcome State Fault Refusal := .next s.recWriteNext

/-- A commit of REC.CFG takes effect (R455). -/
def State.recCommit (s : State) : State :=
  let native := s.cf .recd 0x048 0 1 = 0
  let s1 := s.modRec (fun r => { r with policy := !native })
  if !native then s1.modRec (fun r => { r with full := false })
  else if s1.recd.free ≤ 1024 && !s1.recd.full then
    if s1.recd.fullRec then (s1.modRec (fun r => { r with full := true })).recFlag 0
    else
      let s2 := (s1.modRec (fun r => { r with full := true })).recFlag 0
      (s2.awaitRec (evSource .recd) 0x8003 0x0070 15 false (leBytes 8 0)).ev .recd 0x8003 (leBytes 4 s2.recd.free)
  else s1

/-- A region offset lies in the used space. -/
def Recorder.holds (r : Recorder) (o : Nat) : Bool := decide ((o + recSize - r.head) % recSize < r.used)

/-- A record is checked at its place: one with a wrong CRC becomes VOID, and is reported (R452). -/
def State.recCheck (at_ : Option (Nat × Nat)) (s0 : State) : State :=
  match at_ with
  | none => s0
  | some (o, n) =>
    if !s0.recd.holds o then s0
    else
      let s := s0.granUse o n
      let raw := s.granBytes o n
      let want := BitVec.ofNat 32 (leNat ((raw.drop 12).take 4))
      if crc32 (raw.take 12 ++ [0, 0, 0, 0] ++ raw.drop 16) = want then s else (s.granWrite o (voidRec n)).recFlag 5

/-- Junction resumes recording at boot: the record written last and one that was being overwritten are checked (R452). -/
def State.recResume (s : State) : State :=
  let s0 := s.modRec (fun r => { r with stage := [], await := [], nonceValid := false, clearing := false, stageMax := 0 })
  if s0.noGranary then s0
  else ((s0.recCheck s0.recd.lastAt).recCheck (if s0.recd.note = s0.recd.lastAt then none else s0.recd.note)).modRec
    (fun r => { r with note := none })

/-! ## Records of events (Table 17-2) -/

/-- The record an event gives by itself, from its code, instance and payload. -/
def State.recOfEvent (s : State) (e : Event) : Option (Nat × Nat × List Byte) :=
  let b (k : Nat) : Byte := (e.payload[k]?).getD 0
  let inst := b8 (e.source % 256)
  let c := e.code
  if c = 0x3002 then
    if s.typeEn 0 then some (0x0002, 4, e.payload.take 4 ++ [inst, b 4, b8 s.ptl[Fin.ofNat 8 e.source].st.code]) else none
  else if c = 0x3001 then (if b 1 = 13 then some (0x0003, 8, [inst, b 2]) else none)
  else if c = 0x0601 then some (0x0010, 6, [b 0, b 1, b 2])
  else if c = 0x0101 then some (0x0013, 12, [b 0])
  else if c = 0x4001 || c = 0x4002 || c = 0x4003 || c = 0x4004 || c = 0x4005 || c = 0x4006 then
    some (0x0020, 12, leBytes 2 c ++ [0, 0] ++ padTo 12 e.payload)
  else if c = 0x4007 then (if s.typeEn 1 then some (0x0021, 5, [b 0, b 1]) else none)
  else if c = 0x4008 then some (0x0022, 10, [b 0])
  else if c = 0x5102 || c = 0x5103 then (if s.typeEn 2 then some (0x0030, 7, inst :: leBytes 2 c) else none)
  else if c = 0x2101 || c = 0x2201 then some (0x0040, 8, inst :: leBytes 2 c ++ [b 0])
  else none

/-! ## Statistics (R460, R461) -/

/-- A histogram bin of a block rises by one. -/
def State.statBin (block off bin : Nat) (s : State) : State := s.statAdd (block + off + 4 * min bin 31) 4 1

/-- An extreme of a block takes a value that lies beyond it, with its SEQ; the first value is taken as it is. Against an extreme in an
uncorrectable word nothing can be compared, and the update is lost (R33; log 76). -/
def State.statExtreme (block k v seq : Nat) (least first : Bool) (s0 : State) : State :=
  let a := statBase + block + 0x180 + 4 * k
  let old := s0.mem.granary.nat a 4
  let s := s0.granUse a 4
  if s0.noGranary || s0.mem.tornIn 2 a 4 ≠ [] || !(first || (if least then decide (v < old) else decide (old < v))) then s
  else (s.granWrite a (leBytes 4 v)).granWrite (statBase + block + 0x1A0 + 8 * k) (leBytes 8 seq)

/-- The last-update SEQ of a block is written, and the STAT page follows. -/
def State.statDone (block seq : Nat) (s : State) : State :=
  if s.noGranary then s
  else
    let t := s.granWrite (statBase + block + 0x3F8) (leBytes 8 seq)
    { t with stat := { t.stat with updateSeq := seq, updates := inc t.stat.updates 0xFFFFFFFF } }

/-- Entries of a histogram of a block. -/
def State.statCount (s : State) (block off : Nat) : Nat :=
  ((List.range 32).map (fun b => s.mem.granary.nat (statBase + block + off + 4 * b) 4)).foldl (· + ·) 0

/-- Time bin of a number of control periods (R461). -/
def State.timeBin (s : State) (v : Nat) : Nat := min (v / (16 * max 1 s.stat.timeW)) 31

/-- The closing part of one block: histograms, extremes, last-update SEQ (R461); `vlog` where the cycle has sampled it. -/
def State.statClose (block time force : Nat) (vlog : Option Nat) (seq : Nat) (s : State) : State :=
  let first := s.statCount block 0x000 = 0
  let s1 := (s.statBin block 0x000 (s.timeBin time)).statBin block 0x100 (force / (10 * max 1 s.stat.forceW))
  let s2 := ((s1.statExtreme block 0 time seq true first).statExtreme block 1 time seq false first).statExtreme block 4 force seq false first
  let s3 := match vlog with | some v => s2.statExtreme block 5 v seq true first | none => s2
  s3.statDone block seq

/-- The opening part of one block. -/
def State.statOpen (block time seq : Nat) (s : State) : State :=
  let first := s.statCount block 0x080 = 0
  let s1 := s.statBin block 0x080 (s.timeBin time)
  ((s1.statExtreme block 2 time seq true first).statExtreme block 3 time seq false first).statDone block seq

/-- Offset of a portal block and of an axis block in the statistics region (Table 17-5). -/
def ptlBlock (p : Fin 8) : Nat := 0x1000 + p.val * 0x400

/-- Offset of an axis block. -/
def axBlock (a : Fin 12) : Nat := 0x4000 + a.val * 0x400

/-- The members of a portal, with their places. -/
def State.membersOf (s : State) (p : Fin 8) : List (Fin 12 × Fin 3) :=
  (List.finRange 3).filterMap (fun k => (s.member p k.val).map (fun a => (a, k)))

/-- A close completed under R276 enters the statistics with the SEQ of its PTL_STATE event. -/
def State.statPtlClose (p : Fin 8) (seq : Nat) (s : State) : State :=
  let c := s.cycEnd[p]
  let force := (max c.peakClose[0] c.peakClose[1]).toNat
  let s1 := s.statClose (ptlBlock p) c.times[4] force c.vmin[0] seq
  forAll (s1.membersOf p) (fun (a, k) t =>
    t.statClose (axBlock a) c.own[k].2 (if h : k.val < 2 then c.peakClose[k.val].toNat else 0) c.vmin[0] seq) s1

/-- An entry to OPEN enters the statistics (R461). -/
def State.statPtlOpen (p : Fin 8) (seq : Nat) (s : State) : State :=
  let c := s.cyc[p]
  forAll (s.membersOf p) (fun (a, k) t => t.statOpen (axBlock a) c.own[k].1 seq) (s.statOpen (ptlBlock p) c.times[1] seq)

/-- The header of the statistics region with a clear count (Table 17-5). -/
def Stat.header (x : Stat) (clears : Nat) : List Byte :=
  leBytes 4 0x53544154 ++ leBytes 2 x.timeW ++ leBytes 2 x.forceW ++ leBytes 8 x.clearSeq ++ leBytes 4 (min clears 0xFFFFFFFF)

/-- A statistics region without a header gets one: nothing has been cleared yet (R460). -/
def State.statSetup (s : State) : State :=
  if s.noGranary || s.mem.granary.nat statBase 4 = 0x53544154 then s else s.granWrite statBase (s.stat.header 0)

/-- Offsets of the portal and axis blocks. -/
def statBlocks : List Nat := (List.finRange 8).map ptlBlock ++ (List.finRange 12).map axBlock

/-- A statistics clear: every histogram, extreme and counter is 0, the pending widths come into force, the header is set; the last-update
SEQs are none of these and stay (R461). CLEAR_SEQ in the header follows with the SEQ of STAT_CLEARED. -/
def State.statClear (s : State) : State :=
  let n := s.mem.granary.nat (statBase + 16) 4
  let head := ({ s.stat with timeW := s.cfg.timeW, forceW := s.cfg.forceW } : Stat).header (n + 1)
  let g := statBlocks.foldl (fun g b => g.writeBytes (statBase + b + 0x3F8) (s.mem.granary.readBytes (statBase + b + 0x3F8) 8))
    (s.mem.granary.erase statBase 0x200000)
  let torn := s.mem.tornAfter 2 statBase 0x200000
  let soft := s.mem.softAfter 2 statBase 0x200000
  let s1 := { s with mem := { s.mem with granary := g.writeBytes statBase head, torn, soft, nvm := true, touched := s.tb }
                     stat := { s.stat with timeW := s.cfg.timeW, forceW := s.cfg.forceW, cleared := true } }
  let s2 := if s.stat.cleared then s1 else s1.irq .stat 0x100
  s2.ev .stat 0x8101 (leBytes 2 s.cfg.timeW ++ leBytes 2 s.cfg.forceW)

/-! ## Owner tokens (R501, R502) -/

/-- The 640 bytes of a token from the words written. -/
def tokenBytes (w : Words) : List Byte := (List.range 160).flatMap (fun i => leBytes 4 ((w.get? (4 * i)).getD 0).toNat)

/-- A number in a token. -/
def tokNat (t : List Byte) (o n : Nat) : Nat := leNat ((t.drop o).take n)

/-- The reason for which Guard refuses a token, the first of Table 19-4, or 0: `cmds` are the commands the page takes, `target` a
further check of the target slot, `top` the highest RANGE_HI. -/
def State.tokenReason (s : State) (t : List Byte) (cmds : List Nat) (valid : Bool) (nonce : List Byte) (target : Bool)
    (top : Option Nat) : Nat :=
  let signer := tokNat t 0x007 1
  let modulus := if h : signer - 1 < 4 then s.fuses.moduli[(⟨signer - 1, h⟩ : Fin 4)] else []
  if tokNat t 0 4 ≠ 0x4E4B544F || tokNat t 4 2 ≠ 0x0100 || !cmds.contains (tokNat t 6 1) || signer = 0 || 4 < signer
      || !pssVerifies modulus (sha512 (t.take 0x080)) ((t.drop 0x080).take 512) then 1
  else if !valid || (t.drop 0x010).take 32 ≠ nonce then 2
  else if tokNat t 8 8 ≠ Config.serial % 2 ^ 64 then 3
  else if s.slotState signer ≠ .active || !target then 4
  else match top with
    | some n => if n < tokNat t 0x038 8 then 5 else 0
    | none => 0

/-- An operation joins those that Guard's signature engine performs one at a time, in order of arrival (R505). -/
def State.engineAsk (o : EngineOp) (s : State) : State := { s with sec := { s.sec with engine := s.sec.engine ++ [o] } }

/-! ## REC commands (R457 to R459) -/

/-- A record of the program or host software: the code of its refusal, or none with its event raised (R457, R510). Without Granary host
software's command is refused; the program's record is dropped where it would be staged, and counted there (R462). -/
def State.userRec (host : Bool) (type sev : Nat) (data : List Byte) (s : State) : Option Nat × State :=
  let anchor := host && type = 0x0050
  let lo := if host then 0x2000 else 0x1000
  if host && s.noGranary then (some 0x11, s)
  else if !anchor && (decide (type < lo) || decide (lo + 0x0FFF < type) || decide (13 < sev) || decide (496 < data.length)) then (some 0x40, s)
  else if s.recd.clearing then (some 0x41, s)
  else if anchor then
    let body := padTo 16 data
    (none, (s.awaitRec (evSource .recd) 0x8001 0x0050 6 true (body ++ leBytes 8 (s.tb % 2 ^ 64) ++ leBytes 8 0)).ev .recd 0x8001
      (body.take 8))
  else
    (none, (s.awaitRec (evSource .recd) 0x8002 type sev true data).ev .recd 0x8002
      (leBytes 2 type ++ [b8 sev, b8 (b2n host)]))

/-- CTL.CMD WRITE: the record of WR and WR_DATA. -/
def State.recWriteCtl (s : State) : Option Nat × State :=
  let w := s.com .recd 0x044
  let data := (List.range 128).flatMap (fun i => leBytes 4 (s.com .recd (0x200 + 4 * i)).toNat)
  let len := fld w 0 9
  if !s.noGranary && 496 < len && fld w 16 16 ≠ 0x0050 then (some 0x40, s)
  else s.userRec true (fld w 16 16) (fld w 12 4) (data.take len |> fun d => if fld w 16 16 = 0x0050 then data.take 16 else d)

/-- CTL.CMD NONCE: Guard places a fresh nonce (R458). -/
def State.recNonceCtl (s : State) : State :=
  let d := s.draw
  d.2.modRec (fun r => { r with nonce := padTo 32 (Config.random d.1 32), nonceSeq := r.lastSeq, nonceValid := true })

/-- A write of REC CTL: refused while Granary is absent or a clear is being verified (R458, R462). -/
def State.recCtl (w : Word) (s : State) : State :=
  if s.noGranary then s.err .recd 0x11 0 0x040
  else match fld w 0 4 with
  | 1 => match s.recWriteCtl with | (some c, t) => t.err .recd c 0 0x040 | (none, t) => t
  | 2 => if s.recd.clearing then s.err .recd 0x41 0 0x040 else s.recNonceCtl
  | 3 => if s.recd.clearing then s.err .recd 0x41 0 0x040 else (s.modRec (fun r => { r with clearing := true })).engineAsk .clear
  | _ => s.err .recd 0x43 0 0x040

/-- An accepted clear takes effect at one clock (R459). -/
def State.recClear (range : Nat) (slot : Nat) (stats : Bool) (s : State) : State :=
  let first := s.firstSeq
  let old := s.liveRecords.length
  let drops := s.recd.drops
  let s1 := (s.granTouch.modRec (fun r => { r with floor := range + 1 })).advanceHead
  let gone := old - s1.liveRecords.length
  let s2 := (s1.modRec (fun r =>
    { r with full := r.full && !(decide (1024 < r.free)), clears := inc r.clears 0xFFFF, fullRec := false })).recFlag 3
  let s3 := if stats then s2.statClear else s2
  let modulus := if h : slot - 1 < 4 then s.fuses.moduli[(⟨slot - 1, h⟩ : Fin 4)] else []
  let payload := leBytes 8 range ++ leBytes 8 first ++ leBytes 4 gone ++ [b8 slot, b8 (b2n stats), 0, 0]
    ++ padTo 16 (keyHash modulus) ++ leBytes 8 drops
  (s3.awaitRec (evSource .recd) 0x8004 0x0071 15 false payload).ev .recd 0x8004 (leBytes 8 range ++ [b8 slot, b8 (b2n stats)])

/-- A write of REC CTL by host software; it stays available under LOCK (R464). -/
def State.hostRec (cmd : Nat) (s : State) : State :=
  s.gated .recd 0x040 (BitVec.ofNat 32 cmd) true (State.recCtl (BitVec.ofNat 32 cmd))

/-- REC_WRITE_CMD (R457). -/
def execRecWriteCmd (s : State) : Host.Outcome State Fault Refusal := .next (s.hostRec 1)

/-- REC_NONCE (R458). -/
def execRecNonce (s : State) : Host.Outcome State Fault Refusal := .next (s.hostRec 2)

/-- REC_CLEAR (R458). -/
def execRecClear (s : State) : Host.Outcome State Fault Refusal := .next (s.hostRec 3)

/-! ## Status words and windows (R456, R460, Tables 17-7, 17-8) -/

/-- The word at a region offset of the detail region; 0 while Granary is absent (R456, R462). -/
def State.recWindow (s : State) (o : Nat) : Word :=
  if s.noGranary then 0 else lo32 (s.mem.granary.nat (o % recSize) 4)

/-- The word at an offset of the statistics region; 0 while Granary is absent. -/
def State.statWindow (s : State) (o : Nat) : Word :=
  if s.noGranary || 0x200000 ≤ o then 0 else lo32 (s.mem.granary.nat (statBase + o) 4)

/-- The clear floor as shown: RANGE_HI of the last clear; 0 before any. -/
def Recorder.floorReg (r : Recorder) : Nat := r.floor - 1

/-- REC (Table 17-7). -/
def State.recWord (s : State) (o : Nat) : Word :=
  let r := s.recd
  if o = 0x04C then mkWord [(0, 1, b2n r.full), (1, 1, b2n r.clearing), (2, 1, b2n r.nonceValid), (3, 1, b2n r.policy)]
  else if o = 0x050 then r.flags
  else if o = 0x054 then lo32 r.head else if o = 0x058 then lo32 r.tail else if o = 0x05C then lo32 r.free
  else if o = 0x060 then lo32 s.firstSeq else if o = 0x064 then hi32 s.firstSeq
  else if o = 0x068 then lo32 r.lastSeq else if o = 0x06C then hi32 r.lastSeq
  else if o = 0x070 then lo32 s.liveRecords.length
  else if o = 0x074 then lo32 r.drops else if o = 0x078 then lo32 r.ovw
  else if o = 0x07C then mkWord [(0, 16, r.refusals), (16, 16, r.clears)]
  else if o = 0x080 then lo32 r.floorReg else if o = 0x084 then hi32 r.floorReg
  else if o = 0x090 then lo32 r.nonceSeq else if o = 0x094 then hi32 r.nonceSeq
  else if o = 0x098 then mkWord [(0, 16, r.staged / 16), (16, 16, r.stageMax)]
  else if 0x0A0 ≤ o ∧ o < 0x0C0 then wordAt r.nonce ((o - 0x0A0) / 4)
  else if 0x800 ≤ o then s.recWindow (s.cf .recd 0x08C 0 26 + (o - 0x800))
  else 0

/-- A width differs from the one in force (R461). -/
def State.widthPend (s : State) : Bool := decide (s.cfg.timeW ≠ s.stat.timeW) || decide (s.cfg.forceW ≠ s.stat.forceW)

/-- STAT (Table 17-8). -/
def State.statWord (s : State) (o : Nat) : Word :=
  let x := s.stat
  if o = 0x040 then mkWord [(0, 16, x.timeW), (16, 16, x.forceW)]
  else if o = 0x044 then mkWord [(0, 16, s.cfg.timeW), (16, 16, s.cfg.forceW)]
  else if o = 0x048 then mkWord [(0, 1, b2n s.widthPend)]
  else if o = 0x04C then mkWord [(0, 1, b2n x.cleared)]
  else if o = 0x050 then lo32 x.clearSeq else if o = 0x054 then hi32 x.clearSeq
  else if o = 0x058 then lo32 x.updateSeq else if o = 0x05C then hi32 x.updateSeq
  else if o = 0x060 then lo32 x.updates
  else if 0x800 ≤ o then s.statWindow (s.cf .stat 0x064 0 21 + (o - 0x800))
  else 0

end Sys2Proof.Machine
end

