-- ==== Sys2Proof/Machine/Portal.lean ====
section
/-! DEFINITION. The door cycle: portals, sides, obstacle detection, sensitive edges, the force envelope, reference closes
(R262 to R298). -/

namespace Sys2Proof.Machine

/-! ## What the door cycle keeps -/

/-- Change a portal. -/
def State.modPtl (p : Fin 8) (f : Ptl → Ptl) (s : State) : State := { s with ptl := upd s.ptl p f }

/-- Change a portal's inputs and timers. -/
def State.modPin (p : Fin 8) (f : PtlIn → PtlIn) (s : State) : State := { s with ptlIn := upd s.ptlIn p f }

/-- Change a portal's run. -/
def State.modRun (p : Fin 8) (f : PtlRun → PtlRun) (s : State) : State := { s with ptlRun := upd s.ptlRun p f }

/-- Change the record of a cycle in progress. -/
def State.modCyc (p : Fin 8) (f : CycleRec → CycleRec) (s : State) : State := { s with cyc := upd s.cyc p f }

/-- The portal goes on to another phase of its state. -/
def State.phase (p : Fin 8) (h : PtlPhase) (s : State) : State := s.modRun p (fun r => { r with phase := h })

/-- Set a FLAGS bit of a portal, and the bit of the cycle record that keeps it (R294, R450). -/
def State.ptlMark (p : Fin 8) (flag rec : Nat) (s : State) : State :=
  (s.ptlFlag p flag).modCyc p (fun c => { c with bits := setBit c.bits rec })

/-- SW_DISAGREE (R275): a report, and the close is not learned (R285). -/
def State.swDisagree (p : Fin 8) (s : State) : State :=
  (s.ptlMark p 5 6).modRun p (fun r => { r with learnable := false })

/-! ## Geometry and limits (R262 to R265) -/

/-- A position of the PTL page, 40 bits in two words. -/
def State.ptlPos (s : State) (p : Fin 8) (o : Nat) : Int := sx 40 ((s.com (.ptl p) o).toNat + 2 ^ 32 * s.cf (.ptl p) (o + 4) 0 8)

/-- CLOSED of a leaf. -/
def State.closedPos (s : State) (p : Fin 8) (k : Nat) : Int := s.ptlPos p (0x080 + 16 * k)

/-- OPEN of a leaf. -/
def State.openPos (s : State) (p : Fin 8) (k : Nat) : Int := s.ptlPos p (0x088 + 16 * k)

/-- T of a leaf (R263). -/
def State.travel (s : State) (p : Fin 8) (k : Nat) : Nat := (s.openPos p k - s.closedPos p k).natAbs

/-- od of a leaf (R263). -/
def State.openDir (s : State) (p : Fin 8) (k : Nat) : Int := if s.closedPos p k ≤ s.openPos p k then 1 else -1

/-- A velocity of group 1 or another whole word of the PTL page. -/
def State.ptlNum (s : State) (p : Fin 8) (o : Nat) : Nat := (s.com (.ptl p) o).toNat

/-- The bin of a leaf (R263). -/
def State.leafBin (s : State) (p : Fin 8) (k : Nat) : Nat :=
  match s.member p k with
  | some a => min (64 * (s.ax[a].pos - s.closedPos p k).natAbs / max 1 (s.travel p k)) 63
  | none => 0

/-- v_KE in register form, rounded down, where R265 limits at all. -/
def State.vKe (s : State) (p : Fin 8) : Option Nat :=
  let ke := s.cf (.ptl p) 0x0E0 16 16
  let m := s.cf (.ptl p) 0x0E0 0 16
  if ke = 0 || m = 0 then none else some (isqrt (s.ptlNum p 0x0B8 ^ 2 * 20000 * ke / m))

/-- A velocity of a move, never above 2,000,000 µsteps/s (R273). -/
def topSpeed (v : Nat) : Nat := min v 512000000

/-- A velocity of a closing move: limited to v_KE too (R265). -/
def State.closeSpeed (s : State) (p : Fin 8) (o : Nat) : Nat :=
  topSpeed (match s.vKe p with | some v => max 1 (min (s.ptlNum p o) v) | none => s.ptlNum p o)

/-- The leaves in use with their axes. -/
def State.leaves (s : State) (p : Fin 8) : List (Fin 12 × Fin 2) :=
  (List.finRange 2).filterMap (fun k => (s.member p k.val).map (fun a => (a, k)))

/-- ASSIGN.STEP_MODE where a step is assigned, else 0 (R274). -/
def State.stepMode (s : State) (p : Fin 8) : Nat := if (s.member p 2).isSome then fld s.cfg.assign1[p] 18 2 else 0

/-- NUDGE_SCALE (R273). -/
def State.nudgeScale (s : State) (p : Fin 8) : Nat := s.cf (.ptl p) 0x0E8 24 8

/-- The seal's filter time in counts (Table 12-3). -/
def State.sealFilt (s : State) : Nat :=
  ms (match fld (s.grd.word.getD 0) 24 2 with | 0 => 1 | 1 => 3 | 2 => 5 | _ => 10)

/-- The combined release of a side (R271). -/
def State.sideRelease (s : State) (d : Fin 2) : Bool := s.side[d].relGrd && s.side[d].relSbx

/-! ## Timers (Table 11-2) -/

/-- The words that a move or a timer that runs goes on using: F_MAX and F_MARGIN, the counts and NUDGE_SCALE, OBS_DEC, and CFG (R295). -/
def limOffsets : Vector Nat 4 := #v[0x0E4, 0x0E8, 0x0D8, 0x0F8]

/-- A move or a timer starts: the committed groups apply from it on (R295). -/
def State.armLimits (p : Fin 8) (s : State) : State :=
  s.modRun p (fun r => { r with force := some (limOffsets.map (s.com (.ptl p))) })

/-- A word of `limOffsets` in force; host moves in SERVICE take the committed one (R295). -/
def State.limWord (s : State) (p : Fin 8) (k : Fin 4) : Word :=
  match (if s.mc.mode = .service then none else s.ptlRun[p].force) with
  | some f => f[k]
  | none => s.com (.ptl p) limOffsets[k]

/-- Start a timer, in counts. -/
def State.timerStart (p : Fin 8) (t : Timer) (n : Nat) (s : State) : State :=
  (s.armLimits p).modPin p (fun i => { i with timers := i.timers.filter (fun e => e.1 ≠ t) ++ [(t, s.tb + n)] })

/-- Stop a timer. -/
def State.timerStop (p : Fin 8) (t : Timer) (s : State) : State :=
  s.modPin p (fun i => { i with timers := i.timers.filter (fun e => e.1 ≠ t) })

/-- The deadline of a running timer. -/
def State.deadline (s : State) (p : Fin 8) (t : Timer) : Option Nat := (s.ptlIn[p].timers.find? (fun e => e.1 = t)).map (·.2)

/-- A timer has elapsed. -/
def State.elapsed (s : State) (p : Fin 8) (t : Timer) : Bool :=
  match s.deadline p t with | some d => decide (d ≤ s.tb) | none => false

/-! ## Members (R268, R273) -/

/-- An axis is at rest, with nothing held, taken or planned. -/
def State.axRest (s : State) (a : Fin 12) : Bool :=
  let x := s.ax[a]
  !x.active && x.taken = [] && x.queue = []

/-- Every member of a portal is at rest. -/
def State.allRest (s : State) (p : Fin 8) : Bool := (s.membersOf p).all (fun m => s.axRest m.1)

/-- Issue a move of the door cycle. -/
def State.doorMove (a : Fin 12) (cmd kind : Nat) (neg : Bool) (goal : Int) (vel vmax : Nat) (s : State) : State :=
  (s.axCommand .doorCycle a cmd { kind, neg, goal, vel, vmax } 0).2

/-- s_app of a portal's leaves in per cent (R193, R273). -/
def State.leafScale (p : Fin 8) (n : Nat) (s : State) : State :=
  forAll (s.leaves p) (fun m t => t.modCoil m.1 (fun c => { c with sApp := n })) s

/-- Stop every moving member: STOP with D2 and D1, or the end of following (R270). -/
def State.stopMembers (p : Fin 8) (s : State) : State :=
  forAll (s.membersOf p) (fun m t =>
    if t.axRest m.1 then t
    else match t.ax[m.1].engine with
      | some e => t.disengage m.1 e
      | none => (t.axCommand .doorCycle m.1 2 {} 0).2) s

/-- The step follows its cam engine in STEP_MODE 2, from the period of the leaf moves on (R274). -/
def State.stepEngage (p : Fin 8) (on : Bool) (s : State) : State :=
  let c := fld s.cfg.assign0[p] 12 4
  if s.stepMode p = 2 && decide (c < 4) then (s.engineCommand .doorCycle (16 + c) (if on then 1 else 2)).2 else s

/-- Opening moves of the leaves (R273). -/
def State.openMoves (p : Fin 8) (s : State) : State :=
  (forAll (s.leaves p) (fun m t => t.doorMove m.1 1 0 false (t.openPos p m.2.val) 0 (topSpeed (t.ptlNum p 0x0C0)))
    ((s.armLimits p).leafScale p 100)).stepEngage p true

/-- The step moves, to STEP_OUT or to STEP_IN (R274). -/
def State.stepMove (p : Fin 8) (out : Bool) (s : State) : State :=
  match s.member p 2 with
  | some a => (s.armLimits p).doorMove a 1 0 false (s.ptlPos p (if out then 0x0A8 else 0x0A0)) 0 (topSpeed (s.ptlNum p 0x0C0))
  | none => s

/-- KE_LIMITED is set whenever v_KE is below CLOSE_VMAX (R265). -/
def State.keCheck (p : Fin 8) (s : State) : State :=
  match s.vKe p with
  | some v => if v < s.ptlNum p 0x0C4 then s.ptlMark p 9 4 else s
  | none => s

/-- Closing moves (R273): to CREEP_DIST before CLOSED, then to CLOSED at CREEP_V, blended (DEDUCED: the first target lies on
the open side of CLOSED; log 27). -/
def State.closeMoves (p : Fin 8) (s : State) : State :=
  let creep := s.ptlNum p 0x0B0
  (forAll (s.leaves p) (fun m t =>
    let k := m.2.val
    let c := t.closedPos p k
    let fast := t.closeSpeed p 0x0C4
    let slow := t.closeSpeed p 0x0C8
    if creep = 0 then t.doorMove m.1 1 0 false c 0 fast
    else if (t.ax[m.1].pos - c).natAbs ≤ creep then t.doorMove m.1 1 0 false c 0 slow
    else (t.doorMove m.1 1 0 false (c + t.openDir p k * creep) 0 fast).doorMove m.1 0 0 false c 0 slow)
    ((s.armLimits p).leafScale p 100)).stepEngage p true

/-- Nudge moves (R273, R284). -/
def State.nudgeMoves (p : Fin 8) (s : State) : State :=
  (forAll (s.leaves p) (fun m t => t.doorMove m.1 1 0 false (t.closedPos p m.2.val) 0 (t.closeSpeed p 0x0CC))
    ((s.armLimits p).leafScale p (s.nudgeScale p))).stepEngage p true

/-- VEL moves of a reference close (R292). -/
def State.refMoves (p : Fin 8) (s : State) : State :=
  forAll (s.leaves p) (fun m t => t.doorMove m.1 1 2 (decide (0 < t.openDir p m.2.val)) 0 (t.closeSpeed p 0x0D0) 0)
    ((s.armLimits p).leafScale p (s.nudgeScale p))

/-- Where an axis comes to rest under a single deceleration from its commit point (R160, R172, R282). -/
def State.restAfter (s : State) (a : Fin 12) (rate : Nat) : Int :=
  let pl := s.ax[a].commitPlan
  match (pl.beginStop (pl.old.getD (s.profile a)) (s.bounds a) { rate := some rate, shown := true } []).stop with
  | some k => k.dest / unitsPerStep
  | none => s.ax[a].commitPos

/-- The reverse move of a leaf that comes to rest at `from_` (R273). -/
def State.reverseMove (s : State) (p : Fin 8) (k : Nat) (from_ : Int) : Move :=
  let d := s.ptlNum p 0x0DC
  let o := s.openPos p k
  let goal := if d = 0 then o else if 0 < s.openDir p k then min (from_ + d) o else max (from_ - d) o
  { goal, vmax := topSpeed (s.ptlNum p 0x0D4) }

/-- The OBSTACLE trigger on every moving member; with `rev` the leaves' segments carry the reverse move, and a leaf at rest
makes it at once (R279, R282). -/
def State.obsStop (p : Fin 8) (rev : Bool) (s : State) : State :=
  let rate := (s.limWord p 2).toNat
  let t := forAll (s.membersOf p) (fun m t =>
    let a := m.1
    if t.axRest a then
      (if rev && decide (m.2.val < 2) then
        let mv := t.reverseMove p m.2.val t.ax[a].pos
        t.doorMove a 0 0 false mv.goal 0 mv.vmax
      else t)
    else
      t.accept a (.obstacle rate
        (if rev && decide (m.2.val < 2) then some (t.reverseMove p m.2.val (t.restAfter a rate)) else none))) s
  if rev then (t.armLimits p).stepEngage p true else t

/-- The RELEASE trigger on every moving member (R271). -/
def State.releaseStop (p : Fin 8) (s : State) : State :=
  forAll (s.membersOf p) (fun m t => if t.axRest m.1 then t else t.accept m.1 .release) s

/-! ## Sensitive edges (R281) -/

/-- The sensitive edges of a portal. -/
def State.edgesOf (s : State) (p : Fin 8) : List (Fin 16) :=
  let w := s.cfg.assign1[p]
  fins 16 (fun e => fld w 0 5 = e.val || fld w 8 5 = e.val)

/-- An edge of the portal reads actuated. -/
def State.edgeActive (s : State) (p : Fin 8) : Bool := (s.edgesOf p).any (fun e => s.edges[e].reading = 2)

/-- An edge of the portal is actuated as far as events tell Junction (R266): one has told so since the last evaluation, or the edges
whose actuation is known still read actuated. -/
def State.edgeKnown (s : State) (p : Fin 8) : Bool := s.ptlIn[p].edgeSeq.isSome || (s.ptlIn[p].edgeHeld && s.edgeActive p)

/-- The portals that use an edge. -/
def State.edgeUsers (s : State) (e : Fin 16) : List (Fin 8) := fins 8 (fun p => s.ptlUsed p && (s.edgesOf p).contains e)

/-- EDGE_FAULT stands on a portal: an edge has not read normal for 1 s since its fault. -/
def State.edgeFault (s : State) (p : Fin 8) : Bool := bit s.ptl[p].flags 6

/-- EDGE_FAULT as far as events tell Junction (R266). -/
def State.faultKnown (s : State) (p : Fin 8) : Bool := s.edgeFault p && s.ptlIn[p].faultHeld

/-! ## Envelope (R285, R286) -/

/-- A portal's envelopes are written through to Granary, where it is reached (R286). -/
def State.envWrite (p : Fin 8) (s : State) : State :=
  if s.noGranary then s
  else { s with envKept := s.envKept.filter (fun e => e.1.1 ≠ p.val) ++ s.env.filter (fun e => e.1.1 = p.val) }

/-- Every envelope of a portal is cleared (R286), in Granary too (DEDUCED: a cleared envelope does not come back at the next boot;
log 78). -/
def State.envClear (p : Fin 8) (s : State) : State :=
  State.envWrite p { s with env := s.env.filter (fun e => e.1.1 ≠ p.val) }

/-- One sample enters a bin; a full bin loses its oldest (R285). -/
def envAdd (key : Nat × Nat × Nat) (v : Int) : List ((Nat × Nat × Nat) × List Int) → List ((Nat × Nat × Nat) × List Int)
  | [] => [(key, [v])]
  | e :: l =>
    if e.1 = key then (key, (if 16 ≤ e.2.length then e.2.tail else e.2) ++ [v]) :: l else e :: envAdd key v l

/-- The close is learned, if every condition of R285 held (R285). -/
def State.learn (p : Fin 8) (s : State) : State :=
  let r := s.ptlRun[p]
  if !r.learnable || r.retries ≠ 0 then s
  else
    let s1 := State.envWrite p { s with env := r.peaks.foldl (fun e (x : Nat × Nat × Int) => envAdd (p.val, x.1, x.2.1) x.2.2 e) s.env }
    let s2 := (s1.modPtl p (fun x => { x with learnCount := inc x.learnCount 0xFFFF })).ptlMark p 10 1
    forAll (s2.leavesOf p) (fun k t => t.sendEnv p k ((List.range 64).map (fun b => t.envWord p k b))) s2

/-! ## The door-cycle record (R450) -/

/-- Peak kinetic energy of a leaf in mJ from its highest speed (Table 17-3); no rule says how it is rounded (log 16). -/
def State.peakKe (s : State) (p : Fin 8) (k : Fin 2) : Nat :=
  let m := s.cf (.ptl p) 0x0E0 0 16
  let mm := max 1 (s.ptlNum p 0x0B8)
  stepsOf 22 (m * s.cyc[p].vPeak[k] ^ 2) (20000 * mm ^ 2) 0xFFFF

/-- The 80 payload bytes of a DOOR_CYCLE record (Table 17-3). -/
def State.cyclePayload (s : State) (p : Fin 8) : List Byte :=
  let c := s.cyc[p]
  let x := s.ptl[p]
  let force (v : Int) : List Byte := leBytes 2 (tc 16 (clampI (-32767) 32767 v))
  let margin (m : Option Int) : List Byte := leBytes 2 (match m with | some v => tc 16 (clampI (-32768) 32766 v) | none => 0x7FFF)
  let least (v : Option Nat) : List Byte := leBytes 2 (v.getD 0)
  [b8 p.val, b8 c.bits.toNat, b8 x.obsInClose, b8 x.nudgeObs] ++ c.times.toList.flatMap (leBytes 4)
    ++ force c.peakClose[0] ++ force c.peakClose[1] ++ force c.peakOpen[0] ++ force c.peakOpen[1]
    ++ margin c.margin[0] ++ margin c.margin[1] ++ [b8 c.marginBin[0], b8 c.marginBin[1]]
    ++ least c.vmin[0] ++ least c.vmin[1] ++ least c.vmin[2] ++ leBytes 8 c.openSeq
    ++ [b8 s.ptlRun[p].retries, b8 c.layers.toNat]
    ++ leBytes 2 (match c.temp with | some t => tc 16 t | none => 0x8000)
    ++ leBytes 2 (s.peakKe p 0) ++ leBytes 2 (s.peakKe p 1) ++ leBytes 4 x.cycles ++ List.replicate 12 0

/-- Number of the control period at hand. -/
def State.now (s : State) : Nat := periodOf s.tb

/-- Phase `k` of the cycle ends: its duration is kept and the next is timed from here (Table 17-3). -/
def State.timePhase (p : Fin 8) (k : Fin 6) (s : State) : State :=
  s.modCyc p (fun c => { c with times := c.times.set k (s.now - c.mark), mark := s.now })

/-! ## Entering a state (R269, R270) -/

/-- A transition: STATE, PREV_STATE, what Table 11-1 and R270 reset on entry, and the PTL_STATE event. Timers of the old state
stop; those of the open switch and of SW_CONFLICT run on (R275). From FAULT into FAULT with another cause is a transition too (R269, R289). -/
def State.ptlEnter (p : Fin 8) (new : PtlState) (cause : Nat) (s : State) : State :=
  let x := s.ptl[p]
  if x.st = new && !(new = .fault && x.cause ≠ cause) then s
  else
    let c := if new = .fault then cause else 0
    let fresh := new = .opening || new = .closedLocked || new = .released
    let s1 := s.modPtl p (fun x =>
      { x with
        st := new, prev := x.st.code, cause := c, gateWait := false, refRun := false
        obsInClose := if fresh then 0 else x.obsInClose, nudgeObs := if fresh then 0 else x.nudgeObs
        faultCount := if new = .fault then inc x.faultCount 0xFFFF else x.faultCount
        nudgeCount := if new = .nudge then inc x.nudgeCount 0xFFFF else x.nudgeCount })
    let s2 := (s1.modRun p (fun r =>
      { r with phase := .idle, relStop := false, nudgeMark := r.nudgeMark && !fresh })).modPin p
        (fun i => { i with timers := i.timers.filter (fun e => e.1 = .swConflict || e.1 = .swOpen) })
    let s3 := match new with
      | .fault => s2.statPtl p 7
      | .nudge => (s2.ptlMark p 1 0).statPtl p 3
      | .open => s2.statPtl p 1
      | .opening | .closing | .closeWarn | .obstacleStop | .reversing | .reopenHold | .locking | .isolated | .egress
      | .closedLocked | .released | .unused => s2
    s3.ev (.ptl p) 0x3001 [b8 x.st.code, b8 new.code, b8 c]

/-- FAULT (R289): members that move are stopped. -/
def State.ptlFault (p : Fin 8) (cause : Nat) (s : State) : State := ((s.stopMembers p).leafScale p 100).ptlEnter p .fault cause

/-- Every leaf stands at OPEN by its setpoint (R285, Table 11-5). -/
def State.atOpen (s : State) (p : Fin 8) : Bool := (s.leaves p).all (fun m => s.ax[m.1].pos = s.openPos p m.2.val)

/-- CLOSE_WARN for CW_T; the close may be learned where it begins as R285 asks. Out of REOPEN_HOLD it is the same close still
(R274, R294). -/
def State.toCloseWarn (p : Fin 8) (s : State) : State :=
  let x := s.ptl[p]
  let can := ((x.st = .open && s.atOpen p) || (x.st = .reopenHold && x.obsInClose = 0)) && !bit s.cyc[p].bits 6
  let same := x.st = .reopenHold
  let s1 := (if x.st = .open then s.timePhase p 2 else s).ptlEnter p .closeWarn 0
  (s1.modRun p (fun r =>
    { r with learnable := can, newClose := r.newClose || !same, stepObs := if same then r.stepObs else 0 })).modCyc p
    (fun c => { c with mark := s.now })
    |>.timerStart p .cw (ms (10 * s.cf (.ptl p) 0x0EC 0 16))

/-- OPEN: the open switch is checked after opening moves that completed, and AUTO_CLOSE_T runs (R270, R275). An entry by resynchronisation
has no opening time (R450). -/
def State.toOpenState (p : Fin 8) (complete : Bool) (s : State) : State :=
  let auto := s.cf (.ptl p) 0x0F8 16 16
  let s0 := if s.ptl[p].st = .opening then s.timePhase p 1 else s.modCyc p (fun c => { c with mark := s.now })
  let s1 := (s0.ptlEnter p .open 0).stepEngage p false
  let s2 := if complete && fld s.cfg.assign0[p] 16 6 ≠ 0x3F then s1.timerStart p .swOpen (ms (s.cf (.ptl p) 0x0F4 0 16)) else s1
  if auto = 0 then s2 else s2.timerStart p .autoClose (ms (100 * auto))

/-- The unlock is confirmed, or needs none: the step or the leaves move (R274, R277). -/
def State.startOpening (p : Fin 8) (s : State) : State :=
  if s.stepMode p = 1 then (s.stepMove p true).phase p .stepOut else (s.openMoves p).phase p .moves

/-- OPENING begins with its unlock (R277): without a solenoid, or with the lock open already, the moves are issued at once. -/
def State.startUnlock (p : Fin 8) (s : State) : State :=
  let tmo := ms (s.cf (.ptl p) 0x0F0 0 16)
  let noLock := fld s.cfg.assign0[p] 22 5 = 0x1F
  let s1 := s.phase p .unlock
  if !s.ptlIn[p].lockedSw then s1.startOpening p
  else if noLock then (s1.timerStart p .unlock tmo).startOpening p
  else s1.timerStart p .unlock tmo

/-- OPENING, after a stop where a member moves (Table 11-2). Its unlock is timed from here where the lock is closed (R450). -/
def State.toOpening (p : Fin 8) (s : State) : State :=
  let s1 := ((s.ptlEnter p .opening 0).modRun p (fun r => { r with stepObs := 0 })).modCyc p
    (fun c => { c with mark := s.now, unlocking := s.ptlIn[p].lockedSw })
  if s1.allRest p then s1.startUnlock p else (s1.stopMembers p).phase p .stopFirst

/-- LOCKING: the solenoid goes off and LOCK_TMO runs (R276). -/
def State.toLocking (p : Fin 8) (s : State) : State :=
  let close := s.ptl[p].st = .closing || s.ptl[p].st = .nudge
  let s1 := if close && s.cyc[p].times[4] = 0 then s.timePhase p 4 else s
  ((((s1.leafScale p 100).ptlEnter p .locking 0).stepEngage p false).modRun p (fun r => { r with retries := 0 })).modCyc p
    (fun c => { c with mark := s.now }) |>.timerStart p .lock (ms (s.cf (.ptl p) 0x0F0 16 16))

/-- A close starts: CLOSING, or NUDGE with its moves (R273, R284). -/
def State.startClose (p : Fin 8) (nudge : Bool) (s : State) : State :=
  let s1 := if s.ptl[p].st = .closeWarn then s.timePhase p 3 else s
  let s2 := (s1.ptlEnter p (if nudge then .nudge else .closing) 0).modRun p (fun r =>
    { r with learnable := r.learnable && !nudge, newClose := false, peaks := [] })
  let s3 := (s2.modPtl p (fun x => { x with fPeak := if s.ptlRun[p].newClose then Vector.replicate 2 none else x.fPeak })).modCyc p
    (fun c => { c with mark := s.now, times := c.times.set 4 0 })
  (if nudge then s3.nudgeMoves p else s3.closeMoves p).phase p .moves

/-- A reference close starts (R292): in CLOSING, with REF_RUN. -/
def State.startRef (p : Fin 8) (s : State) : State :=
  let at_ (k : Nat) : Int := match s.member p k with | some a => s.ax[a].pos | none => 0
  let s1 := ((s.timePhase p 3).ptlEnter p .closing 0).modPtl p (fun x =>
    { x with refRun := true, fPeak := if s.ptlRun[p].newClose then Vector.replicate 2 none else x.fPeak })
  let s2 := s1.modRun p (fun r =>
    { r with needRef := false, learnable := false, newClose := false, peaks := [], refFrom := #v[at_ 0, at_ 1], hist := [], refAt := none, phase := .refVel })
  ((s2.modCyc p (fun c => { c with mark := s.now, times := c.times.set 4 0, bits := setBit c.bits 7 })).statPtl p 9).refMoves p

/-- REOPEN_HOLD with its pause (R270). -/
def State.toReopenHold (p : Fin 8) (nudge : Bool) (s : State) : State :=
  let s1 := (((s.leafScale p 100).ptlEnter p .reopenHold 0).stepEngage p false).modRun p (fun r => { r with nudgeStop := nudge })
  if nudge then s1.timerStart p .nudgePause (ms (10 * s.cf (.ptl p) 0x0F4 16 16))
  else s1.timerStart p .reopen (ms (10 * s.cf (.ptl p) 0x0EC 16 16))

/-- The close is complete (R276): CYCLE_COUNT, learning where the close reached CLOSED_LOCKED (R285), and the door-cycle record, which waits
for the SEQ of its PTL_STATE. -/
def State.closeDone (p : Fin 8) (s : State) : State :=
  let s0 := (s.timePhase p 5).modPtl p (fun x => { x with cycles := inc x.cycles 0xFFFFFFFF })
  let s1 := if s.sideRelease (s.sideOf p) then s0 else s0.learn p
  let s2 := s1.awaitRec (evSource (.ptl p)) 0x3001 0x0001 2 false (s1.cyclePayload p)
  let s3 := { s2 with cycEnd := s2.cycEnd.set p s2.cyc[p] }
  (((s3.statPtl p 0).modCyc p (fun _ => {})).modRun p (fun r => { r with learnable := false, peaks := [] })).ptlEnter p
    (if s.sideRelease (s.sideOf p) then .released else .closedLocked) 0

/-! ## Referencing and resynchronisation (R291, R292) -/

/-- An axis is referenced to a position num/den: preset to the nearest count where it has an encoder, otherwise its setpoint
is set; AX FLAGS.POS_UNCERTAIN clears (R292). -/
def State.reference (a : Fin 12) (num : Int) (den : Nat) (s : State) : State :=
  let cpr : Int := (s.com (.fb a) 0x050).toNat
  let t := if s.hasEncoder a then
      s.presetTo (fbOf a) (roundHalfUp (num * cpr) (den * 256 * max 1 (s.cf (.fb a) 0x054 0 16)))
    else s.alignAxis a (roundHalfUp num den) true
  t.modAx a (fun x => { x with flags := clrBit x.flags 7, referenced := true })

/-- A leaf has a valid position (R291). -/
def State.leafValid (s : State) (a : Fin 12) : Bool :=
  if s.hasEncoder a then s.fbValid (fbOf a) && !s.fb[fbOf a].uncertain else !bit s.ax[a].flags 7 && s.ax[a].referenced

/-- The position of a leaf: POS_US with an encoder, otherwise the setpoint (R292). -/
def State.leafPos (s : State) (a : Fin 12) : Int := if s.hasEncoder a then s.posUs a else s.ax[a].pos

/-- The FAULT causes of the members' dies and halts that stand, lowest first (Table 11-4, Table 11-5). -/
def State.haltCauses (s : State) (p : Fin 8) : List Nat :=
  let l := (s.membersOf p).map (·.1)
  let has (c : HaltCause) : Bool := l.any (fun a => c ∈ s.ax[a].halts)
  (if has .bridgeFault || has .planMismatch then [2] else []) ++ (if has .vmotUv || has .vmotOv then [3] else [])
    ++ (if has .thermal then [4] else []) ++ (if has .gateCut then [5] else [])
    ++ (if has .dieAbsent || l.any (fun a => s.dieAbsent (ploughDie a)) then [6] else [])

/-- Closed and locked by resynchronisation: leaves without a position, or off CLOSED by more than SW_OFS, are referenced. -/
def State.refClosed (p : Fin 8) (s : State) : State :=
  forAll (s.leaves p) (fun m t =>
    let c := t.closedPos p m.2.val
    if !t.leafValid m.1 || decide (t.ptlNum p 0x0B4 < (t.leafPos m.1 - c).natAbs) then (t.reference m.1 c 1).ptlMark p 8 2 else t) s

/-- Resynchronisation by the first row of Table 11-5 that holds (R291); `noPos` says that no position counts as valid. -/
def State.resync (p : Fin 8) (noPos : Bool) (s0 : State) : State :=
  let s := (s0.modPin p (fun i => { i with causes := [], stalls := [] })).modRun p (fun r =>
    { r with needRef := false, nudgeMark := false, learnable := false })
  let i := s.ptlIn[p]
  let valid := !noPos && (s.leaves p).all (fun m => s.leafValid m.1)
  let rel := s.sideRelease (s.sideOf p)
  match s.haltCauses p with
  | c :: _ =>
    if i.iso then s.ptlEnter p .isolated 0 else if i.egress then s.ptlEnter p .egress 0 else s.ptlEnter p .fault c
  | [] =>
    if i.iso then s.ptlEnter p .isolated 0
    else if i.egress then s.ptlEnter p .egress 0
    else if i.closedSw && i.lockedSw then (s.refClosed p).ptlEnter p (if rel then .released else .closedLocked) 0
    else if i.closedSw then s.toLocking p
    else if i.lockedSw then s.ptlEnter p .fault 11
    else if valid && rel then (if s.atOpen p then s else s.ptlMark p 4 5).toOpenState p false
    else if valid then s.toCloseWarn p
    else (s.modRun p (fun r => { r with needRef := true })).toCloseWarn p

/-! ## Obstacles (R280, R282) -/

/-- A trip: layer, member (3 for the portal), bin, FORCE field. -/
abbrev Trip := Nat × Nat × Nat × Nat

/-- The trip recorded of several: the lowest layer, and within it the lowest member (R282). -/
def leastTrip : List Trip → Option Trip
  | [] => none
  | t :: l => match leastTrip l with
    | none => some t
    | some u => if u.1 < t.1 || (u.1 = t.1 && decide (u.2.1 < t.2.1)) then some u else some t

/-- An obstacle is recorded and reported; `count` is 1 where it counts in the close, 2 in NUDGE, 0 in neither (R282). -/
def State.obsRecord (p : Fin 8) (l : List Trip) (count : Nat) (s : State) : State :=
  match leastTrip l with
  | none => s
  | some (layer, m, b, f) =>
    let word := mkWord [(0, 16, f), (16, 6, b), (26, 2, m), (28, 4, layer)]
    let s1 := s.modPtl p (fun x =>
      { x with
        lastObs := word, obsCount := inc x.obsCount 0xFFFF
        obsInClose := if count = 1 then inc x.obsInClose 15 else x.obsInClose
        nudgeObs := if count = 2 then inc x.nudgeObs 15 else x.nudgeObs })
    let s2 := ((s1.ptlFlag p 0).modRun p (fun r => { r with learnable := false })).modCyc p
      (fun c => { c with layers := l.foldl (fun w t => setBit w (t.1 - 1)) c.layers })
    (s2.statPtl p 2).ev (.ptl p) 0x3002 (leBytes 4 word.toNat ++ [b8 s2.ptl[p].obsInClose])

/-- An obstacle that another transition displaces is recorded in LAST_OBS and raises its event, and no more (R267). -/
def State.obsNote (p : Fin 8) (l : List Trip) (s : State) : State :=
  match leastTrip l with
  | none => s
  | some (layer, m, b, f) =>
    let word := mkWord [(0, 16, f), (16, 6, b), (26, 2, m), (28, 4, layer)]
    (s.modPtl p (fun x => { x with lastObs := word })).ev (.ptl p) 0x3002 (leBytes 4 word.toNat ++ [b8 s.ptl[p].obsInClose])

/-- T_EST × FORCE_K of a leaf where F is valid; F is this over 256,000 N (R264). -/
def State.forceNum (s : State) (p : Fin 8) (k : Fin 2) : Option Int :=
  match s.member p k.val with
  | some a => if s.ptlIn[p].fresh[k] && s.coil[a].laValid then some (s.coil[a].tEst * (s.ptlNum p 0x0BC : Nat)) else none
  | none => none

/-- F in 0.1 N; no rule says how it is rounded (R264, log 16). -/
def forceTenths (n : Int) : Int := freeRound 21 n 25600

/-- F_NOW of a leaf follows the period's estimate (R264). -/
def State.forceNow (p : Fin 8) (k : Fin 2) (s : State) : State :=
  s.modPtl p (fun x => { x with fNow := x.fNow.set k ((s.forceNum p k).map forceTenths) })

/-- The FORCE field of a leaf (R282). -/
def State.forceField (s : State) (p : Fin 8) (k : Nat) : Nat := if h : k < 2 then fHalf s.ptl[p].fNow[k] else 0x8000

/-- A leaf of the portal moves. -/
def State.leafMoves (s : State) (p : Fin 8) (k : Nat) : Bool := match s.member p k with | some a => s.ax[a].moves | none => false

/-- A leaf moves in its closing direction. -/
def State.leafCloses (s : State) (p : Fin 8) (k : Nat) : Bool :=
  s.leafMoves p k && (match s.member p k with
    | some a => (match s.ax[a].furrow with | q :: _ => q.neg = decide (0 < s.openDir p k) | [] => false)
    | none => false)

/-- The F_MAX layer's state: whether armed on a leaf, and the ceiling in 1/100 N (R280, R122). -/
def State.maxArmed (s : State) (p : Fin 8) (k : Nat) : Bool × Nat :=
  let x := s.ptl[p]
  let fmax := fld (s.limWord p 0) 16 16
  let scale := fld (s.limWord p 1) 24 8
  let live := s.leafMoves p k
  if s.mc.mode = .service then (s.leafMoves p k, 100 * min fmax s.cfg.svcFmax)
  else match x.st with
    | .closing => (live, if x.refRun then fmax * scale else 100 * fmax)
    | .nudge => (live, fmax * scale)
    | .opening | .reversing => (live, 100 * fmax)
    | .closedLocked | .released | .open | .closeWarn | .obstacleStop | .reopenHold | .locking | .isolated | .egress | .fault
    | .unused => (false, 100 * fmax)

/-- The ENVELOPE layer is armed on a leaf (R280, R293). -/
def State.envArmed (s : State) (p : Fin 8) (k : Nat) : Bool :=
  if s.mc.mode = .service then s.leafCloses p k
  else s.ptl[p].st = .closing && !s.ptl[p].refRun && s.leafMoves p k

/-- F of T_EST × FORCE_K = n exceeds a bin's mean and a margin in 1/2 N; only a bin with four samples applies (R280, R285). -/
def exceedsBin (l : List Int) (n : Int) (half : Nat) : Bool :=
  let c : Int := l.length
  decide (4 ≤ l.length) && decide ((l.foldl (· + ·) 0 + 5 * half * c) * 25600 < n * c)

/-- One leaf's forces of the period: F_NOW, F_PEAK, the runs of both layers, the peaks of the bins, NEAR_TRIP, what the record
keeps. Answers the trips of layers 1 and 2. -/
def State.leafForces (p : Fin 8) (k : Fin 2) (s : State) : List Trip × State :=
  let n? := s.forceNum p k
  let f? := n?.map forceTenths
  let s1 := s.forceNow p k
  match n?, f? with
  | some n, some f =>
    let x := s.ptl[p]
    let b := s.leafBin p k.val
    let l := s.envBin p k.val b
    let margin := fld (s.limWord p 0) 0 16
    let filt := max 1 (fld (s.limWord p 1) 0 8)
    let closing := (x.st = .closing || x.st = .nudge) && s.leafMoves p k.val
    let env := s.envArmed p k.val
    let mx := s.maxArmed p k.val
    let er := if env && exceedsBin l n (2 * margin) then s.ptlRun[p].envRun[k] + 1 else 0
    let mr := if mx.1 && decide ((mx.2 : Int) * 2560 < n) then s.ptlRun[p].maxRun[k] + 1 else 0
    let t1 : List Trip := if filt ≤ er then [(1, k.val, b, fHalf (some f))] else []
    let t2 : List Trip := if filt ≤ mr then [(2, k.val, b, fHalf (some f))] else []
    let near := env && exceedsBin l n margin
    let s2 := s1.modRun p (fun r =>
      { r with
        envRun := r.envRun.set k (if filt ≤ er then 0 else er), maxRun := r.maxRun.set k (if filt ≤ mr then 0 else mr)
        learnable := r.learnable && !near
        peaks := if x.st = .closing && s.leafMoves p k.val then
            (match r.peaks.find? (fun e => e.1 = k.val && e.2.1 = b) with
              | some e => if e.2.2 < f then (k.val, b, f) :: r.peaks.filter (fun e => ¬(e.1 = k.val ∧ e.2.1 = b)) else r.peaks
              | none => (k.val, b, f) :: r.peaks)
          else r.peaks })
    let s3 := s2.modCyc p (fun c =>
      let m := s.envMean p k.val b + 10 * margin - f
      let less := env && decide (4 ≤ l.length) && (match c.margin[k] with | some v => decide (m < v) | none => true)
      { c with
        peakClose := if closing then c.peakClose.set k (max c.peakClose[k] f) else c.peakClose
        peakOpen := if x.st = .opening && s.leafMoves p k.val then c.peakOpen.set k (max c.peakOpen[k] f) else c.peakOpen
        margin := if less then c.margin.set k (some m) else c.margin
        marginBin := if less then c.marginBin.set k b else c.marginBin })
    let s4 := if closing then s3.modPtl p (fun x =>
      { x with fPeak := x.fPeak.set k (some (match x.fPeak[k] with | some v => max v f | none => f)) }) else s3
    (t1 ++ t2, if near && s.mc.mode ≠ .service then s4.ptlMark p 7 3 else s4)
  | _, _ => ([], s1.modRun p (fun r => { r with envRun := r.envRun.set k 0, maxRun := r.maxRun.set k 0 }))

/-- What the period adds to the cycle record beside forces: times of own moves, speeds, supplies, temperatures; and the
conditions of R285 on the supply and thermal scale and on edges. -/
def State.cycleSample (p : Fin 8) (s : State) : State :=
  let x := s.ptl[p]
  let closing := x.st = .closing || x.st = .nudge
  let ds := (s.membersOf p).map (fun m => Fin.ofNat 2 (m.1.val / 6))
  let least (o : Option Nat) (v : Nat) : Option Nat := some (match o with | some w => min w v | none => v)
  let vm := ds.foldl (fun o d => least o s.pwr.vmot[d]) none
  let th := ds.foldl (fun (o : Option Int) d =>
    let t := sx 16 s.pwr.thEst[d]
    if s.pwr.thEst[d] = 0x8000 then o else some (match o with | some w => max w t | none => t)) none
  let s1 := s.modCyc p (fun c =>
    { c with
      vmin := #v[least c.vmin[0] s.pwr.vlog, (match vm with | some v => least c.vmin[1] v | none => c.vmin[1]), least c.vmin[2] s.pwr.vlsw]
      temp := (match c.temp, th with | some a, some b => some (max a b) | none, b => b | a, none => a) })
  let s2 := forAll (s1.membersOf p) (fun m t =>
    if !t.ax[m.1].moves then t
    else t.modCyc p (fun c =>
      { c with
        own := upd c.own m.2 (fun o => (o.1 + b2n (x.st = .opening), o.2 + b2n closing))
        vPeak := if h : m.2.val < 2 then (if closing then c.vPeak.set m.2.val (max c.vPeak[m.2.val] t.ax[m.1].vel.natAbs) else c.vPeak)
          else c.vPeak })) s1
  let bad := s.edgeActive p || s.edgeFault p || ds.any (fun d => s.pwr.sv[d] ≠ 1000000 || s.pwr.sT[d] ≠ 1000000)
    || (s.membersOf p).any (fun m => s.coil[m.1].vLim)
  if bad then s2.modRun p (fun r => { r with learnable := r.learnable && x.st ≠ .closing }) else s2

/-- A portal layer's trip: MEMBER 3, LEAF0's bin, FORCE 0x8000 (R282). -/
def State.portalTrip (s : State) (p : Fin 8) (layer : Nat) : Trip := (layer, 3, s.leafBin p 0, 0x8000)

/-- The trips of layers 3 to 6 (Table 11-3). Where the leaves of a reference close do not run, only a new actuation is declared. -/
def State.otherTrips (s : State) (p : Fin 8) : List Trip :=
  let x := s.ptl[p]
  let i := s.ptlIn[p]
  let h := s.ptlRun[p].phase
  let ref := x.refRun && h ≠ .refVel && h ≠ .refFinal
  let before := match i.edgeSeq with | some e => !i.lockedSw || decide (e < i.lockedSeq) | none => false
  let edge := match x.st with
    | .closing => if ref then i.edgeSeq.isSome else s.edgeKnown p
    | .nudge => s.edgeKnown p
    | .locking => before
    | .closedLocked | .released | .opening | .open | .closeWarn | .obstacleStop | .reversing | .reopenHold | .isolated | .egress
    | .fault | .unused => false
  let stalls := if s.mc.mode = .service then i.stalls
    else if x.st = .isolated then []
    else i.stalls.filter (fun m => ¬(m = 2 ∧ h = .refStep))
  let gap := (x.st = .closing || x.st = .nudge) && h = .gap && s.elapsed p .swClosed && !i.closedSw
  let lost := x.st = .locking &&
    (if i.lockedSw then i.closedLost && decide (i.closedSeq < i.lockedSeq) else !i.closedSw || i.closedLost)
  (if edge then [s.portalTrip p 3] else [])
    ++ stalls.map (fun m => (4, m, if m < 2 then s.leafBin p m else 0, s.forceField p m))
    ++ (if gap then [s.portalTrip p 5] else []) ++ (if lost then [s.portalTrip p 6] else [])

/-- An obstacle is taken in the portal's state: none where the state takes no obstacle (Table 11-2, R274, R279, R282, R292). -/
def State.obsTake (p : Fin 8) (l : List Trip) (s : State) : Option State :=
  let x := s.ptl[p]
  let r := s.ptlRun[p]
  let stepOnly := l.all (fun t => t.1 = 4 && t.2.1 = 2)
  let moving := x.st = .opening || x.st = .closing || x.st = .nudge || x.st = .reversing
  if l = [] then none
  else if stepOnly && moving && s.stepMode p ≠ 0 && !x.refRun then
    let s1 := (s.obsRecord p l (if x.st = .opening then 0 else if x.st = .nudge then 2 else 1)).obsStop p false
    if x.st = .nudge && decide (fld (s.limWord p 1) 20 4 ≤ s1.ptl[p].nudgeObs) then some (s1.ptlFault p 8)
    else if r.stepObs ≠ 0 then some (s1.ptlFault p 9)
    else
      let alone := r.phase = .stepOut || r.phase = .stepIn
      some (((s1.modRun p (fun r => { r with stepObs := 1 })).phase p (.stepWait alone)).timerStop p .step)
  else match x.st with
  | .opening =>
    if r.phase = .toOpen || r.phase = .unlock then none
    else some (((s.obsRecord p l 0).obsStop p false).phase p (if r.relStop then .toWarn else .toOpen))
  | .closing =>
    if x.refRun then
      if r.phase = .refObs || r.phase = .refHold then none
      else
        let s1 := (s.obsRecord p l 1).obsStop p false
        if fld (s.limWord p 1) 16 4 ≤ s1.ptl[p].obsInClose then some (s1.ptlFault p 10) else some (s1.phase p .refObs)
    else
      some ((((s.obsRecord p l 1).obsStop p true).ptlEnter p .obstacleStop 0).modRun p
        (fun r => { r with reverse := true, nudgeStop := false }))
  | .nudge =>
    let s1 := (s.obsRecord p l 2).obsStop p false
    if fld (s.limWord p 1) 20 4 ≤ s1.ptl[p].nudgeObs then some (s1.ptlFault p 8)
    else some ((s1.ptlEnter p .obstacleStop 0).modRun p (fun r => { r with reverse := false, nudgeStop := true }))
  | .reversing =>
    some ((((s.obsRecord p l 1).obsStop p false).ptlEnter p .obstacleStop 0).modRun p
      (fun r => { r with reverse := false, nudgeStop := false }))
  | .locking =>
    if l.any (fun t => t.1 = 3 || t.1 = 6) then
      some ((((s.obsRecord p l 1).ptlEnter p .reversing 0).obsStop p true).phase p .moves)
    else none
  | .closedLocked | .released | .open | .closeWarn | .obstacleStop | .reopenHold | .isolated | .egress | .fault | .unused => none

/-! ## The reference close (R292) -/

/-- The leaves' positions at the boundary that followed t_sw, and how long before it t_sw lies (R292). -/
def State.refSeen (p : Fin 8) (s : State) : Vector Int 2 × Nat :=
  let tsw := s.ptlIn[p].closedAt - s.sealFilt
  let at_ (k : Nat) : Int := match s.member p k with | some a => s.leafPos a | none => 0
  let e := match (s.ptlRun[p].hist.filter (fun e => tsw ≤ e.1 * periodCounts)).getLast? with | some e => e | none => (s.now, at_ 0, at_ 1)
  let dt := e.1 * periodCounts - tsw
  (#v[e.2.1, e.2.2], if periodCounts < dt then 0 else dt)

/-- The closed switch becomes active while a reference close runs, stops or waits: the leaves' positions at the boundary that followed t_sw
are kept (DEDUCED: a switch that was active before the first boundary of the close counts from that boundary; log 28). -/
def State.refMark (p : Fin 8) (s : State) : State :=
  let i := s.ptlIn[p]
  let h := s.ptlRun[p].phase
  if !s.ptl[p].refRun || !(h = .refVel || h = .refObs || h = .refHold) then s
  else if !i.closedSw then s.modRun p (fun r => { r with refAt := none })
  else if s.ptlRun[p].refAt = some i.closedAt then s
  else s.modRun p (fun r => { r with refAt := some i.closedAt, refPos := (s.refSeen p).1, refDt := (s.refSeen p).2 })

/-- The closed switch is reached in a reference close: every leaf stops (R292). -/
def State.refReached (p : Fin 8) (s : State) : State := (s.stopMembers p).phase p .refStop

/-- At rest, every leaf is referenced so that its position at t_sw reads CLOSED + od × SW_OFS; then it moves to CLOSED at
REF_V. The position stands for this t_sw from here on, should an obstacle send the leaves back to item 1. -/
def State.refSet (p : Fin 8) (s : State) : State :=
  let den := 256 * 160000000
  let run : Int := s.ptlNum p 0x0D0 * s.ptlRun[p].refDt
  let s1 := forAll (s.leaves p) (fun m t =>
    let k := m.2
    let od := t.openDir p k.val
    let num := (t.leafPos m.1 + t.closedPos p k.val + od * t.ptlNum p 0x0B4 - t.ptlRun[p].refPos[k]) * den - od * run
    t.reference m.1 num den) s
  let s1a := s1.modRun p (fun r => { r with
    hist := [], refDt := 0, refAt := if s.ptlIn[p].closedSw then some s.ptlIn[p].closedAt else none
    refPos := Vector.ofFn (fun (k : Fin 2) => s.closedPos p k.val + s.openDir p k.val * s.ptlNum p 0x0B4) })
  let s2 := ((s1a.ptlMark p 8 2).leafScale p 100).armLimits p
  (forAll (s2.leaves p) (fun m t => t.doorMove m.1 1 0 false (t.closedPos p m.2.val) 0 (t.closeSpeed p 0x0D0)) s2).phase p .refFinal

/-- The leaves of a reference close have come to CLOSED: the step runs to its stall, or LOCKING follows. -/
def State.refStepOrLock (p : Fin 8) (s : State) : State :=
  match s.member p 2 with
  | some a =>
    if s.stepMode p = 0 then s.toLocking p
    else (s.doorMove a 1 2 (decide (s.ptlPos p 0x0A0 < s.ptlPos p 0x0A8)) 0 (topSpeed (s.ptlNum p 0x0D0)) 0).phase p .refStep
  | none => s.toLocking p

/-- A reference close goes on: none where nothing is due. -/
def State.refGoOn (p : Fin 8) (s : State) : Option State :=
  let r := s.ptlRun[p]
  let far := (s.leaves p).any (fun m => decide (11 * s.travel p m.2.val ≤ 10 * (s.ax[m.1].pos - r.refFrom[m.2]).natAbs))
  match r.phase with
  | .refVel => if s.ptlIn[p].closedSw then some (s.refReached p) else if far then some (s.ptlFault p 10) else none
  | .refObs =>
    if s.allRest p then some ((s.phase p .refHold).timerStart p .refWait (ms (10 * s.cf (.ptl p) 0x0EC 16 16)))
    else none
  | .refHold =>
    if s.elapsed p .refWait then some (((s.timerStop p .refWait).refMoves p).phase p .refVel) else none
  | .refStop => if s.allRest p then some (s.refSet p) else none
  | .refFinal => if s.allRest p then some (s.refStepOrLock p) else none
  | .refStep => if s.ptlIn[p].stalls.contains 2 then some ((s.stopMembers p).phase p .refStepStop) else none
  | .refStepStop =>
    if !s.allRest p then none
    else match s.member p 2 with
      | some a => some ((s.reference a (s.ptlPos p 0x0A0) 1).toLocking p)
      | none => some (s.toLocking p)
  | .idle | .stopFirst | .unlock | .stepOut | .moves | .toWarn | .toOpen | .gap | .stepIn | .stepWait _ | .pulse => none

/-! ## Transitions (Table 11-2, R267) -/

/-- The gate-drive supply of a member is cut (R272). -/
def State.gateIsCut (s : State) (p : Fin 8) : Bool := (s.membersOf p).any (fun m => s.coil[m.1].gateCut)

/-- A change of release is due (R271): rank 5 of R267. -/
def State.relStep (p : Fin 8) (s : State) : Option State :=
  let rel := s.sideRelease (s.sideOf p)
  let h := s.ptlRun[p].phase
  match s.ptl[p].st with
  | .closedLocked =>
    if !rel then none
    else if bit (s.com (.ptl p) 0x0F8) 0 then some (s.toOpening p) else some (s.ptlEnter p .released 0)
  | .released => if rel then none else some (s.ptlEnter p .closedLocked 0)
  | .opening =>
    if rel || s.ptlRun[p].relStop then none
    else if h = .unlock then (if s.ptlIn[p].lockedSw then some (s.ptlEnter p .closedLocked 0) else some (s.toLocking p))
    else some ((((if h = .toOpen then s.ptlMark p 4 5 else s).releaseStop p).phase p .toWarn).modRun p (fun r => { r with relStop := true }))
  | .open => if rel then none else some (s.toCloseWarn p)
  | .closeWarn | .closing | .obstacleStop | .reversing | .reopenHold | .nudge | .locking | .isolated | .egress | .fault
  | .unused => none

/-- SF7 withholds power from the lock's solenoid, or the Switch die is absent (R277); the unlock then fails at once (DEDUCED,
log 78). -/
def State.unlockBarred (s : State) (p : Fin 8) : Bool :=
  let n := fld s.cfg.assign0[p] 22 5
  if h : n < 24 then s.lsw[(⟨n, h⟩ : Fin 24)].gated || s.dieAbsent 5 else false

/-- UNLOCK_FAIL (R277): back to RELEASED. -/
def State.unlockFail (p : Fin 8) (s : State) : State :=
  (((s.stopMembers p).ptlFlag p 3).statPtl p 6).ptlEnter p .released 0

/-- The step's move again after an obstacle on it, or the leaf moves that carry it along (R274). -/
def State.stepAgain (p : Fin 8) (alone : Bool) (s : State) : State :=
  let s1 := s.timerStop p .step
  match s.ptl[p].st with
  | .opening => if alone then (s1.stepMove p true).phase p .stepOut else (s1.openMoves p).phase p .moves
  | .closing => if alone then (s1.stepMove p false).phase p .stepIn else (s1.closeMoves p).phase p .moves
  | .nudge => if alone then (s1.stepMove p false).phase p .stepIn else (s1.nudgeMoves p).phase p .moves
  | .reversing => (s1.obsStop p true).phase p .moves
  | .closedLocked | .released | .open | .closeWarn | .obstacleStop | .reopenHold | .locking | .isolated | .egress | .fault
  | .unused => s1

/-- OPENING: a switch change, timer expiry or move completion. -/
def State.openingStep (p : Fin 8) (s : State) : Option State :=
  let i := s.ptlIn[p]
  let rest := s.allRest p
  match s.ptlRun[p].phase with
  | .stopFirst => if rest then some (s.startUnlock p) else none
  | .unlock => if !i.lockedSw then some ((s.timerStop p .unlock).startOpening p)
      else if s.unlockBarred p || s.elapsed p .unlock then some (s.unlockFail p) else none
  | .stepOut | .moves =>
    if i.lockedSw && s.elapsed p .unlock then some (s.unlockFail p)
    else if !rest then none
    else if s.ptlRun[p].phase = .stepOut then some ((s.openMoves p).phase p .moves)
    else if i.lockedSw && (s.deadline p .unlock).isSome then none
    else some (s.toOpenState p true)
  | .toWarn => if rest then some (s.toCloseWarn p) else none
  | .toOpen => if rest then some ((s.ptlMark p 4 5).toOpenState p false) else none
  | .stepWait alone => if rest && s.elapsed p .step then some (s.stepAgain p alone) else none
  | .idle | .gap | .stepIn | .pulse | .refVel | .refObs | .refHold | .refStop | .refFinal | .refStep | .refStepStop => none

/-- CLOSING or NUDGE: moves complete, the closed switch, the step. -/
def State.closingStep (p : Fin 8) (s : State) : Option State :=
  let i := s.ptlIn[p]
  let rest := s.allRest p
  let lock (s : State) : State := if s.stepMode p = 1 then (s.stepMove p false).phase p .stepIn else s.toLocking p
  match s.ptlRun[p].phase with
  | .moves => if !rest then none
      else if i.closedSw then some (lock s)
      else some ((s.phase p .gap).timerStart p .swClosed (ms (s.cf (.ptl p) 0x0F4 0 16)))
  | .gap => if i.closedSw then some (lock (s.timerStop p .swClosed)) else none
  | .stepIn => if rest then some (s.toLocking p) else none
  | .stepWait alone => if rest && s.elapsed p .step then some (s.stepAgain p alone) else none
  | .idle | .stopFirst | .unlock | .stepOut | .toWarn | .toOpen | .pulse | .refVel | .refObs | .refHold | .refStop | .refFinal
  | .refStep | .refStepStop => none

/-- LOCKING: the locked switch, LOCK_TMO and its retries (R276, R278). -/
def State.lockingStep (p : Fin 8) (s : State) : Option State :=
  if s.ptlIn[p].lockedSw then some (s.closeDone p)
  else if s.ptlRun[p].phase = .pulse then
    if s.elapsed p .retry then some (((s.timerStop p .retry).phase p .idle).timerStart p .lock (ms (s.cf (.ptl p) 0x0F0 16 16)))
    else none
  else if !s.elapsed p .lock then none
  else if s.ptlRun[p].retries < fld (s.limWord p 3) 4 3 then
    let s1 := ((s.ptlFlag p 2).statPtl p 4).modRun p (fun r => { r with retries := r.retries + 1, learnable := false, phase := .pulse })
    let s2 := (s1.timerStop p .lock).timerStart p .retry (ms 200)
    some (forAll (s2.leaves p) (fun m t => t.doorMove m.1 1 0 false (t.closedPos p m.2.val) 0 (t.closeSpeed p 0x0C8)) s2)
  else
    some (((s.modPtl p (fun x => { x with lockFails := inc x.lockFails 0xFFFF })).statPtl p 5).ptlFault p 7)

/-- The FAULT cause held still stands (Table 11-4); `limp` says that an ACK with LIMP lifts an encoder fault. -/
def State.faultStands (s : State) (p : Fin 8) (limp : Bool) : Bool :=
  let l := (s.membersOf p).map (·.1)
  match s.ptl[p].cause with
  | 1 => !limp && l.any (fun a => bit s.fb[fbOf a].flags 0)
  | 2 | 3 | 4 => (s.haltCauses p).contains s.ptl[p].cause
  | 5 => (s.haltCauses p).contains 5 || s.gateIsCut p
  | 6 | 12 => true
  | 11 => s.ptlIn[p].lockedSw && !s.ptlIn[p].closedSw
  | _ => false

/-- CLOSE_WARN: CW_T elapsed, no edge actuated (R270, R272). -/
def State.warnStep (p : Fin 8) (s : State) : Option State :=
  let x := s.ptl[p]
  if !s.elapsed p .cw || s.edgeKnown p then none
  else if s.gateIsCut p then (if x.gateWait then none else some (s.modPtl p (fun x => { x with gateWait := true })))
  else if s.ptlRun[p].needRef then some (s.startRef p)
  else some (s.startClose p (s.ptlRun[p].nudgeMark || decide (s.cf (.ptl p) 0x0E8 16 4 ≤ x.obsInClose) || s.faultKnown p))

/-- Coils of a portal in EGRESS are FREE once the members are at rest (R288). -/
def State.egressFree (p : Fin 8) (s : State) : State :=
  if !s.allRest p then s
  else forAll (s.membersOf p) (fun m t => if t.coil[m.1].coil = .free then t else t.modCoil m.1 (Coils.enter .free)) s

/-- A switch change, timer expiry or move completion is due: rank 6 of R267. -/
def State.otherStep (p : Fin 8) (s : State) : Option State :=
  let x := s.ptl[p]
  let i := s.ptlIn[p]
  let r := s.ptlRun[p]
  match x.st with
  | .closedLocked => if !i.lockedSw && i.closedSw then some (s.toLocking p) else none
  | .opening => s.openingStep p
  | .open => if s.elapsed p .autoClose then some (s.toCloseWarn p) else none
  | .closeWarn => s.warnStep p
  | .closing => if x.refRun then s.refGoOn p else s.closingStep p
  | .nudge => s.closingStep p
  | .obstacleStop =>
    if r.reverse then
      (if s.allRest p || [0, 1].any (fun k => s.leafMoves p k && !s.leafCloses p k) then some ((s.ptlEnter p .reversing 0).phase p .moves)
       else none)
    else if s.allRest p then some (s.toReopenHold p r.nudgeStop) else none
  | .reversing =>
    (match r.phase with
      | .stepWait alone => if s.allRest p && s.elapsed p .step then some (s.stepAgain p alone) else none
      | _ => if s.allRest p then some (s.toReopenHold p false) else none)
  | .reopenHold =>
    if s.elapsed p .nudgePause then some (s.startClose p true)
    else if s.elapsed p .reopen then some (s.toCloseWarn p) else none
  | .locking => s.lockingStep p
  | .isolated => if i.iso then none else some (s.resync p false)
  | .fault =>
    if (x.cause = 3 || x.cause = 4 || x.cause = 5) && bit (s.com (.ptl p) 0x0F8) 3 && !s.faultStands p false then some (s.resync p false)
    else none
  | .released | .egress | .unused => none

/-- The FAULT cause due, lowest first (R267, R275, R289). -/
def State.causeDue (s : State) (p : Fin 8) : Option Nat :=
  ((s.ptlIn[p].causes ++ s.haltCauses p ++ (if s.elapsed p .swConflict then [11] else [])).foldl
    (fun (m : Option Nat) c => some (match m with | some k => min k c | none => c)) none)

/-- The first transition in the order of R267, requests apart, and whether one was applied. An obstacle that is displaced is
noted only (R267); one that the state does not take is recorded and stops nothing (R282). -/
def State.ptlTransit (p : Fin 8) (l : List Trip) (s : State) : Bool × State :=
  let x := s.ptl[p]
  let i := s.ptlIn[p]
  if i.iso && x.st ≠ .isolated then (true, (((s.stopMembers p).leafScale p 100).ptlEnter p .isolated 0).obsNote p l)
  else if i.egress && x.st ≠ .isolated && x.st ≠ .egress then
    (true, (((s.stopMembers p).leafScale p 100).ptlEnter p .egress 0).obsNote p l)
  else
    let out := x.st = .isolated || x.st = .egress || x.st = .fault
    match (if out then none else s.causeDue p) with
    | some c => (true, (s.ptlFault p c).obsNote p l)
    | none =>
      match s.obsTake p l with
      | some t => (true, t)
      | none =>
        let s1 := s.obsRecord p l 0
        match s1.relStep p with
        | some t => (true, t)
        | none => match s1.otherStep p with
          | some t => (true, t)
          | none => (false, s1)

/-! ## Requests (R267, R270, R290, R293) -/

/-- A request that applies in the present state, with its effect; none where it does not apply. -/
def State.reqApply (p : Fin 8) (code : Nat) (s : State) : Option State :=
  let x := s.ptl[p]
  let r := s.ptlRun[p]
  let rel := s.sideRelease (s.sideOf p)
  match code, x.st with
  | 1, .released => if rel then some (s.toOpening p) else none
  | 1, .closeWarn | 1, .closing | 1, .reopenHold =>
    if rel && !r.nudgeMark && !x.refRun && !r.needRef then some (s.toOpening p) else none
  | 2, .opening => if r.phase = .toWarn then none else some ((s.stopMembers p).phase p .toWarn)
  | 2, .open => some (s.toCloseWarn p)
  | 3, .open => some ((s.toCloseWarn p).modRun p (fun r => { r with nudgeMark := true }))
  | 3, .closing =>
    if x.refRun then none
    else some ((s.startClose p true).modRun p (fun r => { r with nudgeMark := true }))
  | 4, .egress => if s.ptlIn[p].egress then none else some (s.resync p false)
  | 4, .fault =>
    if s.faultStands p (bit (s.com (.ptl p) 0x0F8) 2) then none else some (s.resync p (x.cause = 1))
  | _, _ => none

/-- A request is refused: on the page, or in the outcome of the program's handle (R267, R370). -/
def State.reqRefuse (p : Fin 8) (q : PtlReq) (s : State) : State :=
  if q.handle = 0 then s.err (.ptl p) 0x40 0 0x040
  else { s with prgx := { s.prgx with outcomes := s.prgx.outcomes.map (fun o => if o.1 = q.handle then (o.1, 0x40, o.2.2) else o) } }

/-- The waiting requests in SEQ order: at most one applies, and none where a transition was applied already; one that does not
apply in the state that results is refused, one that does waits for the next evaluation (R267). -/
def State.reqAll (p : Fin 8) (done : Bool) (s : State) : State :=
  let l := s.ptlIn[p].reqs
  let s0 := s.modPin p (fun i => { i with reqs := [] })
  (l.foldl (fun (acc : Bool × State) q =>
    match acc.2.reqApply p q.code with
    | none => (acc.1, acc.2.reqRefuse p q)
    | some t => if acc.1 then (true, acc.2.modPin p (fun i => { i with reqs := i.reqs ++ [q] })) else (true, t)) (done, s0)).2

/-! ## Outputs (R269) -/

/-- The solenoid command of Table 11-1. -/
def solenoidOn (st : PtlState) (h : PtlPhase) : Bool :=
  match st with
  | .opening | .open | .closeWarn | .closing | .obstacleStop | .reversing | .reopenHold | .nudge => true
  | .locking => h = .pulse
  | .closedLocked | .released | .isolated | .egress | .fault | .unused => false

/-- The chime command of Table 11-1, none where it stays as it is. -/
def chimeOn (st : PtlState) (ref nudgeStop : Bool) : Option Bool :=
  match st with
  | .closeWarn | .nudge => some true
  | .closing => some ref
  | .reopenHold => some nudgeStop
  | .obstacleStop => none
  | .closedLocked | .released | .opening | .open | .reversing | .locking | .isolated | .egress | .fault | .unused => some false

/-- The door cycle commands a load channel, where its state differs (R269, R334). -/
def State.doorLoad (n : Nat) (on : Bool) (s : State) : State :=
  if h : n < 24 then
    let c : Fin 24 := ⟨n, h⟩
    if s.lsw[c].cmd = b2n on || (s.lswRefusal .doorCycle c).isSome then s else (s.lswSet c (b2n on) s.lsw[c].cmdDuty).lswDeliver
  else s

/-- Solenoid and chime follow the state. -/
def State.ptlOutputs (p : Fin 8) (s : State) : State :=
  let x := s.ptl[p]
  let r := s.ptlRun[p]
  let w := s.cfg.assign0[p]
  let s1 := s.doorLoad (fld w 22 5) (solenoidOn x.st r.phase)
  match chimeOn x.st x.refRun (x.st = .reopenHold && r.nudgeStop) with
  | some on => s1.doorLoad (fld w 27 5) on
  | none => s1

/-! ## The evaluation (R266, R293) -/

/-- Forces of both leaves, with their trips. -/
def State.ptlForces (p : Fin 8) (s : State) : List Trip × State :=
  let a := s.leafForces p 0
  let b := a.2.leafForces p 1
  (a.1 ++ b.1, b.2)

/-- Reports that need no transition: early closed switch, open switch, locked without closed (R275), and the closing time; a lock that
is open ends the time of its unlock (R277). -/
def State.switchChecks (p : Fin 8) (s : State) : State :=
  let x := s.ptl[p]
  let i := s.ptlIn[p]
  let rose := i.closedSw && !s.ptlRun[p].closedWas
  let lim := s.ptlNum p 0x0B0 + s.ptlNum p 0x0B4
  let early := rose &&
    (s.leaves p).any (fun m => decide (lim < (s.leafPos m.1 - s.closedPos p m.2.val).natAbs))
  let s1 := if early then s.swDisagree p else s
  let s2 := if (x.st = .closing || x.st = .nudge) && rose then s1.timePhase p 4 else s1
  let s3 := if i.openSw then s2.timerStop p .swOpen
    else if s2.elapsed p .swOpen then (s2.swDisagree p).timerStop p .swOpen else s2
  let s4 := if i.lockedSw && !i.closedSw then
      (if (s3.deadline p .swConflict).isSome then s3 else s3.timerStart p .swConflict (ms (s.cf (.ptl p) 0x0F4 0 16)))
    else s3.timerStop p .swConflict
  let s5 := if x.st = .opening && !i.lockedSw then
      (if s.cyc[p].unlocking then (s4.timePhase p 0).modCyc p (fun c => { c with unlocking := false }) else s4).timerStop p .unlock
    else s4
  s5.modRun p (fun r => { r with closedWas := i.closedSw })

/-- What an evaluation has used up: forces, stalls, causes, edges. -/
def State.ptlUsedUp (p : Fin 8) (s : State) : State :=
  s.modPin p (fun i =>
    { i with
      fresh := Vector.replicate 2 false, stalls := [], causes := [], edgeSeq := none, edgeHeld := i.edgeHeld && s.edgeActive p
      closedLost := false })

/-- A step that an obstacle has stopped is at rest: REOPEN_T runs from here (R274). -/
def State.stepRests (p : Fin 8) (s : State) : State :=
  match s.ptlRun[p].phase with
  | .stepWait _ => if s.allRest p && (s.deadline p .step).isNone then s.timerStart p .step (ms (10 * s.cf (.ptl p) 0x0EC 16 16)) else s
  | _ => s

/-- A portal in RUN or DEGRADED. -/
def State.ptlRunEval (p : Fin 8) (s : State) : State :=
  let f := s.ptlForces p
  let s1 := (((f.2.cycleSample p).switchChecks p).stepRests p).refMark p
  let t := s1.ptlTransit p (f.1 ++ s1.otherTrips p)
  let s2 := (t.2.reqAll p t.1).ptlOutputs p
  (if s2.ptl[p].st = .egress then s2.egressFree p else s2).ptlUsedUp p

/-- A portal follows its inputs and nothing is issued (R293). -/
def State.ptlTrack (p : Fin 8) (s : State) : State :=
  let i := s.ptlIn[p]
  if i.iso then s.ptlEnter p .isolated 0
  else if i.egress then s.ptlEnter p .egress 0
  else if i.closedSw && i.lockedSw then s.ptlEnter p .closedLocked 0
  else s.ptlEnter p .fault 12

/-- A portal in SERVICE: it tracks, and a trip stops its axis at OBS_DEC without reversal (R293). -/
def State.ptlServiceEval (p : Fin 8) (s : State) : State :=
  let s0 := (s.ptlTrack p).modPtl p (fun x => { x with suspended := true })
  let f := s0.ptlForces p
  let l := f.1 ++ (f.2.otherTrips p).filter (fun t => t.1 = 4)
  let s1 := f.2.obsRecord p l 0
  (forAll (s1.membersOf p) (fun m t =>
    if l.any (fun e => e.2.1 = m.2.val) && !t.axRest m.1 then t.accept m.1 (.obstacle (t.ptlNum p 0x0D8) none) else t) s1).ptlUsedUp p

/-- What stands whatever the mode: KE_LIMITED, EDGE_FAULT while an edge reads fault, and s_app of a leaf whose move has ended (R265,
R273, R281). -/
def State.ptlStanding (p : Fin 8) (s : State) : State :=
  let s1 := s.keCheck p
  let s2 := if (s1.edgesOf p).any (fun e => s1.edges[e].reading = 3) then s1.ptlFlag p 6 else s1
  forAll (s2.leaves p) (fun m t => if t.axRest m.1 then t.modCoil m.1 (fun c => { c with sApp := 100 }) else t) s2

/-- One portal at an evaluation, by mode (R293). -/
def State.ptlEval (p : Fin 8) (s0 : State) : State :=
  if !s0.ptlUsed p then s0
  else
    let s := (s0.modPin p (fun i => { i with openSw := s0.dinSeq (fld s0.cfg.assign0[p] 16 6) })).ptlStanding p
    match s.mc.mode with
    | .run | .degraded => (s.modPtl p (fun x => { x with suspended := false })).ptlRunEval p
    | .service => s.ptlServiceEval p
    | .config | .safeHold =>
      (((((s.ptlTrack p).modPtl p (fun x => { x with suspended := false })).forceNow p 0).forceNow p 1).modRun p (fun r =>
        { r with envRun := Vector.replicate 2 0, maxRun := Vector.replicate 2 0 })).ptlUsedUp p
    | .sleep | .boot | .standby => s

/-- ALL_LOCKED of a side (R297): set, with its flag and event, when the condition begins. -/
def State.sideLocked (d : Fin 2) (s : State) : State :=
  let l := s.portalsOf d
  let now := l ≠ [] && l.all (fun p => s.ptl[p].st = .closedLocked || s.ptl[p].st = .released || s.ptl[p].st = .isolated)
  let s1 := { s with side := upd s.side d (fun x => { x with allLocked := now }) }
  if now && !s.side[d].allLocked then (s1.sideFlag d 2).ev (.side d) 0x3102 [1] else s1

/-- Every portal is evaluated at the present instant (R266). -/
def State.doorEval (s : State) : State :=
  let s1 := forAll (List.finRange 8) (fun p t => t.ptlEval p) { s with doorAt := s.tb }
  (s1.sideLocked 0).sideLocked 1

/-- The next evaluation's instant: offset 3,000 of a period, not before now, once per period (R266). -/
def State.nextDoor (s : State) : Nat :=
  let t := if s.tb % 10000 ≤ 3000 then s.tb / 10000 * 10000 + 3000 else (s.tb / 10000 + 1) * 10000 + 3000
  if t ≤ s.doorAt then s.doorAt + 10000 else t

/-- The next evaluation takes place. -/
def State.doorNext (s : State) : State := (s.to s.nextDoor).doorEval

/-- DOOR_CYCLE_EVAL (R266). -/
def execDoorCycleEval (s : State) : Host.Outcome State Fault Refusal := .next s.doorNext

/-- A timer of a portal runs out and the evaluation at its end takes it (R266, R270). -/
def State.timerEnds (p : Fin 8) (l : List Timer) (s : State) : State :=
  match (l.filterMap (s.deadline p)) with
  | [] => s
  | d :: ds => (s.to (ds.foldl min d)).doorNext

/-- CW_T_EXPIRY (R270). -/
def execCwTExpiry (p : Fin 8) (s : State) : Host.Outcome State Fault Refusal := .next (s.timerEnds p [.cw])

/-- REOPEN_T_EXPIRY (R270): REOPEN_T or NUDGE_PAUSE, in REOPEN_HOLD and wherever else R274 and R292 wait REOPEN_T. -/
def execReopenTExpiry (p : Fin 8) (s : State) : Host.Outcome State Fault Refusal :=
  .next (s.timerEnds p [.reopen, .nudgePause, .refWait, .step])

/-- AUTO_CLOSE_EXPIRY (R270). -/
def execAutoCloseExpiry (p : Fin 8) (s : State) : Host.Outcome State Fault Refusal := .next (s.timerEnds p [.autoClose])

/-- UNLOCK_TMO_EXPIRY (R277). -/
def execUnlockTmoExpiry (p : Fin 8) (s : State) : Host.Outcome State Fault Refusal := .next (s.timerEnds p [.unlock])

/-- LOCK_TMO_EXPIRY (R278). -/
def execLockTmoExpiry (p : Fin 8) (s : State) : Host.Outcome State Fault Refusal := .next (s.timerEnds p [.lock])

/-- LOCK_RETRY_PULSE_END (R278). -/
def execLockRetryPulseEnd (p : Fin 8) (s : State) : Host.Outcome State Fault Refusal := .next (s.timerEnds p [.retry])

/-- SW_TMO_EXPIRY (R275). -/
def execSwTmoExpiry (p : Fin 8) (s : State) : Host.Outcome State Fault Refusal :=
  .next (s.timerEnds p [.swClosed, .swOpen, .swConflict])

/-! ## Requests as they arrive (Table 11-8, R293, R297) -/

/-- A request to a portal: the code of its refusal on arrival, or none and the state with it taken or waiting. -/
def State.ptlRequest (p : Fin 8) (host : Bool) (code handle : Nat) (s : State) : Option Nat × State :=
  if code = 5 then (none, s.envClear p)
  else if code = 0 || 5 < code then (some 0x42, s)
  else if host && !bit (s.com (.ptl p) 0x0F8) 1 then (some 0x41, s)
  else if !s.ptlUsed p || !(s.mc.mode = .run || s.mc.mode = .degraded) then (some 0x40, s)
  else (none, s.modPin p (fun i => { i with reqs := i.reqs ++ [⟨code, handle⟩] }))

/-- A write of REQ by host software. -/
def State.ptlReqWrite (p : Fin 8) (w : Word) (s : State) : State :=
  match s.ptlRequest p true (fld w 0 4) 0 with
  | (some code, _) => s.err (.ptl p) code 0 0x040
  | (none, t) => t

/-- A write of REQ through the page's checks; codes 1 to 4 stay writable while the page is locked (R145, R296). -/
def State.hostReq (p : Fin 8) (code : Nat) (s : State) : State :=
  let w := BitVec.ofNat 32 code
  s.gated (.ptl p) 0x040 w (1 ≤ code && code ≤ 4) (State.ptlReqWrite p w)

/-- PTL_OPEN (R270). -/
def execPtlOpen (p : Fin 8) (s : State) : Host.Outcome State Fault Refusal := .next (s.hostReq p 1)

/-- PTL_CLOSE (R270). -/
def execPtlClose (p : Fin 8) (s : State) : Host.Outcome State Fault Refusal := .next (s.hostReq p 2)

/-- PTL_NUDGE (R270). -/
def execPtlNudge (p : Fin 8) (s : State) : Host.Outcome State Fault Refusal := .next (s.hostReq p 3)

/-- PTL_ACK (R290). -/
def execPtlAck (p : Fin 8) (s : State) : Host.Outcome State Fault Refusal := .next (s.hostReq p 4)

/-- ENV_CLR (R286). -/
def execEnvClr (p : Fin 8) (s : State) : Host.Outcome State Fault Refusal := .next (s.hostReq p 5)

/-- A request to every portal of a side, in ascending order; a refusal is reported on the portal's page (R297). -/
def State.sideRequest (d : Fin 2) (host : Bool) (code : Nat) (s : State) : State :=
  forAll (s.portalsOf d) (fun p t =>
    match t.ptlRequest p host code 0 with
    | (some c, _) => t.err (.ptl p) c 0 0x040
    | (none, u) => u) s

/-- A write of REQ on a SIDE page (Table 11-10). -/
def State.sideReqWrite (d : Fin 2) (w : Word) (s : State) : State :=
  match fld w 0 2 with
  | 1 => s.sideRequest d true 1
  | 2 => s.sideRequest d true 2
  | _ => s.err (.side d) 0x42 0 0x040

/-- OPEN_ALL (R297). -/
def execOpenAll (d : Fin 2) (s : State) : Host.Outcome State Fault Refusal :=
  .next (s.gated (.side d) 0x040 1 true (State.sideReqWrite d 1))

/-- CLOSE_ALL (R297). -/
def execCloseAll (d : Fin 2) (s : State) : Host.Outcome State Fault Refusal :=
  .next (s.gated (.side d) 0x040 2 true (State.sideReqWrite d 2))

/-! ## Sensitive edges on Gauge (R281) -/

/-- Classes of a resistance in Ω: 1 normal, 2 actuated, 3 fault. -/
def edgeClass (ohm : Nat) : Nat := if ohm < 2000 then 2 else if 6500 ≤ ohm ∧ ohm ≤ 10000 then 1 else 3

/-- Change an edge. -/
def State.modEdge (e : Fin 16) (f : Edge → Edge) (s : State) : State := { s with edges := upd s.edges e f }

/-- SEDG_SAMPLE (R281): the edge measures `ohm` Ω. A reading is accepted after 2 samples, a fault after 100; an accepted
actuation increments EDGE_COUNT and raises EDGE on each portal of the edge. The source of the edges is off between a reset and the
start-up (R49). -/
def execSedgSample (e : Fin 16) (ohm : Nat) (s : State) : Host.Outcome State Fault Refusal :=
  if !s.domOn 8 || !s.boot.started then .next s else
  let k := edgeClass ohm
  let s1 := s.modEdge e (fun x => { x with last := k, run := if x.last = k then min (x.run + 1) 100 else 1, ohm := ohm })
  let x := s1.edges[e]
  if x.reading = k || k = 3 || x.run < 2 then .next s1
  else
    let s2 := s1.modEdge e (fun x => { x with reading := k, since := s.tb })
    if k ≠ 2 then .next s2
    else .next (forAll (s2.edgeUsers e) (fun p t =>
      (((t.modPtl p (fun x => { x with edgeCount := inc x.edgeCount 0xFFFF })).modRun p (fun r => { r with learnable := false })).statPtl
        p 8).raise 6 (evSource (.ptl p)) 0x3003 [b8 e.val]) s2)

/-- EDGE_FAULT_DETECT (R281): the edge has read fault for 100 samples in a row. -/
def execEdgeFaultDetect (e : Fin 16) (s : State) : Host.Outcome State Fault Refusal :=
  let x := s.edges[e]
  if x.last ≠ 3 || x.run < 100 || x.reading = 3 then .next s
  else
    let s1 := s.modEdge e (fun x => { x with reading := 3, since := s.tb })
    .next (forAll (s1.edgeUsers e) (fun p t =>
      (((t.ptlFlag p 6).modPin p (fun i => { i with faultHeld := t.faultKnown p })).modRun p (fun r => { r with learnable := false })).raise 6 (evSource (.ptl p)) 0x3004
        ([b8 e.val, 0] ++ leBytes 2 (min x.ohm 0xFFFF))) s1)

/-- EDGE_FAULT_CLEAR (R281): every edge of the portal has read normal for 1 s. -/
def execEdgeFaultClear (p : Fin 8) (s : State) : Host.Outcome State Fault Refusal :=
  let l := s.edgesOf p
  if !s.edgeFault p || l.any (fun e => s.edges[e].reading ≠ 1) then .next s
  else
    let t := l.foldl (fun m e => max m (s.edges[e].since + ms 1000)) s.tb
    .next (((s.to t).modPtl p (fun x => { x with flags := clrBit x.flags 6 })).modPin p (fun i => { i with faultHeld := true }))

/-- A W1C write to PTL FLAGS: EDGE_FAULT is set again while its cause stands, which is until every edge has read normal for 1 s
(R281, Table 11-8; DEDUCED, log 59). -/
def State.ptlFlagsWrite (p : Fin 8) (w : Word) (s : State) : State :=
  let stands := (s.edgesOf p).any (fun e => s.edges[e].reading = 3
    || (s.edgeFault p && (s.edges[e].reading ≠ 1 || decide (s.tb < s.edges[e].since + ms 1000))))
  let s1 := s.modPtl p (fun x => { x with flags := x.flags &&& ~~~w })
  if bit w 6 && stands then s1.ptlFlag p 6 else s1

/-- A W1C write to SIDE FLAGS. -/
def State.sideFlagsWrite (d : Fin 2) (w : Word) (s : State) : State :=
  { s with side := upd s.side d (fun x => { x with flags := x.flags &&& ~~~w }) }

/-! ## Entry to a mode (R291, R293) -/

/-- The portals on entry to RUN or DEGRADED: each is resynchronised (R291). -/
def State.ptlEnterRun (s : State) : State :=
  forAll (List.finRange 8) (fun p t =>
    if t.ptlUsed p then
      (((t.modPtl p (fun x => { x with suspended := false })).modRun p (fun r =>
        { r with closedWas := t.ptlIn[p].closedSw })).resync p false).ptlOutputs p
    else t) s

/-- The portals on leaving RUN and DEGRADED: waiting requests are dropped, since nothing is held for a later mode (R293). -/
def State.ptlLeaveRun (s : State) : State :=
  forAll (List.finRange 8) (fun p t =>
    (t.modPin p (fun i => { i with reqs := [], timers := [] })).modRun p (fun r =>
      { r with envRun := Vector.replicate 2 0, maxRun := Vector.replicate 2 0, phase := .idle, learnable := false, needRef := false, newClose := true, force := none })) s

/-- A release half of a side arrives from its channel (R271): RELEASE, the SIDE flags and RELEASE_COUNT follow the combination. -/
def State.setRelease (d : Fin 2) (grd sbx : Bool) (s : State) : State :=
  let x := s.side[d]
  if x.relGrd = grd && x.relSbx = sbx then s
  else
    let was := x.relGrd && x.relSbx
    let now := grd && sbx
    let s1 := { s with side := upd s.side d (fun x =>
      { x with relGrd := grd, relSbx := sbx, release := now, count := if now && !was then inc x.count 0xFFFFFFFF else x.count }) }
    if now = was then s1
    else ((if now then (s1.sideFlag d 0).statVeh d.val 1 else s1.sideFlag d 1)).ev (.side d) 0x3101 [b8 (b2n now), b8 (b2n grd), b8 (b2n sbx)]

end Sys2Proof.Machine
end

