-- ==== Sys2Proof/Machine/Station.lean ====
section
/-! DEFINITION. Remote stations: the station protocol on CAN (R387 to R393). -/

namespace Sys2Proof.Machine

/-- Change a station. -/
def State.modStn (i : Fin 16) (f : Stn → Stn) (s : State) : State := { s with stn := upd s.stn i f }

/-- The smallest CAN FD DLC that carries `n` bytes (R387). -/
def dlcFor (n : Nat) : Nat :=
  if n ≤ 8 then n
  else if n ≤ 12 then 9 else if n ≤ 16 then 10 else if n ≤ 20 then 11 else if n ≤ 24 then 12 else if n ≤ 32 then 13
  else if n ≤ 48 then 14 else 15

/-- Bytes of a frame that carries a payload of `n` bytes, its padding included (R387). -/
def frameLen (n : Nat) : Nat := dlcLen true false (dlcFor n)

/-- A station frame enters the FIFO of a controller, or finds no place there (R387). Answers whether it was queued. -/
def State.stnFrame (n : Nat) (type i ctr : Nat) (payload : List Byte) (exch : Option Nat) (s : State) : Bool × State :=
  if h : n < 4 then
    let c : Fin 4 := ⟨n, h⟩
    if 32 ≤ s.can[c].fifo.length then (false, s)
    else
      let id := 0x1E000000 + type * 0x100000 + i * 0x10000 + ctr % 256 * 0x100
      (true, s.canQueue c (mkWord [(0, 29, id), (29, 1, 1)]) (mkWord [(0, 4, dlcFor payload.length), (4, 1, 1)]) payload exch)
  else (false, s)

/-- An event of a page and code waits for its SEQ. -/
def State.evHeld (s : State) (p : PageId) (code : Nat) : Bool :=
  s.seq.held.any (fun e => e.source = evSource p && e.code = code)

/-- A station changes its state: the program's flag, and input flag [5] of the next freeze (R394, Table 14-5). -/
def State.stnTo (i : Fin 16) (st : StnState) (s : State) : State :=
  if s.stn[i].st = st then s
  else
    let t := (s.modStn i (fun x => { x with st := st })).prgFlag 8
    { t with prg := { t.prg with inFlags := setBit t.prg.inFlags 5 } }

/-- An error record for the error task at the next cycle, with the SEQ it is ordered by (R375). -/
def State.errDue (cause arg seq : Nat) (s : State) : State :=
  { s with prgx := { s.prgx with errors := s.prgx.errors ++ [⟨cause, arg, seq⟩] } }

/-- A station takes part in exchanges (R390). -/
def StnState.exchanges : StnState → Bool
  | .joining | .ready | .present => true
  | .unconfigured | .absent | .lost | .refused => false

/-- One OUT with a new counter: the output bytes, which count as delivered once the frame is queued, or a probe without payload (R390, R391,
R396). -/
def State.stnOut (i : Fin 16) (payload : List Byte) (s : State) : State :=
  let x := s.stn[i]
  match s.cfg.stn[i].bus with
  | none => s
  | some n =>
    if !x.st.exchanges then s
    else
      let c := (x.counter + 1) % 256
      let s1 := s.modStn i (fun x => { x with counter := c, flights := x.flights ++ [(c, none)] })
      match s1.stnFrame n 1 i.val c payload (some i.val) with
      | (true, t) => if payload ≠ [] then t.modStn i (fun x => { x with delivered := payload }) else t
      | (false, t) => t.modFlight i.val c (fun e => some (e.1, some t.tb))

/-! ## R117 -/

/-- MODE_CAUSE shows why a mode is not left. -/
def State.causeTo (cause : Nat) (s : State) : State := { s with mc := { s.mc with cause := cause } }

/-- Every configured station has joined. -/
def State.allJoined (s : State) : Bool :=
  (List.finRange 16).all (fun i => s.cfg.stn[i].bus.isNone || s.stn[i].st = .ready || s.stn[i].st = .present)

/-- R117 is satisfied. -/
def State.mayLeave (s : State) : Bool :=
  s.boot.cfgOk && s.boot.prgOk && s.boot.retOk && (s.boot.joinOver || s.allJoined)

/-- The moment R117 is satisfied is noted, and MODE_CAUSE shows WAIT_HOST where a request is needed (R117, R477). -/
def State.noteLeave (s : State) : State :=
  if s.mc.mode = .config && s.mayLeave && s.pairx.electAt.isNone then
    let t := { s with pairx := { s.pairx with electAt := some s.tb } }
    if t.cfg.autoRun then t else t.causeTo 0x32
  else s

/-- A good exchange (R390): counts, inputs, and the states of Table 14-13; the last join may satisfy R117. The STN_READY record
comes with the event's SEQ (R375). -/
def State.stnGood (i : Fin 16) (ctr : Nat) (data : List Byte) (s : State) : State :=
  let k := s.cfg.stn[i]
  let s2 := s.modStn i (fun x =>
    { x with
      flights := x.flights.filter (fun e => e.1 ≠ ctr), exch := inc x.exch 0xFFFFFFFF, missRun := 0
      goodRun := x.goodRun + 1, latest := data.take k.inLen })
  if s2.stn[i].st = .joining && decide (k.goodN ≤ s2.stn[i].goodRun) then
    let new : StnState := if s2.mc.mode = .config then .present else .ready
    let s3 := ((s2.stnTo i new).modStn i (fun x => { x with acked := false })).stnFlag i 1
    (s3.ev (.stn i) 0x7101 [b8 s3.stn[i].version, b8 new.code]).noteLeave
  else s2

/-- ST_STATUS is that of the last IN, and FLAGS[5] follows its bit 0; in v1 the status is 0 (R388, R396). -/
def State.stnStatus (i : Fin 16) (status : Nat) (s : State) : State :=
  let v2 := s.stn[i].version = 2
  let t := s.modStn i (fun x => { x with status := if v2 then status % 256 else 0 })
  if v2 && status % 2 = 1 then t.stnFlag i 5 else t

/-- STN_IN (R390): an IN frame with its counter, status and payload ends at `t` on the station's controller; the ring takes the
frame by CAN_FRAME_RX. -/
def execStnIn (i : Fin 16) (ctr status : Nat) (data : List Byte) (t : Nat) (s0 : State) : Host.Outcome State Fault Refusal :=
  if !s0.stn[i].st.exchanges || s0.mc.mode = .standby then .next (s0.to t)
  else
    let s := (s0.to t).stnStatus i status
    match s.stn[i].flights.find? (fun e => e.1 = ctr % 256) with
    | some (_, some t0) =>
      if t0 + s.cfg.stn[i].replyTmo * 16000 < t then .next s
      else if data.length ≠ frameLen s.cfg.stn[i].inLen then .next (s.stnFlag i 3)
      else .next (s.stnGood i (ctr % 256) data)
    | _ => .next s

/-- Frames of a station that wait in a controller's FIFO are taken out of it; the attempt of one that is on the bus already is its
last (R392). -/
def State.stnDrop (i : Fin 16) (s : State) : State :=
  match s.cfg.stn[i].bus with
  | some n => if h : n < 4 then
      s.modCan ⟨n, h⟩ (fun c =>
        { c with fifo := (c.fifo.take (b2n c.txActive)) ++ (c.fifo.drop (b2n c.txActive)).filter (fun f => f.stn ≠ some i.val)
                 dropping := c.dropping || (c.txActive && c.fifo.head?.any (fun f => f.stn = some i.val)) })
    else s
  | none => s

/-- A station becomes LOST (R390, R392): nothing more is sent to it. -/
def State.stnLost (i : Fin 16) (s : State) : State :=
  let s1 := (((s.stnDrop i).stnTo i .lost).modStn i (fun x => { x with drops := inc x.drops 0xFFFF, flights := [], ack := none })).stnFlag i 0
  s1.ev (.stn i) 0x7102 [b8 s1.stn[i].counter]

/-- A missed exchange (R390). -/
def State.stnMiss (i : Fin 16) (ctr : Nat) (s : State) : State :=
  let s1 := (s.modStn i (fun x =>
    { x with
      flights := x.flights.filter (fun e => e.1 ≠ ctr), misses := inc x.misses 0xFFFF
      missRun := inc x.missRun 255, goodRun := 0 })).stnFlag i 4
  if s1.stn[i].missRun < s.cfg.stn[i].missMax then s1
  else match s1.stn[i].st with
    | .joining | .ready => (s1.stnTo i .absent).modStn i (fun x => { x with flights := [], acked := false })
    | .present => s1.stnLost i
    | .unconfigured | .absent | .lost | .refused => s1

/-- STN_REPLY_TIMEOUT (R390): REPLY_TMO of the oldest OUT sent passes without its IN. -/
def execStnReplyTimeout (i : Fin 16) (s : State) : Host.Outcome State Fault Refusal :=
  match s.stn[i].flights.find? (fun e => e.2.isSome) with
  | some (c, some t0) => .next ((s.to (t0 + s.cfg.stn[i].replyTmo * 16000)).stnMiss i c)
  | _ => .next s

/-- A JOIN_ACK is queued: at phase 3, or at the slot that stands for it in CONFIG; at once where neither runs (R410; DESIGN CHOICE,
log 85). -/
def State.ackNow (i : Fin 16) (s : State) : State :=
  match s.cfg.stn[i].bus, s.stn[i].ack with
  | some n, some b => ((s.modStn i (fun x => { x with ack := none })).stnFrame n 5 i.val 0 b none).2
  | _, _ => s

/-- The acknowledgements that wait for a phase 3 are queued before its OUT frames. -/
def State.acksNow (s : State) : State := forAll (List.finRange 16) (fun i t => t.ackNow i) s

/-- Station frames go out in a phase 3 to come, or in CONFIG at a slot that stands for one (R390, R391). -/
def State.stnPhase (s : State) : Bool :=
  (s.mc.mode = .config && s.boot.canStart.isSome) || ((s.mc.mode = .run || s.mc.mode = .degraded) && s.prg.run = .running)

/-- The reason for which a JOIN_REQ is refused, or 0 (R389, Table 14-12). -/
def State.joinReason (s : State) (i : Fin 16) (data : List Byte) : Nat :=
  let b (o n : Nat) : Nat := leNat ((data.drop o).take n)
  let k := s.cfg.stn[i]
  if b 0 1 % 4 = 0 then 1
  else if b 1 1 ≠ k.inLen || b 2 1 ≠ k.outLen then 2
  else if k.typeId ≠ 0 && b 4 4 ≠ k.typeId.toNat then 3 else 0

/-- JOIN_REQ (R389): a station asks to join with a payload of 16 bytes; the answer is a JOIN_ACK. -/
def execJoinReq (i : Fin 16) (data : List Byte) (s : State) : Host.Outcome State Fault Refusal :=
  let x := s.stn[i]
  match s.cfg.stn[i].bus with
  | none => .next s
  | some _ =>
    if !(x.st = .absent || x.st = .refused) || s.mc.mode = .standby then .next s
    else
      let b (o n : Nat) : Nat := leNat ((data.drop o).take n)
      let r := s.joinReason i data
      let ver := if r ≠ 0 then 0 else if b 0 1 / 2 % 2 = 1 then 2 else 1
      let s1 := s.modStn i (fun x =>
        { x with typeId := BitVec.ofNat 32 (b 4 4), serial := b 8 8, version := if r = 0 then ver else x.version
                 goodRun := 0, missRun := 0, flights := [] })
      let ack := [b8 ver, b8 r] ++ leBytes 2 s.cfg.stn[i].wdt ++ leBytes 2 s.prg.image.mainPeriod ++ [0, 0]
      let s2 := s1.modStn i (fun y => { y with wasRefused := decide (x.st = .refused), ack := some ack })
      let s2 := if s2.stnPhase then s2 else s2.ackNow i
      if r = 0 then .next (s2.stnTo i .joining)
      else .next (((s2.stnTo i .refused).stnFlag i 2).ev (.stn i) 0x7103 [b8 r])

/-- Counts between the probes of CONFIG (R391). -/
def State.probePeriod (s : State) : Nat := if s.boot.prgOk then ms (max 1 s.prg.image.mainPeriod) else ms 10

/-- STN_CONFIG_EXCHANGE (R391): in CONFIG, at the next slot, one probe to every station that exchanges. -/
def execStnConfigExchange (s : State) : Host.Outcome State Fault Refusal :=
  if s.mc.mode ≠ .config || s.boot.canStart.isNone then .next s
  else
    let n := s.probePeriod
    .next (forAll (List.finRange 16) (fun i t => t.stnOut i []) (s.to ((s.tb / n + 1) * n)).acksNow)

/-- SLEEP goes out on every bus that carries a station, and every station becomes ABSENT (R393). -/
def State.stnSleep (s : State) : State :=
  let s1 := forAll ((List.finRange 4).filter (fun n => decide (0 < s.stationsOn n))) (fun n t => (t.stnFrame n.val 8 0 0 [] none).2) s
  forAll (List.finRange 16) (fun i t =>
    if t.stn[i].st = .unconfigured then t
    else (t.stnTo i .absent).modStn i (fun x => { x with flights := [], acked := false, goodRun := 0, missRun := 0, ack := none })) s1

/-! ## The freeze (R390, R392) -/

/-- Bit `k` of a list of bytes. -/
def bitAt (l : List Byte) (k : Nat) : Bool := ((l[k / 8]?).getD 0).getLsbD (k % 8)

/-- A list of bytes with bit `k` at `v`. -/
def setBitAt (l : List Byte) (k : Nat) (v : Bool) : List Byte :=
  updList l (k / 8) (fun b => BitVec.ofNat 8 ((b.toNat &&& (255 - 2 ^ (k % 8))) + (if v then 2 ^ (k % 8) else 0)))

/-- One signal of the substitution table in its station's bytes: a fixed value, or what was frozen last (R392). -/
def Subst.apply (e : Subst) (l : List Byte) : List Byte :=
  match e.fixed with
  | none => l
  | some v => (List.range e.width).foldl (fun l k => setBitAt l (8 * e.byte + e.bit + k) (v.testBit k)) l

/-- The substitutes of a station over its last frozen bytes. -/
def State.substitutes (s : State) (i : Fin 16) : List Byte :=
  let k := s.cfg.stn[i]
  ((s.cfg.subst.drop k.subAt).take k.subN).foldl (fun l e => e.apply l) (padTo 64 s.stn[i].frozen)

/-- The stations at a freeze: a LOST one, once STN_LOST has its SEQ (R367), becomes ABSENT with its substitutes and an error
record, an acknowledged one PRESENT, and a PRESENT one gives its latest inputs (R390, R392). -/
def State.stnFreeze (s : State) : State :=
  forAll (List.finRange 16) (fun i t =>
    match t.stn[i].st with
    | .lost => if t.evHeld (.stn i) 0x7102 then t else ((t.modStn i (fun x => { x with frozen := t.substitutes i, goodRun := 0, missRun := 0 })).stnTo i .absent).errDue 0x50 i.val t.stn[i].lostSeq
    | .ready => if t.stn[i].acked then
          (t.modStn i (fun x => { x with acked := false, frozen := padTo 64 x.latest })).stnTo i .present else t
    | .present => t.modStn i (fun x => { x with frozen := padTo 64 x.latest })
    | .unconfigured | .absent | .joining | .refused => t) s

end Sys2Proof.Machine
end

