-- ==== Sys2Proof/Machine/Commit.lean ====
section
/-! DEFINITION. Staging and commit: the checks of every page, the boundary, and what each commit does to its block (R140 to
R145, R154, R212, R213, R242, R260, R295, R357, R419, R445, R464). -/

namespace Sys2Proof.Machine

/-! ## The checks -/

/-- A value lies in a range. -/
def inR (lo v hi : Nat) : Bool := decide (lo ≤ v) && decide (v ≤ hi)

/-- A page holds staged values of a group. -/
def State.stages (s : State) (p : PageId) (g : Nat) : Bool := bit (s.pg p).stage g

/-- A 40-bit field of two words, staged or committed. -/
def State.sPos (s : State) (p : PageId) (o : Nat) : Int := sx 40 ((s.staged p o).toNat + 2 ^ 32 * s.sf p (o + 4) 0 8)

/-- A word, staged or committed, as a number. -/
def State.sNum (s : State) (p : PageId) (o : Nat) : Nat := (s.staged p o).toNat

/-- The profile as eight words keeps Table 07-2. -/
def Profile.ok (p : Profile) : Bool :=
  decide (p.vStart ≤ p.vBreak) && decide (p.vBreak ≤ p.vMax) && decide (p.vMax ≤ 512000000) && inR 0x10000 p.vStop p.vBreak
    && 1 ≤ p.a1 && 1 ≤ p.a2 && 1 ≤ p.d1 && 1 ≤ p.d2

/-- The axis is at rest: IDLE or HALTED. -/
def State.atRest (s : State) (a : Fin 12) : Bool := s.ax[a].st = .idle || s.ax[a].st = .halted

/-- A DIN number, or 0x3F for none. -/
def dinOrNone (n : Nat) : Bool := decide (n ≤ 47) || n = 0x3F

/-- The staged profile of an axis. -/
def State.stagedProfile (s : State) (a : Fin 12) : Profile :=
  let g (o : Nat) : Nat := s.sNum (.ax a) o
  ⟨g 0x060, g 0x064, g 0x068, g 0x06C, g 0x070, g 0x074, g 0x078, g 0x07C⟩

/-- Table 07-2, group 1. -/
def State.axLimitsOk (s : State) (a : Fin 12) : Bool :=
  let p : PageId := .ax a
  let lo := s.sPos p 0x080
  let hi := s.sPos p 0x088
  let within (v : Int) : Bool := decide (lo ≤ v) && decide (v ≤ hi)
  let x := s.ax[a]
  decide (lo < hi) && dinOrNone (s.sf p 0x090 8 6) && dinOrNone (s.sf p 0x090 16 6) && 1 ≤ s.sNum p 0x094
    && (s.sf p 0x090 0 1 = 0 || (within x.pos && ((x.queue ++ x.heldAfter).filter (fun m => m.kind ≠ 2)).all (fun m => within m.goal)))

/-- Table 08-6. -/
def State.drvOk (s : State) (a : Fin 12) (g : Nat) : Bool :=
  let p : PageId := .drv a
  let f (o lo n : Nat) : Nat := s.sf p o lo n
  match g with
  | 0 => inR 50 (f 0x040 0 16) 20000 && inR 10 (f 0x044 0 16) 50000 && 100 ≤ f 0x048 0 16 && 1 ≤ f 0x048 16 16
  | 1 => decide (f 0x050 0 16 ≤ 8000) && decide (f 0x050 16 16 ≤ f 0x050 0 16)
  | 2 => 1 ≤ f 0x060 0 16 && decide (f 0x060 0 16 < f 0x060 16 16) && decide (f 0x060 16 16 < f 0x064 0 16)
      && decide (f 0x064 0 16 < f 0x064 16 16) && decide (f 0x068 0 3 ≤ 4)
  | 3 => inR 12 (f 0x070 8 8) 50 && (s.coil[a].coil = .free || s.coil[a].coil = .brake) && s.atRest a
  | _ => inR 30 (f 0x078 0 8) 120 && 1 ≤ f 0x078 8 8 && inR 1 (f 0x078 24 8) 64 && inR 40 (f 0x07C 16 16) 1000
      && inR 16 (f 0x07C 0 16) 4096

/-- Table 09-6. -/
def State.fbOk (s : State) (c : Fin 14) (g : Nat) : Bool :=
  let p := fbPage c
  let f (o lo n : Nat) : Nat := s.sf p o lo n
  let rest := match axisOf c with | some a => s.atRest a | none => true
  match g with
  | 0 => inR 4 (s.sNum p 0x050) 16777216 && 1 ≤ f 0x054 0 16 && decide (f 0x054 0 16 * 256 ≤ s.sNum p 0x050 * 65536) && rest
  | 1 =>
    let changes := s.staged p 0x058 &&& 0xF ≠ s.com p 0x058 &&& 0xF
    decide (f 0x058 0 2 ≤ (if c.val < 12 then 2 else 1)) && 1 ≤ f 0x058 4 5 && 1 ≤ f 0x058 16 8 && inR 1 (f 0x058 24 5) 16
      && inR 1 (f 0x05C 0 16) 1000 && (!changes || rest)
  | 2 =>
    let bits := f 0x060 0 6
    let stat := f 0x060 8 3
    let div := f 0x064 0 10
    let tm := f 0x064 24 6
    let per := f 0x068 0 5
    inR 10 bits 32 && decide (stat ≤ 5) && decide (8 + stat ≤ bits) && inR 20 div 800 && 1 ≤ tm && 1 ≤ f 0x060 24 4 && inR 1 per 16
      && decide (((1 + f 0x060 13 1) * bits + 1) * 2 * div + f 0x064 16 8 + 160 * tm ≤ per * 10000)
      && (f 0x058 0 2 ≠ 2 || rest)
  | _ => true

/-- A master source of Tables 10-3 and 10-4 that is not the feedback channel of the slave axis. -/
def srcOk (src slave : Nat) : Bool := (decide (src ≤ 13) || src = 15) && src ≠ slave

/-- Table 10-5, GEAR. -/
def State.gearOk (s : State) (a : Fin 12) (g : Nat) : Bool :=
  let p : PageId := .gear a
  match g with
  | 0 => 1 ≤ s.sNum p 0x048
  | 1 => 1 ≤ s.sNum p 0x050 && decide (s.sf p 0x058 8 2 ≤ 2)
  | 2 => srcOk (s.sf p 0x05C 0 4) a.val && !s.gear[a].engaged
  | _ => s.ax[a].st = .idle && s.ax[a].queue.isEmpty && !s.ax[a].entering && !s.gear[a].engaged

/-- Table 10-5, CAM. -/
def State.camOk (s : State) (c : Fin 4) (g : Nat) : Bool :=
  let p : PageId := .cam c
  match g with
  | 0 => decide (s.sf p 0x044 0 4 ≤ 11) && srcOk (s.sf p 0x044 8 4) (s.sf p 0x044 0 4) && 1 ≤ s.sf p 0x050 0 24 && !s.cam[c].engaged
  | _ => !s.cam[c].engaged

/-- Table 11-9. -/
def State.ptlOk (s : State) (n : Fin 8) (g : Nat) : Bool :=
  let p : PageId := .ptl n
  let v (o : Nat) : Nat := s.sNum p o
  let f (o lo k : Nat) : Nat := s.sf p o lo k
  match g with
  | 0 =>
    let leaf (k : Nat) : Bool := match s.member n k with
      | none => true
      | some _ =>
        let t := (s.sPos p (0x088 + 16 * k) - s.sPos p (0x080 + 16 * k)).natAbs
        6400 ≤ t && decide (v 0x0B0 < t) && decide (v 0x0B4 < t)
    leaf 0 && leaf 1 && ((s.member n 2).isNone || s.sPos p 0x0A0 ≠ s.sPos p 0x0A8) && 0x100 ≤ v 0x0B8 && 1 ≤ v 0x0BC
      && (s.ptl[n].st = .closedLocked || s.ptl[n].st = .isolated || s.ptl[n].st = .fault)
      && (s.membersOf n).all (fun e => s.atRest e.1)
  | 1 => [0x0C0, 0x0C4, 0x0C8, 0x0CC, 0x0D0, 0x0D4].all (fun o => inR 0x10000 (v o) 0x1E848000) && 1 ≤ v 0x0D8
  | 2 => inR 20 (f 0x0E4 0 16) 300 && inR 20 (f 0x0E4 16 16) 1000 && inR 32 (f 0x0E8 0 8) 128 && 1 ≤ f 0x0E8 16 4 && 1 ≤ f 0x0E8 20 4
      && inR 20 (f 0x0E8 24 8) 100
  | _ => decide (f 0x0EC 0 16 ≤ 1000) && decide (f 0x0EC 16 16 ≤ 6000) && decide (f 0x0F4 16 16 ≤ 6000) && inR 50 (f 0x0F0 16 16) 5000
      && inR 50 (f 0x0F0 0 16) 5000 && inR 10 (f 0x0F4 0 16) 2000

/-- Table 13-8. -/
def State.lswOk (s : State) (c : Fin 24) (g : Nat) : Bool :=
  let p : PageId := .lsw c
  match g with
  | 0 =>
    let lim := s.sf p 0x048 0 16
    let type := s.sf p 0x048 16 3
    (if c.val < 16 then inR 100 lim 4000 else inR 250 lim 10000)
      && (decide (type < 6) || fld s.cfg.cust[(Fin.ofNat 6 (3 * (type - 6)))] 16 16 ≠ 0)
      && 1 ≤ s.sf p 0x04C 20 4 && inR 1 (s.sf p 0x04C 0 16) 1000 && s.lsw[c].out = 0 && s.lsw[c].pause.isNone
  | _ => inR 50 (s.sf p 0x050 16 16) 2000

/-- Table 15-6: nominal and data bit times are compared in clocks of 80 MHz. The timing rules hold of the whole set, so that MODE staged
alone meets them too; only a commit that carries TIMING asks for EN = 0. -/
def State.canOk (s : State) (n : Fin 4) (g : Nat) : Bool :=
  let p : PageId := .can n
  let f (o lo k : Nat) : Nat := s.sf p o lo k
  let en := (s.pg p).en
  match g with
  | 0 =>
    let brp := f 0x040 16 8 + 1
    let t1 := f 0x040 24 8 + 1
    let t2 := f 0x040 8 7 + 1
    let nom := brp * (1 + t1 + t2)
    let d2 := f 0x044 8 4 + 1
    let dat := (f 0x044 16 5 + 1) * (1 + (f 0x044 24 5 + 1) + d2)
    let triple := match f 0x04C 5 2 with | 0 => decide (640 ≤ nom) | 1 => true | _ => false
    (!en || !s.stages p 0) && 2 ≤ t1 && decide (f 0x040 0 7 + 1 ≤ t2) && decide (f 0x044 0 4 + 1 ≤ d2) && inR 80 nom 8000
      && inR (if n.val < 2 then 16 else 10) dat nom && (!triple || 3 ≤ t1)
  | _ =>
    let was := s.com p 0x04C
    let now := s.staged p 0x04C
    let keeps (b : Nat) : Bool := bit was b = bit now b
    (!en || (keeps 1 && keeps 8 && keeps 4)) && (!bit now 2 || bit now 1) && decide (fld now 5 2 ≤ 2)
      && (s.stationsOn n = 0 || (bit now 1 && !bit now 4))

/-- Table 16-11. -/
def State.evqOk (s : State) (q : Fin 8) (g : Nat) : Bool :=
  let p : PageId := .evq q
  let size := s.sf p 0x048 0 17
  let v1 := s.sf p 0x04C 0 1 = 1
  match g with
  | 0 =>
    let base := s.sNum p 0x040 + 2 ^ 32 * s.sNum p 0x044
    let wb := s.sNum p 0x050 + 2 ^ 32 * s.sNum p 0x054
    !(s.pg p).en && inR 64 size 65536 && size &&& (size - 1) = 0 && base % 4096 = 0 && wb % 8 = 0
      && (decide (wb < base) || decide (base + size * (if v1 then 16 else 32) ≤ wb)) && (s.sf p 0x04C 1 1 = 0 || !v1)
  | 2 => decide (s.sf p 0x05C 0 16 ≤ size - 1) && (s.sf p 0x05C 0 16 ≠ 0 || s.sf p 0x05C 16 16 ≠ 0)
  | _ => true

/-- The staged set keeps the owning chapter's rules for one group. -/
def State.groupOk (s : State) (p : PageId) (g : Nat) : Bool :=
  match p with
  | .ax a => if g = 0 then (s.stagedProfile a).ok else s.axLimitsOk a
  | .drv a => s.drvOk a g
  | .fb a => s.fbOk (fbOf a) g
  | .fbx n => s.fbOk ⟨12 + n.val, by omega⟩ g
  | .gear a => s.gearOk a g
  | .cam c => s.camOk c g
  | .ptl n => s.ptlOk n g
  | .lsw c => s.lswOk c g
  | .can n => s.canOk n g
  | .evq q => s.evqOk q g
  | .recd => decide (s.sf .recd 0x048 19 13 = 0)
  | .dev | .clk | .pwr | .rst | .tb | .hif | .side _ | .safe | .lswg | .prg | .stn _ | .stat | .pair | .sec | .dbg => true

/-- The groups a commit checks: those with staged values, and those whose rules depend on another group that has them: on an EVQ page
group 2 on group 0, whose SIZE bounds it; on a CAN page group 0 on group 1, whose TRIPLE bounds TSEG1 (R140). -/
def State.checked (s : State) (p : PageId) (g : Nat) : Bool :=
  s.stages p g || (match p with | .evq _ => g = 2 && s.stages p 0 | .can _ => g = 0 && s.stages p 1 | _ => false)

/-- The lowest group of the staged set that breaks a rule (R140). -/
def State.badGroup (s : State) (p : PageId) : Option Nat :=
  (List.range (pageGroups p)).find? (fun g => s.checked p g && !s.groupOk p g)

/-! ## Commit (R140 to R142) -/

/-- The commit key. -/
def commitKey : Word := 0x00005EED

/-- The groups that a pending commit carries: group 0 alone for a profile of the program's (R369). -/
def Page.carries (g : Page) : Word := if g.sole = [] then g.stage else 1

/-- The lowest group among the bits of PG_STAGE. -/
def lowGroup (stage : Word) : Nat := ((List.range 32).find? (fun g => bit stage g)).getD 0

/-- A write of PG_COMMIT (R140, R141). COMMIT_BUSY names the lowest group that waits (R139; log 70). -/
def State.commitWrite (p : PageId) (w : Word) (s : State) : State :=
  if w ≠ commitKey then s.err p 0x04 0 0x020
  else if (s.pg p).commitDue.isSome then s.err p 0x20 (lowGroup (s.pg p).carries) 0x020
  else match s.badGroup p with
    | some g => s.err p 0x21 g 0x020
    | none =>
      if (s.pg p).stage = 0 then s
      else s.modPg p (fun x => { x with commitDue := some ((s.tb / periodCounts + 1) * periodCounts) })

/-- PG_COMMIT (R140): a write to PG_COMMIT of a page. -/
def execPgCommit (p : PageId) (w : Word) (s : State) : Host.Outcome State Fault Refusal :=
  .next (s.gated p 0x020 w false (State.commitWrite p w))

/-- Words take the place of committed ones. -/
def Words.over (new com : Words) : Words := new.foldl (fun c e => c.put e.1 e.2) com

/-- The words of a pending commit become the committed ones. -/
def Page.apply (g : Page) : Page :=
  if g.sole = [] then { g with com := g.stg.over g.com, stg := [], stage := 0, commitDue := none }
  else { g with com := g.sole.over g.com, sole := [], commitDue := none }

/-- What a commit of groups `was` does on its block; `old` is the state before it took effect. -/
def State.commitEffect (p : PageId) (was : Word) (s old : State) : State :=
  match p with
  | .ax a => s.accept a (.param (old.profile a))
  | .drv a =>
    let s1 := if bit was 2 then s.requestLevel a else s
    if bit was 4 then
      (s1.modWatch a (fun w => { w with driven := 0, emf := [], angleRun := 0, stallRun := 0, clearRun := 0 })).modCoil a (fun c => { c with laValid := false })
    else s1
  | .fb a =>
    let changed := s.cf p 0x058 0 2 ≠ old.cf p 0x058 0 2
    if (bit was 1 && changed) || (bit was 2 && s.cf p 0x058 0 2 = 2) then s.fbRestart (fbOf a) else s
  | .fbx n =>
    if bit was 1 && s.cf p 0x058 0 2 ≠ old.cf p 0x058 0 2 then s.fbRestart ⟨12 + n.val, by omega⟩ else s
  | .gear a =>
    if bit was 0 && s.gear[a].engaged then
      s.modGear a (fun g => { g with ratio := some (periodOf s.tb, (s.com p 0x044).toInt, (s.com p 0x048).toNat) })
    else s
  | .ptl n => if bit was 0 || bit was 1 then s.envClear n else s
  | .can n => if bit was 1 then s.canModeCommit n (old.com p 0x04C) else s
  | .evq q =>
    if bit was 0 && (s.com p 0x040 ≠ 0 || s.com p 0x044 ≠ 0) then { s with evq := upd s.evq q (fun x => { x with configured := true }) } else s
  | .recd => s.recCommit
  | .dev | .clk | .pwr | .rst | .tb | .hif | .cam _ | .side _ | .safe | .lswg | .lsw _ | .prg | .stn _ | .stat | .pair | .sec | .dbg => s

/-- The lowest group of a pending commit that something since keeps from its effect: an ENGAGE, since what an engaged engine runs on is never
replaced (R256, R260), or a load channel that has gone on, since a profile never changes in the middle of a window (R357). -/
def State.overtaken (s : State) (p : PageId) : Option Nat :=
  match p with
  | .gear a => if s.gear[a].engaged then [2, 3].find? (fun g => s.stages p g) else none
  | .cam c => if s.cam[c].engaged then [0, 1].find? (fun g => s.stages p g) else none
  | .lsw c => if (s.lsw[c].out ≠ 0 || s.lsw[c].pause.isSome) && s.stages p 0 then some 0 else none
  | .dev | .clk | .pwr | .rst | .tb | .hif | .evq _ | .ax _ | .drv _ | .fb _ | .fbx _ | .ptl _ | .side _ | .safe | .lswg | .can _
  | .prg | .stn _ | .recd | .stat | .pair | .sec | .dbg => none

/-- The commit of a page takes effect at the present instant (R140). One that has been overtaken is refused there, its values staying
staged (DEDUCED, log 77). -/
def State.commitNow (p : PageId) (s : State) : State :=
  match s.overtaken p with
  | some g => (s.modPg p (fun x => { x with commitDue := none })).err p 0x21 g 0x020
  | none =>
    let was := (s.pg p).carries
    let s1 := (s.modPg p Page.apply).commitEffect p was s
    (s1.ev p 0x0602 (leBytes 4 was.toNat)).irq p 2

/-- A pending commit whose boundary has come takes effect before anything that reaches the page after it (R142, R143). -/
def State.commitDueNow (p : PageId) (s : State) : State :=
  match (s.pg p).commitDue with
  | none => s
  | some t => if t ≤ s.tb then s.commitNow p else s

/-- A profile of the program's as one group 0 commit (R369): the code of its refusal, or none and the commit pending. -/
def State.profileCommit (a : Fin 12) (pr : Profile) (s : State) : Option Nat × State :=
  let g := s.pg (.ax a)
  if g.lock then (some 0x05, s)
  else if g.commitDue.isSome then (some 0x20, s)
  else if !pr.ok then (some 0x21, s)
  else
    let l := [pr.vStart, pr.a1, pr.vBreak, pr.a2, pr.vMax, pr.d2, pr.d1, pr.vStop]
    (none, s.modPg (.ax a) (fun x =>
      { x with
        sole := l.zipIdx.map (fun e => (0x060 + 4 * e.2, BitVec.ofNat 32 e.1))
        commitDue := some ((s.tb / periodCounts + 1) * periodCounts) }))

/-- COMMIT_BOUNDARY (R140): the boundary of a pending commit. -/
def execCommitBoundary (p : PageId) (s : State) : Host.Outcome State Fault Refusal :=
  match (s.pg p).commitDue with
  | none => .next s
  | some t => .next ((s.to t).commitNow p)

/-- Staged values are discarded, and a pending commit with them, unless its boundary has come (R142). -/
def State.stageClr (p : PageId) (s : State) : State :=
  (s.commitDueNow p).modPg p (fun g => { g with stg := [], stage := 0, sole := [], commitDue := none })

/-- PG_STAGE_CLR (R142): a write of 1 to STAGE_CLR that restates the other bits of PG_CTL. -/
def execPgStageClr (p : PageId) (s : State) : Host.Outcome State Fault Refusal :=
  .next (s.gated p 0x00C (mkWord [(0, 1, b2n (s.pg p).en), (2, 1, 1), (4, 1, b2n (s.pg p).view)]) false (State.stageClr p))

/-- A write of 1 to LOCK (R145). -/
def State.lockPage (p : PageId) (s : State) : State :=
  if pageLockable p then s.modPg p (fun g => { g with lock := true }) else s

/-- PG_LOCK (R145): a write of 1 to LOCK that restates EN and VIEW. -/
def execPgLock (p : PageId) (s : State) : Host.Outcome State Fault Refusal :=
  .next (s.gated p 0x00C (mkWord [(0, 1, b2n (s.pg p).en), (3, 1, 1), (4, 1, b2n (s.pg p).view)]) true (State.lockPage p))

/-- The PG_IRQ bits that exist: all but the reserved [7:3] (Table 06-2). -/
def irqBits : Word := 0xFFFFFF07

/-- PG_ISET (R137): PG_IRQ bits are set as though their events had occurred. -/
def execPgIset (p : PageId) (w : Word) (s : State) : Host.Outcome State Fault Refusal :=
  .next (s.gated p 0x01C w true (State.irq p (w &&& irqBits)))

end Sys2Proof.Machine
end

