-- ==== Sys2Proof/Machine/Migrate.lean ====
section
/-! DEFINITION. Instances of a program: the migration of an online change and of a retained buffer in an old layout, and the timers
of a warm restart (R377, R378, R382, R385, R386). -/

namespace Sys2Proof.Machine

open Sys2Proof.Config (InstRow MemberRow MigTable)

/-- Bytes of the first section of a type in a slot's image. -/
def State.sectBytes (s : State) (slot : Nat) (im : Image) (type : Nat) : List Byte :=
  match im.sects.find? (fun e => e.1 = type) with
  | some (_, o, n, _) => s.granBytes (slotBase slot + o) n
  | none => []

/-- Junction reads the INSTANCES and MIGRATION sections of a slot's image (R33, R84). -/
def State.sectUse (slot : Nat) (im : Image) (s : State) : State :=
  (forAll (im.sects.filter (fun e => e.1 = 7 || e.1 = 8)) (fun e t => t.granUse (slotBase slot + e.2.1) e.2.2.1) s).draw.2

/-- The instances of a slot's image that lie in the bank (Table 14-2). -/
def State.instancesOf (s : State) (slot : Nat) (im : Image) : List InstRow :=
  (Config.instances (s.sectBytes slot im 7)).filter (fun n => decide (n.addr + n.size ≤ 0x180000))

/-- The migration table of a slot's image (R385, R386). -/
def State.migTableOf (s : State) (slot : Nat) (im : Image) : MigTable := Config.migration (s.sectBytes slot im 8)

/-- The instance of the old image with the key of a new one (R386). -/
def oldOf (tab : MigTable) (n : InstRow) : Option InstRow := tab.insts.find? (fun o => o.key = n.key)

/-- An instance starts, or starts in part, from initial values: it is new, or its type changed (Table 14-11). -/
def startsNew (tab : MigTable) (n : InstRow) : Bool := match oldOf tab n with | some o => o.type ≠ n.type | none => true

/-- One member of an instance whose type changed: copied where its type is the same, converted where an integer is widened or made
REAL, and at its initial value otherwise (Table 14-11). -/
def State.migMember (src : Nat → Nat → List Byte) (o n : InstRow) (b : Nat) (x : MemberRow) (s : State) : State :=
  let old := src (o.addr + x.oldAt) x.oldSize
  match (if x.oldType = x.newType then some old else Config.convert x.oldType x.newType old) with
  | some v => s.sramWrite (b + n.addr + x.newAt) (v.take x.newSize)
  | none => s

/-- One instance of the new image in the bank at `b`, from the old data `src`: every member copied with the same type (a timer's start
stamp, preset and running state and an edge detector's memory with them), members by key with a changed type, and the initial values
where the old image has none (Table 14-11). -/
def State.migInst (src : Nat → Nat → List Byte) (tab : MigTable) (b : Nat) (n : InstRow) (s : State) : State :=
  match oldOf tab n with
  | none => s
  | some o =>
    if o.type = n.type then s.sramWrite (b + n.addr) (src o.addr (min o.size n.size))
    else forAll (tab.members.filter (fun x => x.inst = n.key && decide (x.newAt + x.newSize ≤ n.size)))
      (fun x t => t.migMember src o n b x) s

/-- Instances are migrated, and those that start new have their first-cycle flag set (R386). -/
def State.migrate (src : Nat → Nat → List Byte) (tab : MigTable) (b : Nat) (l : List InstRow) (s : State) : State :=
  let t := forAll l (fun n t => t.migInst src tab b n) s
  { t with prgx := { t.prgx with firstInst := (l.filter (startsNew tab)).map (·.key) } }

/-- Instances kept, new and dropped in a migration (Table 14-15). -/
def migCounts (tab : MigTable) (l : List InstRow) : Nat × Nat × Nat :=
  ((l.filter (fun n => (oldOf tab n).isSome)).length, (l.filter (fun n => (oldOf tab n).isNone)).length,
    (tab.insts.filter (fun o => l.all (fun n => decide (n.key ≠ o.key)))).length)

/-- Every retained timer instance restarts stopped, with its elapsed time 0 and its output false (R378). -/
def State.stopTimers (b : Nat) (l : List InstRow) (s : State) : State :=
  forAll (l.filter (fun n => n.kind = .timer)) (fun n t => t.sramWrite (b + n.addr)
    ((Config.stopTimer n.type (t.sramBytes (b + n.addr) n.size)).take n.size)) s

/-- RETAIN takes the data of a retained buffer, migrated where it is of the old layout; its timers stop (R377, R378, R385). The buffer holds
no data of an instance that the old image did not retain, which starts new. -/
def State.putRetained (data : List Byte) (old : Bool) (s0 : State) : State :=
  let im := s0.prg.image
  let b := bankBase s0.prg.bank
  match im.retain with
  | none => s0
  | some (a, n) =>
    let s := s0.sectUse s0.prg.slot im
    let l := (s.instancesOf s.prg.slot im).filter (fun i => decide (a ≤ i.addr) && decide (i.addr + i.size ≤ a + n))
    let all := s.migTableOf s.prg.slot im
    let tab := { all with insts := all.insts.filter (fun o => decide (all.retainAt ≤ o.addr)) }
    (if old then s.migrate (fun p k => (data.drop (p - tab.retainAt)).take k) tab b l else s.sramWrite (b + a) (data.take n)).stopTimers b l

end Sys2Proof.Machine
end

