-- ==== Sys2Proof/Machine/Engine.lean ====
section
/-! DEFINITION. Guard's signature engine and what it performs at once: owner keys and tokens, and the switch check of a program (R492, R493,
R501, R502, R505). -/

namespace Sys2Proof.Machine

/-- Change the SEC state. -/
def State.modSec (f : Sec → Sec) (s : State) : State := { s with sec := f s.sec }

/-- An owner slot is ACTIVE. -/
def State.anyActive (s : State) : Bool := s.fuses.slots.toList.contains .active

/-- The modulus staged in KEY_STAGE. -/
def State.keyStage (s : State) : List Byte := (List.range 128).flatMap (fun k => leBytes 4 (s.com .sec (0x100 + 4 * k)).toNat)

/-- A key is installed in slot `k`, 0 to 3: USED, the modulus, then ACTIVE (R492); `signer` is 0 in provisioning. How long that takes no rule
says: it lasts to an instant that nothing determines, and a loss of power before then leaves the slot without ACTIVE (log 88). -/
def State.installKey (k : Fin 4) (signer : Nat) (s0 : State) : State :=
  let d := s0.draw
  let s := d.2
  let t : State := { s with fuses := { s.fuses with
    fuse := upd s.fuses.fuse k (fun f => { f with used := true, active := true }), moduli := s.fuses.moduli.set k s.keyStage
    burn := some (k, s.tb + Config.free 50 d.1) } }
  (t.secFlag 1).ev .sec 0xA003 [1, b8 (k.val + 1), b8 signer]

/-- Guard loses its power: an install that has not ended leaves its slot with USED and without ACTIVE (R492). -/
def Fuses.cut (t : Nat) (f : Fuses) : Fuses :=
  match f.burn with
  | some (k, e) => { f with burn := none, fuse := if t < e then upd f.fuse k (fun x => { x with active := false }) else f.fuse }
  | none => f

/-- A slot is revoked (R493). -/
def State.revokeKey (k : Fin 4) (signer : Nat) (s : State) : State :=
  let t : State := { s with fuses := { s.fuses with fuse := upd s.fuses.fuse k (fun f => { f with revoked := true }) } }
  (t.secFlag 1).ev .sec 0xA003 [2, b8 (k.val + 1), b8 signer]

/-- DEBUG_STATE (R506). -/
def State.debugEvent (signer : Nat) (s : State) : State := s.ev .sec 0xA006 [b8 s.debugSta, b8 signer]

/-! ## Tokens (R493, R501, R502, R506) -/

/-- The target condition of R493 for a token's command. -/
def State.tokenTarget (s : State) (t : List Byte) : Bool :=
  let target := tokNat t 0x030 1
  match tokNat t 6 1 with
  | 2 => 1 ≤ target && decide (target ≤ 4) && s.slotState target = .empty
  | 3 => 1 ≤ target && decide (target ≤ 4) && s.slotState target = .active && target ≠ tokNat t 0x007 1
  | _ => true

/-- The reason for which a token of SEC is refused, or 0 (Table 19-4); a key hash that is not that of KEY_STAGE counts as a failed
key check. -/
def State.secTokenReason (s : State) (t : List Byte) : Nat :=
  if tokNat t 6 1 = 2 && (t.drop 0x040).take 64 ≠ keyHash s.keyStage then 1
  else
    let r := s.tokenReason t [2, 3, 4] s.sec.nonceValid s.sec.nonce (s.tokenTarget t) none
    if r ≠ 0 then r
    else if tokNat t 6 1 = 4 && s.mc.mode ≠ .config && s.mc.mode ≠ .safeHold then 7 else 0

/-- CMD TOKEN: the token takes effect or is refused, and the nonce has served (R501). -/
def State.secToken (s : State) : Option Nat × State :=
  let t := tokenBytes s.sec.token
  let cmd := tokNat t 6 1
  let signer := tokNat t 0x007 1
  let target : Fin 4 := Fin.ofNat 4 (tokNat t 0x030 1 - 1)
  let r := s.secTokenReason t
  let s1 := s.modSec (fun x => { x with nonceValid := false })
  if r ≠ 0 then
    (some 0x42, (s1.secFlag 0).modSec (fun x => { x with refKind := 0x80 + cmd % 128, refReason := r }))
  else match cmd with
    | 2 => (none, s1.installKey target signer)
    | 3 => (none, s1.revokeKey target signer)
    | _ => (none, ((s1.modSec (fun x => { x with debugOpened := true })).secFlag 4).debugEvent signer)

/-- The slot of the Siding. -/
def State.sidSlot (s : State) : Nat := 1 - s.prg.slot

/-- Guard's verdict on an image of a kind: the event, and the SEC page's FLAGS and LAST_REFUSE (R495, R507). -/
def State.guardVerdict (kind base reason : Nat) (s : State) : State :=
  let t := s.imgEvent kind base reason
  if reason = 0 then t
  else
    let u := t.secFlag 0
    { u with sec := { u.sec with refKind := kind, refReason := reason } }

/-- Change the program's state. -/
def State.modPrg (f : Prg → Prg) (s : State) : State := { s with prg := f s.prg }

/-- The program has stopped, or has never run. -/
def RunState.still : RunState → Bool
  | .notLoaded | .loaded | .stopped => true
  | .running | .suspended => false

/-! ## The engine (R505) -/

/-- The token that waited is executed: its outcome is the command's. -/
def State.tokenNow (s : State) : State :=
  match (s.modSec (fun x => { x with busy := none })).secToken with
  | (some c, t) => t.err .sec c 0 0x040
  | (none, t) => t

/-- The switch check: an online change verifies its image once more (R493, R505). An image that fails, its signer revoked since, is INVALID as
after a VERIFY, and nothing is switched (log 88). -/
def State.switchCheck (s : State) : State :=
  let slot := s.sidSlot
  let r := s.prgReason slot
  let t := s.guardVerdict 4 (slotBase slot) r
  if r = 0 then t.modPrg (fun p => { p with switchWait := true, switchFrom := s.tb, switchCycle := false })
  else (t.modPrg (fun p => { p with siding := .invalid })).prgFlag 6

/-- The engine takes up a list of operations: a token and a switch check have no end of their own in the table of commands, and are performed
as they come to the front (log 88). -/
def State.engineRun : List EngineOp → State → State
  | .token :: l, s => State.engineRun l s.tokenNow
  | .switch :: l, s => State.engineRun l s.switchCheck
  | .verify :: l, s => s.modSec (fun x => { x with engine := .verify :: l })
  | .attest :: l, s => s.modSec (fun x => { x with engine := .attest :: l })
  | .program :: l, s => s.modSec (fun x => { x with engine := .program :: l })
  | .clear :: l, s => s.modSec (fun x => { x with engine := .clear :: l })
  | [], s => s.modSec (fun x => { x with engine := [] })

/-- The engine performs an operation now. -/
def State.engineAt (s : State) (o : EngineOp) : Bool := decide (s.sec.engine.head? = some o)

/-- The operation at the front has ended, and the next one begins. -/
def State.engineFree (s : State) : State := State.engineRun s.sec.engine.tail s

/-- Operations that were asked for are called off; where the one performed now is among them, the next begins. -/
def State.engineDrop (gone : List EngineOp) (s : State) : State :=
  let l := s.sec.engine.filter (fun o => !gone.contains o)
  if s.sec.engine.head?.any gone.contains then State.engineRun l s else s.modSec (fun x => { x with engine := l })

/-- An operation is asked for, and begins at once where the engine is free. -/
def State.engineDo (o : EngineOp) (s : State) : State :=
  if s.sec.engine = [] then State.engineRun [o] s else s.engineAsk o

/-- REC_CLEAR_DONE (R459): the engine has come to the token, and Guard's verification ends. The nonce has served, whatever the outcome.
Where Granary has been lost meanwhile nothing can be cleared, and the page reports it as for a new command (R85, R119; DEDUCED,
log 76). -/
def execRecClearDone (s : State) : Host.Outcome State Fault Refusal :=
  if !s.recd.clearing || !s.engineAt .clear then .next s
  else
    let t := tokenBytes s.recd.token
    let r := s.tokenReason t [1] s.recd.nonceValid s.recd.nonce true (some s.recd.nonceSeq)
    let s1 := s.modRec (fun r => { r with clearing := false, nonceValid := false })
    .next (State.engineFree
      (if s.noGranary then s1.err .recd 0x11 0 0x040
      else if r = 0 then s1.recClear (tokNat t 0x038 8) (tokNat t 0x007 1) (tokNat t 0x031 1 % 2 = 1)
      else (((s1.modRec (fun r => { r with refusals := inc r.refusals 0xFFFF })).recFlag 4).err .recd 0x42 0 0x040).ev .recd 0x8005 [b8 r]))

/-- PRG_VERIFY_DONE (R381): Guard's verification ends, then Junction's check of MIG_FROM while a program runs. -/
def execPrgVerifyDone (s : State) : Host.Outcome State Fault Refusal :=
  if s.prg.siding ≠ .verifying || !s.engineAt .program then .next s
  else
    let slot := s.sidSlot
    let r := s.prgReason slot
    let s1 := s.guardVerdict 4 (slotBase slot) r
    let im := s1.imageOf slot
    if r = 0 && (s.prg.run.still || im.migFrom = s.prg.image.layout) then
      .next ((s1.loadBank slot (1 - s.prg.bank) im).modPrg (fun p => { p with siding := .ready, sidImage := im })).engineFree
    else .next ((s1.modPrg (fun p => { p with siding := .invalid })).prgFlag 6).engineFree

end Sys2Proof.Machine
end

