-- ==== Sys2Proof/Machine/Program.lean ====
section
/-! DEFINITION. The control program: the I/O image, the Timetable, the runtime services, restarts, retained data and the
Siding (R359 to R386, R394 to R397). The code the program runs is not the device's: what a task does arrives as the operands
of the commands (log 29). -/

namespace Sys2Proof.Machine

/-! ## Status words as Junction presents them (R90, R137) -/

/-- A status word of a page at its home. -/
def State.statusWord (s : State) (p : PageId) (o : Nat) : Word :=
  match p with
  | .dev => s.devWord o | .clk => s.clkWord o | .pwr => s.pwrWord o | .rst => s.rstWord o | .tb => s.tbWord o | .hif => s.hifWord o
  | .evq q => s.evqWord q o | .ax a => s.axWord a o | .drv a => s.drvWord a o | .fb a => s.fbWord (fbOf a) o
  | .fbx n => s.fbWord ⟨12 + n.val, by omega⟩ o | .gear a => s.gearWord a o | .cam c => s.camWord c o | .ptl p => s.ptlWord p o
  | .side d => s.sideWord d o | .safe => s.safeWord o | .lswg => s.lswgWord o | .lsw c => s.lswWord c o | .can n => s.canWord n o
  | .prg => s.prgWord o | .stn i => s.stnWord i o | .recd => s.recWord o | .stat => s.statWord o | .pair => s.pairWord o
  | .sec => s.secWord o | .dbg => 0

/-- A status word as Junction answers it: on a mirrored page from the mirror, which shows the reset values until the die's first
update. -/
def State.presented (s : State) (p : PageId) (o : Nat) : Word :=
  if pageMirrored p then ((s.pg p).mirror.get? o).getD (State.reset.statusWord p o) else s.statusWord p o

/-! ## The input image (Table 14-5) -/

/-- STA of a station by the events that have their SEQ: a join, a loss or a refusal still waiting for one is not shown (R367). -/
def State.stnShown (s : State) (i : Fin 16) : Word :=
  let w := s.stnWord i 0x040
  let as_ (k : Nat) : Word := (w &&& 0xFFFFFFF8) ||| BitVec.ofNat 32 k
  if s.evHeld (.stn i) 0x7102 then as_ 4
  else if s.evHeld (.stn i) 0x7101 then as_ 2
  else if s.evHeld (.stn i) 0x7103 && fld w 0 3 = 6 then as_ (if s.stn[i].wasRefused then 6 else 1)
  else w

/-- Word `k` of the input image but for cycle, flags, FREEZE_SEQ and FREEZE_TB. -/
def State.inputWord (s : State) (k : Nat) : Word :=
  let o := 4 * k
  if o = 0x018 then mkWord [(0, 8, s.mc.mode.code), (8, 8, s.mc.cause)]
  else if o = 0x020 then bitsOf 32 (fun n => s.din[Fin.ofNat 48 n].seqLevel)
  else if o = 0x024 then bitsOf 16 (fun n => s.din[Fin.ofNat 48 (32 + n)].seqLevel)
  else if o = 0x028 then s.safe.sinSeq
  else if o = 0x02C then s.presented .safe 0x078
  else if 0x030 ≤ o ∧ o < 0x040 then
    s.sideWord (Fin.ofNat 2 ((o - 0x030) / 8)) (if o % 8 = 0 then 0x044 else 0x04C)
  else if 0x040 ≤ o ∧ o < 0x0C0 then
    s.ptlWord (Fin.ofNat 8 ((o - 0x040) / 16)) (match (o - 0x040) % 16 with | 0 => 0x044 | 4 => 0x048 | 8 => 0x058 | _ => 0x05C)
  else if 0x0C0 ≤ o ∧ o < 0x240 then
    let a : Fin 12 := Fin.ofNat 12 ((o - 0x0C0) / 32)
    let fb (r : Nat) : Word := s.presented (.fb a) r
    match (o - 0x0C0) % 32 with
    | 0 => s.axWord a 0x0A0 | 4 => s.axWord a 0x0A4 | 8 => s.axWord a 0x0A8 | 12 => s.axWord a 0x0AC
    | 16 => s.axWord a 0x0B0 | 20 => fb 0x098 | 24 => fb 0x09C | _ => fb 0x0A0
  else if 0x240 ≤ o ∧ o < 0x300 then
    s.presented (.lsw (Fin.ofNat 24 ((o - 0x240) / 8))) (if o % 8 = 0 then 0x060 else 0x068)
  else if 0x300 ≤ o ∧ o < 0x320 then
    match (o - 0x300) / 4 with
    | 0 => lo32 s.pwr.vlog | 1 => lo32 s.pwr.vmot[0] | 2 => lo32 s.pwr.vmot[1] | 3 => lo32 s.pwr.vlsw
    | 4 => lo32 s.baseShown | 5 => lo32 (s.pwr.scalePct 0) | 6 => lo32 (s.pwr.scalePct 1) | _ => s.pwr.sta
  else if 0x320 ≤ o ∧ o < 0x360 then s.stnShown (Fin.ofNat 16 ((o - 0x320) / 4))
  else if 0x400 ≤ o ∧ o < 0x800 then wordAt (s.stn[Fin.ofNat 16 ((o - 0x400) / 64)].frozen) ((o - 0x400) % 64 / 4)
  else 0

/-- The input image of a cycle frozen at the present instant (R366, R367). -/
def State.inputImage (s : State) (flags : Word) (seq : Nat) : List Word :=
  (List.range 512).map (fun k => match k with
    | 0 => lo32 s.prg.cycle | 1 => flags | 2 => lo32 seq | 3 => hi32 seq | 4 => lo32 s.tb | 5 => hi32 s.tb
    | k => s.inputWord k)

/-! ## The output image and the bank -/

/-- One byte of a word is replaced. -/
def putByte (k : Nat) (b : Byte) (w : Word) : Word :=
  BitVec.ofNat 32 (w.toNat - fld w (8 * (k % 4)) 8 * 2 ^ (8 * (k % 4)) + b.toNat * 2 ^ (8 * (k % 4)))

/-- The output image, all zeros before the first write (R368). -/
def Prg.image512 (p : Prg) : List Word := if p.output = [] then List.replicate 512 0 else p.output

/-- The program writes bytes of the output image; writes to reserved bytes are ignored (R366). -/
def State.outWrites (l : List (Nat × Byte)) (s : State) : State :=
  let keep := l.filter (fun e => decide (e.1 < 0x060) || (decide (0x400 ≤ e.1) && decide (e.1 < 0x800)))
  { s with prg := { s.prg with output := keep.foldl (fun m e => updList m (e.1 / 4) (putByte e.1 e.2)) s.prg.image512 } }

/-- A program address lies in a section that may be written (Table 14-2). -/
def Image.writable (im : Image) (a : Nat) : Bool :=
  im.sects.any (fun (t, _, n, b) => (t = 3 || t = 4 || t = 5 || t = 9) && decide (b ≤ a) && decide (a < b + n))

/-- What a write of the program to an address of its map meets: none, or the cause it traps with: a RISC-V store access fault outside the
map or against its section, STACK in the 256 bytes below a stack (Tables 14-2, 14-4, 14-9, R363). -/
def Image.writeFault (im : Image) (a : Nat) : Option Nat :=
  if 0x201000 ≤ a ∧ a < 0x201800 then none
  else if im.tasks.any (fun k => decide (k.stackSize ≠ 0) && decide (k.stack ≤ a + 256) && decide (a < k.stack)) then some 0x41
  else if decide (a < 0x180000) && im.writable a then none
  else some 7

/-- A write that traps: its task, the cause and the address. -/
structure WriteTrap where
  /-- Task that writes. -/
  task : Nat
  /-- Cause of Table 14-9. -/
  cause : Nat
  /-- Program address. -/
  addr : Nat
  deriving DecidableEq, Repr

/-- Writes of tasks to program addresses, in order: those that take effect, and the trap of each task that meets a fault, after which it
writes nothing more (R363, R375). -/
def Image.sift (im : Image) (l : List (Nat × Nat × Byte)) : List (Nat × Byte) × List WriteTrap :=
  l.foldl (fun r e =>
    if r.2.any (fun x => x.task = e.1) then r
    else match im.writeFault e.2.1 with
      | none => (r.1 ++ [e.2], r.2)
      | some c => (r.1, r.2 ++ [⟨e.1, c, e.2.1⟩])) ([], [])

/-- The writes of a command at program addresses: those to the output image are given by their offset in it (Table 14-4). -/
def writesOf (out bank : List (Nat × Nat × Byte)) : List (Nat × Nat × Byte) := out.map (fun e => (e.1, 0x201000 + e.2.1, e.2.2)) ++ bank

/-- A member is put in a list without repeats. -/
def addNew (l : List Nat) (k : Nat) : List Nat := if l.contains k then l else l ++ [k]

/-- The program writes bytes of its bank; words of the RETAIN section join both changed-word sets (R379). -/
def State.bankWrites (l : List (Nat × Byte)) (s : State) : State :=
  (l.filter (fun e => decide (e.1 < 0x180000) && s.prg.image.writeFault e.1 = none)).foldl (fun (t : State) (e : Nat × Byte) =>
    let t1 := t.sramWrite (bankBase t.prg.bank + e.1) [e.2]
    match t.prg.image.retain with
    | some (b, n) =>
      if decide (b ≤ e.1) && decide (e.1 < b + n) then
        let k := (e.1 - b) / 32
        { t1 with prgx := { t1.prgx with changed := t1.prgx.changed.map (fun x => addNew x k) } }
      else t1
    | none => t1) s

/-- Writes that the map admits take effect, in the output image through its window and in the bank (R363, R366). -/
def State.taskWrites (l : List (Nat × Byte)) (s : State) : State :=
  (s.outWrites ((l.filter (fun e => decide (0x201000 ≤ e.1))).map (fun e => (e.1 - 0x201000, e.2)))).bankWrites l

/-! ## Retained data (R379, R380) -/

/-- Both buffers are read (R33, R84, R380). -/
def State.retRead (s : State) : State := forAll [0, 1] (fun b t => t.granUse (retBase b) (s.retLen b)) s

/-- The retained bytes of the bank that runs. -/
def State.retBytes (s : State) (k : Nat) : List Byte :=
  match s.prg.image.retain with
  | some (b, _) => s.sramBytes (bankBase s.prg.bank + b + 32 * k) 32
  | none => []

/-- The header of buffer `b` is marked invalid (R379). -/
def State.retMark (b : Nat) (s : State) : State := s.granWrite (retBase b + 16) [0]

/-- The words `d` captured for buffer `b` at `now`, with the tags of the freeze and of the running image's layout (R379). -/
def State.retTake (b : Nat) (d : List (Nat × List Byte)) (now : Nat) (s : State) : State :=
  { s with prgx := { s.prgx with
      retBusy := some (b, now), retData := d, retTag := s.prg.freezeSeq, retTagLayout := s.prg.image.layout
      changed := upd s.prgx.changed (Fin.ofNat 2 b) (fun _ => []) } }

/-- Phase 4 captures the changed words of the buffer with the older tag and starts their write (R379). Of
two equal tags buffer 0 is taken (DESIGN CHOICE, log 81). -/
def State.retStart (s : State) : State :=
  if s.noGranary then s
  else
    let b := if s.retTagOf 1 < s.retTagOf 0 then 1 else 0
    (s.retMark b).retTake b (s.prgx.changed[Fin.ofNat 2 b].map (fun k => (k, s.retBytes k))) s.tb

/-- The end of a cycle: phase 4 has captured its words, and every first-cycle flag is cleared (R386). -/
def State.cycleEnd (s : State) : State :=
  let d := stepsOf 24 (s.tb - s.prg.freezeTb) 1600 0xFFFF
  let p := s.prg
  { s with
    prg := { p with inCycle := false, waitRet := false, cycle := p.cycle + 1, stopWait := false, due := []
                    switchFrom := if p.switchWait then s.tb else p.switchFrom, switchCycle := p.switchWait
                    run := if p.stopWait then .suspended else p.run }
    prgx := { s.prgx with lastRun := some p.cycle, last := d, max := max s.prgx.max d, cycles := inc s.prgx.cycles 0xFFFFFFFF, turn := s.prgx.turn + 1, firstInst := []
                          outcomes := s.prgx.outcomes.filter (fun o => decide (s.prgx.turn < o.2.2 + 4)) } }

/-- Phase 4 (R379): with the last write unfinished the cycle waits for it. -/
def State.phase4 (s : State) : State :=
  if s.prgx.retBusy.isSome then
    let t := s.prgFlag 4
    { t with prg := { t.prg with waitRet := true }, prgx := { t.prgx with retLate := inc t.prgx.retLate 0xFFFF } }
  else s.retStart.cycleEnd

/-- RET_LAST: the time `d` that the last write took (R379). -/
def State.retTime (d : Nat) (s : State) : State := { s with prgx := { s.prgx with retLast := stepsOf 25 d 1600 0xFFFF } }

/-- The write in progress completes at `t`; a cycle that waits for it goes on (R379). -/
def State.retDone (t : Nat) (s0 : State) : State :=
  match s0.prgx.retBusy with
  | none => s0
  | some (b, start) =>
    let s := s0.to t
    let idle : State := { s with prgx := { s.prgx with retBusy := none, retData := [] } }
    let s1 := if s.noGranary then idle
      else
        let u := s.prgx.retData.foldl (fun (u : State) (e : Nat × List Byte) => u.granWrite (retBase b + 64 + 32 * e.1) e.2) idle
        (u.granWrite (retBase b) (leBytes 8 s.prgx.retTag ++ leBytes 8 s.prgx.retTagLayout ++ [1])).retTime (s.tb - start)
    if s1.prg.waitRet then s1.retStart.cycleEnd else s1

/-- RETAIN_WRITE_DONE (R379): the write in progress completes at `t`. -/
def execRetainWriteDone (t : Nat) (s : State) : Host.Outcome State Fault Refusal := .next (s.retDone t)

/-! ## Publication (R333, R371, R390) -/

/-- A channel the program owns outside SERVICE (R333). -/
def State.prgOwns (s : State) (c : Fin 24) : Bool := !s.doorOwns c && !bit s.cfg.lswHost c.val

/-- The load states of the output image go to the Switch die in one packet (R334); the state 3 does not exist and leaves the
channel. The first publication after a takeover under v1 sends those of the last suppressed image (Table 18-7). -/
def State.publishLoads (s0 : State) : State :=
  let out := if s0.pairx.held = [] then s0.prg.image512 else s0.pairx.held
  let s : State := { s0 with pairx := { s0.pairx with held := [] } }
  (forAll (allLsw.filter (fun c => s.prgOwns c)) (fun c t =>
    let w := out.getD c.val 0
    if fld w 0 2 = 3 then t else t.lswSet c (fld w 0 2) (fld w 16 10)) s).lswDeliver

/-- Output bytes of a station. -/
def Prg.stnBytes (p : Prg) (i n : Nat) : List Byte :=
  (((p.image512.drop (0x100 + 16 * i)).take 16).flatMap (fun w => leBytes 4 w.toNat)).take n

/-- The JOIN_ACK and OUT frames of the stations are queued: output bytes to a PRESENT station, a probe to the others (R390, R410). -/
def State.publishStations (s : State) : State :=
  forAll (List.finRange 16) (fun i t =>
    match t.stn[i].st with
    | .present =>
      t.stnOut i (t.prg.stnBytes i.val t.cfg.stn[i].outLen)
    | .joining | .ready => t.stnOut i []
    | .unconfigured | .absent | .lost | .refused => t) s.acksNow

/-- One request is delivered: the code of its refusal, or none (R370). -/
def State.deliver (h : Nat) (r : Request) (s : State) : Option Nat × State :=
  match r with
  | .axCmd a m ctl =>
    let cmd : Option Nat := match ctl % 32 with | 1 => some 0 | 2 => some 1 | 4 => some 2 | 8 => some 3 | 16 => some 4 | _ => none
    match cmd with
    | none => (some 0x44, s)
    | some k => s.axCommand .program (Fin.ofNat 12 a) k m h
  | .axProfile a p => s.profileCommit (Fin.ofNat 12 a) p
  | .ptlReq p code => s.ptlRequest (Fin.ofNat 8 p) false code h
  | .sideReq d code =>
    match code with
    | 1 => (none, s.sideRequest (Fin.ofNat 2 d) false 1)
    | 2 => (none, s.sideRequest (Fin.ofNat 2 d) false 2)
    | _ => (some 0x42, s)
  | .engineCtl e ctl => s.engineCommand .program e ctl
  | .canSend n w0 w1 data => s.canPush (Fin.ofNat 4 n) w0 w1 data
  | .recWrite type sev data => s.userRec false type sev data

/-- What req_status answers for the outcome of a delivery: a refusal code of 0x40 to 0x7F as it is; for one outside, which Table 14-7 has no
value for, a free value of that range (R369; log 2). -/
def outcomeCode (r : Option Nat) : Nat :=
  match r with
  | none => 1
  | some c => if 0x40 ≤ c ∧ c ≤ 0x7F then c else 0x40 + Config.free 46 c % 0x40

/-- The queue of requests is delivered in order, and each outcome kept (R370). -/
def State.deliverAll (s : State) : State :=
  let l := s.prgx.reqs
  l.foldl (fun (t : State) (e : Nat × Request) =>
    let r := t.deliver e.1 e.2
    { r.2 with prgx := { r.2.prgx with outcomes := r.2.prgx.outcomes ++ [(e.1, outcomeCode r.1, s.prgx.turn)] } })
    { s with prgx := { s.prgx with reqs := [] } }

/-- Phase 3 (R371, R478): a standby delivers nothing. -/
def State.publish (s : State) : State :=
  if s.mc.mode = .standby then { s with prgx := { s.prgx with reqs := [] } }
  else s.publishLoads.publishStations.deliverAll

/-! ## The Timetable (R371 to R374) -/

/-- Counts of a main period. -/
def State.mainPeriod (s : State) : Nat := ms (max 1 s.prg.image.mainPeriod)

/-- A cycle, or the switch at its end, has not ended. -/
def Prg.busy (p : Prg) : Bool := p.inCycle || p.waitRet || p.switchWait

/-- Further cyclic tasks due at slot `n` (Table 14-8). -/
def Image.cyclic (im : Image) (n : Nat) : List Nat :=
  (im.tasks.filter (fun k => inR 1 k.num 4 && n % max 1 k.every = 0)).map (·.num)

/-- A slot arrives before the cycle has ended (R374). -/
def State.overrun (s : State) : State :=
  let skips := inc s.prgx.skips 0xFFFF
  let late := (s.prg.image.cyclic s.prg.slots).filter (fun k => !(s.prg.image.cyclic (s.prg.slots + 1)).contains k)
  let t : State :=
    { s with
      prg := { s.prg with slots := s.prg.slots + 1, carried := late.foldl addNew s.prg.carried, inFlags := setBit s.prg.inFlags 4 }
      prgx := { s.prgx with skips } }
  (t.prgFlag 0).ev .prg 0x7002 (leBytes 4 (s.prg.cycle % 2 ^ 32) ++ leBytes 2 skips)

/-- The last SEQ assigned. -/
def State.lastSeq (s : State) : Nat := s.seq.next - 1

/-- Insertion by SEQ, behind those of the same. -/
def ErrRec.insert (e : ErrRec) : List ErrRec → List ErrRec
  | [] => [e]
  | x :: l => if x.seq ≤ e.seq then x :: e.insert l else e :: x :: l

/-- A task is entered with its context (R364). -/
def State.enterTask (task : Nat) (flags : Word) (record : Option (Event × Nat)) (s : State) : State :=
  { s with prgx := { s.prgx with ctx := s.prgx.ctx.filter (fun c => c.task ≠ task) ++ [⟨task, s.prg.cycle, flags, record⟩] } }

/-- A cycle begins with an input image whose flags are `flags`: the tasks due are set going with their contexts, and before them the error
task for the error records due, which it is given in SEQ order (R364, R371, R375). -/
def State.beginCycle (cycle : Nat) (flags : Word) (input : List Word) (s : State) : State :=
  let p := s.prg
  let due := 0 :: (p.carried.foldl addNew (p.image.cyclic p.slots))
  let recs := s.prgx.errNow ++ s.prgx.errors.foldl (fun l e => e.insert l) []
  forAll (if recs = [] then due else 15 :: due) (fun k t => t.enterTask k flags none) { s with
    prg := { p with inCycle := true, freezeTb := s.tb, freezeSeq := s.lastSeq, input, inFlags := 0, flagsNow := flags, cycle
                    due, carried := [], slots := p.slots + 1 }
    prgx := { s.prgx with errNow := recs, errors := [] } }

/-- Phase 1 (R367, R371): the input image is captured at the present instant. -/
def State.freeze (s0 : State) : State :=
  let s := s0.stnFreeze
  let f := s.prg.inFlags
  s.beginCycle s.prg.cycle f (s.inputImage f s.lastSeq)

/-- TIMETABLE_TICK (R371): the next tick of 1 ms; at a slot a running program freezes its inputs, or overruns; no cycle
begins before the init task has returned (R378). -/
def execTimetableTick (s0 : State) : Host.Outcome State Fault Refusal :=
  let t := max (s0.prg.tickAt / ms 1 + 1) (ceilDiv s0.tb (ms 1)) * ms 1
  let s1 := s0.to t
  let s : State := { s1 with prg := { s1.prg with tickAt := t } }
  if s.prg.run = .running && s.prgx.initRun.isNone && (s.mc.mode = .run || s.mc.mode = .degraded) && t % s.mainPeriod = 0 then
    .next (if s.prg.busy then s.overrun else s.freeze.sendImage)
  else .next s

/-- Execution times of tasks in units of 10 µs (R394). -/
def State.taskTimes (l : List (Nat × Nat)) (s : State) : State :=
  { s with prgx := { s.prgx with taskTimes := l.foldl (fun v (e : Nat × Nat) =>
      upd v (Fin.ofNat 16 e.1) (fun x => (min e.2 0xFFFF, max x.2 (min e.2 0xFFFF)))) s.prgx.taskTimes } }

/-! ## Stops and traps (R375, R376) -/

/-- A stopped program (R376): fail-safe load states, no OUT frame, STOP on program-owned axes that move. A standby issues no load command
(R479, R487). -/
def State.prgStop (s : State) : State :=
  let s1 := if s.mc.mode = .standby then s else (forAll (allLsw.filter (fun c => s.prgOwns c)) (fun c t => t.lswSet c (t.cfg.lswFs[c]).1 (t.cfg.lswFs[c]).2) s).lswDeliver
  let s2 := forAll ((List.finRange 12).filter (fun a => s.ownsAxis .program a && s.ax[a].active)) (fun a t => t.accept a (.stop 6)) s1
  { s2 with
    prg := { s2.prg with run := .stopped, inCycle := false, waitRet := false, due := [] }
    prgx := { s2.prgx with reqs := [], errors := [], errNow := [], events := [], swEvents := [], initRun := none } }.prgFlag 2

/-- A task runs: it is due in the cycle, is the init or the error task, or is an event task with a record. -/
def State.taskRuns (s : State) (task : Nat) : Bool :=
  if task = 15 then true
  else if task = 14 then s.prgx.initRun.isSome
  else if task < 5 then s.prg.inCycle && s.prg.due.contains task
  else s.prgx.events.any (fun e => e.1 = task)

/-- The failing task is abandoned: for the present cycle, the init task for good, and an event task with its record (R375). -/
def State.abandon (task : Nat) (s : State) : State :=
  { s with
    prg := { s.prg with due := s.prg.due.filter (· ≠ task) }
    prgx := { s.prgx with
      initRun := if task = 14 then none else s.prgx.initRun
      events := match s.prgx.events.find? (fun e => e.1 = task) with | some e => s.prgx.events.erase e | none => s.prgx.events } }

/-- A trap with a cause of 0x00 to 0x42: the task is abandoned, and the error task runs at once; a trap of the error task itself is no
call of it, and stops the program (R375). -/
def State.trap (task cause : Nat) (pc val : Word) (s : State) : State :=
  let u := s.abandon task
  let t : State := { u with prgx := { u.prgx with
    traps := if task = 15 then u.prgx.traps else inc u.prgx.traps 0xFFFF, trapTask := task, trapCause := cause, trapPc := pc, trapVal := val } }
  ((if task = 15 then t else t.enterTask 15 s.prg.flagsNow none).prgFlag 1).ev .prg 0x7003 ([b8 task, b8 cause, 0, 0] ++ leBytes 4 pc.toNat)

/-- What the error task answers is acted on: it returned 1 or trapped, or the task that trapped is the error task (R375). -/
def State.verdict (task : Nat) (stops : Bool) (s : State) : State := if stops || task = 15 then s.prgStop else s

/-- A write that the map refuses traps in its task (R363, R375). Where in the program, and what the error task answers, is the program's:
free values (log 2). -/
def State.accessTrap (x : WriteTrap) (s : State) : State :=
  if s.prg.run ≠ .running then s
  else
    let d := s.draw
    (d.2.trap x.task x.cause (BitVec.ofNat 32 (Config.free 47 d.1)) (BitVec.ofNat 32 x.addr)).verdict x.task (Config.free 48 d.1 % 2 = 1)

/-- TASKS_COMPLETE (R371): phase 2 ends at `t`; the bytes each task wrote, in the order in which the two cores wrote them under their tasks'
priorities, and the execution times are given (R372). The error
records delivered in the cycle and not answered by a trap let the program continue. While the init task runs it is that task which ends
(R378). -/
def execTasksComplete (t : Nat) (out bank : List (Nat × Nat × Byte)) (times : List (Nat × Nat)) (s0 : State) :
    Host.Outcome State Fault Refusal :=
  let r := s0.prg.image.sift ((writesOf out bank).filter (fun e => s0.taskRuns e.1))
  if s0.prgx.initRun.isSome && s0.prg.run = .running then
    let s := ((s0.to t).taskWrites r.1).taskTimes times
    .next (forAll r.2 State.accessTrap { s with prgx := { s.prgx with initRun := none } })
  else if !s0.prg.inCycle || s0.prg.waitRet then .next s0
  else
    let s := forAll r.2 State.accessTrap (((s0.to t).taskWrites r.1).taskTimes times)
    .next (if s.prg.inCycle then { s with prgx := { s.prgx with errNow := [] } }.publish.phase4 else s)

/-- EVENT_TASK_RELEASE (R373): the oldest waiting record of an event task is released at the first tick after its event's SEQ, and
the task returns with what it wrote. Outside phase 2 it publishes the output image alone; the requests it queued wait for the
next phase 3. A task that traps does not return. -/
def execEventTaskRelease (task : Nat) (out bank : List (Nat × Byte)) (time : Nat) (s0 : State) : Host.Outcome State Fault Refusal :=
  match s0.prgx.events.find? (fun e => e.1 = task) with
  | none => .next s0
  | some e =>
    if s0.prg.waitRet || s0.prg.run ≠ .running then .next s0
    else
      let t := (s0.to ((e.2.2.2 / ms 1 + 1) * ms 1)).enterTask task s0.prg.flagsNow (some (e.2.1, e.2.2.1))
      let r := s0.prg.image.sift (writesOf (out.map (fun x => (task, x))) (bank.map (fun x => (task, x))))
      let s := (t.taskWrites r.1).taskTimes [(task, time)]
      if r.2 ≠ [] then .next (forAll r.2 State.accessTrap s)
      else
        let s1 : State := { s with prgx := { s.prgx with events := s.prgx.events.erase e } }
        .next (if s1.prg.inCycle || s1.mc.mode = .standby then s1 else s1.publishLoads.publishStations)

/-- An event task is bound to an event: its code, and its source or the SIN input it names (R373). -/
def Task.takes (k : Task) (e : Event) : Bool :=
  inR 5 k.num 12 && k.code = e.code && k.source = e.source && (match k.sin with
    | some n => ((e.payload[0]?).getD 0).toNat = n
    | none => true)

/-- An event that had its SEQ at `at_` reaches the event tasks bound to it (R373). -/
def State.eventReach (x : Event × Nat × Nat) (s : State) : State :=
  forAll (s.prg.image.tasks.filter (fun k => k.takes x.1)) (fun k t =>
    if 8 ≤ (t.prgx.events.filter (fun e => e.1 = k.num)).length then
      { t with prgx := { t.prgx with evtLost := inc t.prgx.evtLost 0xFFFF } }.errDue 0x62 k.num x.2.1
    else { t with prgx := { t.prgx with events := t.prgx.events ++ [(k.num, x)] } }) s

/-- An event with its SEQ reaches the event tasks, while the steps of a switch run those of the new binding once it stands (R373, R382). -/
def State.eventTasks (e : Event) (seq : Nat) (s : State) : State :=
  if s.prg.run ≠ .running then s
  else if s.prg.switchWait && !s.prg.inCycle && !s.prg.waitRet then
    { s with prgx := { s.prgx with swEvents := s.prgx.swEvents ++ [(e, seq, s.tb)] } }
  else s.eventReach (e, seq, s.tb)

/-- The steps of a switch have ended: what arrived while they ran reaches the tasks bound now. -/
def State.switchOver (s : State) : State :=
  forAll s.prgx.swEvents State.eventReach { s with prg := { s.prg with switchWait := false, switchCycle := false }, prgx := { s.prgx with swEvents := [] } }

/-- TASK_TIMEOUT (R374): at TASK_LIMIT main periods the tasks still running, given with their program counters, are aborted;
`stops` is the error task's verdict. No rule states TRAP_VAL of an abort: a free value (log 2). -/
def execTaskTimeout (tasks : List (Nat × Word)) (stops : Bool) (s0 : State) : Host.Outcome State Fault Refusal :=
  if !s0.prg.inCycle || s0.prg.waitRet then .next s0
  else
    let s := s0.to (s0.prg.freezeTb + s0.prg.image.taskLimit * s0.mainPeriod)
    let s1 := forAll (tasks.filter (fun e => s.prg.due.contains e.1)) (fun e t =>
      if t.prg.due.contains e.1 then t.draw.2.trap e.1 0x40 e.2 (BitVec.ofNat 32 (Config.free 27 t.draw.1)) else t) s
    .next (if stops then s1.prgStop else s1)

/-- PROGRAM_TRAP (R375): a task that runs traps with a cause up to 0x42, or the error task is called with the oldest record due; `stops` says
that it returned 1 or trapped. -/
def execProgramTrap (task cause : Nat) (pc val : Word) (stops : Bool) (s : State) : Host.Outcome State Fault Refusal :=
  if s.prg.run ≠ .running then .next s
  else if cause < 0x10 || inR 0x40 cause 0x42 then
    .next (if s.taskRuns (task % 16) then (s.trap (task % 16) cause pc val).verdict (task % 16) stops else s)
  else match s.prgx.errNow with
    | e :: l =>
      if e.cause = cause then
        .next (State.verdict 0 stops { s with prgx := { s.prgx with errNow := l } })
      else .next s
    | [] => .next s

/-! ## Runtime services (R365, R369, R370, R390, R457) -/

/-- What a service returns in a0 and a1. -/
def State.answer (a0 a1 : Word) (s : State) : State := { s with prgx := { s.prgx with a0 := a0, a1 := a1 } }

/-- A service whose effect waits for phase 3: its handle, or 0 once 256 requests are queued in the cycle (R370). -/
def State.request (r : Request) (s : State) : State :=
  if s.prg.run ≠ .running then s
  else if 256 ≤ s.prgx.reqs.length then s.answer 0 0
  else
    let h := s.prgx.handle
    { s with prgx := { s.prgx with reqs := s.prgx.reqs ++ [(h, r)], handle := if h < 0xFFFFFFFF then h + 1 else 1 } }.answer
      (BitVec.ofNat 32 h) 0

/-- A service that takes effect at the call. -/
def State.service (k : State → State) (s : State) : State := if s.prg.run = .running then k s else s

/-- AX_CMD: ax_cmd with its move block. -/
def execAxCmd (a : Fin 12) (tgt : Int) (vel vmax tag : Nat) (ctl : Word) (s : State) : Host.Outcome State Fault Refusal :=
  .next (s.request (.axCmd a.val ⟨fld ctl 8 2, bit ctl 12, tag % 65536, sx 40 (tc 40 tgt), vel % 2 ^ 32, vmax % 2 ^ 32, false⟩ (fld ctl 0 5)))

/-- AX_PROFILE: ax_profile with its eight words. -/
def execAxProfile (a : Fin 12) (p : Vector Word 8) (s : State) : Host.Outcome State Fault Refusal :=
  .next (s.request (.axProfile a.val
    ⟨p[0].toNat, p[1].toNat, p[2].toNat, p[3].toNat, p[4].toNat, p[5].toNat, p[6].toNat, p[7].toNat⟩))

/-- PTL_REQ: ptl_req. -/
def execPtlReq (p : Fin 8) (code : Nat) (s : State) : Host.Outcome State Fault Refusal := .next (s.request (.ptlReq p.val code))

/-- SIDE_REQ: side_req. -/
def execSideReq (d : Fin 2) (code : Nat) (s : State) : Host.Outcome State Fault Refusal := .next (s.request (.sideReq d.val code))

/-- ENGINE_CTL: engine_ctl of a gear engine, or of a cam engine from 16 on. -/
def execEngineCtl (cam : Bool) (n : Fin 12) (ctl : Nat) (s : State) : Host.Outcome State Fault Refusal :=
  .next (s.request (.engineCtl (if cam then 16 + n.val % 4 else n.val) ctl))

/-- CAN_SEND: can_send. -/
def execCanSend (n : Fin 4) (w0 w1 : Word) (data : List Byte) (s : State) : Host.Outcome State Fault Refusal :=
  .next (s.request (.canSend n.val w0 w1 data))

/-- can_recv: the next frame with SEQ ≤ FREEZE_SEQ that the program has not read; the first after a loss carries LOST_BEFORE. -/
def State.recvFrame (n : Fin 4) (s : State) : State :=
  let c := s.can[n].skipStn
  match c.ring.find? (fun f => decide (c.prgAt ≤ f.num) && !f.stn) with
  | some f =>
    if f.hasSeq && decide (f.seq ≤ s.prg.freezeSeq) && s.canMode n 12 then
      let t := s.modCan n (fun _ => { c with prgAt := f.num + 1, prgLost := false }.skipStn)
      { t with prgx := { t.prgx with recv := some { f with w1 := putBit f.w1 9 c.prgLost } } }.answer 1 0
    else s.answer 0 0
  | none => s.answer 0 0

/-- CAN_RECV: can_recv (R370). -/
def execCanRecv (n : Fin 4) (s : State) : Host.Outcome State Fault Refusal := .next (s.service (State.recvFrame n))

/-- The outcome of a handle (R369, R370). -/
def State.outcomeOf (s : State) (h : Nat) : Nat :=
  if s.prgx.reqs.any (fun e => e.1 = h) then 0
  else match s.prgx.outcomes.find? (fun o => o.1 = h) with
    | some o => o.2.1
    | none => 2

/-- REQ_STATUS: req_status. -/
def execReqStatus (h : Word) (s : State) : Host.Outcome State Fault Refusal :=
  .next (s.service (fun t => t.answer (BitVec.ofNat 32 (t.outcomeOf h.toNat)) 0))

/-- STN_ACK: stn_ack (R390). -/
def execStnAck (i : Fin 16) (s : State) : Host.Outcome State Fault Refusal :=
  .next (s.service (fun t =>
    if t.stn[i].st = .ready then (t.modStn i (fun x => { x with acked := true })).answer 0 0 else t.answer 1 0))

/-- REC_WRITE: rec_write. -/
def execRecWrite (type sev : Nat) (data : List Byte) (s : State) : Host.Outcome State Fault Refusal :=
  .next (s.request (.recWrite type sev data))

/-- WARN: warn raises PRG_WARN at the call. -/
def execWarn (code : Nat) (data : Word) (s : State) : Host.Outcome State Fault Refusal :=
  .next (s.service (fun t => (t.ev .prg 0x7001 (leBytes 2 code ++ [0, 0] ++ leBytes 4 data.toNat)).answer 0 0))

/-- TB_NOW: tb_now. -/
def execTbNow (s : State) : Host.Outcome State Fault Refusal := .next (s.service (fun t => t.answer (lo32 t.tb) (hi32 t.tb)))

/-- SEM_TAKE: sem_take (R365). -/
def execSemTake (n : Fin 16) (s : State) : Host.Outcome State Fault Refusal :=
  .next (s.service (fun t =>
    if t.prgx.sems.contains n.val then t.answer 0 0
    else { t with prgx := { t.prgx with sems := t.prgx.sems ++ [n.val] } }.answer 1 0))

/-- SEM_GIVE: sem_give (R365). -/
def execSemGive (n : Fin 16) (s : State) : Host.Outcome State Fault Refusal :=
  .next (s.service (fun t => { t with prgx := { t.prgx with sems := t.prgx.sems.filter (· ≠ n.val) } }.answer 0 0))

/-! ## Restarts (R377, R378, R385) -/

/-- The kind of a restart by Table 14-10: warm, with the data of the buffer it takes and whether they are of the old layout; RETAIN_LOST;
RET_MISMATCH. -/
def State.restartKind (s : State) (cold : Bool) : Option (List Byte × Bool) × Bool × Bool :=
  if cold then (none, false, false)
  else match s.retPick with
    | none => (none, true, false)
    | some b =>
      let data := s.mem.granary.readBytes (retBase b + 64) s.prg.image.retSize
      if s.retLayout b = s.prg.image.layout then (some (data, false), false, false)
      else if s.retLayout b = s.prg.image.migFrom && s.prg.image.migFrom ≠ 0 then
        (some (s.mem.granary.readBytes (retBase b + 64) 0x78000, true), false, false)
      else (none, false, true)

/-- Every retained word counts as changed for both buffers. -/
def State.retAll (s : State) : State :=
  let l := List.range (s.prg.image.retSize / 32)
  { s with prgx := { s.prgx with changed := Vector.replicate 2 l } }

/-- The PROGRAM record of a restart or switch (Table 17-2): 1 warm, 2 cold, 3 switch. -/
def State.prgRecord (kind : Nat) (s : State) : State :=
  s.ownRec 0x0060 6 ([b8 kind] ++ List.replicate 7 0 ++ leBytes 8 s.prg.image.id ++ leBytes 4 s.prg.image.version)

/-- A restart of the program (R377, R378); its init task runs, and its first cycle starts at the next slot after that. -/
def State.prgRestart (asked : Bool) (s : State) : State :=
  let cold := asked || s.prg.coldNext
  let k := s.restartKind cold
  let warm := k.1.isSome
  let s1 := (if cold then s else s.retRead).loadBank s.prg.slot s.prg.bank s.prg.image
  let s2 := match k.1 with
    | some (data, old) => s1.putRetained data old
    | none => s1
  let flags := (s2.prg.inFlags &&& 0x20) ||| (if warm then 3 else 5) ||| (if k.2.1 then 0x40 else 0)
  let s3 : State :=
    { s2 with
      prg := { s2.prg with run := .running, lastWarm := warm, inCycle := false, waitRet := false, cycle := 0, slots := 0, carried := []
                           due := [], output := [], stopWait := false, coldNext := false
                           inFlags := flags, flagsNow := flags }
      pairx := { s2.pairx with held := [] }
      prgx := { s2.prgx with reqs := [], events := [], swEvents := [], errNow := [], cycles := 0, firstInst := if k.1.any (·.2) then s2.prgx.firstInst else []
                             initRun := if s2.prg.image.tasks.any (fun t => t.num = 14) then some (b2n warm) else none } }
  let s4 := if k.2.1 then (s3.prgFlag 3).errDue 0x60 0 s3.lastSeq else s3
  let s5 := if k.2.2 then (s4.prgFlag 7).errDue 0x61 0 s4.lastSeq else s4
  ((if s5.prgx.initRun.isSome then s5.enterTask 14 flags none else s5).retAll).prgRecord (if warm then 1 else 2)

/-! ## The Siding (R381 to R384) -/

/-- The Siding becomes the active slot: banks and images change places (R382, R383). -/
def State.swapSlots (s : State) : State :=
  (s.modPrg (fun p =>
    { p with slot := 1 - p.slot, bank := 1 - p.bank, image := p.sidImage, sidImage := p.image
             siding := if p.run = .notLoaded then .empty else .loaded })).helloChange

/-- ACTIVATE (R383): the Siding becomes active, and is cold-started; in CONFIG at the transition that leaves it. -/
def State.prgActivate (s : State) : State :=
  let t := s.swapSlots
  let t1 : State := { t with boot := { t.boot with prgOk := true } }
  if t.mc.mode = .config then t1.modPrg (fun p => { p with run := .loaded, coldNext := true }) else t1.prgRestart true

/-- The mode lets the program run. -/
def State.runs (s : State) : Bool := s.mc.mode = .run || s.mc.mode = .degraded

/-- A command of CTL: the code of its refusal, or none (R383, R395, Table 14-16). VERIFY and the check of a SWITCH wait for Guard's engine
(R505). -/
def State.prgCommand (cmd : Nat) (s : State) : Option Nat × State :=
  let p := s.prg
  if s.noGranary then (some 0x11, s)
  else match cmd with
    | 1 => if p.siding = .loading && !p.loadOpen then (none, (s.modPrg (fun p => { p with siding := .verifying })).engineDo .program) else (some 0x41, s)
    | 2 =>
      if !s.runs then (some 0x40, s)
      else if p.siding ≠ .ready then (some 0x41, s)
      else if p.sidImage.migFrom ≠ p.image.layout then (some 0x42, s)
      else (none, (s.modPrg (fun p => { p with siding := .switchPend })).engineDo .switch)
    | 3 => if s.runs && (p.run = .running || p.run = .stopped) then (none, s.prgRestart false) else (some 0x40, s)
    | 4 => if s.runs && (p.run = .running || p.run = .stopped) then (none, s.prgRestart true) else (some 0x40, s)
    | 5 => if p.run = .running then (none, s.prgStop) else (some 0x40, s)
    | 6 =>
      if p.siding = .switchPend || p.siding = .verifying then (some 0x40, s)
      else (none, s.modPrg (fun p => { p with siding := .empty, sidImage := {} }))
    | 7 =>
      if !p.run.still || !(s.runs || s.mc.mode = .config) then (some 0x40, s)
      else if p.siding ≠ .ready then (some 0x41, s)
      else (none, s.prgActivate)
    | _ => (some 0x43, s)

/-- A write of CTL (R394, R395). -/
def State.prgCtl (w : Word) (s : State) : State :=
  if fld w 16 16 ≠ 0x5047 then s.err .prg 0x04 0 0x040
  else match s.prgCommand (fld w 0 4) with
    | (some c, t) => t.err .prg c 0 0x040
    | (none, t) => t

/-- A write of a command of CTL by host software. -/
def State.hostPrg (cmd : Nat) (s : State) : State :=
  let w := mkWord [(0, 4, cmd), (16, 16, 0x5047)]
  s.gated .prg 0x040 w false (State.prgCtl w)

/-- PRG_VERIFY (R381). -/
def execPrgVerify (s : State) : Host.Outcome State Fault Refusal := .next (s.hostPrg 1)

/-- PRG_SWITCH (R382). -/
def execPrgSwitch (s : State) : Host.Outcome State Fault Refusal := .next (s.hostPrg 2)

/-- PRG_WARM (R377). -/
def execPrgWarm (s : State) : Host.Outcome State Fault Refusal := .next (s.hostPrg 3)

/-- PRG_COLD (R377). -/
def execPrgCold (s : State) : Host.Outcome State Fault Refusal := .next (s.hostPrg 4)

/-- PRG_STOP (R376). -/
def execPrgStop (s : State) : Host.Outcome State Fault Refusal := .next (s.hostPrg 5)

/-- PRG_DISCARD (R383). -/
def execPrgDiscard (s : State) : Host.Outcome State Fault Refusal := .next (s.hostPrg 6)

/-- PRG_ACTIVATE (R383). -/
def execPrgActivate (s : State) : Host.Outcome State Fault Refusal := .next (s.hostPrg 7)

/-- Waiting event records follow the new task table (R382). -/
def rebind (tasks : List Task) (l : List (Nat × Event × Nat × Nat)) : List (Nat × Event × Nat × Nat) :=
  l.filterMap (fun e => (tasks.find? (fun k => k.takes e.2.1)).map (fun k => (k.num, e.2)))

/-- PRG_SWITCH_EXEC (R382): with no cycle and no retained write in progress the four steps of the switch end at `t`, and prolong the cycle
that they follow. -/
def execPrgSwitchExec (t : Nat) (s0 : State) : Host.Outcome State Fault Refusal :=
  let p := s0.prg
  if !p.switchWait || p.inCycle || p.waitRet || s0.prgx.retBusy.isSome then .next s0
  else
    let s := (s0.to t).sectUse s0.sidSlot p.sidImage
    let l := s.instancesOf s.sidSlot p.sidImage
    let tab := s.migTableOf s.sidSlot p.sidImage
    let r := migCounts tab l
    let s1 := s.migrate (fun a n => s.sramBytes (bankBase p.bank + a) n) tab (bankBase (1 - p.bank)) l
    let took := s.tb - p.switchFrom
    let s2 := s1.swapSlots.modPrg (fun p => { p with inFlags := setBit p.inFlags 3 })
    let last := if p.switchCycle then stepsOf 24 (s.tb - p.freezeTb) 1600 0xFFFF else s.prgx.last
    let s3 : State := { s2 with prgx := { s2.prgx with
      migKept := min r.1 0xFFFF, migNew := min r.2.1 0xFFFF, migDropped := min r.2.2 0xFFFF, migTime := stepsOf 26 took 1600 0xFFFF
      last, max := max s2.prgx.max last
      events := rebind s2.prg.image.tasks s2.prgx.events } }
    .next ((s3.switchOver.retAll.prgFlag 5).prgRecord 3)

/-- A write of LOAD_CTL on the PRG page (R119, R150, R381, R395). OPEN = 1 opens the Siding whatever its state: a verification of it comes
to nothing, and so does a switch that waits for it (DESIGN CHOICE, log 69). -/
def State.prgLoadCtl (w : Word) (s : State) : State :=
  let p := s.prg
  let busy := s.sec.loadOpen || s.sec.load = .verifying
  if s.noGranary && (p.siding = .switchPend || bit w 0) then s.err .prg 0x11 0 0x044
  else if !bit w 0 then s.modPrg (fun p => { p with loadOpen := false })
  else if busy then s.err .prg 0x08 0 0x044
  else if p.loadOpen then s
  else
    ((s.modPrg (fun p => { p with loadOpen := true, loadLen := 0, siding := .loading, sidImage := {} })).switchOver).engineDrop [.program, .switch]

/-- PRG_LOAD_OPEN (R381): a write of LOAD_CTL.OPEN. -/
def execPrgLoadOpen (on : Bool) (s : State) : Host.Outcome State Fault Refusal :=
  .next (s.gated .prg 0x044 (BitVec.ofNat 32 (b2n on)) false (State.prgLoadCtl (BitVec.ofNat 32 (b2n on))))

/-- The page that owns the image load window: SEC while its load is open, otherwise PRG (Table 06-6, R150). -/
def State.loadPage (s : State) : PageId := if s.sec.loadOpen && !s.prg.loadOpen then .sec else .prg

/-- A write of bytes to the image load window (R150, R381, R499): into the Siding or the copy that is open; with none open it is
ignored and reported; with Granary absent it is refused, on the page whose load is open (R119, R148). -/
def State.loadWrite (off : Nat) (data : List Byte) (s : State) : State :=
  if s.noGranary then s.err s.loadPage 0x11 0 0
  else if s.prg.loadOpen then
    let t := s.granWrite (slotBase s.sidSlot + off) (data.take (0x400000 - off))
    t.modPrg (fun p => { p with loadLen := min (p.loadLen + data.length) 0xFFFFFFFF, siding := .loading })
  else if s.sec.loadOpen then
    let b := if s.sec.target = 1 then fwBase (1 - s.sec.fwCopy) else cfgBase (1 - s.sec.cfgCopy)
    let n := if s.sec.target = 1 then 0x100000 else 0x80000
    let t := s.granWrite (b + off) (data.take (n - off))
    { t with sec := { t.sec with loadLen := min (t.sec.loadLen + data.length) 0xFFFFFFFF, load := .loading } }
  else s.err .prg 0x08 0 0

end Sys2Proof.Machine
end

