-- ==== Sys2Proof/Machine/Permit.lean ====
section
/-! DEFINITION. The safety inputs and the safety functions of both channels: roles, filters, faults, the procedure of
R314, and what Junction sees of the permits (R299 to R315, R321, R512). -/

namespace Sys2Proof.Machine

/-! ## The seal word (R306, R307) -/

/-- The role of a safety input (Table 12-4): with LAYOUT 0 an egress belongs to a portal, with LAYOUT 1 to a side. -/
inductive Role where
  | zeroSpeed | release (side : Nat) | egress (n : Nat) | closed (p : Nat) | locked (p : Nat) | isolation (p : Nat) | spare
  deriving DecidableEq, Repr

/-- Portal `p` is in use by a seal word: PTL_EN. -/
def sealUses (w : Word) (p : Nat) : Bool := bit w (2 + p)

/-- The side of a portal by a seal word: PTL_SIDE. -/
def sealSide (w : Word) (p : Nat) : Nat := fld w (10 + p) 1

/-- The portals in use, ascending. -/
def sealPortals (w : Word) : List Nat := (List.range 8).filter (sealUses w)

/-- Role of SINnn under a seal word (R307). -/
def sealRole (w : Word) (n : Nat) : Role :=
  if n = 0 then .zeroSpeed
  else if n = 1 then .release 0
  else if n = 2 then (if bit w 0 then .release 1 else .spare)
  else if bit w 1 then
    if n = 3 then .egress 0
    else if n = 4 then (if bit w 0 then .egress 1 else .spare)
    else if 29 ≤ n then .spare
    else
      let p := (n - 5) / 3
      if !sealUses w p then .spare
      else match (n - 5) % 3 with | 0 => .closed p | 1 => .locked p | _ => .isolation p
  else if n = 3 then .spare
  else
    let p := (n - 4) / 4
    if !sealUses w p then .spare
    else match (n - 4) % 4 with | 0 => .closed p | 1 => .locked p | 2 => .isolation p | _ => .egress p

/-- The level of the contacts that shows the safe value (Table 12-5): energised only for a line of inverted polarity. -/
def Role.safeLevel (w : Word) : Role → Bool
  | .zeroSpeed => bit w 26
  | .release _ => bit w 27
  | .egress _ | .closed _ | .locked _ | .isolation _ | .spare => false

/-- The safe value of a role: egress active, every other inactive (Table 12-5). -/
def Role.safeValue : Role → Bool
  | .egress _ => true
  | .zeroSpeed | .release _ | .closed _ | .locked _ | .isolation _ | .spare => false

/-- The contacts of the role are test-pulsed (Table 12-3). -/
def Role.pulsed (w : Word) : Role → Bool
  | .closed _ | .locked _ => bit w 28
  | .isolation _ | .egress _ => bit w 29
  | .zeroSpeed | .release _ | .spare => false

/-- Discrepancy time of the role's class in ms (R306, R311). -/
def Role.discMs (w : Word) (r : Role) : Nat :=
  let c := match r with
    | .zeroSpeed | .release _ | .spare => fld w 18 2
    | .closed _ | .locked _ => fld w 20 2
    | .isolation _ | .egress _ => fld w 22 2
  match c with | 0 => 20 | 1 => 50 | 2 => 100 | _ => 250

/-- FILT / 250 µs (R309). -/
def filtSamples (w : Word) : Nat := match fld w 24 2 with | 0 => 4 | 1 => 12 | 2 => 20 | _ => 40

/-- The word passes the checks of Table 12-3. -/
def sealOkWord (w : Word) : Bool :=
  fld w 2 8 ≠ 0 && (bit w 1 || !bit w 9) && (bit w 0 || fld w 10 8 = 0)

/-! ## One input (R309 to R313) -/

/-- One sample of a contact under a filter of `n` samples. -/
def Contact.sample (n : Nat) (raw : Bool) (c : Contact) : Contact :=
  if raw = c.level then { c with run := 0 }
  else if n ≤ c.run + 1 then ⟨raw, 0⟩
  else { c with run := c.run + 1 }

/-- The contacts of SINnn as the evaluation starts: at the safe level (R309). -/
def SinIn.start (r : Role) (w : Word) : SinIn := { a := ⟨r.safeLevel w, 0⟩, b := ⟨r.safeLevel w, 0⟩, value := r.safeValue }

/-- The evaluated value (R310). -/
def SinIn.eval (r : Role) (w : Word) (x : SinIn) : Bool :=
  if x.fault ≠ 0 || x.a.level = r.safeLevel w || x.b.level = r.safeLevel w then r.safeValue else !r.safeValue

/-- A pad is in its test-pulse window at `t`: from the falling edge to 250 µs after the rising edge (R312). -/
def TpPad.window (x : TpPad) (t : Nat) : Bool :=
  match x.fell with | some f => decide (f ≤ t) && decide (t < f + us 750) | none => false

/-- One sample of both contacts of an input: filter, discrepancy timer, clearing of a fault, value. `skip` says which contacts
are in a window, `tp` that a TP fault stands on a pad that feeds the input. -/
def SinIn.sample (r : Role) (w : Word) (t : Nat) (skip : Bool × Bool) (tp : Bool) (raw : Bool × Bool) (x : SinIn) : SinIn :=
  let n := filtSamples w
  let a := if skip.1 then x.a else x.a.sample n raw.1
  let b := if skip.2 then x.b else x.b.sample n raw.2
  let moved := a.level ≠ x.a.level || b.level ≠ x.b.level
  let safe := r.safeLevel w
  let run := if skip.1 || skip.2 then x.safeRun else if raw.1 = safe && raw.2 = safe then min (x.safeRun + 1) n else 0
  let y : SinIn :=
    { x with
      a, b, safeRun := run
      disc := if a.level = b.level then none else if x.disc.isSome then x.disc else if moved then some t else none
      fault := if x.fault ≠ 0 && decide (n ≤ run) && !tp then 0 else x.fault }
  { y with value := y.eval r w }

/-- The pads that feed contacts A and B of SINnn (R312). -/
def feeds (n : Nat) : Fin 4 × Fin 4 := (Fin.ofNat 4 (n % 2), Fin.ofNat 4 (2 + n % 2))

/-- The channel evaluates: it has latched a word and is not halted (R314). -/
def Channel.evaluates (c : Channel) : Bool := c.running && !c.halted && c.word.isSome

/-- Both contacts of every input are sampled at `t` (R309). -/
def Channel.sampleAll (w : Word) (t : Nat) (a b : Word) (c : Channel) : Channel :=
  { c with sin := Vector.ofFn (fun (n : Fin 32) =>
      let r := sealRole w n.val
      let f := feeds n.val
      let p := r.pulsed w
      c.sin[n].sample r w t (p && c.tp[f.1].window t, p && c.tp[f.2].window t) (p && (c.tp[f.1].fault || c.tp[f.2].fault))
        (bit a n.val, bit b n.val)) }

/-- The channel begins to evaluate a word it has latched (R305, R309, R314). -/
def Channel.begin (w : Word) (c : Channel) : Channel :=
  { c with word := some w, sealOk := true, running := true, hold := 0, holdRaw := 0, brake := false
           sin := Vector.ofFn (fun (n : Fin 32) => SinIn.start (sealRole w n.val) w) }

/-- A fault is latched on an input; one that is latched already keeps its cause (R310 to R312). -/
def Channel.inFault (w : Word) (n : Fin 32) (cause : Nat) (c : Channel) : Channel :=
  { c with sin := upd c.sin n (fun x =>
      if x.fault ≠ 0 then x else { x with fault := cause, disc := none, value := (sealRole w n.val).safeValue }) }

/-! ## The procedure of R314 -/

/-- An evaluated input with a role is active. -/
def Channel.inp (w : Word) (c : Channel) (r : Role) : Bool :=
  (List.finRange 32).any (fun n => decide (sealRole w n.val = r) && c.sin[n].value)

/-- The safety functions over evaluated inputs: hold and brake as they become, and the halves, with a faulty output's half off
(R314, R318). -/
def Channel.functions (w : Word) (withdrawn : Bool) (hold : Word) (c : Channel) : Word × Bool × Permits :=
  let ps := sealPortals w
  let zs := c.inp w .zeroSpeed
  let rel (d : Nat) : Bool := zs && c.inp w (.release d) && (d = 0 || bit w 0) && !withdrawn
  let locked (p : Nat) : Bool := c.inp w (.locked p)
  let iso (p : Nat) : Bool := c.inp w (.isolation p)
  let cl (p : Nat) : Bool := c.inp w (.closed p) && locked p
  let sat (p : Nat) : Bool := cl p || (iso p && (locked p || bit w 30))
  let hold' : Word := ps.foldl (fun h p => if rel (sealSide w p) then setBit h p else if locked p then clrBit h p else h) hold
  let sol (p : Nat) : Bool := sealUses w p && zs && !iso p && (rel (sealSide w p) || bit hold' p) && !withdrawn
  let egr := ps.any (fun p => c.inp w (.egress (if bit w 1 then sealSide w p else p)))
  let loopOk := ps.all sat && !egr
  let brake := if egr && (!zs || bit w 31) then true else if !egr && zs then false else c.brake
  let gate (d : Nat) : Bool := rel d || (zs && !(ps.filter (fun p => sealSide w p = d)).all (fun p => cl p || iso p))
  let sout := mkWord [(0, 1, b2n loopOk), (1, 1, b2n (loopOk && !rel 0 && !rel 1)), (2, 1, b2n (!brake)), (3, 1, b2n (ps.any sol))]
  (hold', brake,
   { zs, loopOk, sout := sout &&& ~~~c.outFault, rel := bitsOf 2 rel, gate := bitsOf 2 gate, sol := bitsOf 8 sol })

/-- The functions are evaluated and the halves driven; a channel that does not evaluate holds every half off. -/
def Channel.drive (withdrawn : Bool) (c : Channel) : Channel :=
  match c.word with
  | some w =>
    if c.evaluates then
      let f := c.functions w withdrawn c.hold
      let g := c.functions w false c.holdRaw
      { c with hold := f.1, holdRaw := g.1, brake := f.2.1, out := f.2.2, raw := g.2.2 }
    else { c with out := {}, raw := {} }
  | none => { c with out := {}, raw := {} }

/-! ## What Junction sees (R300 to R302, R328) -/

/-- The 52 state bits that Signal box sends (Table 12-2). -/
def Channel.frame (c : Channel) : BitVec 52 :=
  let sin := (bitsOf 32 (fun n => c.sin[Fin.ofNat 32 n].value)).toNat
  let o := c.out
  BitVec.ofNat 52 (sin + 2 ^ 32 * (o.sout.toNat % 16) + 2 ^ 36 * (o.rel.toNat % 4) + 2 ^ 38 * (o.gate.toNat % 4)
    + 2 ^ 40 * (o.sol.toNat % 256) + 2 ^ 48 * b2n c.sealOk + 2 ^ 49 * b2n (c.sin.toList.any (fun x => x.fault ≠ 0))
    + 2 ^ 50 * b2n (c.outFault ≠ 0) + 2 ^ 51 * b2n (!c.halted))

/-- The LOOP and BRAKE_DEMAND events, their interrupts, and the vehicle counters of loop openings and brake demands, where a combined
permit has changed; the events are those of `die`, stamped `stamp` (R23, R328, R460, Table 16-7). Until a frame has come after a reset of
Junction the page shows no Signal box half (R327), and nothing has changed. -/
def State.permitEvents (stamp : Nat) (die : Fin 8) (s : State) : State :=
  let old := s.safe.lastPermit
  let new := if s.safe.seen then s.permit else old
  let d := old ^^^ new
  let s1 := { s with safe := { s.safe with lastPermit := new } }
  let s2 := if bit d 17 || bit d 1 then s1.raiseAt stamp die (evSource .safe) 0x4007 [b8 (b2n (bit new 17)), b8 (b2n (bit new 1))] [] else s1
  let s3 := if bit d 17 then (s2.irq .safe 0x2000).statVeh 2 (b2n (bit old 17)) else s2
  if bit d 2 then ((s3.raiseAt stamp die (evSource .safe) 0x4008 [b8 (b2n (!bit new 2))] []).irq .safe 0x4000).statVeh 3 (b2n (bit old 2)) else s3

/-- The release halves reach the door cycle (R271). -/
def State.releases (s : State) : State :=
  let f := s.safe.frame
  (s.setRelease 0 (bit s.grd.out.rel 0) (f.getLsbD 36)).setRelease 1 (bit s.grd.out.rel 1) (f.getLsbD 37)

/-- A change of the permits on Guard's side is reported. -/
def State.permitReport (s : State) : State := s.releases.permitEvents s.tb 0

/-- A frame shows the state that it carries as it stood when it was sent: 640 counts before its arrival (R23). -/
def frameStamp (t : Nat) : Nat := stampOf (t + 2 ^ 48 - 640)

/-- A change of the permits that a frame of Signal box shows is reported as Signal box's (R23). -/
def State.frameReport (s : State) : State := s.releases.permitEvents (frameStamp s.tb) 2

/-- Guard's halves as driven: none while the output latch has dropped them (R320). -/
def Channel.latched (off : Bool) (c : Channel) : Channel := if off then { c with out := {} } else c

/-- Guard drives its halves from its evaluated inputs, under the withdrawal in force, and reports them (R314, R320, R322). -/
def State.grdDrive (s : State) : State := { s with grd := (s.grd.drive s.withdrawn).latched s.safe.latchOff }.permitReport

/-- Guard and Signal box both report zero speed (R111, R121). -/
def State.zeroSpeed (s : State) : Bool := bit s.permit 16

end Sys2Proof.Machine
end

