-- ==== Sys2Proof/Machine/Modes.lean ====
section
/-! DEFINITION. The operating modes: transitions, requests, SAFE_HOLD, SERVICE, absent dies, giving up and the election
(R105 to R107, R117, R119 to R129, R477, R480). -/

namespace Sys2Proof.Machine

/-! ## A transition (R106) -/

/-- The mode changes, and MODE_CHANGE carries the old mode, the new one and the cause. -/
def State.modeTo (m : Mode) (cause : Nat) (s : State) : State :=
  let old := s.mc.mode
  ({ s with mc := { s.mc with
      mode := m, prev := old.code, cause := cause, busy := false, target := none, ran := s.mc.ran || decide (m = Mode.run) } }.ev .hif 0x0601
    [b8 old.code, b8 m.code, b8 cause]).helloChange

/-- BOOT_TIME at the first mode that ends the start-up (Table 05-9). -/
def State.bootTime (s : State) : State :=
  if s.boot.time ≠ 0 then s else { s with boot := { s.boot with time := stepsOf 27 (s.tb - s.boot.ref) 16000 0xFFFF } }

/-- Every axis. -/
def allAx : List (Fin 12) := List.finRange 12

/-- A transition leaves CONFIG: the store packet goes out before any command packet of the new mode (R352), and Guard loads the gate map
(R317). -/
def State.leaveConfig (s : State) : State :=
  let t := s.lswSend 4
  { t with mc := { t.mc with asked := false } }.loadGateMap

/-! ## Causes (R124, R125, R129) -/

/-- A cause of DEGRADED stands: a Plough die, the Switch die or Granary absent, or the NVM clock failed (R119, R129). -/
def State.degradedDue (s : State) : Bool := [3, 4, 5, 7].any (fun d => bit s.rst.absent d) || s.clk.nvmFailed

/-- Plough dies that carry a member axis of a portal in use. -/
def State.carriers (s : State) : List (Fin 8) :=
  (List.finRange 8).flatMap (fun p => if s.ptlUsed p then (s.membersOf p).map (fun m => ploughDie m.1) else [])

/-- The die is a Plough die that carries a portal axis, and none of those is left (Table 05-7, note). -/
def State.carrierLost (s : State) (d : Fin 8) : Bool := s.carriers.contains d && s.carriers.all (fun d => s.dieAbsent d)

/-- The lowest cause of SAFE_HOLD that stands of itself (R124, Table 05-6). -/
def State.holdCause (s : State) : Option Nat :=
  if !s.boot.guardOk || !s.boot.jctOk then some 0x10
  else if s.dieAbsent 1 then some 0x12
  else if s.dieAbsent 2 then some 0x13
  else if s.dieAbsent 6 then some 0x14
  else if s.carriers ≠ [] && s.carriers.all (fun d => s.dieAbsent d) then some 0x15
  else if s.mc.guardDemand then some 0x18
  else if s.pwr.hot then some 0x1A
  else none

/-- GUARD_DEMAND clears where no difference stands (R321). -/
def State.demandClear (s : State) : State :=
  if s.safe.diffs ≠ [] || s.safe.mapDiff then s
  else { s with mc := { s.mc with guardDemand := false }, safe := { s.safe with diverge := false } }

/-! ## SAFE_HOLD (R124) -/

/-- Give-up by a row of Table 18-6 (R480): ACT_O goes low. -/
def State.giveUp (row : Nat) (s : State) : State :=
  let ready := s.partnerReady
  let s1 : State := { s with
    pair := { s.pair with actO := false, giveups := inc s.pair.giveups 0xFFFF }
    pairx := { s.pairx with gaveUpAt := some s.tb, assertAt := none } }
  (s1.pairFlag 1).ev .pair 0x9003 [b8 row, b8 (b2n ready)]

/-- The program is suspended: its cycle ends without a publication. -/
def State.prgSuspend (s : State) : State :=
  { s with
    prg := { s.prg with run := if s.prg.run = .running then .suspended else s.prg.run
                        inCycle := false, waitRet := false, stopWait := false, due := [] }
    prgx := { s.prgx with reqs := [], errNow := [], events := [] } }

/-- Entry to SAFE_HOLD (R124): `row` is the row of Table 18-6 under which an active module of a pair gives up; its loads are held
first (R481). -/
def State.toSafeHold (cause row : Nat) (s : State) : State :=
  let was := s.mc.mode
  let gives := s.cfg.paired && s.pair.actO
  let s1 := forAll allAx (fun a t => t.halt a .safeHold) s
  let s2 := if gives then s1.giveUp row else s1
  let s3 := forAll allAx (fun a t => t.restCoil a) ((if was = .config then s2.leaveConfig else s2).modeTo .safeHold cause)
  let s4 := (if was = .run || was = .degraded then s3.ptlLeaveRun else s3).prgSuspend
  (if gives then s4 else s4.lswSend 2).grdDrive

/-- Entry to CONFIG (Table 05-1, R125, R321, R350): axes and loads off, a cause of SAFE_HOLD that still stands takes effect. -/
def State.toConfig (cause : Nat) (s : State) : State :=
  let was := s.mc.mode
  let s1 := (s.modeTo .config cause).demandClear
  let s2 := forAll allAx (fun a t => (t.unhalt a .safeHold).modCoil a (Coils.enter .free)) s1
  let s3 := if was = .safeHold then s2.lswSend 3 else s2
  let s4 : State := { s3 with prg := { s3.prg with run := if s3.boot.prgOk then .loaded else s3.prg.run }, mc := { s3.mc with asked := false }, pairx := { s3.pairx with gaveUpAt := none, handed := false, electAt := none } }
  let s5 := s4.grdDrive
  match s5.holdCause with
  | some c => s5.toSafeHold c 1
  | none => s5.noteLeave

/-! ## RUN, DEGRADED, STANDBY, SERVICE -/

/-- Entry to RUN, or to DEGRADED where a cause of it stands, from CONFIG or SERVICE (R117, R123). -/
def State.toRun (cause : Nat) (s : State) : State :=
  let s1 := if s.mc.mode = .config then s.leaveConfig else s
  let s2 := (s1.modeTo (if s.degradedDue then .degraded else .run) cause).bootTime
  let s3 := forAll allAx (fun a t => t.coilsOn a) { s2 with lswg := { s2.lswg with sending := 0 } }
  s3.ptlEnterRun.prgRestart false

/-- Entry to STANDBY (R477 to R479): Junction sends ALL_OFF, and the program is started on the mirrored inputs. -/
def State.toStandby (s : State) : State :=
  ((s.leaveConfig.modeTo .standby 5).bootTime.lswSend 3).prgRestart false

/-- Every axis is at standstill. -/
def State.axesRest (s : State) : Bool := allAx.all (fun a => s.atRest a)

/-- The input named SERVICE_KEY is on, with the instant since which its level stands. -/
def State.serviceKey (s : State) : Option (Bool × Nat) :=
  match s.cfg.serviceKey with
  | some n => if h : n < 48 then some (s.din[(⟨n, h⟩ : Fin 48)].level, s.din[(⟨n, h⟩ : Fin 48)].since) else none
  | none => none

/-- SERVICE_KEY has been on for `n` ms. -/
def State.keyOn (s : State) (n : Nat) : Bool :=
  match s.serviceKey with | some (on, t) => on && decide (t + ms n ≤ s.tb) | none => false

/-- Entry to SERVICE (R121): the running cycle ends first; the packets go on (R350). -/
def State.toService (s : State) : State :=
  let s1 := (s.modeTo .service 4).ptlLeaveRun
  let s2 : State := { s1 with mc := { s1.mc with keyLost := false } }
  let s3 : State :=
    if s2.prg.inCycle || s2.prg.waitRet then { s2 with prg := { s2.prg with stopWait := true } } else s2.prgSuspend
  if s3.lswg.sending = 1 then s3 else s3.lswSend 1

/-! ## R117 and the election (R477) -/

/-- PAIR_ACT_O is asserted where PAIR_ACT_I is low, and the wait of 50 µs begins (R471, R477). -/
def State.electAssert (s : State) : State :=
  if s.pair.actI then s
  else { s with
    pair := { s.pair with actO := true, actOAt := s.tb }
    pairx := { s.pairx with assertAt := some s.tb }
    mc := { s.mc with busy := true } }

/-- ELECT_TMO periods a module waits by Table 18-5 with PAIR_ACT_I low: none for a SECOND that awaits its partner's assertion. -/
def State.electWait (s : State) : Option Nat :=
  if s.pair.formed then
    if s.pairx.mode = 2 then (if s.cfg.second then none else some 0) else some (if s.cfg.second then 1 else 0)
  else some (if s.cfg.second then 2 else 1)

/-- A paired module that has satisfied R117 takes the first row of Table 18-5 that holds. -/
def State.elect (s0 : State) : State :=
  let s := s0.noteLeave
  if !s.cfg.paired || s.mc.mode ≠ .config || !s.mayLeave || s.mc.busy || !(s.cfg.autoRun || s.mc.asked) then s
  else if s.pair.actI then (if s.pair.formed then s.toStandby else s.causeTo 5)
  else match s.electWait, s.pairx.electAt with
    | some k, some t => if t + k * ms s.cfg.electTmo ≤ s.tb then s.electAssert else s
    | _, _ => s

/-- CONFIG is left as R117 has it: by the election where the module is paired. -/
def State.exitConfig (cause : Nat) (s : State) : State := if s.cfg.paired then s.elect else s.toRun cause

/-- CONFIG_EXIT (R117): AUTO_RUN leaves CONFIG at the next Timetable tick. -/
def execConfigExit (s : State) : Host.Outcome State Fault Refusal :=
  let s1 := s.noteLeave
  if s1.mc.mode ≠ .config || !s1.mayLeave || s1.mc.busy || !s1.cfg.autoRun then .next s1
  else .next ((s1.to ((s1.tb / ms 1 + 1) * ms 1)).exitConfig 0)

/-- JOIN_WAIT_EXPIRY (R117): the stations are waited for no longer. -/
def execJoinWaitExpiry (s : State) : Host.Outcome State Fault Refusal :=
  match s.boot.canStart with
  | none => .next s
  | some t => .next ({ s.to (t + ms s.cfg.joinWait) with boot := { s.boot with joinOver := true } }.noteLeave)

/-! ## Absent dies (R18, R119, R129) -/

/-- MODE_CAUSE code of an absent die (Table 05-7). -/
def dieCause (d : Fin 8) : Nat :=
  match d.val with
  | 1 => 0x12 | 2 => 0x13 | 3 => 0x20 | 4 => 0x21 | 5 => 0x22 | 6 => 0x14 | _ => 0x23

/-- A cause of DEGRADED has arisen (R119, R120, R480). -/
def State.degrade (cause : Nat) (s : State) : State :=
  let gives := s.cfg.paired && s.pair.actO && s.partnerReady
  match s.mc.mode with
  | .run => if gives then s.toSafeHold 0x19 2 else s.modeTo .degraded cause
  | .degraded | .service => if gives then s.toSafeHold 0x19 2 else s
  | .safeHold => s.causeTo cause
  | .sleep | .boot | .config | .standby => s

/-- The mode's consequence of an absent die (Table 05-6). -/
def State.consequence (d : Fin 8) (s : State) : State :=
  match s.mc.mode with
  | .sleep | .boot => s
  | .safeHold =>
    if d.val = 1 || d.val = 2 || d.val = 6 then s
    else if s.carrierLost d then s.causeTo 0x15
    else s.degrade (dieCause d)
  | .config | .run | .degraded | .service | .standby =>
    match s.holdCause with
    | some c => s.toSafeHold c 1
    | none => s.degrade (dieCause d)

/-- Granary can no longer be used: the program receives RETAIN_LOST (R119). -/
def State.granaryLost (s : State) : State :=
  let t := (s.prgFlag 3).errDue 0x60 0 (s.seq.next - 1)
  { t with prg := { t.prg with inFlags := setBit t.prg.inFlags 6 } }

/-- The event packets of a die declared absent that have not arrived: none of them will be (R19). -/
def State.dieForgets (d : Fin 8) (s : State) : State :=
  { s with seq := { s.seq with held := s.seq.held.filter (fun e => e.arrived || e.die ≠ d.val) } }

/-- A die is declared absent (R18, R101, R129). -/
def State.dieLost (d : Fin 8) (s : State) : State :=
  if s.dieAbsent d then s
  else
    let s1 : State := { (s.dieForgets d) with
      present := clrBit s.present d.val, lost := setBit s.lost d.val
      rst := { s.rst with absent := setBit s.rst.absent d.val }
      links := upd s.links d (fun l => { l with st := .absent, mark := none })
      pwr := { s.pwr with hotSince := s.pwr.hotSince.set d none } }
    let s2 := s1.raise 0 (evSource .dev) 0x0101 [b8 d.val]
    let s3 := forAll (allAx.filter (fun a => ploughDie a = d)) (fun a t => t.halt a .dieAbsent) s2
    let s4 := forAll ((List.finRange 14).filter (fun c => pageDie (fbPage c) = d)) (fun c t => t.masterLost c) s3
    (if d = 7 then s4.granaryLost else if d = 2 then { s4 with safe := { s4.safe with frames := false } } else s4).consequence d

/-! ## Requests (R106, R111, R117, R121, R123 to R125) -/

/-- An enabled WAKE pad stands at its waking level (R111). The other sources are events, and no rule says when one is active at the moment
of a request: they do not count (DESIGN CHOICE, log 83). -/
def State.wakeActive (s : State) : Bool :=
  (List.range 4).any (fun k => bit (s.com .hif 0x110) k && (bit s.mc.pads k == bit (s.com .hif 0x114) k))

/-- The conditions of R111 but the last. -/
def State.maySleep (s : State) : Bool :=
  (s.mc.mode = .config || s.mc.mode = .run || s.mc.mode = .degraded || s.mc.mode = .safeHold)
  && (List.finRange 8).all (fun p => !s.ptlUsed p || s.ptl[p].st = .closedLocked || s.ptl[p].st = .isolated)
  && allAx.all (fun a => s.atRest a && s.ax[a].queue = [] && s.ax[a].taken = [])
  && s.zeroSpeed && !s.prg.loadOpen && !s.sec.loadOpen

/-- REREAD is sent to Signal box and to Guard on a request that asks to leave SAFE_HOLD, and the answer is awaited (R301, R304). -/
def State.sendReread (s : State) : State :=
  ({ s with mc := { s.mc with busy := true, target := some .config }, safe := { s.safe with reread := true } }.post (.packet 2 3 0 none)).sendPacket
    1 true 3 none

/-- Both channels can take a sequence: neither has halted, and neither is absent (R20, R304, R320, R323). Where one cannot,
a MODE_REQ for CONFIG is refused at once (DESIGN CHOICE, log 80). -/
def State.mayReread (s : State) : Bool := !s.sbx.halted && !s.grd.halted && !s.dieAbsent 1 && !s.dieAbsent 2

/-- A request for a mode: the code of its refusal, or none. It is judged in the mode then standing, after every cause whose command came
before it (R107; DESIGN CHOICE, log 62). -/
def State.modeReq (target : Nat) (s : State) : Option Nat × State :=
  if s.mc.busy then (some 0x31, s)
  else match target with
    | 0 =>
      if !s.maySleep then (some 0x30, s)
      else if s.wakeActive then (some 0x32, s)
      else (none, { s with mc := { s.mc with busy := true, target := some .sleep, wakeHeld := false } })
    | 2 => if s.mc.mode = .safeHold && s.boot.guardOk && s.boot.jctOk && s.mayReread then (none, s.sendReread) else (some 0x30, s)
    | 3 | 4 =>
      let fits := decide (target = 4) == s.degradedDue
      if s.mc.mode = .config && fits && s.mayLeave then
        (none, if s.cfg.paired then { s with mc := { s.mc with asked := true } }.elect else s.toRun 4)
      else if s.mc.mode = .service && fits && s.keyOn 0 && s.axesRest && !s.mc.keyLost then (none, s.toRun 4)
      else (some 0x30, s)
    | 5 => if s.runs && s.keyOn 100 && s.zeroSpeed && s.axesRest then (none, s.toService) else (some 0x30, s)
    | 6 =>
      match s.mc.mode with
      | .config | .run | .degraded | .service | .standby => (none, s.toSafeHold 4 1)
      | .sleep | .boot | .safeHold => (some 0x30, s)
    | _ => (some 0x30, s)

/-- A write of MODE_REQ (Table 05-9). -/
def State.modeReqWrite (w : Word) (s : State) : State :=
  if fld w 16 16 ≠ 0x4D0D then s.err .hif 0x04 0 0x104
  else match s.modeReq (fld w 0 3) with
    | (some c, t) => t.err .hif c 0 0x104
    | (none, t) => t

/-- A write of MODE_REQ by host software. -/
def State.hostMode (target : Nat) (s : State) : State :=
  let w := mkWord [(0, 3, target), (16, 16, 0x4D0D)]
  s.gated .hif 0x104 w false (State.modeReqWrite w)

/-- MODE_REQ_RUN (R106). -/
def execModeReqRun (s : State) : Host.Outcome State Fault Refusal := .next (s.hostMode 3)

/-- MODE_REQ_DEGRADED (R106). -/
def execModeReqDegraded (s : State) : Host.Outcome State Fault Refusal := .next (s.hostMode 4)

/-- MODE_REQ_SERVICE (R121). -/
def execModeReqService (s : State) : Host.Outcome State Fault Refusal := .next (s.hostMode 5)

/-- MODE_REQ_SAFE_HOLD (R124). -/
def execModeReqSafeHold (s : State) : Host.Outcome State Fault Refusal := .next (s.hostMode 6)

/-- MODE_REQ_CONFIG (R125). -/
def execModeReqConfig (s : State) : Host.Outcome State Fault Refusal := .next (s.hostMode 2)

/-- MODE_REQ_SLEEP (R111). -/
def execModeReqSleep (s : State) : Host.Outcome State Fault Refusal := .next (s.hostMode 0)

/-- SERVICE_KEY_LOST (R123): the key has been off for 100 ms in SERVICE, and every moving axis is stopped. -/
def execServiceKeyLost (s : State) : Host.Outcome State Fault Refusal :=
  match s.serviceKey with
  | some (false, t) =>
    if s.mc.mode ≠ .service || s.mc.keyLost then .next s
    else
      let s1 := s.to (t + ms 100)
      let s2 := forAll (allAx.filter (fun a => !s1.atRest a)) (fun a u =>
        u.accept a (if u.ax[a].following then .follow .mode else .stop 6)) s1
      .next { s2 with mc := { s2.mc with keyLost := true } }
  | _ => .next s

/-- SVC_KEY_LOST_HOLD (R123): every axis has stopped after the key was lost. -/
def execSvcKeyLostHold (s : State) : Host.Outcome State Fault Refusal :=
  .next (if s.mc.mode = .service && s.mc.keyLost && s.axesRest then s.toSafeHold 0x17 1 else s)

end Sys2Proof.Machine
end

