-- ==== Sys2Proof/Machine/SafetyChan.lean ====
section
/-! DEFINITION. The safety channels: samples and cycles, test pulses, seal sequences, output faults, the comparison of
the channels, and Signal box's status frames (R20, R299 to R323, R512). -/

namespace Sys2Proof.Machine

/-! ## Either channel -/

/-- A channel: Guard, or Signal box. -/
def State.chan (s : State) (sbx : Bool) : Channel := if sbx then s.sbx else s.grd

/-- Change a channel. -/
def State.modChan (sbx : Bool) (f : Channel → Channel) (s : State) : State :=
  if sbx then { s with sbx := f s.sbx } else { s with grd := f s.grd }

/-- SIN_CHANGE for every input whose evaluated value in Guard is no longer what it was (R512). -/
def State.sinChanges (old : Channel) (s : State) : State :=
  forAll (fins 32 (fun n => old.sin[n].value != s.grd.sin[n].value)) (fun n t =>
    t.ev .safe 0x4009 [b8 n.val, b8 (b2n s.grd.sin[n].value)]) s

/-- A fault is latched on an input of a channel; Guard reports its own (R311, R312, R328). -/
def State.inputFault (sbx : Bool) (n : Fin 32) (cause : Nat) (s : State) : State :=
  let c := s.chan sbx
  match c.word with
  | none => s
  | some w =>
    if !c.evaluates || c.sin[n].fault ≠ 0 then s
    else
      let s1 := s.modChan sbx (Channel.inFault w n cause)
      if sbx then s1
      else
        let x := s1.safe
        let s2 : State := { s1 with safe :=
          if cause = 1 then { x with discCount := inc x.discCount 0xFFFF } else { x with tpCount := inc x.tpCount 0xFFFF } }
        ((s2.ev .safe 0x4001 [b8 n.val, b8 cause]).irq .safe 0x100).sinChanges s.grd

/-- Inputs with a pulsed contact fed from pad `k` (R312). -/
def pulsedFrom (w : Word) (k : Fin 4) : List (Fin 32) :=
  fins 32 (fun n => (sealRole w n.val).pulsed w && ((feeds n.val).1 = k || (feeds n.val).2 = k))

/-- A TP fault on a pad as a channel sees it: TP_SOURCE on every pulsed input fed from it (R312). -/
def State.tpFail (sbx : Bool) (k : Fin 4) (s : State) : State :=
  let c := s.chan sbx
  match c.word with
  | none => s
  | some w =>
    if !c.evaluates || c.tp[k].fault then s
    else
      let s1 := s.modChan sbx (fun c => { c with tp := upd c.tp k (fun x => { x with fault := true }) })
      let s2 := if sbx then s1 else (s1.ev .safe 0x4003 [b8 k.val]).irq .safe 0x400
      forAll (pulsedFrom w k) (fun n t => t.inputFault sbx n 3) s2

/-! ## Samples and cycles (R309, R314) -/

/-- SBX_SAMPLE (R309, R314): Signal box samples the contacts, of which `a` and `b` say which are energised, and drives its halves. -/
def execSbxSample (a b : Word) (s : State) : Host.Outcome State Fault Refusal :=
  let c := s.sbx
  match c.word with
  | none => .next s
  | some w => .next (if c.evaluates then { s with sbx := (c.sampleAll w s.tb a b).drive false } else s)

/-- The bits in which Guard and the forwarded Signal box state differ: permits at 0 to 17, inputs from 32 on (R321). -/
def State.differ (s : State) : List Nat :=
  let p := s.grd.raw.word ^^^ s.permitSbx
  let i := bitsOf 32 (fun n => s.grd.sin[Fin.ofNat 32 n].value) ^^^ BitVec.ofNat 32 s.safe.frame.toNat
  (List.range 18).filter (fun k => bit p k) ++ ((List.range 32).filter (fun k => bit i k)).map (· + 32)

/-- Guard's comparison: each difference keeps the instant it began (R321). -/
def State.grdCompare (s : State) : State :=
  let l := if s.safe.frames then s.differ else []
  { s with safe := { s.safe with diffs := l.map (fun k =>
      (k, match s.safe.diffs.find? (fun e => e.1 = k) with | some e => e.2 | none => s.tb)) } }

/-- GUARD_CYCLE (R309, R314, R320, R321): Guard samples the contacts, evaluates, refreshes its output latch and compares. -/
def execGuardCycle (a b : Word) (s : State) : Host.Outcome State Fault Refusal :=
  let c := s.grd
  match c.word with
  | none => .next s
  | some w =>
    if !c.evaluates then .next s
    else
      let s1 : State := { s with grd := c.sampleAll w s.tb a b, safe := { s.safe with latchAt := s.tb, latchOff := false } }
      .next ((s1.sinChanges c).grdDrive.grdCompare)

/-- DISCREPANCY_EXPIRY (R311): the timer of an input expires; Guard's runs on TB, Signal box's on its own clock. -/
def execDiscrepancyExpiry (sbx : Bool) (n : Fin 32) (s : State) : Host.Outcome State Fault Refusal :=
  let c := s.chan sbx
  match c.word, c.sin[n].disc with
  | some w, some t => .next ((if sbx then s else s.to (t + ms ((sealRole w n.val).discMs w))).inputFault sbx n 1)
  | _, _ => .next s

/-! ## Test pulses (R312) -/

/-- A time of the test-pulse pattern at the least: its clock is Signal box's, within ±5 % of nominal (R312; log 75). -/
def sbxLeast (n : Nat) : Nat := us n * 95 / 100

/-- The test-pulse pattern starts as Signal box starts to evaluate: every pad goes high, and TP0's pulse falls 16 ms later (R312). -/
def State.startPattern (s : State) : State :=
  { s with safe := { s.safe with tpNext := 0, tpDue := some (s.tb + sbxLeast 16000) } }

/-- TEST_PULSE (R312): Signal box starts the pulse of the pad whose turn it is, 4 ms after the one before on its own clock; `seen` says that
Guard's readback falls. -/
def execTestPulse (k : Fin 4) (seen : Bool) (s : State) : Host.Outcome State Fault Refusal :=
  match s.safe.tpDue with
  | none => .next s
  | some due =>
    if !s.sbx.evaluates || s.safe.tpNext ≠ k.val then .next s
    else
      let t := s.to due
      let fall (c : Channel) : Channel := { c with tp := upd c.tp k (fun x => { x with fell := some t.tb }) }
      .next { t with
        sbx := fall t.sbx, grd := if seen then fall t.grd else t.grd
        safe := { t.safe with tpNext := (k.val + 1) % 4, tpDue := some (t.tb + sbxLeast 4000) } }

/-- TP_CONTACT_SAMPLE (R312): 375 µs after the falling edge a channel samples the contacts fed from a pad; bit n of `live` says
that the one of SINnn reads energised. -/
def execTpContactSample (sbx : Bool) (k : Fin 4) (live : Word) (s : State) : Host.Outcome State Fault Refusal :=
  let c := s.chan sbx
  match c.word, c.tp[k].fell with
  | some w, some f =>
    .next (forAll ((pulsedFrom w k).filter (fun n => bit live n.val)) (fun n t => t.inputFault sbx n 2)
      (if sbx then s else s.to (f + us 375)))
  | _, _ => .next s

/-- TP_MONITOR (R312): a sample of a pad; high from 20 µs after its falling edge up to its rising edge is a TP fault. -/
def execTpMonitor (sbx : Bool) (k : Fin 4) (high : Bool) (s : State) : Host.Outcome State Fault Refusal :=
  match (s.chan sbx).tp[k].fell with
  | some f => .next (if high && decide (f + us 20 ≤ s.tb) && decide (s.tb < f + us 500) then s.tpFail sbx k else s)
  | none => .next s

/-- TP_SOURCE_FAULT (R312): a pad has read low for 100 µs outside its pulse, or Guard has seen no falling edge for 40 ms. -/
def execTpSourceFault (sbx : Bool) (k : Fin 4) (s : State) : Host.Outcome State Fault Refusal := .next (s.tpFail sbx k)

/-- TP_FAULT_RECOVER (R312): a pad has read correctly for 1 s. -/
def execTpFaultRecover (sbx : Bool) (k : Fin 4) (s : State) : Host.Outcome State Fault Refusal :=
  .next (s.modChan sbx (fun c => { c with tp := upd c.tp k (fun x => { x with fault := false }) }))

/-! ## Seal sequences (R303 to R305) -/

/-- SEAL_SEQUENCE (R303, R304): Signal box begins its power-up sequence, or the one Guard requests at its boot. -/
def execSealSequence (s : State) : Host.Outcome State Fault Refusal :=
  let x := s.safe
  let begin_ (k : Nat) : State := { s with safe := { x with sealRun := k, sealBoot := k } }
  .next (if !s.domOn 4 || s.sbx.halted || x.sealRun ≠ 0 then s
    else if x.sealBoot = 0 then begin_ 1
    else if x.sealBoot = 1 && s.boot.guardOk && !s.grd.halted then begin_ 2
    else s)

/-- REREAD (R304): Junction's request reaches Signal box, which runs a sequence. Where a channel halts or is lost before the answer, no rule
ends the request, and BUSY stays (DESIGN CHOICE, log 80). -/
def execReread (s : State) : Host.Outcome State Fault Refusal :=
  .next (if s.safe.reread && s.domOn 4 && !s.sbx.halted && s.safe.sealRun = 0 then { s with safe := { s.safe with sealRun := 3 } } else s)

/-- One read as a channel samples it: data, complement, fill of each line (R303). -/
abbrev SealRead := Word × Word × Byte × Byte

/-- COMPL_ERR, READ_DIFF, FILL_ERR and CHECK_ERR of two reads (R304, Table 12-12). -/
def sealErrs (r q : SealRead) : Word :=
  mkWord [(0, 1, b2n (r.1 ≠ ~~~r.2.1 || q.1 ≠ ~~~q.2.1)), (1, 1, b2n (r.1 ≠ q.1 || r.2.1 ≠ q.2.1)),
          (2, 1, b2n (r.2.2 ≠ (0, 0) || q.2.2 ≠ (0, 0))), (3, 1, b2n (!sealOkWord q.1))]

/-- A channel takes a sequence: `boot` says that it may latch its word (R305). -/
def Channel.takeSeal (boot : Bool) (r q : SealRead) (c : Channel) : Channel :=
  let good := sealErrs r q = 0
  if boot && c.word.isNone && !c.halted then (if good then c.begin q.1 else c)
  else { c with sealOk := good && c.word = some q.1 }

/-- SEAL_STA with both channels' SEAL_OK. -/
def State.sealSta (s : State) : Word := s.safe.sealBits ||| mkWord [(5, 1, b2n s.grd.sealOk), (6, 1, b2n s.sbx.sealOk)]

/-- The answer to REREAD (R125): CONFIG where no cause stands and both channels have read the chains (`read`) and found their word
again. -/
def State.rereadDone (read : Bool) (s : State) : State :=
  if s.mc.target ≠ some .config then s
  else
    let s1 : State := { s with mc := { s.mc with busy := false, target := none } }
    let same := read && s1.grd.sealOk && s1.sbx.sealOk
    let still := match s1.holdCause with
      | some 0x18 => s1.safe.diffs ≠ [] || s1.safe.mapDiff || s1.pwr.hot
      | some _ => true
      | none => false
    if same && !still then s1.toConfig 4
    else (if same then s1 else s1.causeTo 0x11).err .hif 0x30 0 0x104

/-- SEAL_SEQUENCE_DONE (R304, R305): a sequence of two reads ends, as Guard (`g`, `g'`) and Signal box (`b`, `b'`) sampled it. -/
def execSealSequenceDone (g g' b b' : SealRead) (s : State) : Host.Outcome State Fault Refusal :=
  let run := s.safe.sealRun
  if run = 0 then .next s
  else
    let takes := run ≠ 1 && s.boot.guardOk && !s.grd.halted
    let errs := sealErrs g g'
    let grd := if takes then s.grd.takeSeal (run = 2) g g' else s.grd
    let changed := if errs = 0 then g'.1 ≠ grd.word.getD 0 else bit s.safe.sealBits 4
    let x := s.safe
    let s1 : State := { s with
      sbx := s.sbx.takeSeal (run ≠ 3) b b', grd
      safe := { x with
        sealRun := 0, reread := x.reread && run ≠ 3
        sealLast := if takes then g'.1 else x.sealLast
        sealBits := if takes then errs ||| mkWord [(4, 1, b2n changed)] else x.sealBits } }
    let s2 := s1.sinChanges s.grd
    let s3 := if s2.sealSta = s.sealSta then s2
      else s2.ev .safe 0x4004 ([b8 s2.sealSta.toNat, 0, 0, 0] ++ leBytes 4 s2.safe.sealLast.toNat)
    let s4 := if s.grd.sealOk && !s3.grd.sealOk then s3.irq .safe 0x1000 else s3
    let s5 := if !s.sbx.evaluates && s4.sbx.evaluates then s4.startPattern else s4
    .next (if run = 3 then s5.rereadDone takes else s5)

/-! ## Output faults, latch and lockstep (R318, R320) -/

/-- A channel that has not halted latches OUT_FAULT on an output and holds its own half off; Guard reports it. -/
def State.outputFault (sbx : Bool) (n : Fin 4) (kind : Nat) (s : State) : State :=
  if (s.chan sbx).halted || bit (s.chan sbx).outFault n.val then s
  else
    let s1 := s.modChan sbx (fun c =>
      { c with outFault := setBit c.outFault n.val, out := { c.out with sout := clrBit c.out.sout n.val }
               raw := { c.raw with sout := clrBit c.raw.sout n.val } })
    if sbx then s1
    else
      let s2 : State := { s1 with safe := { s1.safe with outCount := inc s1.safe.outCount 0xFFFF } }
      ((s2.ev .safe 0x4002 [b8 n.val, b8 kind]).irq .safe 0x200).permitReport

/-- SOUT_STUCK (R318): a half has read against its commanded state for 1 ms in a channel's own readback. -/
def execSoutStuck (sbx : Bool) (n : Fin 4) (on : Bool) (s : State) : Host.Outcome State Fault Refusal :=
  .next (if bit (s.chan sbx).out.sout n.val = on then s else s.outputFault sbx n (if on then 1 else 2))

/-- SOUT_OVERCURRENT (R318). -/
def execSoutOvercurrent (sbx : Bool) (n : Fin 4) (s : State) : Host.Outcome State Fault Refusal := .next (s.outputFault sbx n 3)

/-- GUARD_LATCH_TIMEOUT (R320): no refresh for 1 ms drops every Guard half, until the next refresh. -/
def execGuardLatchTimeout (s : State) : Host.Outcome State Fault Refusal :=
  let s1 := s.to (s.safe.latchAt + ms 1)
  .next ({ s1 with grd := { s1.grd with out := {} }, safe := { s1.safe with latchOff := true } }.permitReport)

/-- A channel halts until a full reset with every half off (R320, R323). -/
def Channel.stop (c : Channel) : Channel := { c with halted := true, out := {}, raw := {} }

/-- LOCKSTEP_MISMATCH (R320, R328): the latch drops every Guard half, which is reported, and Guard halts. -/
def execLockstepMismatch (s : State) : Host.Outcome State Fault Refusal := .next { s with grd := s.grd.stop }.permitReport

/-! ## Guard's demands and the Junction link (R317, R321, R322) -/

/-- GUARD_DEMAND is raised and enters SAFE_HOLD: 1 divergence, 2 readback difference. -/
def State.demand (kind : Nat) (s : State) : State :=
  let s1 := { s with mc := { s.mc with guardDemand := true } }.ev .safe 0x4006 [b8 kind]
  match s1.mc.mode with
  | .config | .run | .degraded | .service | .standby => s1.toSafeHold 0x18 1
  | .sleep | .boot | .safeHold => s1

/-- DIVERGE_TIMEOUT (R321): differences have lasted 500 ms. A Guard that has halted compares no more (R320). -/
def execDivergeTimeout (s0 : State) : Host.Outcome State Fault Refusal :=
  if s0.grd.halted then .next s0
  else match (s0.safe.diffs.map (·.2)).min? with
  | none => .next s0
  | some first =>
    let s := s0.to (first + ms 500)
    let l := (s.safe.diffs.filter (fun e => decide (e.2 + ms 500 ≤ s.tb))).map (·.1)
    let x := s.safe
    let p := (l.filter (fun k => decide (k < 18))).foldl setBit x.divPermit
    let i := (l.filter (fun k => decide (32 ≤ k))).foldl (fun w k => setBit w (k - 32)) x.divSin
    if p = x.divPermit && i = x.divSin && x.diverge then .next s
    else
      let s1 : State := { s with safe := { x with divPermit := p, divSin := i, diverge := true, divCount := inc x.divCount 0xFFFF } }
      let s2 := s1.ev .safe 0x4005 (leBytes 4 p.toNat ++ leBytes 4 i.toNat)
      .next ((if x.diverge then s2 else s2.irq .safe 0x800).demand 1)

/-- GUARD_LINK_WITHDRAW (R322): no packet from Junction for 1 ms. -/
def execGuardLinkWithdraw (s : State) : Host.Outcome State Fault Refusal :=
  .next ({ s with safe := { s.safe with linkLost := true } }.grdDrive)

/-- The lock channel of each portal in use: ASSIGN.LOCK_LSW (R319). -/
def State.lockGates (s : State) : List (Nat × Nat) :=
  ((List.finRange 8).filter (fun p => s.ptlUsed p && decide (fld s.cfg.assign0[p] 22 5 < 24))).map (fun p =>
    (p.val, fld s.cfg.assign0[p] 22 5))

/-- GATE_MAP_READBACK (R317, R319): the map, the SIN types and the lock channels as Guard, unless it has halted, reads them back (R320). -/
def execGateMapReadback (map : Word) (types : List Nat) (locks : List (Nat × Nat)) (s : State) : Host.Outcome State Fault Refusal :=
  let bad := map &&& 0xFFF ≠ s.gateMapCfg || types ≠ s.cfg.sinType.toList || locks ≠ s.lockGates
  let s1 : State := { s with safe := { s.safe with gateMap := map &&& 0xFFF, mapDiff := bad } }
  .next (if s.grd.halted then s else if bad && !s.safe.mapDiff then s1.demand 2 else s1)

/-! ## The status link (R20, R301) -/

/-- The bits of a SAFE word that Signal box's half gives: they reach the page from status frames (Tables 04-3, 12-12). -/
def sbxBits (o : Nat) : Word :=
  match o with | 0x048 => 0x40 | 0x050 => 0xFFFFFFFF | 0x074 => 0xFFFFFFFF | 0x080 => 0xFFFF001E | _ => 0

/-- A word of the SAFE page once a frame has come: Signal box's part as it is now, Guard's as the page showed it. -/
def State.sbxWord (s : State) (o : Nat) : Word :=
  (s.presented .safe o &&& ~~~(sbxBits o)) ||| (s.statusWord .safe o &&& sbxBits o)

/-- Signal box's half of the SAFE page reaches Junction's mirror; PERMIT is the AND of both halves (R90, R302). -/
def State.sbxMirror (s : State) : State :=
  let both := s.presented .safe 0x070 &&& s.sbxWord 0x074
  let words (m : Words) : Words := ([0x048, 0x050, 0x074, 0x080] : List Nat).foldl (fun m o => m.put o (s.sbxWord o)) m
  s.modPg .safe (fun g => { g with mirror := (words g.mirror).put 0x078 both })

/-- STATUS_FRAME (R20): a frame arrives. A good one gives Signal box's state, which is forwarded to Guard, and is acknowledged; a bad one
is discarded. A frame of a Signal box held absent is discarded and counted (R19). -/
def execStatusFrame (good : Bool) (cnt : Nat) (s : State) : Host.Outcome State Fault Refusal :=
  if !s.domOn 1 || !s.domOn 4 then .next s
  else if s.dieAbsent 2 then .next { s with links := upd s.links 2 (fun l => { l with lateDrop := inc l.lateDrop 0x3FF }) }
  else if !good then .next s
  else
    let f := s.sbx.frame
    let was := s.safe.frame.getLsbD 48
    let s1 : State := { s with
      safe := { s.safe with frame := f, frameCnt := cnt % 65536, frames := true, seen := true }
      links := upd s.links 2 (fun l => { l with inn := {}, mark := laterMark l.mark (frameStamp s.tb) }) }
    let s2 := (s1.sbxMirror.post (.packet 2 12 (cnt % 65536) none)).frameReport
    .next (if was && !f.getLsbD 48 then s2.irq .safe 0x1000 else s2)

/-- STATUS_FRAME_MISSING (R20): a slot passes without a good frame; the eighth in a row declares Signal box absent. -/
def execStatusFrameMissing (s : State) : Host.Outcome State Fault Refusal :=
  if !s.domOn 1 || s.links[(2 : Fin 8)].st ≠ .up then .next s
  else
    let n := s.links[(2 : Fin 8)].inn.run + 1
    let s1 : State := { s with links := upd s.links 2 (fun l => { l with inn := { run := min n 8 }, worstRun := max l.worstRun (min n 8) }) }
    .next (if 8 ≤ n then s1.dieLost 2 else s1)

end Sys2Proof.Machine
end

