-- ==== Sys2Proof/Machine/Pair.lean ====
section
/-! DEFINITION. Redundant pair operation: the link, the mirror, election, giving up and takeover (R468 to R490), with the
boundary and the take of the planner, where a takeover's axes are taken up. -/

namespace Sys2Proof.Machine

/-! ## Receiving frames (R474, R476) -/

/-- A frame arrives on the PAIR link: one with a bad CRC or a wrong count is discarded and counted; while the link is DOWN or
TRAINING the first count is taken as it comes (log 51). -/
def State.pairRx (good : Bool) (cnt : Nat) (k : State → State) (s : State) : State :=
  let p := s.pair
  let bad (next : Nat) : State := { s with pair := { p with crcErr := inc p.crcErr 0xFFFF, rxCount := next % 2 ^ 32 } }
  if !s.cfg.paired then s
  else if !good then bad (p.rxCount + 1)
  else if (p.link = .up || p.link = .mismatch) && cnt ≠ p.rxCount then bad (cnt + 1)
  else k { s with pair := { p with rxCount := (cnt + 1) % 2 ^ 32, goodAt := s.tb } }

/-- Highest link version common to both; this module offers v1 and v2 (R475). -/
def commonVersion (versions : Nat) : Nat := if versions / 2 % 2 = 1 then 2 else versions % 2

/-- HELLO is taken: the pair is formed, or a MISMATCH is reported (R475). -/
def State.takeHello (versions : Nat) (second : Bool) (serial : Nat) (sealW : Word) (hash : List Byte) (layout mode : Nat)
    (s : State) : State :=
  let ver := commonVersion versions
  let bits := b2n (ver = 0) + 2 * b2n (second = s.cfg.second) + 4 * b2n (s.grd.word ≠ some sealW) + 8 * b2n (hash ≠ s.pairHash)
  let s1 : State := { s with
    pair := { s.pair with version := ver, serial, prgDiff := decide (layout ≠ s.prg.image.layout) }
    pairx := { s.pairx with mode, layout } }
  if bits = 0 then
    if s.pair.formed then s1.elect
    else
      let s2 : State := { s1 with
        pair := { s1.pair with link := .up, formed := true }
        pairx := { s1.pairx with sent := s1.pairx.sent.map (fun e => (e.1, none)) } }
      (s2.ev .pair 0x9001 [1, b8 ver]).elect
  else
    let s2 : State := { s1 with pair := { s1.pair with link := .mismatch, formed := false } }
    if s.pair.link = .mismatch then s2 else (s2.pairFlag 3).ev .pair 0x9004 [b8 bits]

/-- HELLO (R475). -/
def execHello (good : Bool) (cnt versions : Nat) (second : Bool) (serial : Nat) (sealW : Word) (hash : List Byte)
    (layout mode : Nat) (s : State) : Host.Outcome State Fault Refusal :=
  .next (s.pairRx good cnt (State.takeHello versions second (serial % 2 ^ 64) sealW hash (layout % 2 ^ 64) (mode % 256)))

/-- STATUS is taken: the partner's mode and readiness; an active module resends the QUEUE frames asked for (R474, R480). -/
def State.takeStatus (mode : Nat) (actO ok : Bool) (stale : Word) (cycle : Nat) (s : State) : State :=
  let s1 : State := { s with
    pair := { s.pair with partnerMode := mode, partnerMirror := ok, statusAt := s.tb }
    pairx := { s.pairx with mode, partnerAct := actO, partnerCycle := cycle } }
  (if s1.pairActive then forAll (fins 12 (fun a => bit stale a.val)) (fun a t => t.sendQueue a) s1 else s1).elect

/-- STATUS (R474). -/
def execStatus (good : Bool) (cnt mode : Nat) (actO ok : Bool) (stale : Word) (cycle : Nat) (s : State) :
    Host.Outcome State Fault Refusal :=
  .next (s.pairRx good cnt (State.takeStatus (mode % 256) actO ok stale (cycle % 2 ^ 32)))

/-- A frame of the active partner reaches a module that is not active itself. -/
def State.mirrors (k : State → State) (s : State) : State := if s.pair.formed && !s.pair.actO then k s else s

/-! ## The mirror (R474, R479, R484) -/

/-- The state of a code of Table 11-1. -/
def PtlState.ofCode (n : Nat) : PtlState :=
  match n with
  | 0 => .closedLocked | 1 => .released | 2 => .opening | 3 => .open | 4 => .closeWarn | 5 => .closing | 6 => .obstacleStop
  | 7 => .reversing | 8 => .reopenHold | 9 => .nudge | 10 => .locking | 11 => .isolated | 12 => .egress | 13 => .fault | _ => .unused

/-- A number of `n` bytes at an offset of a payload. -/
def leAt (l : List Byte) (o n : Nat) : Nat := leNat ((l.drop o).take n)

/-- The axis entry of MOTION at an offset, on the mirror of the axis (Table 18-3). -/
def motionAx (l : List Byte) (o : Nat) (m : AxMirror) : AxMirror :=
  { m with
    pos := sx 64 (leAt l o 8), vel := sx 32 (leAt l (o + 8) 4), tag := leAt l (o + 12) 2, st := leAt l (o + 14) 1, cnt := leAt l (o + 15) 1
    fb := sx 64 (leAt l (o + 16) 8), flags := BitVec.ofNat 32 (leAt l (o + 24) 2 % 512) }

/-- The portal entry of MOTION at an offset (Table 18-4). -/
def motionPt (l : List Byte) (o : Nat) : PtlMirror :=
  { st := PtlState.ofCode (leAt l o 1), prev := leAt l (o + 1) 1, obs := leAt l (o + 2) 1, nudge := leAt l (o + 3) 1
    remain := leAt l (o + 4) 4, flags := BitVec.ofNat 32 (leAt l (o + 8) 2), bits := BitVec.ofNat 32 (leAt l (o + 10) 1)
    openSeq := leAt l (o + 12) 8 }

/-- Length of a MOTION frame in bytes (R474). -/
def motionLen : Nat := 660

/-- The mirror and the TB offset take a MOTION frame stamped `stamp`; the PTL pages of a standby show the mirrored states. The frame is sent
at the partner's boundary b (Table 18-2), so the stamp of its first bit is b, of which the header carries 48 bits (DEDUCED, log 87). -/
def State.takeMotion (stamp : Nat) (l : List Byte) (s : State) : State :=
  let d := sx 48 (tc 48 ((s.tb : Int) - (stamp + motionLen * 16 / 10 + 32 : Nat)))
  let s1 : State := { s with
    pair := { s.pair with motionAt := some s.tb, motionB := stampOf stamp, offs := (d :: s.pair.offs).take 16 }
    pairx := { s.pairx with
      stale := false
      ax := Vector.ofFn (fun a => motionAx l (32 * a.val) s.pairx.ax[a])
      ptl := Vector.ofFn (fun p => motionPt l (384 + 32 * p.val)) } }
  if s.mc.mode = .standby then
    forAll (List.finRange 8) (fun p t =>
      let m := t.pairx.ptl[p]
      t.modPtl p (fun x => { x with st := m.st, prev := m.prev, obsInClose := m.obs, nudgeObs := m.nudge })) s1
  else s1

/-- MOTION (R484). -/
def execMotion (good : Bool) (cnt stamp : Nat) (payload : List Byte) (s : State) : Host.Outcome State Fault Refusal :=
  .next (s.pairRx good cnt (State.mirrors (State.takeMotion stamp payload)))

/-- QUEUE (R474). -/
def execQueue (good : Bool) (cnt : Nat) (a : Fin 12) (qcnt : Nat) (q : QueueMsg) (s : State) : Host.Outcome State Fault Refusal :=
  .next (s.pairRx good cnt (State.mirrors (fun t =>
    { t with pairx := { t.pairx with ax := upd t.pairx.ax a (fun m => { m with queue := q, qcnt := some (qcnt % 256) }) } })))

/-- The little-endian words of bytes. -/
def wordsOf (n : Nat) (l : List Byte) : List Word := (List.range n).map (fun k => wordAt l k)

/-- A mirrored cycle starts with the active module's input image in place of phase 1 (R374, R478). -/
def State.mirrorCycle (cycle : Nat) (image : List Byte) (s : State) : State :=
  if s.prg.run ≠ .running || s.prgx.initRun.isSome then s
  else if s.prg.busy then s.overrun
  else s.beginCycle cycle (wordAt image 1) (wordsOf 512 image)

/-- A fragment is kept, and with both of one cycle number the cycle starts. -/
def State.takeImage (cycle frag : Nat) (data : List Byte) (s : State) : State :=
  let l := (s.pairx.frags.filter (fun f => f.1 = cycle && f.2.1 ≠ frag)) ++ [(cycle, frag, padTo 1024 data)]
  let part (k : Nat) : Option (List Byte) := (l.find? (fun f => f.2.1 = k)).map (·.2.2)
  match part 0, part 1 with
  | some a, some b =>
    let t : State := { s with pairx := { s.pairx with frags := [] } }
    if t.mc.mode = .standby then t.mirrorCycle cycle (a ++ b) else t
  | _, _ => { s with pairx := { s.pairx with frags := l } }

/-- IMAGE (R478). -/
def execImage (good : Bool) (cnt cycle frag : Nat) (data : List Byte) (s : State) : Host.Outcome State Fault Refusal :=
  .next (s.pairRx good cnt (State.mirrors (State.takeImage (cycle % 2 ^ 32) frag data)))

/-- LOADS (R474). -/
def execLoads (good : Bool) (cnt : Nat) (data : List Byte) (s : State) : Host.Outcome State Fault Refusal :=
  .next (s.pairRx good cnt (State.mirrors (fun t =>
    if t.pair.version < 2 then t else { t with pairx := { t.pairx with loads := wordsOf 24 data } })))

/-- ENV (R479): the standby takes the envelope of a leaf; of a bin the frame gives the mean and the count, which stand for as many
equal samples (log 52). -/
def execEnv (good : Bool) (cnt : Nat) (p : Fin 8) (leaf : Fin 2) (data : List Word) (s : State) : Host.Outcome State Fault Refusal :=
  .next (s.pairRx good cnt (State.mirrors (fun t =>
    if t.pair.version < 2 || t.mc.mode ≠ .standby then t
    else
      let bins := ((List.range 64).map (fun b => (b, data.getD b 0))).filter (fun e => fld e.2 27 5 ≠ 0)
      { t with env := t.env.filter (fun e => e.1.1 ≠ p.val || e.1.2.1 ≠ leaf.val) ++
          bins.map (fun e => ((p.val, leaf.val, e.1), List.replicate (fld e.2 27 5) (sx 16 (fld e.2 0 16)))) })))

/-! ## Timers of the link (R474, R476, R487) -/

/-- PAIR_HELLO_TIMER (R474): HELLO goes out until the pair is formed; the first one trains the link. -/
def execPairHelloTimer (s : State) : Host.Outcome State Fault Refusal :=
  if !s.cfg.paired || s.pair.formed then .next s
  else .next { s with pair := { s.pair with link := if s.pair.link = PairLink.down then .training else s.pair.link } }.sendHello

/-- The cycle number last run, as STATUS carries it; before any cycle has been run no rule gives one: a free value (log 87). -/
def State.lastRun (s : State) : Nat := s.prgx.lastRun.getD (Config.free 49 s.tb) % 2 ^ 32

/-- PAIR_STATUS_TIMER (R474). -/
def execPairStatusTimer (s : State) : Host.Outcome State Fault Refusal :=
  if !s.cfg.paired then .next s
  else .next (s.pairMsg (.status s.mc.mode.code s.pair.actO s.mirrorOk (bitsOf 12 (fun n => !(s.pairx.ax[Fin.ofNat 12 n]).valid)) s.lastRun))

/-- PAIR_LINK_LOSS (R476): no good frame for 3 ms; no mode and no line changes. -/
def execPairLinkLoss (s0 : State) : Host.Outcome State Fault Refusal :=
  if !s0.cfg.paired || !(s0.pair.link = .up || s0.pair.link = .mismatch) then .next s0
  else
    let s := s0.to (s0.pair.goodAt + ms 3)
    let s1 : State := { s with pair := { s.pair with
      link := .down, formed := false, version := 0, offs := [], losses := inc s.pair.losses 0xFFFF } }
    .next ((s1.pairFlag 2).ev .pair 0x9001 [0, b8 s.pair.version])

/-- MIRROR_STALE (R487): a standby has had no MOTION frame for more than 125 µs. -/
def execMirrorStale (s0 : State) : Host.Outcome State Fault Refusal :=
  match s0.pair.motionAt with
  | some t =>
    if s0.mc.mode ≠ .standby || s0.pairx.stale then .next s0
    else
      let s := s0.to (t + us 125 + 1)
      .next (({ s with pairx := { s.pairx with stale := true } }.pairFlag 4).ev .pair 0x9006 (leBytes 2 s.mirrorAge))
  | none => .next s0

/-! ## The interlock (R471, R473) -/

/-- Every bridge of the module is held off by the interlock. -/
def State.pairCutAll (s : State) : State :=
  forAll allAx (fun a t => (t.modWatch a (fun w => { w with pairCut := true })).modCoil a (Coils.enter .free)) s

/-- Two active modules see each other: FLAGS.CONFLICT and PAIR_CONFLICT; the SECOND gives up (R473). -/
def State.conflict (s : State) : State :=
  let s1 := (s.pairFlag 5).ev .pair 0x9005 [b8 (b2n s.cfg.second)]
  if s.cfg.second then s1.toSafeHold 0x19 4 else s1

/-- PAIR_ACT_I_RISE (R471, R473, R477): every bridge off; two modules that both assert are in conflict. -/
def execPairActIRise (s0 : State) : Host.Outcome State Fault Refusal :=
  if s0.pair.actI then .next s0
  else
    let s : State := { s0 with pair := { s0.pair with actI := true, actIAt := s0.tb }, pairx := { s0.pairx with guardAt := none } }.pairCutAll
    if !s.pair.actO then .next s.elect
    else if s.pairx.assertAt.isSome then
      if s.cfg.second then
        .next { s with pair := { s.pair with actO := false }, pairx := { s.pairx with assertAt := none }, mc := { s.mc with busy := false } }.elect
      else .next s
    else .next s.conflict

/-- PAIR_ACT_I_FALL (R482): a standby's guard begins. -/
def execPairActIFall (s : State) : Host.Outcome State Fault Refusal :=
  if !s.pair.actI then .next s
  else
    let s1 : State := { s with
      pair := { s.pair with actI := false, actIAt := s.tb }
      pairx := { s.pairx with guardAt := if s.mc.mode = .standby then some s.tb else none } }
    .next s1.elect

/-- PAIR_GATE_RESTORE (R471): 5 µs after PAIR_ACT_I has fallen and after the module's own ACT_O has risen. -/
def execPairGateRestore (s0 : State) : Host.Outcome State Fault Refusal :=
  if s0.pair.actI || !s0.watch.toList.any (·.pairCut) then .next s0
  else
    let s := s0.to (max s0.pair.actIAt (if s0.pair.actO then s0.pair.actOAt else 0) + us 5)
    let on := s.modeMoves || s.mc.mode = .safeHold
    .next (forAll allAx (fun a t =>
      let u := t.modWatch a (fun w => { w with pairCut := false })
      if on then u.coilsOn a else u) s)

/-! ## Election (R477) -/

/-- ELECT_ASSERT_WAIT (R477): 50 µs after asserting ACT_O the module is active; a FIRST whose ACT_I rose in that time and is high still is
in conflict with its partner (R473). -/
def execElectAssertWait (s0 : State) : Host.Outcome State Fault Refusal :=
  match s0.pairx.assertAt with
  | some t =>
    if s0.mc.mode ≠ .config || !s0.pair.actO then .next s0
    else
      let s := s0.to (t + us 50)
      let s1 := { s with pairx := { s.pairx with assertAt := none }, mc := { s.mc with busy := false } }.toRun (if s.mc.asked then 4 else 0)
      .next (if s1.pair.actI then s1.conflict else s1)
  | none => .next s0

/-- ELECT_TIMEOUT (R477): ELECT_TMO, once or twice by Table 18-5, has passed with ACT_I still low. -/
def execElectTimeout (s : State) : Host.Outcome State Fault Refusal :=
  match s.electWait, s.pairx.electAt with
  | some k, some t =>
    if !s.cfg.paired || s.mc.mode ≠ .config || s.pair.actI || s.mc.busy then .next s else .next (s.to (t + k * ms s.cfg.electTmo)).elect
  | _, _ => .next s

/-! ## Giving up (R480, R481) -/

/-- A write of CTL (Table 18-9). -/
def State.pairCtl (w : Word) (s : State) : State :=
  if fld w 16 16 ≠ 0x5041 then s.err .pair 0x04 0 0x040
  else if !bit w 0 then s
  else if s.cfg.paired && s.pair.actO && s.modeMoves && s.partnerReady then s.toSafeHold 0x19 3
  else s.err .pair 0x40 0 0x040

/-- YIELD (R480). -/
def execYield (s : State) : Host.Outcome State Fault Refusal :=
  .next (s.gated .pair 0x040 0x50410001 false (State.pairCtl 0x50410001))

/-- Instant of the give-up whose loads are still held, with whether the partner took over within 2 ms of it. -/
def State.heldLoads (s : State) : Option (Nat × Bool) :=
  if s.mc.mode ≠ .safeHold || s.pairx.handed then none
  else s.pairx.gaveUpAt.map (fun t => (t, s.pair.actI && decide (s.pair.actIAt ≤ t + ms 2)))

/-- LOAD_OVERLAP_EXPIRY (R481): the partner's line has been high for LOAD_OVERLAP. -/
def execLoadOverlapExpiry (s0 : State) : Host.Outcome State Fault Refusal :=
  match s0.heldLoads with
  | some (t, true) =>
    let s := s0.to (max t s0.pair.actIAt + ms s0.cfg.overlap)
    .next ({ s with pairx := { s.pairx with handed := true } }.lswSend 3)
  | _ => .next s0

/-- GIVEUP_LOAD_TIMEOUT (R481): no takeover within 2 ms, so the fail-safe states apply. -/
def execGiveupLoadTimeout (s0 : State) : Host.Outcome State Fault Refusal :=
  match s0.heldLoads with
  | some (t, false) => .next ({ s0.to (t + ms 2) with pairx := { s0.pairx with gaveUpAt := none } }.lswSend 2)
  | _ => .next s0

/-! ## Takeover (R482 to R486) -/

/-- Boundary at which the first replanned setpoint of a takeover runs. -/
def State.replanAt (s : State) : Nat := (s.pairx.takePeriod + 2) * periodCounts

/-- Where the mirror places a partner's count on the module's own time base, as counts before the replan boundary. -/
def State.sinceMirror (s : State) (ahead : Nat) : Int :=
  sx 48 (tc 48 ((s.replanAt : Int) - (s.pair.motionB + ahead : Nat) - s.pair.meanOfs))

/-- The engine of a mirrored axis resumes with its relation, and its armed crossing (R483). -/
def State.resumeEngine (a : Fin 12) (q : QueueMsg) (s : State) : State :=
  match q.engine with
  | none => s
  | some (e, src, num, den, refM, refS) =>
    let t := if h : e < 12 then
        { s with gear := upd s.gear ⟨e, h⟩ (fun g =>
            { g with engaged := true, since := s.pairx.takePeriod, refM, refS, num, den, outs := [], waiting := none, arm := q.arm,
                     ratio := none, before := none }) }.setCom (.gear ⟨e, h⟩) 0x05C
          (BitVec.ofNat 32 ((s.com (.gear ⟨e, h⟩) 0x05C).toNat / 16 * 16 + src % 16))
      else
        let c : Fin 4 := Fin.ofNat 4 e
        let w := s.com (.cam c) 0x044
        { s with cam := upd s.cam c (fun g => { g with engaged := true, since := s.pairx.takePeriod, ofs := refS, outs := [] }) }.setCom
          (.cam c) 0x044 (BitVec.ofNat 32 (w.toNat - fld w 8 4 * 256 + src % 16 * 256))
    t.modAx a (fun x => { x with engine := some e, st := .follow, queue := [] })

/-- The plan of a mirrored axis from its resume position (R483): its moves, its held velocity, or a stop that was under way. -/
def resumePlan (pr : Profile) (b : Bounds) (pos vel : Int) (st : Nat) (moves : List Move) : Plan :=
  let w := vel.natAbs * 125
  let p : Plan := { x := pos * unitsPerStep, w, neg := decide (vel < 0), moves, begun := decide (w ≠ 0) && decide (moves ≠ []), mayPass := true
                    ends := joints pr b (pos * unitsPerStep) (decide (vel < 0)) w moves
                    held := if moves = [] && st = 4 then some vel.natAbs else none }
  if st = 5 || (moves = [] && st ≠ 4) then p.beginStop pr b { shown := true } moves else p

/-- An axis takes up its mirror (R483). One with an encoder works from the present feedback position up to the replan boundary, and from that
boundary's from there on. -/
def State.resumeAxis (a : Fin 12) (s0 : State) : State :=
  let m := s0.pairx.ax[a]
  let s : State := { s0 with pairx := { s0.pairx with ax := upd s0.pairx.ax a (fun m => { m with due := false, landing := true }) } }
  if s.ax[a].halts ≠ [] then s
  else
    let q := m.queue
    let pos := if s.hasEncoder a then s.posUs a else m.pos + freeNearest 29 (m.vel * s.sinceMirror 20000) (256 * 160000000)
    let f := q.prof
    let s1 := forAll [(0x060, f.vStart), (0x064, f.a1), (0x068, f.vBreak), (0x06C, f.a2), (0x070, f.vMax), (0x074, f.d2), (0x078, f.d1),
      (0x07C, f.vStop)] (fun e t => t.setCom (.ax a) e.1 (BitVec.ofNat 32 e.2)) s
    let s2 := s1.alignAxis a pos true
    if q.engine.isSome then s2.resumeEngine a q
    else
      let plan := resumePlan (s2.profile a) (s2.bounds a) pos m.vel m.st q.moves
      s2.modAx a (fun x => ({ x with
        queue := q.moves, tagged := x.tagged || decide (q.moves ≠ [])
        furrow := [restPeriod (restPlan pos), { restPeriod (restPlan pos) with plan }]
          ++ planAhead (s2.profile a) (s2.bounds a) 510 plan } : Axis).refreshEnds)

/-- A plan goes on from another position and speed: its joints, or its rest, are worked out again. -/
def Plan.rebase (pr : Profile) (b : Bounds) (x : Int) (w : Nat) (neg : Bool) (p : Plan) : Plan :=
  let q : Plan := { p with x, w, neg }
  match p.stop with
  | some k => q.beginStop pr b k p.moves
  | none => { q with ends := joints pr b x neg w p.moves }

/-- The Furrow from the boundary of period `n` on, replanned from a position with what the axis holds there; what period n − 1 took stands
(R170, R483). -/
def Axis.replanned (pr : Profile) (b : Bounds) (n : Nat) (pos : Int) (x : Axis) : Axis :=
  match x.front with
  | q :: r :: _ =>
    let p0 := q.plan.rebase pr b (pos * unitsPerStep) q.plan.w q.plan.neg
    let run := (planAhead pr b 1 p0).headD (restPeriod p0)
    let took := x.tookIn (n - 1)
    let p1 := if took.applied = [] then run.plan else r.plan.rebase pr b run.plan.x run.plan.w run.plan.neg
    { x with
      furrow := [{ restPeriod p0 with plan := p0 }, { run with plan := p1 }] ++ planAhead pr b 510 p1
      queue := if took.applied = [] then x.queue else p0.moves.take (run.done + run.early + run.drop) ++ p1.moves
      took := x.took.map (fun t => { t with plan := run.plan }) }
  | _ => x

/-- At the replan boundary, which starts period `n`, an axis with an encoder stands at its feedback position there, and its first setpoint is
made from it (R483, R484). -/
def State.landAxis (n : Nat) (a : Fin 12) (s : State) : State :=
  let x := s.ax[a]
  if !s.pairx.ax[a].landing || decide (n < s.pairx.takePeriod + 2) then s
  else
    let s1 : State := { s with pairx := { s.pairx with ax := upd s.pairx.ax a (fun m => { m with landing := false }) } }
    if x.halts ≠ [] || !s.hasEncoder a then s1
    else
      let y := if x.following then x else x.replanned (s.planProfile a) (s.bounds a) n (s.posUs a)
      let s2 := (s1.alignAxis a (s.posUs a) true).modAx a (fun z => { z with furrow := y.furrow, queue := y.queue, took := y.took })
      let r := setpointOf s2.ax[a].accEnd (match y.furrow, (s.pg (.ax a)).en with | _ :: q :: _, true => q | _, _ => restPeriod (restPlan (s.posUs a)))
      (s2.modAx a (fun z => { z with accEnd := r.2 })).modDrv a (fun d => { d with next := [(n, r.1)] })

/-- The takeover is taken by an axis in period `m`, if that is due. -/
def State.takeoverTake (m : Nat) (a : Fin 12) (s : State) : State :=
  if s.pairx.ax[a].due && decide (s.pairx.takePeriod ≤ m) then s.resumeAxis a else s

/-- The mirror of a member axis of a portal. -/
def State.mirrorOf (s : State) (p : Fin 8) (k : Nat) : AxMirror := match s.member p k with | some a => s.pairx.ax[a] | none => {}

/-- A member holds moves by the mirror. -/
def State.mirrorMoves (s : State) (p : Fin 8) (k : Nat) : Bool := decide ((s.mirrorOf p k).queue.moves ≠ [])

/-- The step alone is under way, in or out, by the mirror (R274). -/
def State.mirrorStep (s : State) (p : Fin 8) : Bool :=
  s.stepMode p = 1 && [0, 1].all (fun k => (s.member p k).isNone || decide ((s.mirrorOf p k).pos = s.closedPos p k))

/-- Where a mirrored OPENING stands, with its running timer: the unlock while the lock is closed, otherwise REOPEN_T of the step; a member that
stops does so before the unlock where it closes, and at an obstacle where it opens. -/
def State.resumeOpening (p : Fin 8) (s : State) : PtlPhase × Option Timer :=
  let leaves := s.mirrorMoves p 0 || s.mirrorMoves p 1
  let step := s.stepMode p = 1 && s.mirrorMoves p 2 && !leaves
  let opens (k : Nat) : Bool := decide (0 < (s.mirrorOf p k).vel * s.openDir p k)
  let run : PtlPhase := if step then .stepOut else .moves
  if s.pairx.ptl[p].remain ≠ 0 then
    if !s.ptlIn[p].lockedSw then (.stepWait (s.mirrorStep p), some .step)
    else (if leaves || step then run else .unlock, some .unlock)
  else if [0, 1, 2].any (fun k => (s.mirrorOf p k).st = 5) then
    (if !(opens 0 || opens 1) then .stopFirst else if s.sideRelease (s.sideOf p) then .toOpen else .moves, none)
  else (run, none)

/-- Where a mirrored close stands, with its running timer. -/
def State.resumeClosing (p : Fin 8) (s : State) : PtlPhase × Option Timer :=
  if s.pairx.ptl[p].remain ≠ 0 then (.stepWait (s.mirrorStep p), some .step)
  else (if s.stepMode p = 1 && s.mirrorMoves p 2 && !(s.mirrorMoves p 0 || s.mirrorMoves p 1) then .stepIn else .moves, none)

/-- Where a mirrored reference close stands, with its running timer (R292). -/
def State.resumeRef (p : Fin 8) (s : State) : PtlPhase × Option Timer :=
  let vel (k : Nat) : Bool := match (s.mirrorOf p k).queue.moves with | m :: _ => decide (m.kind = 2) | [] => false
  if s.pairx.ptl[p].remain ≠ 0 then (.refHold, some .refWait)
  else if (s.mirrorOf p 2).st = 5 then (.refStepStop, none)
  else if (s.mirrorOf p 0).st = 5 || (s.mirrorOf p 1).st = 5 then (if s.ptlIn[p].closedSw then .refStop else .refObs, none)
  else if vel 0 || vel 1 then (.refVel, none)
  else if s.mirrorMoves p 0 || s.mirrorMoves p 1 then (.refFinal, none)
  else (if s.mirrorMoves p 2 then .refStep else .refVel, none)

/-- The 200 ms of a lock retry run by the mirror: its solenoid is on, or where no LOADS frame says so, its leaves move (R278). -/
def State.mirrorPulse (s : State) (p : Fin 8) : Bool :=
  let n := fld s.cfg.assign0[p] 22 5
  if n < 24 ∧ 2 ≤ s.pair.version ∧ s.pairx.loads ≠ [] then decide (fld (s.pairx.loads.getD n 0) 0 2 ≠ 0)
  else s.mirrorMoves p 0 || s.mirrorMoves p 1

/-- Where a portal's mirrored state stands, and its running timer. MOTION gives the state and the remaining time alone: what is waited for
inside a state is inferred from the mirrored axes, loads and the module's own switches (DEDUCED, log 87). -/
def State.resumePhase (p : Fin 8) (s : State) : PtlPhase × Option Timer :=
  let m := s.pairx.ptl[p]
  match m.st with
  | .opening => s.resumeOpening p
  | .open => (.idle, if m.remain = 0 then none else some .autoClose)
  | .closeWarn => (.idle, some .cw)
  | .closing => if bit m.bits 1 then s.resumeRef p else s.resumeClosing p
  | .nudge => s.resumeClosing p
  | .reversing => if m.remain = 0 then (.moves, none) else (.stepWait false, some .step)
  | .obstacleStop => (.moves, none)
  | .reopenHold => (.idle, some (if bit m.bits 0 then .nudgePause else .reopen))
  | .locking => if s.mirrorPulse p then (.pulse, some .retry) else (.idle, some .lock)
  | .closedLocked | .released | .isolated | .egress | .fault | .unused => (.idle, none)

/-- A portal continues in its mirrored state (R483). -/
def State.resumePtl (p : Fin 8) (s : State) : State :=
  let m := s.pairx.ptl[p]
  let nudge := bit m.bits 0
  let ref := bit m.bits 1
  let at_ (k : Nat) : Int := match s.member p k with | some a => s.pairx.ax[a].pos | none => 0
  let left := ((m.remain : Int) - s.sinceMirror 0 / periodCounts).toNat
  let h := s.resumePhase p
  let moving := (s.membersOf p).any (fun e => s.pairx.ax[e.1].queue.moves ≠ [])
  (((s.modPtl p (fun x => { x with st := m.st, prev := m.prev, obsInClose := m.obs, nudgeObs := m.nudge, suspended := false
                                   refRun := ref && decide (m.st = .closing) })).modRun p (fun r =>
    { r with phase := h.1, nudgeMark := nudge, nudgeStop := nudge && decide (m.st = .reopenHold ∨ m.st = .obstacleStop)
             needRef := ref && decide (m.st = .closeWarn), retries := fld m.bits 2 3, reverse := moving, learnable := false
             refFrom := #v[at_ 0, at_ 1], hist := [] })).modPin p (fun i =>
    { i with timers := match h.2 with | some t => [(t, s.replanAt + left * periodCounts)] | none => [] })).modCyc p
    (fun c => { c with openSeq := m.openSeq, mark := s.now })

/-- The loads of a warm takeover: the mirrored states at once under v2; under v1 the last suppressed output image waits for the first
publication (Table 18-7, R485). -/
def State.takeoverLoads (s : State) : State :=
  if 2 ≤ s.pair.version && s.pairx.loads ≠ [] then
    (forAll allLsw (fun c t => let w := s.pairx.loads.getD c.val 0; t.lswSet c (fld w 0 2) (fld w 16 10)) s).lswDeliver
  else { s with pairx := { s.pairx with held := s.prg.image512.take 24 } }

/-- A cold takeover (R485): every axis at its feedback position, portals resynchronised, the program restarted warm. -/
def State.takeoverCold (s : State) : State :=
  let s1 := forAll allAx (fun a t =>
    let u := t.modAx a (fun x => { x with queue := [], taken := [], st := if x.halts = [] then .idle else .halted })
    if u.hasEncoder a then u.alignAxis a (u.posUs a) true else u.axFlag a 7) s
  s1.ptlEnterRun.prgRestart false

/-- TAKEOVER_GUARD (R482): PAIR_ACT_I has stayed low for 20 µs. The measured interval of R486 is a free value; when the takeover is warm it
holds the time from the fall of PAIR_ACT_I at `t` to the replan boundary, and at most the 50 µs of the give-up and the 31.25 µs to the first
voltage update besides (log 87). -/
def execTakeoverGuard (s0 : State) : Host.Outcome State Fault Refusal :=
  match s0.pairx.guardAt with
  | none => .next s0
  | some t =>
    if s0.mc.mode ≠ .standby || s0.pair.actI then .next s0
    else
      let s := s0.to (t + us 20)
      let warm := s.mirrorOk && !s.pair.prgDiff
      let d := s.draw
      let s1 := d.2
      let gap := if warm then ((s1.takePeriod + 2) * periodCounts - t) / 16 + Config.free 23 d.1 % 813 else Config.free 23 d.1 % 65536
      let s2 : State := { s1 with
        pair := { s1.pair with actO := true, actOAt := s1.tb, gap, takeovers := inc s1.pair.takeovers 0xFFFF }
        pairx := { s1.pairx with
          guardAt := none, takePeriod := s1.takePeriod
          ax := s1.pairx.ax.map (fun m => { m with due := warm }) } }
      let s3 := s2.pairCutAll.modeTo (if s2.degradedDue then .degraded else .run) 5
      let s4 := if warm then s3.pairFlag 0 else (s3.pairFlag 0).pairFlag 6
      let s5 := s4.ev .pair 0x9002 ([if warm then 1 else 2, 0] ++ leBytes 2 gap)
      .next (if warm then forAll (fins 8 (fun p => s5.ptlUsed p)) (fun p t => t.resumePtl p) s5.takeoverLoads else s5.takeoverCold)

/-! ## The planner's boundary and take (R169, R170) -/

/-- CONTROL_PERIOD_BOUNDARY (R169): the next period starts; an active module of a pair sends its motion. -/
def execControlPeriodBoundary (s : State) : Host.Outcome State Fault Refusal :=
  let n := max (s.period + 1) (periodOf s.tb)
  let s1 := forAll allAx (fun a t => (t.takeoverTake (n - 1) a).landAxis n a) (s.to (n * periodCounts))
  .next { (s1.boundaryAt n).refSample n with period := n }.sendMotion

/-- PLANNER_TAKE (R170): an axis takes what is due in the present period, a takeover before all else. -/
def execPlannerTake (a : Fin 12) (s : State) : Host.Outcome State Fault Refusal :=
  .next ((s.takeoverTake (periodOf s.tb) a).takeDue a (periodOf s.tb))

end Sys2Proof.Machine
end

