-- ==== Sys2Proof/Machine/Security.lean ====
section
/-! DEFINITION. The SEC page: nonces, copies, anti-rollback, attestation, the debug lock, and its commands (R494 to R509). -/

namespace Sys2Proof.Machine

/-! ## Copies (R498, R499) -/

/-- The non-active copy of a target: 1 firmware, 2 configuration. -/
def State.spareCopy (s : State) (target : Nat) : Nat := 1 - (if target = 1 then s.sec.fwCopy else s.sec.cfgCopy)

/-- A copy that is loaded or emptied is no longer the one to boot next (DEDUCED, log 53). -/
def State.unpend (target : Nat) (s : State) : State :=
  s.modSec (fun x => if target = 1 then { x with fwPend := false } else { x with cfgPend := false })

/-- A write of LOAD_CTL (R119, R150, R499): TARGET is taken with OPEN 0 in force alone. OPEN = 1 while the copy itself is VERIFYING is refused
with LOAD_BUSY, as for the other page's image (DESIGN CHOICE, log 69). -/
def State.secLoadCtl (w : Word) (s : State) : State :=
  let x := s.sec
  let target := if x.loadOpen then x.target else fld w 0 2
  if !bit w 8 then s.modSec (fun x => { x with loadOpen := false, target })
  else if s.noGranary then s.err .sec 0x11 0 0x044
  else if s.prg.loadOpen || s.prg.siding = .verifying || x.load = .verifying then s.err .sec 0x08 0 0x044
  else if target = 0 || target = 3 then s.err .sec 0x07 0 0x044
  else if x.loadOpen then s
  else (s.modSec (fun x => { x with loadOpen := true, target, copyKind := target, loadLen := 0, load := .loading })).unpend target

/-- SEC_LOAD_OPEN (R499): host software writes LOAD_CTL. -/
def execSecLoadOpen (on : Bool) (target : Fin 4) (s : State) : Host.Outcome State Fault Refusal :=
  let w := mkWord [(0, 2, target.val), (8, 1, b2n on)]
  .next (s.gated .sec 0x044 w false (State.secLoadCtl w))

/-- A verified copy's outcome: an event per image, and LAST_REFUSE where one fails (R495, R509). -/
def State.copyVerdict (target copy : Nat) (s : State) : State :=
  if target = 1 then
    let t := s.guardVerdict 1 (fwBase copy) (s.guardReason copy)
    if s.guardReason copy = 0 then t.guardVerdict 2 (s.jctImage copy) (s.jctReason copy) else t
  else s.guardVerdict 3 (cfgBase copy) (s.cfgReason copy s.grd.word)

/-- SEC_VERIFY_DONE (R495): Guard's verification of the loaded copy ends. -/
def execSecVerifyDone (s : State) : Host.Outcome State Fault Refusal :=
  if s.sec.busy ≠ some 2 || !s.engineAt .verify then .next s
  else
    let kind := s.sec.copyKind
    let copy := s.spareCopy kind
    let ok := if kind = 1 then s.fwReason copy = 0 else s.cfgReason copy s.grd.word = 0
    let base := if kind = 1 then fwBase copy else cfgBase copy
    .next ((s.copyVerdict kind copy).modSec (fun x =>
      { x with busy := none, load := if ok then .ready else .invalid, copyRb := s.img base 0x00C 4 })).engineFree

/-! ## Anti-rollback (R500) -/

/-- What has become READY with a ROLLBACK below its counter is INVALID. -/
def State.rollbackReady (s : State) : State :=
  let refuse (kind : Nat) (t : State) : State :=
    ((t.secFlag 0).modSec (fun x => { x with refKind := kind, refReason := 6 })).ev .sec 0xA002 [b8 kind, 6]
  let s1 := if s.prg.siding = .ready && decide (s.prg.sidImage.rollback < s.fuses.rb[2]) then
      refuse 4 ((s.modPrg (fun p => { p with siding := .invalid })).prgFlag 6) else s
  let old := if s.sec.copyKind = 1 then s.fuses.rb[0] else s.fuses.rb[1]
  if s1.sec.load = .ready && decide (s1.sec.copyRb < old) then
    refuse (if s.sec.copyKind = 1 then 1 else 3) ((s1.modSec (fun x => { x with load := .invalid })).unpend s.sec.copyKind)
  else s1

/-- ADVANCE: each counter takes the ROLLBACK of the active image of its kind; none decreases. -/
def State.advance (s : State) : State :=
  let rb := s.fuses.rb
  let prg := if s.prg.run = .notLoaded then 0 else s.prg.image.rollback
  let cfg := if s.boot.cfgOk then s.sec.cfgRb else 0
  let t : State := { s with fuses := { s.fuses with rb := #v[max rb[0] s.sec.fwRb, max rb[1] cfg, max rb[2] prg] } }
  ((t.secFlag 2).ev .sec 0xA004 [b8 t.fuses.rb[0], b8 t.fuses.rb[1], b8 t.fuses.rb[2]]).rollbackReady

/-! ## Attestation (R504) -/

/-- The 512 signed bytes of the report of Table 19-5 with the SEQ of its ATTESTED event. -/
def State.attReport (s : State) (nonce : List Byte) (mode seq : Nat) : List Byte :=
  let run := s.prg.run ≠ .notLoaded
  leBytes 4 0x5454414F ++ leBytes 2 0x0100 ++ leBytes 2 0x1260 ++ leBytes 8 Config.serial ++ nonce ++ leBytes 8 seq
    ++ [b8 mode, b8 s.debugSta, b8 s.slotSta, b8 (s.sec.fwCopy % 2 + 2 * (s.sec.cfgCopy % 2) + 4 * (s.prg.slot % 2))]
    ++ leBytes 4 (s.grd.word.getD 0).toNat ++ leBytes 4 s.fuses.rb[0] ++ leBytes 4 s.fuses.rb[1] ++ leBytes 4 s.fuses.rb[2]
    ++ [0, 0, 0, 0] ++ padTo 64 s.sec.fwHash ++ padTo 64 s.sec.cfgHash ++ padTo 64 (if run then s.prg.image.hash else [])
    ++ padTo 64 (if s.prg.siding = .ready then s.prg.sidImage.hash else []) ++ List.replicate 176 0

/-- The bytes of ATT_NONCE. -/
def State.attNonce (s : State) : List Byte := (List.range 8).flatMap (fun k => leBytes 4 (s.com .sec (0x0E0 + 4 * k)).toNat)

/-- ATTEST_DONE (R504): Guard has gathered the report, and raises the event whose SEQ it is to hold. -/
def execAttestDone (s : State) : Host.Outcome State Fault Refusal :=
  if s.sec.busy ≠ some 4 || !s.engineAt .attest || s.sec.attBody ≠ [] then .next s
  else .next ((s.modSec (fun x => { x with attBody := s.attReport s.attNonce s.mc.mode.code 0 })).ev .sec 0xA005 (s.attNonce.take 8))

/-- The ATTESTED event has its SEQ: the report holds it, is signed once, and is ready; the engine is free (R504, Table 19-5; log 54). -/
def State.attSeq (seq : Nat) (s : State) : State :=
  let b := s.sec.attBody
  let body := b.take 0x030 ++ leBytes 8 seq ++ (b.drop 0x038).take 0x1C8
  if b = [] then s
  else ((s.modSec (fun x =>
    { x with busy := none, attReady := true, attBody := [], report := body ++ padTo 512 (Config.sign body) })).secFlag 3).engineFree

/-! ## CTL (R505 to R508) -/

/-- A command of CTL: the code of its refusal, or none. A token that finds the engine at work waits for it, as a command in progress (R505). -/
def State.secCommand (cmd : Nat) (s : State) : Option Nat × State :=
  let x := s.sec
  if cmd = 0 || 9 < cmd then (some 0x43, s)
  else if x.busy.isSome then (some 0x40, s)
  else match cmd with
    | 1 =>
      let d := s.draw
      (none, d.2.modSec (fun x => { x with nonce := padTo 32 (Config.random d.1 32), nonceValid := true }))
    | 2 =>
      if s.noGranary then (some 0x11, s)
      else if x.load = .loading && !x.loadOpen then (none, (s.modSec (fun x => { x with busy := some 2, load := .verifying })).engineDo .verify)
      else (some 0x41, s)
    | 3 =>
      if x.load ≠ .ready then (some 0x41, s)
      else (none, s.modSec (fun x => if x.copyKind = 1 then { x with fwPend := true } else { x with cfgPend := true }))
    | 4 => (none, (s.modSec (fun x => { x with busy := some 4, attReady := false, report := [] })).engineDo .attest)
    | 5 => if x.engine = [] then s.secToken else (none, (s.modSec (fun x => { x with busy := some 5 })).engineAsk .token)
    | 6 => if s.mc.mode = .config || s.runs then (none, s.advance) else (some 0x41, s)
    | 7 =>
      if s.fuses.debugLock || s.anyActive then (some 0x41, s)
      else match fins 4 (fun k => s.fuses.slots[k] = .empty) with
        | k :: _ => (none, s.installKey k 0)
        | [] => (some 0x41, s)
    | 8 =>
      if !s.anyActive then (some 0x41, s)
      else if s.fuses.debugLock then (none, s)
      else (none, ({ s with fuses := { s.fuses with debugLock := true } }).debugEvent 0)
    | _ => (none, (s.modSec (fun x => { x with load := .empty })).unpend x.copyKind)

/-- A write of CTL. -/
def State.secCtl (w : Word) (s : State) : State :=
  if fld w 16 16 ≠ 0x5345 then s.err .sec 0x04 0 0x040
  else match s.secCommand (fld w 0 4) with
    | (some c, t) => t.err .sec c 0 0x040
    | (none, t) => t

/-- NONCE, ATTEST and TOKEN remain available under LOCK (R508). -/
def secExempt (w : Word) : Bool := [1, 4, 5].contains (fld w 0 4)

/-- A write of a command of CTL by host software. -/
def State.hostSec (cmd : Nat) (s : State) : State :=
  let w := mkWord [(0, 4, cmd), (16, 16, 0x5345)]
  s.gated .sec 0x040 w (secExempt w) (State.secCtl w)

/-- SEC_NONCE (R501). -/
def execSecNonce (s : State) : Host.Outcome State Fault Refusal := .next (s.hostSec 1)

/-- SEC_VERIFY (R499). -/
def execSecVerify (s : State) : Host.Outcome State Fault Refusal := .next (s.hostSec 2)

/-- SEC_ACTIVATE (R499). -/
def execSecActivate (s : State) : Host.Outcome State Fault Refusal := .next (s.hostSec 3)

/-- ATTEST (R504). -/
def execAttest (s : State) : Host.Outcome State Fault Refusal := .next (s.hostSec 4)

/-- ADVANCE (R500). -/
def execAdvance (s : State) : Host.Outcome State Fault Refusal := .next (s.hostSec 6)

/-- INSTALL (R493). -/
def execInstall (s : State) : Host.Outcome State Fault Refusal := .next (s.hostSec 7)

/-- LOCK_DEBUG (R506). -/
def execLockDebug (s : State) : Host.Outcome State Fault Refusal := .next (s.hostSec 8)

/-- SEC_DISCARD (R507). -/
def execSecDiscard (s : State) : Host.Outcome State Fault Refusal := .next (s.hostSec 9)

/-- COMMAND of the token that stands in SEC.TOKEN. -/
def State.tokenCmd (s : State) : Nat := tokNat (tokenBytes s.sec.token) 6 1

/-- CMD TOKEN where the token that stands in SEC.TOKEN has a given COMMAND; for any other token this is not the row's command. -/
def State.runToken (cmd : Nat) (s : State) : State := if s.tokenCmd = cmd then s.hostSec 5 else s

/-- TOKEN_INSTALL (R493). -/
def execTokenInstall (s : State) : Host.Outcome State Fault Refusal := .next (s.runToken 2)

/-- TOKEN_REVOKE (R493). -/
def execTokenRevoke (s : State) : Host.Outcome State Fault Refusal := .next (s.runToken 3)

/-- TOKEN_DEBUG_OPEN (R506). -/
def execTokenDebugOpen (s : State) : Host.Outcome State Fault Refusal := .next (s.runToken 4)

end Sys2Proof.Machine
end

