-- ==== Sys2Proof/Machine/Evq.lean ====
section
/-! DEFINITION. The host interface: contracts, the PCI Express link, event records, the Platform queues, the polled FIFO
and the Floko window's commands (R421 to R446). -/

namespace Sys2Proof.Machine

/-! ## Records (R431 to R434) -/

/-- Floko code of a portal state (Table 16-3). -/
def flokoCode (code : Nat) : Nat :=
  match code with
  | 0 => 0 | 1 => 0 | 2 => 1 | 3 => 2 | 4 => 2 | 5 => 3 | 6 => 4 | 7 => 4 | 8 => 4 | 9 => 3 | 10 => 3 | 11 => 6
  | 12 => 5 | 13 => 5 | _ => 7

/-- The v1 record of an event with a v1 code, 16 bytes (R433). -/
def recV1 (e : Event) (seq v1 : Nat) (ended : Bool) : List Byte :=
  let pay := padTo 8 e.payload
  leBytes 4 seq ++ [b8 e.source, b8 v1] ++ leBytes 2 (b2n ended)
    ++ (if e.code = 0x3001 then (pay.take 2).map (fun b => b8 (flokoCode b.toNat)) ++ pay.drop 2 else pay)

/-- The bytes beyond a record's payload in pieces of 24, at most three (R434). -/
def continuations (l : List Byte) : List (List Byte) :=
  ((List.range 3).map (fun k => (l.drop (24 * k)).take 24)).filter (fun c => c ≠ [])

/-- The v2 record of an event and its continuation records, 32 bytes each (R432, R434); a continuation holds its SEQ and
24 payload bytes, which leave no place for LEN_FLAGS (log 55). -/
def recV2 (e : Event) (seq : Nat) (full : Bool) : List (List Byte) :=
  let conts := if full && e.code = 0x6001 then continuations e.more else []
  (leBytes 8 seq ++ leBytes 6 e.stamp ++ leBytes 2 e.source ++ leBytes 2 e.code
      ++ leBytes 2 (min e.payload.length 12 + 256 * conts.length) ++ padTo 12 e.payload)
    :: conts.map (fun c => leBytes 8 seq ++ padTo 24 c)

/-- Number of records of an event, without building them. -/
def recCount (e : Event) (v1 full : Bool) : Nat :=
  if !v1 && full && e.code = 0x6001 then 1 + (continuations e.more).length else 1

/-- The EVQ_OVERFLOW event that closes a lost run (R439): count and last SEQ lost. -/
def overflowEvent (source : Nat) (r : LostRun) : Event :=
  { stamp := r.stamp, source := source, code := 0x1001, payload := leBytes 4 (min r.count 0xFFFFFFFF) ++ leBytes 8 r.last }

/-- A lost run that takes one more event: it opens, or grows. -/
def LostRun.add (r : Option LostRun) (e : Event) (seq : Nat) (coal : Word) (behind : Nat) : LostRun :=
  match r with
  | none => { first := seq, stamp := e.stamp, count := 1, last := seq, behind, coal }
  | some r =>
    if seq < r.first then { r with first := seq, stamp := e.stamp, count := r.count + 1, behind, coal }
    else { r with count := r.count + 1, last := max r.last seq, behind := min r.behind behind }

/-! ## The Platform queues (R435 to R440) -/

/-- Change a queue. -/
def State.modEvq (q : Fin 8) (f : Evq → Evq) (s : State) : State := { s with evq := upd s.evq q f }

/-- CFG.FORMAT: true for v1. -/
def State.evqV1 (s : State) (q : Fin 8) : Bool := s.cf (.evq q) 0x04C 0 1 = 1

/-- CFG.CAN_FULL. -/
def State.evqFull (s : State) (q : Fin 8) : Bool := s.cf (.evq q) 0x04C 1 1 = 1

/-- SIZE. -/
def State.evqSize (s : State) (q : Fin 8) : Nat := s.cf (.evq q) 0x048 0 17

/-- Free space of a ring, (HEAD − TAIL − 1) mod SIZE (R436). -/
def State.evqFree (s : State) (q : Fin 8) : Nat :=
  let n := s.evqSize q
  (s.evq[q].head + 2 * n - s.evq[q].tail - 1) % n

/-- A 64-bit address held in two words. -/
def State.addr64 (s : State) (p : PageId) (o : Nat) : Nat := (s.com p o).toNat + (s.com p (o + 4)).toNat * 2 ^ 32

/-- The class filter of a queue takes the event, and its format has a record for it (R431, R433). -/
def State.evqWants (s : State) (q : Fin 8) (e : Event) : Bool :=
  (match evClass e.code with | some c => bit (s.com (.evq q) 0x058) c | none => true)
    && (!s.evqV1 q || (evV1 e.code).isSome)

/-- Records of an event in a queue's format. -/
def State.evqRecs (s : State) (q : Fin 8) (e : Event) (seq : Nat) (ended : Bool) : List (List Byte) :=
  if s.evqV1 q then (match evV1 e.code with | some c => [recV1 e seq c ended] | none => [])
  else recV2 e seq (s.evqFull q)

/-- The queue's vector is sent: every record written is signalled (R438). -/
def State.evqSignal (q : Fin 8) (s : State) : State :=
  (s.modEvq q (fun x => { x with unsig := 0, unsigAt := none, dueVec := false })).vector (s.cf (.evq q) 0x04C 8 4)

/-- The 8-byte tail write-back (R436). -/
def State.evqTail (q : Fin 8) (s : State) : State :=
  s.post (.hostWrite (s.addr64 (.evq q) 0x050) (leBytes 4 s.evq[q].tail ++ leBytes 4 s.evq[q].lostCount))

/-- One record goes to the slot TAIL names. -/
def State.evqSlot (q : Fin 8) (rec : List Byte) (s : State) : State :=
  let x := s.evq[q]
  (s.post (.hostWrite (s.addr64 (.evq q) 0x040 + x.tail * (if s.evqV1 q then 16 else 32)) rec)).modEvq q
    (fun y => { y with tail := (y.tail + 1) % s.evqSize q, written := inc y.written 0xFFFFFFFF, unsig := y.unsig + 1 })

/-- The records of one event are written, then the tail write-back and, by count, the vector; the event's own COAL applies to it (R435, R436,
R438). -/
def State.evqPut (q : Fin 8) (recs : List (List Byte)) (seq : Nat) (coal : Word) (s : State) : State :=
  let t := forAll recs (State.evqSlot q) s
  let u := (t.modEvq q (fun y =>
    { y with lastSeq := seq, ended := false, unsigAt := y.unsigAt <|> some s.tb
             unsigTime := if y.unsigAt.isSome then y.unsigTime else fld coal 16 16 })).evqTail q
  let cnt := fld coal 0 16
  if cnt ≠ 0 && decide (cnt ≤ u.evq[q].unsig) then u.evqSignal q else u

/-- An event that finds too few slots, or no place in the staging buffer, is lost (R439). -/
def State.evqLose (q : Fin 8) (e : Event) (seq : Nat) (coal : Word) (behind : Nat) (s : State) : State :=
  let first := s.evq[q].lost.isNone
  let t := s.modEvq q (fun x =>
    { x with lost := some (LostRun.add x.lost e seq coal behind), lostCount := inc x.lostCount 0xFFFFFFFF })
  if first then t.evqFlag q 0 else t

/-- A queue takes an event with its SEQ (R435, R424): staged to be written; while the queue is STALLED the staging
buffer holds 64 records. -/
def State.evqTake (q : Fin 8) (e : Event) (seq : Nat) (s : State) : State :=
  let x := s.evq[q]
  if !x.running || !s.evqWants q e then s
  else
    let s1 := if x.started then s else s.modEvq q (fun y => { y with started := true, startSeq := seq })
    let coal := s.com (.evq q) 0x05C
    let count (f : Event) := recCount f (s.evqV1 q) (s.evqFull q)
    if !s.busUp && decide (64 < x.staged.foldl (fun n r => n + count r.ev) 0 + count e) then
      s1.evqLose q e seq coal x.staged.length
    else s1.modEvq q (fun y => { y with staged := y.staged ++ [⟨e, seq, coal⟩] })

/-- The lost run can be closed: its marker's place in the ring has come and a slot is free (R439). -/
def State.evqMarkable (s : State) (q : Fin 8) : Option LostRun :=
  match s.evq[q].lost with
  | some r => if s.evq[q].running && s.busUp && r.behind = 0 && decide (0 < s.evqFree q) then some r else none
  | none => none

/-- The EVQ_OVERFLOW record closes the run (R439). -/
def State.evqMark (q : Fin 8) (s : State) : State :=
  match s.evqMarkable q with
  | none => s
  | some r =>
    ((s.modEvq q (fun x => { x with lost := none })).evqPut q
      (s.evqRecs q (overflowEvent (evSource (.evq q)) r) r.first s.evq[q].ended) r.first r.coal).modEvq q (fun x => { x with ended := true })

/-- The oldest staged event is written, or dropped into the lost run (R436, R439). -/
def State.evqWrite (q : Fin 8) (s0 : State) : State :=
  let s := s0.evqMark q
  let x := s.evq[q]
  match x.staged with
  | [] => s
  | g :: l =>
    if !x.running || !s.busUp then s
    else
      let t := s.modEvq q (fun y =>
        { y with staged := l, lost := y.lost.map (fun r => { r with behind := r.behind - 1 }) })
      let recs := s.evqRecs q g.ev g.seq x.ended
      if recs.length ≤ s.evqFree q then t.evqPut q recs g.seq g.coal else t.evqLose q g.ev g.seq g.coal 0

/-- The queue is off: it is not running and what it has not written is discarded (R424, R440). -/
def State.evqOff (q : Fin 8) (s : State) : State :=
  (s.modEvq q (fun x =>
    { x with running := false, staged := [], lost := none, unsig := 0, unsigAt := none, dueVec := false, ended := false })).modPg
      (.evq q) (fun g => { g with en := false })

/-- A write of PG_CTL.EN of a queue (R435, R440). -/
def State.evqEnable (q : Fin 8) (on : Bool) (s : State) : State :=
  let x := s.evq[q]
  if on = x.running then s
  else if on then
    if bit (s.pg (.evq q)).stage 0 || !x.configured then s.err (.evq q) 0x40 0 0x00C
    else (s.modEvq q (fun y =>
      { y with running := true, head := 0, tail := 0, lostCount := 0, written := 0, started := false, unsig := 0, unsigAt := none
               staged := [], lost := none, ended := false })).modPg (.evq q) (fun g => { g with en := true })
  else if s.busUp then (if 0 < x.unsig then (s.evqTail q).evqSignal q else s.evqTail q).evqOff q
  -- the final message of a STALLED queue falls due when writing resumes
  else (s.evqOff q).modEvq q (fun y => { y with dueVec := x.dueVec || decide (0 < x.unsig) })

/-- (a − b) mod n. -/
def modSub (a b n : Nat) : Nat := (((a : Int) - b) % n).toNat

/-- A doorbell (R437). HEAD takes the slot that the value names, the value modulo SIZE (DEDUCED, log 83). -/
def State.evqHeadWrite (q : Fin 8) (h : Nat) (s : State) : State :=
  let x := s.evq[q]
  let n := s.evqSize q
  if x.running && decide (modSub h x.head n ≤ modSub x.tail x.head n) then
    s.modEvq q (fun y => { y with head := h % n })
  else (s.err (.evq q) 0x41 0 0x060).evqFlag q 1

/-- The link takes writes again: the messages that fell due while the queues were STALLED are sent, that of a queue disabled since among them
(R438). -/
def State.evqResume (s : State) : State :=
  forAll (fins 8 (fun q => s.evq[q].dueVec)) (fun q t => t.evqSignal q) s

/-- EVQ_ENABLE (R435): a write of PG_CTL that restates VIEW. -/
def execEvqEnable (q : Fin 8) (s : State) : Host.Outcome State Fault Refusal :=
  .next (s.gated (.evq q) 0x00C (mkWord [(0, 1, 1), (4, 1, b2n (s.pg (.evq q)).view)]) (s.pg (.evq q)).en (State.evqEnable q true))

/-- EVQ_DISABLE (R440): a write of PG_CTL that restates VIEW. -/
def execEvqDisable (q : Fin 8) (s : State) : Host.Outcome State Fault Refusal :=
  .next (s.gated (.evq q) 0x00C (mkWord [(4, 1, b2n (s.pg (.evq q)).view)]) (!(s.pg (.evq q)).en) (State.evqEnable q false))

/-- EVQ_HEAD (R437); HEAD stays writable while the page is locked (R446). -/
def execEvqHead (q : Fin 8) (w : Word) (s : State) : Host.Outcome State Fault Refusal :=
  .next (s.gated (.evq q) 0x060 w true (State.evqHeadWrite q (fld w 0 16)))

/-- EVQ_RECORD_WRITE (R436, R439). -/
def execEvqRecordWrite (q : Fin 8) (s : State) : Host.Outcome State Fault Refusal := .next (s.evqWrite q)

/-- EVQ_OVERFLOW (R439). -/
def execEvqOverflow (q : Fin 8) (s : State) : Host.Outcome State Fault Refusal := .next (s.evqMark q)

/-- EVQ_COAL_TIMEOUT (R438): COAL_TIME after the tail write-back of the first record not yet signalled. -/
def execEvqCoalTimeout (q : Fin 8) (s : State) : Host.Outcome State Fault Refusal :=
  let time := s.evq[q].unsigTime
  match s.evq[q].unsigAt with
  | none => .next s
  | some t0 =>
    if time = 0 || !s.evq[q].running then .next s
    else
      let t := s.to (t0 + us time)
      if t.busUp then .next (t.evqSignal q) else .next (t.modEvq q (fun x => { x with dueVec := true }))

/-! ## The polled FIFO and HS_IRQ_N (R426, R442) -/

/-- The format of the polled FIFO is v1 (R442). -/
def State.hspiV1 (s : State) : Bool := s.hif.agree = 1 || bit s.hspi.evtCfg 0

/-- The record of an event in the FIFO's format, with CAN_FULL = 0. -/
def State.hspiRec (s : State) (e : Event) (seq : Nat) : Option (List Byte) :=
  if s.hspiV1 then (evV1 e.code).map (fun c => recV1 e seq c s.hspi.ended) else (recV2 e seq false).head?

/-- The polled FIFO takes an event, or loses it (R442). -/
def State.hspiTake (e : Event) (seq : Nat) (s : State) : State :=
  let wants := match evClass e.code with | some c => bit s.hspi.evtCfg (16 + c) | none => false
  match (if wants then s.hspiRec e seq else none) with
  | none => s
  | some r =>
    if s.hspi.fifo.length < 64 then { s with hspi := { s.hspi with fifo := s.hspi.fifo ++ [r], ended := false } }
    else { s with hspi := { s.hspi with lost := some (LostRun.add s.hspi.lost e seq 0 0), lostCount := inc s.hspi.lostCount 0xFFFF } }

/-- The head record has been read: it leaves the FIFO, and the slot it frees takes the marker of an open lost run. -/
def State.hspiPop (s : State) : State :=
  let t : State := { s with hspi := { s.hspi with fifo := s.hspi.fifo.drop 1 } }
  match t.hspi.lost with
  | none => t
  | some r =>
    match t.hspiRec (overflowEvent 0 r) r.first with
    | none => t
    | some m => { t with hspi := { t.hspi with fifo := t.hspi.fifo ++ [m], lost := none, ended := true } }

/-- A word of the HSPI_EVT window (R442): the head record, 0 beyond it and where the FIFO is empty. -/
def State.hspiEvtWord (s : State) (k : Nat) : Word :=
  match s.hspi.fifo with | [] => 0 | r :: _ => BitVec.ofNat 32 (leNat ((r.drop (4 * k)).take 4))

/-- Index of the last word of the head record; none where the FIFO is empty. -/
def State.hspiEvtLast (s : State) : Option Nat :=
  match s.hspi.fifo with | [] => none | r :: _ => some (r.length / 4 - 1)

/-- HS_IRQ_N is pulled low (R426). -/
def State.hsIrqLow (s : State) : Bool :=
  decide (fld s.hspi.evtCfg 8 7 ≤ s.hspi.fifo.length) || (bit s.hspi.evtCfg 1 && s.hifWord 0x058 ≠ 0)

/-- HSPI_EVT_READ (R442): the last word of the head record is read. -/
def execHspiEvtRead (s : State) : Host.Outcome State Fault Refusal :=
  match s.hspiEvtLast with
  | none => .next { s with hspi := { s.hspi with rdata := [0] } }
  | some k => .next ({ s with hspi := { s.hspi with rdata := [s.hspiEvtWord k] } }).hspiPop

/-! ## Contracts and the link (R421 to R430) -/

/-- What the endpoint function supports (R421, R423). -/
structure Endpoint where
  /-- Maximum payload size in bytes. -/
  payload : Nat
  /-- Maximum read request size in bytes. -/
  readRequest : Nat
  /-- ASPM L0s and L1. -/
  aspm : Bool × Bool
  /-- Advanced error reporting. -/
  errorReporting : Bool
  /-- MSI-X vectors, and MSI messages at most. -/
  vectors : Nat
  /-- INTx, SR-IOV and address translation services. -/
  others : Bool × Bool × Bool
  deriving DecidableEq, Repr

/-- The function of the OJD-1260. -/
def endpoint : Endpoint :=
  { payload := 256, readRequest := 512, aspm := (false, true), errorReporting := true, vectors := 16, others := (false, false, false) }

/-- A base address register: bytes of its window, 0 where it is not implemented, and its low four bits: memory, 32 or 64 bits wide, prefetchable
or not (R422). -/
def barOf (k : Nat) : Nat × Nat := match k with | 0 => (2 ^ 20, 0x0) | 2 => (2 ^ 24, 0xC) | _ => (0, 0)

/-- A word of the function's configuration space as R422 names it, before host software places the windows; no command of the table reads
it. Until Junction firmware starts, none: Configuration Request Retry Status. -/
def State.configWord (s : State) (o : Nat) : Option Word :=
  if !s.domOn 1 || !s.boot.jctOk then none
  else some (match o with
    | 0x00 => mkWord [(0, 16, Config.vendorId.toNat), (16, 16, 0x1260)]
    | 0x08 => mkWord [(0, 8, 0xA2), (8, 24, 0x118000)]
    | 0x10 => BitVec.ofNat 32 (barOf 0).2
    | 0x18 => BitVec.ofNat 32 (barOf 2).2
    | 0x2C => s.hif.subsys
    | _ => 0)

/-- The contract an offer leads to, with NEG_FAIL (R428). -/
def agreement (offer : Word) : Nat × Bool :=
  if bit offer 2 then (3, false) else if bit offer 1 then (2, false) else if bit offer 0 then (1, false) else (1, true)

/-- A write of HIF_OFFER (R428, R430). -/
def State.offerWrite (w : Word) (s : State) : State :=
  let (v, fail) := agreement w
  if v ≠ s.hif.agree && s.evq.toList.any Evq.running then s.err .hif 0x40 0 0x040
  else { (s.setCom .hif 0x040 (w &&& 0x7)) with hif := { s.hif with agree := v, negFail := fail } }

/-- HIF_OFFER (R428). -/
def execHifOffer (w : Word) (s : State) : Host.Outcome State Fault Refusal :=
  .next (s.gated .hif 0x040 w false (State.offerWrite w))

/-- The highest rate a training reaches: what the far end offers, and LINK_CTL.MAX_SPEED, of which 0 stores 3 (R421). -/
def State.linkSpeed (s : State) (speed : Nat) : Nat :=
  if speed = s.hif.speed then speed else min speed (s.cf .hif 0x050 0 2)

/-- PCIE_LINK_CHANGE (R424): the link's state, width and rate, Bus Master Enable and the message enables change; queues
stall, or resume and send what fell due; a link that has trained ends the wake signal (R109). The PCIE clock stops in L2 and in reset (R83),
and its PLL shows lock while it runs (log 74). -/
def execPcieLinkChange (link width speed : Nat) (master msix msi : Bool) (msiN corr recov : Nat) (s : State) :
    Host.Outcome State Fault Refusal :=
  let link := if link ≤ 4 then link else 0
  let up := decide (2 ≤ link)
  let h := s.hif
  let runs := s.domOn 1 && link ≠ 4 && !(h.perst && link = 0)
  let t : State :=
    { s with
      hif := { h with
        link := link, width := if up then clampN 1 2 width else 0, speed := if up then clampN 1 3 (s.linkSpeed speed) else 0
        master := master, msix := msix, msi := msi, msiN := clampN 1 endpoint.vectors msiN, perst := h.perst && (link = 0 || link = 4)
        corr := min (h.corr + corr) 0xFFFF, recov := min (h.recov + recov) 0xFFFF }
      mc := { s.mc with peWake := s.mc.peWake && !(link = 2) }
      clk := { s.clk with run := putBit s.clk.run 7 runs, lock := putBit s.clk.lock 1 runs } }
  .next (if t.busUp then t.evqResume else t)

/-! ## The Floko window (R427) -/

/-- A Floko command passes to the selected portal as a code of REQ, while v1 is agreed. -/
def State.flkCmd (code : Nat) (s : State) : State :=
  if !s.busAlive then s
  else if s.hif.agree ≠ 1 then s.err .dev 0x06 0 0x00C
  else s.ptlReqWrite (Fin.ofNat 8 s.hspi.sel) (BitVec.ofNat 32 (if code ≤ 4 then code else 0))

/-- FLK_OPEN (R427). -/
def execFlkOpen (s : State) : Host.Outcome State Fault Refusal := .next (s.flkCmd 1)

/-- FLK_CLOSE (R427). -/
def execFlkClose (s : State) : Host.Outcome State Fault Refusal := .next (s.flkCmd 2)

/-- FLK_NUDGE (R427). -/
def execFlkNudge (s : State) : Host.Outcome State Fault Refusal := .next (s.flkCmd 3)

/-- FLK_ACK (R427). -/
def execFlkAck (s : State) : Host.Outcome State Fault Refusal := .next (s.flkCmd 4)

/-- FLK_POS: LEAF0's distance from CLOSED in 0.1 mm, truncated (Table 16-2); a portal without LEAF0 shows 0. -/
def State.flkPos (s : State) (p : Fin 8) : Nat :=
  match s.member p 0 with
  | none => 0
  | some a => 10 * (s.ax[a].pos - s.closedPos p 0).natAbs * 256 / max 1 (s.ptlNum p 0x0B8)

/-- The Floko window's words (Table 16-2); a word the table does not name reads 0. A portal not in use shows state 7 and no cause (R262, Table
16-3). -/
def State.flkWord (s : State) (o : Nat) : Word :=
  let i : Fin 8 := Fin.ofNat 8 s.hspi.sel
  let p := s.ptl[i]
  let sta := s.ptlWord i 0x044
  let used := s.ptlUsed i
  if s.hif.agree ≠ 1 then 0
  else if o = 0x000 then 0x0FD21260
  else if o = 0x004 then mkWord [(0, 3, s.hspi.sel)]
  else if o = 0x008 then
    mkWord [(0, 4, if used then flokoCode p.st.code else 7), (8, 1, fld sta 17 1), (9, 1, fld sta 18 1), (10, 1, fld sta 16 1)]
  else if o = 0x010 then mkWord [(0, 8, if used then fld sta 24 8 else 0), (8, 8, fld p.lastObs 28 4)]
  else if o = 0x014 then mkWord [(0, 16, fld (s.ptlWord i 0x05C) 0 16)]
  else if o = 0x018 then BitVec.ofNat 32 (s.flkPos i)
  else if o = 0x01C then s.ptlWord i 0x060
  else if o = 0x020 then mkWord [(0, 16, p.obsCount)]
  else if 0x040 ≤ o ∧ o < 0x050 then s.hspiEvtWord ((o - 0x040) / 4)
  else 0

end Sys2Proof.Machine
end

