-- ==== Sys2Proof/Machine/Release.lean ====
section
/-! DEFINITION. The sequencer: the release of a held event with its SEQ, and everything that takes events in SEQ order
(R26 to R29, R239, R262, R367, R373, R435, R447). -/

namespace Sys2Proof.Machine

/-! ## Order of release (R26, R27) -/

/-- Counts from an event's stamp to the present instant, modulo 2^48 (R22). -/
def State.age (s : State) (e : Event) : Nat := (s.tb + 2 ^ 48 - e.stamp % 2 ^ 48) % 2 ^ 48

/-- The instant a stamp within 2^47 counts names. -/
def State.instantOf (s : State) (e : Event) : Nat := s.tb - s.age e

/-- Event `a` is released before `b`: earlier stamp, then lower die, then lower link sequence number (R22, R27). -/
def Event.before (a b : Event) : Bool :=
  laterStamp a.stamp b.stamp
    || (a.stamp = b.stamp && (decide (a.die < b.die) || (a.die = b.die && decide (a.linkSeq < b.linkSeq))))

/-- The held event that comes first. -/
def State.firstHeld (s : State) : Option Event :=
  s.seq.inside.foldl (fun b e => match b with | none => some e | some c => if e.before c then some e else some c) none

/-- Both conditions of R26 hold for an event. -/
def State.releasable (s : State) (e : Event) : Bool :=
  decide (640 ≤ s.age e) && decide (s.age e < 2 ^ 47)
    && (List.finRange 8).all (fun d => d = 0 || !bit s.present d.val
      || match s.links[d].mark with | some m => !laterStamp m e.stamp | none => false)

/-! ## What follows in SEQ order -/

/-- The direction in which an axis moves in the running period, true for negative; none at rest. -/
def State.heads (s : State) (a : Fin 12) : Option Bool :=
  let d := s.drv[a].sp
  if s.ax[a].following then (if d.rate0 = 0 ∧ d.slope = 0 then none else some d.neg)
  else match s.ax[a].furrow with
    | q :: _ => if q.w0 = 0 ∧ q.w1 = 0 then none else some q.neg
    | [] => none

/-- A DIN input in SEQ order (R239): the level, and the LIMIT trigger of each axis that moves towards the input (R162). -/
def State.relDin (n : Fin 48) (level : Bool) (s : State) : State :=
  let s1 : State := { s with din := upd s.din n (fun d => { d with seqLevel := level }) }
  if !level then s1
  else forAll (fins 12 (fun a =>
    (s1.cf (.ax a) 0x090 8 6 = n.val && s1.heads a = some true) || (s1.cf (.ax a) 0x090 16 6 = n.val && s1.heads a = some false)))
    (fun a t => t.accept a .limit) s1

/-- A safety input in SEQ order (R262, R367, R512): the program's image, and the portal inputs the sealed bank assigns. -/
def State.relSin (n : Nat) (value : Bool) (at_ seq : Nat) (s : State) : State :=
  let s1 : State := { s with safe := { s.safe with sinSeq := putBit s.safe.sinSeq (n % 32) value } }
  match s1.grd.word with
  | none => s1
  | some w =>
    match sealRole w n with
    | .closed p => s1.modPin (Fin.ofNat 8 p) (fun i => { i with closedSw := value, closedAt := at_, closedLost := i.closedLost || !value
                                                                closedSeq := if value || i.closedLost then i.closedSeq else seq })
    | .locked p => s1.modPin (Fin.ofNat 8 p) (fun i => { i with lockedSw := value, lockedSeq := if value then seq else i.lockedSeq })
    | .isolation p => s1.modPin (Fin.ofNat 8 p) (fun i => { i with iso := value })
    | .egress k =>
      if bit w 1 then forAll (s1.portalsOf (Fin.ofNat 2 k)) (fun p t => t.modPin p (fun i => { i with egress := value })) s1
      else s1.modPin (Fin.ofNat 8 k) (fun i => { i with egress := value })
    | .zeroSpeed => s1
    | .release _ => s1
    | .spare => s1

/-- A frame of a controller that waits for its SEQ takes it wherever a copy of it lies (R405). -/
def Can.giveSeq (c : Can) (stamp seq : Nat) : Can :=
  match c.ring.find? (fun f => f.val = stamp && !f.hasSeq) with
  | none => c
  | some g =>
    let f (x : Frame) : Frame := if x.num = g.num then { x with seq := seq, hasSeq := true } else x
    { c with ring := c.ring.map f, window := c.window.map (fun p => (f p.1, p.2)), shadow := c.shadow.map (fun p => (f p.1, p.2)) }

/-- A portal's transition has its SEQ: the cycle record's opening SEQ, and the statistics of an opening; an entry to OPEN by
resynchronisation has no opening time to count (R450, R461; DEDUCED, log 83). -/
def State.relPtl (p : Fin 8) (old new seq : Nat) (s : State) : State :=
  if new = 2 then s.modCyc p (fun c => { c with openSeq := seq })
  else if new = 3 && old = 2 then s.statPtlOpen p seq
  else s

/-- A member's stall or encoder fault reaches its portal with its event (R207, R223, R266). -/
def State.relMember (src : Nat) (stall : Bool) (s : State) : State :=
  match (fins 12 (fun a => evSource (if stall then .drv a else .fb a) = src)).head? with
  | none => s
  | some a => match s.portalOf a with
    | some (p, k) => s.modPin p (fun i => if stall then { i with stalls := i.stalls ++ [k] } else { i with causes := i.causes ++ [1] })
    | none => s

/-- The status fields and blocks that take an event's SEQ. -/
def State.relEffect (e : Event) (seq : Nat) (s : State) : State :=
  let b (k : Nat) : Nat := ((e.payload[k]?).getD 0).toNat
  let inst := e.source % 256
  match e.code with
  | 0x0104 => s.relDin (Fin.ofNat 48 (b 0)) (b 1 ≠ 0)
  | 0x0601 => { s with mc := { s.mc with entrySeq := seq } }
  | 0x0602 =>
    match allPages.find? (fun p => evSource p = e.source) with
    | some p => s.modPg p (fun g => { g with seq := lo32 seq })
    | none => s
  | 0x2102 => s.relMember e.source true
  | 0x2201 => s.relMember e.source false
  | 0x3001 => s.relPtl (Fin.ofNat 8 inst) (b 0) (b 1) seq
  | 0x3002 => s.modPtl (Fin.ofNat 8 inst) (fun x => { x with lastObsSeq := seq })
  | 0x3003 => s.modPin (Fin.ofNat 8 inst) (fun i => { i with edgeSeq := some (i.edgeSeq.getD seq), edgeHeld := true })
  | 0x3004 => s.modPin (Fin.ofNat 8 inst) (fun i => { i with faultHeld := true })
  | 0x3101 => { s with side := upd s.side (Fin.ofNat 2 inst) (fun x => { x with relSeq := seq }) }
  | 0x4009 => s.relSin (b 0) (b 1 ≠ 0) (s.instantOf e) seq
  | 0x6001 => s.modCan (Fin.ofNat 4 inst) (fun c => c.giveSeq e.stamp seq)
  | 0x7101 => if b 1 = 3 then s.errDue 0x51 inst seq else s
  | 0x7102 => s.modStn (Fin.ofNat 16 inst) (fun x => { x with lostSeq := seq })
  | 0x8101 =>
    let t : State := { s with stat := { s.stat with clearSeq := seq } }
    if t.noGranary then t else t.granWrite (statBase + 8) (leBytes 8 seq)
  | 0x9002 => { s with pair := { s.pair with takeSeq := seq } }
  | 0xA005 => s.attSeq seq
  | _ => s

/-- A waiting record belongs to this event: its source and code, and for a door-cycle record the end of the close. -/
def awaits (e : Event) (w : Nat × Nat × Rec0) : Bool :=
  let b (k : Nat) : Nat := ((e.payload[k]?).getD 0).toNat
  w.1 = e.source && w.2.1 = e.code && (w.2.2.type ≠ 0x0001 || (decide (b 1 < 2) && decide (2 ≤ b 0)))

/-- The records an event gives: one that waited for its SEQ, and the one its code gives by itself (R447). -/
def State.relRecord (e : Event) (seq : Nat) (s : State) : State :=
  let s1 := match s.recd.await.find? (awaits e) with
    | none => s
    | some w =>
      let t := (s.modRec (fun r => { r with await := r.await.erase w })).stageRec { w.2.2 with seq := seq }
      if w.2.2.type = 0x0001 then t.statPtlClose (Fin.ofNat 8 e.source) seq else t
  match s1.recOfEvent e with
  | some (type, sev, payload) => s1.stageRec ⟨seq, type, s1.sevFlags sev false, payload⟩
  | none => s1

/-- Longest hold so far in 0.1 µs (R39). -/
def State.relHold (e : Event) (s : State) : State :=
  { s with seq := { s.seq with held := s.seq.held.erase e, holdMax := max s.seq.holdMax (min (s.age e / 16) 0xFFFF) } }

/-- An event leaves the sequencer with its SEQ. -/
def State.releaseOne (e : Event) (s : State) : State :=
  let r := (s.relHold e).takeSeq
  let s1 := (r.2.relEffect e r.1).relRecord e r.1
  let s2 := forAll (List.finRange 8) (fun q t => t.evqTake q e r.1) s1
  (s2.hspiTake e r.1).eventTasks e r.1

/-- EVENT_RELEASE (R26): the first held event is released once both conditions hold, while Junction runs. -/
def execEventRelease (s : State) : Host.Outcome State Fault Refusal :=
  match s.firstHeld with
  | none => .next s
  | some e => if s.domOn 1 && s.boot.jctOk && s.releasable e then .next (s.releaseOne e) else .next s

end Sys2Proof.Machine
end

