-- ==== Sys2Proof/Machine/Clocks.lean ====
section
/-! DEFINITION. Clocks, the mirror, SNAP (R83 to R95, R101, R103). Clock numbers are those of Table 04-1. -/

namespace Sys2Proof.Machine

/-- Change the CLK state. -/
def State.modClk (f : Clocks → Clocks) (s : State) : State := { s with clk := f s.clk }

/-! ## Clock checks (R85) -/

/-- Nominal frequency of a clock in Hz (Table 04-1). -/
def clkHz (k : Nat) : Nat :=
  match k with
  | 0 => 32768 | 1 => 200000000 | 2 => 400000000 | 3 => 200000000 | 4 => 16000000 | 5 => 160000000 | 6 => 80000000
  | 7 => 250000000 | 8 => 50000000 | 9 => 32000000 | 10 => 133333333 | _ => 25000000

/-- Band of a checked clock in per cent (R85). -/
def clkBand (k : Nat) : Nat := match k with | 3 => 15 | 4 => 15 | 0 => 25 | 9 => 25 | _ => 3

/-- A count over 64 reference periods lies outside the clock's band: against SLP, or against a reference of `ref` Hz. -/
def clkOut (k count ref : Nat) : Bool :=
  let nominal : Int := clkHz k * 64
  decide (clkBand k * nominal < 100 * ((count * ref : Int) - nominal).natAbs)

/-- The reference of a clock in Hz: SLP for Junction's clocks; the RC monitor of SLP; `rc` for the RC references on the other dies,
whose frequencies the manual does not give. -/
def clkRef (k rc : Nat) : Nat := match k with | 0 => 1000000 | 3 => rc | 4 => rc | 9 => rc | _ => 32768

/-! ## SNAP (R93 to R95) -/

/-- Words of a page that hold status and no field software writes: the block status fields of R93. -/
def snapWords (p : PageId) : List Nat :=
  (pageRegs p).flatMap (fun r => if r.rw = 0 && r.rws = [] && r.wo = 0 then (List.range r.n).map (fun k => r.off + 4 * k) else [])

/-- A capture of a page begins, due at `t`. -/
def State.snapStart (t : Nat) (p : PageId) (s : State) : State :=
  s.modPg p (fun g => { g with snapDue := some t, snapTaken := false })

/-- The capture count: TB plus the lead (R93). -/
def State.snapAt (s : State) : Nat := s.tb + us (s.cf .clk 0x058 0 5)

/-- A write of PG_SNAP (R93, R94): 0 releases the values held; a capture that is under way goes on. -/
def State.snapWrite (p : PageId) (w : Word) (s : State) : State :=
  if bit w 0 then (s.snapStart s.snapAt p).modClk (fun c => { c with snapTb := s.snapAt })
  else s.modPg p (fun g => { g with snapHeld := false, snap := if g.snapTaken then g.snap else [] })

/-- A write of CLK.SNAP_ALL: every page whose domain is on and whose die is present (R94). -/
def State.snapAll (w : Word) (s : State) : State :=
  if !bit w 0 then s
  else (forAll (allPages.filter (fun p => s.domOn (pageDom p) && !s.dieAbsent (pageDie p))) (State.snapStart s.snapAt) s).modClk
    (fun c => { c with snapTb := s.snapAt })

/-- PG_SNAP_WRITE (R93); it is accepted while the page is locked (R145). -/
def execPgSnapWrite (p : PageId) (on : Bool) (s : State) : Host.Outcome State Fault Refusal :=
  .next (s.gated p 0x030 (BitVec.ofNat 32 (b2n on)) true (State.snapWrite p (BitVec.ofNat 32 (b2n on))))

/-- SNAP_ALL (R94). -/
def execSnapAll (s : State) : Host.Outcome State Fault Refusal := .next (s.gated .clk 0x04C 1 true (State.snapAll 1))

/-- SNAP_CAPTURE (R93, R95): a page's die captures its status at t, or at once where the count arrives later, at `arrival`; a commit
due on the same count is applied first (R143). While a first capture is held, the new values replace it here and not at SNAP_COMPLETE
(R94 is silent; DESIGN CHOICE, log 77). -/
def execSnapCapture (p : PageId) (arrival : Nat) (s : State) : Host.Outcome State Fault Refusal :=
  let g := s.pg p
  match g.snapDue with
  | none => .next s
  | some t =>
    if g.snapTaken then .next s
    else
      let s1 := s.to (max t arrival)
      let s2 := s1.commitDueNow p
      let s3 := s2.modPg p (fun g => { g with snapTaken := true, snap := (snapWords p).map (fun o => (o, s2.statusWord p o)) })
      .next (if t < arrival then (s3.modClk (fun c => { c with lateCnt := inc c.lateCnt 0xFFFF })).err p 0x15 0 0x030 else s3)

/-- SNAP_COMPLETE (R93): every part has arrived. -/
def execSnapComplete (p : PageId) (s : State) : Host.Outcome State Fault Refusal :=
  .next (if (s.pg p).snapTaken then
      (s.modPg p (fun g => { g with snapDue := none, snapTaken := false, snapHeld := true })).irq p 4
    else s)

/-! ## The mirror (R90) -/

/-- s_v in millionths for a supply at `mv` (R68). -/
def svOf (mv : Nat) : Nat := clampN 600000 1000000 (600000 + 200 * (mv - 7000))

/-- s_v of a Plough die whose supply measures `mv`: it follows the voltage while the derate of bit `k` of SUP_STA lasts (R68). -/
def State.svNow (s : State) (k mv : Nat) : Nat := if bit s.pwr.sta k then svOf mv else 1000000

/-- Voltages of VLOG, VMOT_A, VMOT_B and VLSW in mV beyond the entry threshold of the condition of SUP_STA at bit `k` (Table 03-3). -/
def supBeyond (k a b c d : Nat) : Bool :=
  let v := if k = 0 then a else if k = 7 then d else if k ≤ 3 then b else c
  if k = 0 then v < 6000 else if k = 7 then v < 4500 else if k % 3 = 1 then v < 9000 else if k % 3 = 2 then v < 7000 else 64000 < v

/-- The same beyond its release threshold. -/
def supBack (k a b c d : Nat) : Bool :=
  let v := if k = 0 then a else if k = 7 then d else if k ≤ 3 then b else c
  if k = 0 then 6500 < v else if k = 7 then 5000 < v else if k % 3 = 1 then 9300 < v else if k % 3 = 2 then 7500 < v else v < 60000

/-- Since when a threshold has been passed without a break, as measured every control period (R64). -/
def sinceWhen (now : Nat) (past : Nat → Bool) (old : Vector (Option Nat) 8) : Vector (Option Nat) 8 :=
  Vector.ofFn (fun (k : Fin 8) => if past k.val then some ((old[k]).getD now) else none)

/-- Measured values enter the state of the block they belong to. -/
def State.measure (m : Meas) (s : State) : State :=
  match m with
  | .plain => s
  | .lsw _ => s
  | .clamp _ => s
  | .pCond mw => { s with lswg := { s.lswg with pCond := mw } }
  | .supply a b c d =>
    { s with pwr := { s.pwr with
        vlog := a, vmot := #v[b, c], vlsw := d, vlogMin := min s.pwr.vlogMin a, sv := #v[s.svNow 1 b, s.svNow 4 c]
        beyond := sinceWhen s.tb (fun k => supBeyond k a b c d) s.pwr.beyond
        back := sinceWhen s.tb (fun k => supBack k a b c d) s.pwr.back } }
  | .sout rb => { s with safe := { s.safe with rbH := rb &&& 0xF } }
  | .tdc _ | .canSof => s

/-- Measured values of a load channel (R341, R347). -/
def State.measureLsw (c : Fin 24) (m : Meas) (s : State) : State :=
  match m with
  | .lsw l => if l = [] then s else s.lswSamples c l
  | .clamp uj => s.clampAdd c uj
  | .plain | .pCond _ | .supply _ _ _ _ | .sout _ | .tdc _ | .canSof => s.measure m

/-- The transmitter delay of the frame under way is measured and used: it switches its bit rate, TDC.EN is 1, and a bit of the data phase
lasts at most 1 µs (R404). -/
def State.tdcUsed (s : State) (n : Fin 4) : Bool :=
  let c := s.can[n]
  let dbt := c.timing.getD 1 0
  c.txActive && bit (c.timing.getD 2 0) 0 && s.canMode n 2 && c.fifo.head?.any (fun f => bit f.w1 5)
    && decide ((fld dbt 16 5 + 1) * (1 + (fld dbt 24 5 + 1) + (fld dbt 8 4 + 1)) ≤ 80)

/-- What a CAN controller sees of a frame under way: the start of another node's frame, which ends the wait for an idle bus, or the
transmitter delay; one above 127 clocks, which TDC_MEAS cannot show, is a bit error at the dominant res bit (R404, log 85). -/
def State.measureCan (n : Fin 4) (m : Meas) (s : State) : State :=
  match m with
  | .tdc k =>
    if !s.tdcUsed n then s
    else if k ≤ 127 then s.modCanc n (fun x => { x with tdc := k })
    else
      let t := s.canError n 5 true false false
      if t.can[n].txActive then (t.attemptFail n 2).canAfterRx n else t
  | .canSof => if s.can[n].busIdle && s.xcvr n ≠ 2 then s.modCan n (fun c => { c with rxActive := true }) else s
  | .plain | .lsw _ | .clamp _ | .pCond _ | .supply _ _ _ _ | .sout _ => s.measure m

/-- MIRROR_UPDATE (R90): the home die of a page sends its fields, with what it has measured; on a mirrored page they go to
Junction's mirror. An unpowered die measures and sends nothing; one that is absent, or a Switch die whose clock has failed (R353),
sends nothing, and what a load channel measures acts on that die alone (R341, R351). -/
def execMirrorUpdate (p : PageId) (m : Meas) (s : State) : Host.Outcome State Fault Refusal :=
  let apart := !s.domOn 1 || s.dieAbsent (pageDie p) || s.mute (pageDie p)
  if !s.domOn (pageDom p) then .next s
  else
    let s1 := match p with
      | .lsw c => s.measureLsw c m
      | .can n => if apart then s else s.measureCan n m
      | _ => if apart then s else s.measure m
    .next (if pageMirrored p && !apart then
        s1.modPg p (fun g => { g with mirror := (snapWords p).map (fun o => (o, s1.statusWord p o)) })
      else s1)

end Sys2Proof.Machine
end

