-- ==== Sys2Proof/Machine/Resets.lean ====
section
/-! DEFINITION. Resets: block resets, Junction resets, full resets and power-on (R97 to R102, R511, Table 06-9). -/

namespace Sys2Proof.Machine

/-! ## Block reset (R511, Table 06-9) -/

/-- The code with which a block reset is refused, or none. -/
def State.resetRefused (s : State) (p : PageId) : Option Nat :=
  match p with
  | .ax a => if s.atRest a then none else some 0x43
  | .drv a => if s.atRest a && (s.coil[a].coil = .free || s.coil[a].coil = .brake) then none else some 0x41
  | .fb a => if s.atRest a then none else some 0x40
  | .lsw c => if s.lsw[c].out = 0 && s.lsw[c].pause.isNone then none else some 0x41
  | .sec => if s.sec.busy.isSome then some 0x40 else none
  | .dev | .clk | .pwr | .rst | .tb | .hif | .evq _ | .fbx _ | .gear _ | .cam _ | .ptl _ | .side _ | .safe | .lswg | .can _
  | .prg | .stn _ | .recd | .stat | .pair | .dbg => none

/-- The committed words a block reset keeps: all where Table 06-9 resets no RW or RWS field of the page. -/
def resetKeeps (p : PageId) (o : Nat) : Bool :=
  match p with
  | .dev | .clk | .pwr | .rst | .tb | .hif | .ptl _ | .side _ | .safe | .stn _ | .pair | .prg => true
  | .lsw _ => o = 0x040 || o = 0x044
  | .recd => o = 0x048
  | .evq _ | .ax _ | .drv _ | .fb _ | .fbx _ | .gear _ | .cam _ | .lswg | .can _ | .stat | .sec | .dbg => false

/-- The pages of whose header Table 06-9 resets PG_IEN, PG_IRQ and PG_ERR alone, or nothing: SNAP goes on. -/
def resetKeepsSnap (p : PageId) : Bool :=
  match p with
  | .dev | .clk | .pwr | .rst | .tb | .hif | .side _ | .safe | .stn _ | .pair => true
  | .evq _ | .ax _ | .drv _ | .fb _ | .fbx _ | .gear _ | .cam _ | .ptl _ | .lswg | .lsw _ | .can _ | .prg | .recd | .stat | .sec
  | .dbg => false

/-- A queue of writes is discarded: each is counted, and WQ_FLUSHED reported (R97). -/
def State.flushQueue (p : PageId) (s : State) : State :=
  let n := (s.pg p).queue.length
  if n = 0 then s
  else (((s.modPg p (fun g => { g with queue := [] })).modClk (fun c => { c with dropCnt := min (c.dropCnt + n) 0xFFFF })).err p 0x13 0 0)

/-- Header and words of the page on its block reset; VIEW is no field of the block and is kept (R511, DEDUCED; log 56). PG_IEN, PG_IRQ,
PG_ERR and PG_SEQ return to 0 by R511's list on every page, also where Table 06-9 names FLAGS alone (DESIGN CHOICE, log 77). -/
def Page.blockReset (p : PageId) (g : Page) : Page :=
  let h : Page := { g with
    en := (match p with | .ax _ => true | _ => false), irq := 0, ien := 0, errCode := 0, errDetail := 0, errCount := 0, errOff := 0
    seq := 0, com := g.com.filter (fun c => resetKeeps p c.1), stg := [], stage := 0, sole := [], commitDue := none, rstPend := true }
  if resetKeepsSnap p then h
  else { h with snapDue := none, snapTaken := false, snapHeld := false, snap := [], cap := [] }

/-- A gear engine's block reset: it ends as for DISENGAGE, an arm is cancelled, and the held moves of a waiting axis are discarded
(R248). -/
def State.gearReset (a : Fin 12) (s : State) : State :=
  let s1 := s.disengage a a.val
  (s1.unwait a).modGear a (fun g =>
    { g with arm := none, flags := 0, crossCount := 0, crossTb := 0, startTb := 0, refM := 0, refS := 0, mNow := 0
             ratio := none, last := none, before := none })

/-- A cam engine ends at its block reset as for DISENGAGE on its slave, SETUP.AXIS (Tables 06-9, 10-4). -/
def State.camEnd (p : PageId) (s : State) : State :=
  match p with
  | .cam c => if h : s.cf p 0x044 0 4 < 12 then s.disengage ⟨s.cf p 0x044 0 4, h⟩ (16 + c.val) else s
  | .dev | .clk | .pwr | .rst | .tb | .hif | .evq _ | .ax _ | .drv _ | .fb _ | .fbx _ | .gear _ | .ptl _ | .side _ | .safe | .lswg
  | .lsw _ | .can _ | .prg | .stn _ | .recd | .stat | .pair | .sec | .dbg => s

/-- A feedback channel's block reset: MODE 0 (Table 06-9). -/
def State.fbReset (c : Fin 14) (s : State) : State :=
  ((s.modFb c (fun f => { ({} : Fb) with lvA := f.lvA, lvB := f.lvB, edges := f.edges, vencLow := f.vencLow })).modFbx c (fun _ => {})).masterLost c

/-- A CAN controller's block reset: off the bus, queues discarded, both readers with the next frame stored. -/
def State.canReset (n : Fin 4) (s : State) : State :=
  let s1 := forAll s.can[n].fifo (fun f t => t.stnUnsent f) (s.canInit n)
  (s1.modCan n (fun c => { ({} : Can) with offHeld := c.offHeld, nextNum := c.nextNum, hostAt := c.nextNum, prgAt := c.nextNum })).modCanc n
    (fun _ => {})

/-- What the block does at its reset (Table 06-9). -/
def State.resetBlock (p : PageId) (s : State) : State :=
  match p with
  | .dev => { s with lost := 0, din := s.din.map (fun d => { d with chg := false }) }
  | .clk => s.modClk (fun c => { c with fail := 0 })
  | .pwr => { s with pwr := { s.pwr with latch := 0 } }
  | .rst => { s with rst := { s.rst with jctCause := 0 } }
  | .tb => { s with slept := false }
  | .hif => { s with mc := { s.mc with wakeCause := 0 } }
  | .evq q => s.modEvq q (fun _ => {})
  | .ax a => (s.axEmpty a).modAx a (fun x =>
      { x with tagged := false, flags := 0, posEnd := 0, headV := 0, sqEvents := 0, sqPeriods := 0, sqCount := 0, sqCause := 0
               deferCount := 0, lateCount := 0, moveCount := 0 })
  | .drv a =>
    (s.modCoil a (fun c => { ({} : Coils) with coil := c.coil, gateCut := c.gateCut, flags := c.flags &&& 0xF, updAt := c.updAt })).modWatch a
      (fun w => { ({} : Watch) with restAt := w.restAt, ocAt := w.ocAt, gdrvLow := w.gdrvLow, pairCut := w.pairCut, live := w.live, hold := w.hold })
  | .fb a => s.fbReset (fbOf a)
  | .fbx n => s.fbReset ⟨12 + n.val, by omega⟩
  | .gear a => s.gearReset a
  | .cam c => s.modCam c (fun g => { ({} : Cam) with engaged := g.engaged, since := g.since, outs := g.outs })
  | .ptl n => s.modPtl n (fun x => { x with flags := 0, lastObs := 0, lastObsSeq := 0, fPeak := Vector.replicate 2 none })
  | .side d => { s with side := upd s.side d (fun x => { x with flags := 0 }) }
  | .safe => { s with safe := { s.safe with divPermit := 0, divSin := 0 } }
  | .stn i => s.modStn i (fun x => { x with flags := 0 })
  | .pair => { s with pair := { s.pair with flags := 0 } }
  | .lswg => { s with lswg := { s.lswg with flags := 0, wdtCount := 0, uvCount := 0 } }.selectSense
  | .lsw c =>
    (s.modLsw c (fun x => { x with flags := x.flags &&& 0x6, trip := 0, iMeas := 0, vOut := 0 })).modLswx c
      (fun x => { x with clampLast := 0, trips := 0, latches := 0, switches := 0 })
  | .can n => s.canReset n
  | .prg =>
    { s with
      prg := { s.prg with flags := 0 }
      prgx := { s.prgx with
        cycles := 0, skips := 0, traps := 0, last := 0, max := 0, evtLost := 0, retLate := 0, retLast := 0, migTime := 0
        taskTimes := Vector.replicate 16 (0, 0) } }
  | .recd => s.modRec (fun r => { r with flags := 0, stageMax := 0, nonceValid := r.nonceValid && r.clearing })
  | .stat => { s with stat := { s.stat with cleared := false, updates := 0 } }
  | .sec =>
    s.modSec (fun x =>
      { x with loadOpen := false, target := 0, load := if x.load = .loading then .empty else x.load, nonceValid := false, flags := 0
               loadLen := 0, refKind := 0, refReason := 0 })
  | .dbg => s

/-- A write of 1 to PG_CTL.RST_REQ (R102, R511): refused, or the block is reset and STAGE_LOST reported where values were staged. -/
def State.blockReset (p : PageId) (s' : State) : State :=
  let s := s'.commitDueNow p
  match s.resetRefused p with
  | some c => s.err p c 0 0x00C
  | none =>
    let lost := (s.pg p).stage ≠ 0
    let s0 := (match p with | .evq q => s.evqEnable q false | _ => s).camEnd p
    let n := (s.pg p).queue.length
    let s1 := (s0.modPg p (fun g => { g.blockReset p with queue := [] })).resetBlock p
    let s2 := if n = 0 then s1
      else (s1.modClk (fun c => { c with dropCnt := min (c.dropCnt + n) 0xFFFF })).err p 0x13 0 0x00C
    if lost then s2.err p 0x22 0 0x00C else s2

/-- BLOCK_RESET (R511): a write of 1 to RST_REQ that restates EN and VIEW. -/
def execBlockReset (p : PageId) (s : State) : Host.Outcome State Fault Refusal :=
  .next (s.gated p 0x00C (mkWord [(0, 1, b2n (s.pg p).en), (1, 1, 1), (4, 1, b2n (s.pg p).view)]) false (State.blockReset p))

/-- BLOCK_RESET_DONE (R102). -/
def execBlockResetDone (p : PageId) (s : State) : Host.Outcome State Fault Refusal :=
  .next (s.modPg p (fun g => { g with rstPend := false }))

/-! ## What outlives a loss of everything but AON (R98) -/

/-- The HIF words that AON keeps: WAKE_EN, WAKE_CFG, WAKE_SIN, SLP_TIMER (R130). -/
def aonWords (w : Words) : Words := w.filter (fun c => decide (0x110 ≤ c.1) && decide (c.1 < 0x120))

/-- The pages with AON's part of them kept: locks, and the wake words of HIF (R130, R145). -/
def State.aonPages (s : State) : Vector Page 130 :=
  Vector.ofFn (fun (i : Fin 130) =>
    let g : Page := State.reset.pages[i]
    { g with lock := s.pages[i].lock, com := if i = pageFin .hif then aonWords s.pages[i].com else [] })

/-- The portal counters and the release counts, kept in Granary (Tables 11-8, 11-9). -/
def Ptl.kept (x : Ptl) : Ptl :=
  { cycles := x.cycles, obsCount := x.obsCount, nudgeCount := x.nudgeCount, lockFails := x.lockFails, faultCount := x.faultCount
    learnCount := x.learnCount, edgeCount := x.edgeCount }

/-- What the recorder keeps in Granary (R463). -/
def Recorder.kept (r : Recorder) : Recorder :=
  { full := r.full, head := r.head, tail := r.tail, used := r.used, lastSeq := r.lastSeq, drops := r.drops, ovw := r.ovw
    clears := r.clears, refusals := r.refusals, floor := r.floor, fullRec := r.fullRec, firstDrop := r.firstDrop
    lastAt := r.lastAt, note := r.note }

/-- What a Junction reset leaves of the SEC page and of Guard's engine: the commands of Junction's own pages are gone, and with Junction a token
that waited and an attestation whose event it held (DEDUCED, log 88). -/
def Sec.afterJct (x : Sec) : Sec :=
  { x with
    engine := x.engine.filter (fun o => o = .verify || (o = .attest && x.attBody = []))
    busy := if x.busy = some 5 || x.attBody ≠ [] then none else x.busy, attBody := [] }

/-- Everything outside AON and outside non-volatile memory at its reset value (R98): what a full reset and a sleep share. DIE_LOST is
kept, as it stays set after a retraining (Table 01-10; log 40). The system area's link history is nowhere described, and the link
counters start again (log 42). PE_WAKE_N is released (Table 02-4). -/
def State.coldBase (s : State) : State :=
  { State.reset with
    tb := s.tb, epoch := s.epoch, slept := s.slept, frac := s.frac, period := s.period
    seq := { next := s.seq.limit, limit := s.seq.limit, aonLost := s.seq.aonLost }
    lost := s.lost
    mem := {
      granary := s.mem.granary, scrub := #v[0, 0, s.mem.scrub[2]], bad := s.mem.bad
      torn := s.mem.torn.filter (fun e => e.1 = 2), soft := s.mem.soft.filter (fun e => e.1 = 2) }
    pages := s.aonPages
    rst := { s.rst with lostEvents := 0, jctCause := 0 }
    mc := { pads := s.mc.pads, wakeAt := s.mc.wakeAt, wakeCause := s.mc.wakeCause, sleptAt := s.mc.sleptAt }
    ptl := s.ptl.map Ptl.kept
    envKept := s.envKept
    side := s.side.map (fun x => { count := x.count })
    prg := { slot := s.prg.slot }
    recd := s.recd.kept
    stat := { timeW := s.stat.timeW, forceW := s.stat.forceW, clearSeq := s.stat.clearSeq }
    pair := { takeovers := s.pair.takeovers, giveups := s.pair.giveups }
    fuses := s.fuses.cut s.tb
    sec := { cfgPend := s.sec.cfgPend, fwPend := s.sec.fwPend, cfgCopy := s.sec.cfgCopy, fwCopy := s.sec.fwCopy
             debugOpened := s.sec.debugOpened }
    posted := s.posted, fresh := s.fresh, pending := s.pending }

/-! ## Junction reset (R98, R100, R118) -/

/-- An axis on Junction after a Junction reset: it stands where its rate multiplier stands, with the causes that hold it halted by
themselves. -/
def State.axisAfter (s : State) (a : Fin 12) : Axis :=
  let pos := s.drv[a].acc / 2 ^ 24
  let x := s.ax[a]
  let halts := x.halts.filter (fun c => c ≠ .safeHold && c ≠ .planMismatch)
  { pos, accEnd := pos * 2 ^ 24 + 0x800000, furrow := [restPeriod (restPlan pos), restPeriod (restPlan pos)], halts
    st := if halts = [] then .idle else .halted, flags := x.flags &&& 0x80, referenced := x.referenced }

/-- The state just after JCT and APP are reset: everything of Junction at its reset value, the other dies untouched. -/
def State.jctBase (s : State) : State :=
  let c := s.coldBase
  { c with
    mem := { s.mem with corr := [] }
    present := if bit s.present 2 then 5 else 1
    links := Vector.ofFn (fun (d : Fin 8) =>
      let l := s.links[d]
      if d = 2 then { st := l.st, inn := l.inn, mark := l.mark }
      else { st := if s.dieAbsent d then .absent else if l.st = .up then .training else l.st, lost := l.lost + l.inn.evs.length })
    pages := Vector.ofFn (fun (i : Fin 130) =>
      if allPages.any (fun p => pageMirrored p && pageFin p = i) then
        { s.pages[i] with stg := [], stage := 0, sole := [], commitDue := none, snapDue := none, snapTaken := false, snapHeld := false
                          snap := [], cap := [], mirror := [], queue := [] }
      else if i = pageFin (.can 0) || i = pageFin (.can 1) then
        { c.pages[i] with com := s.pages[i].com.filter (fun e => e.1 = 0x050) }
      else c.pages[i])
    pwr := { s.pwr with latch := 0, vlogMin := 0xFFFF }
    clk := { run := putBit (clrBit s.clk.run 2) 7 (!s.hif.perst), lock := putBit s.clk.lock 1 (!s.hif.perst), nvmFailed := s.clk.nvmFailed }
    rst := { s.rst with lostEvents := 0, jctCount := inc s.rst.jctCount 0xFFFFFFFF }
    boot := { ref := s.tb, fromJct := true, modeAt := s.mc.mode, guardOk := s.boot.guardOk, started := true, sixth := s.boot.sixth }
    mc := { mode := .boot, prev := s.mc.mode.code, busy := true, cause := 3
            prevCause := if s.mc.mode = .safeHold || s.mc.mode = .service then s.mc.cause else 0
            wakeCause := s.mc.wakeCause, pads := s.mc.pads, peWake := s.mc.peWake, wakeAt := s.mc.wakeAt
            sleptAt := s.mc.sleptAt, ran := s.mc.ran, guardDemand := s.mc.guardDemand }
    ax := Vector.ofFn s.axisAfter, drv := s.drv, coil := s.coil, watch := s.watch, fb := s.fb, fbx := s.fbx
    din := s.din.map (fun d => { d with chg := false, seqLevel := d.level })
    edges := s.edges
    ptlIn := s.ptlIn.map (fun i => { closedSw := i.closedSw, lockedSw := i.lockedSw, iso := i.iso, egress := i.egress, closedAt := i.closedAt })
    grd := s.grd, sbx := s.sbx, safe := { s.safe with frame := 0, frameCnt := 0, frames := false, seen := false }
    side := s.side.map (fun x => { relGrd := x.relGrd, relSbx := x.relSbx, release := x.release, count := x.count })
    lsw := s.lsw.map (fun x => { x with cmd := 0, cmdDuty := 0 })
    lswx := s.lswx
    lswg := { s.lswg with sending := 0, air := [] }
    hif := { perst := s.hif.perst }
    pair := { takeovers := s.pair.takeovers, giveups := s.pair.giveups, actI := s.pair.actI, actIAt := s.pair.actIAt }
    fuses := s.fuses, sec := s.sec.afterJct, cfg := s.cfg }

/-- LINK_RESET goes out on every Coupling link that is up. -/
def State.linkResets (s : State) : List Posted :=
  ((List.finRange 8).filter (fun d => d ≠ 0 && d ≠ 2 && s.links[d].st = .up)).map
    (fun d => .packet d.val 2 s.links[d].out.next none)

/-- After a Junction reset, with every Coupling link trained or absent, the events lost are summed and reported (R100). -/
def State.lostReport (s : State) : State :=
  if !s.boot.fromJct || s.mc.mode ≠ .boot || (List.finRange 8).any (fun d => d ≠ 0 && d ≠ 2 && s.links[d].st = .training) then s
  else
    let n := min (s.rst.lostEvents + s.seq.aonLost) 0xFFFF
    ({ s with rst := { s.rst with lostEvents := n }, seq := { s.seq with aonLost := 0 } }).ev .rst 0x0401 (leBytes 2 n)

/-- A failed PLL0 is reset with Junction: it is unlocked, and the clocks divided from it stop (R83, R98). -/
def State.pllLost (s : State) : State :=
  { s with clk := { s.clk with run := s.clk.run &&& ~~~0x66, lock := clrBit s.clk.lock 0 }, mem := { s.mem with nvm := false } }

/-- PLL0 has locked again by the time the reset Junction boots (Table 04-6, step 4). -/
def State.pllLock (s : State) : State :=
  if bit s.clk.lock 0 || !s.boot.fromJct then s
  else { s with clk := { s.clk with run := s.clk.run ||| 0x62, lock := setBit s.clk.lock 0 } }

/-- A Junction reset (R98, R100): bit `cause` of JCT_CAUSE. It reaches a Junction that is powered. -/
def State.jctReset (cause : Nat) (s : State) : State :=
  if !s.domOn 1 || s.mc.mode = .sleep then s
  else
    let s1 := if s.cfg.paired && s.pair.actO then s.giveUp 5 else s
    let c := s1.jctBase
    let s2 : State := { c with
      seq := { c.seq with aonLost := s1.seq.inside.length }
      rst := { c.rst with jctCause := setBit c.rst.jctCause cause }
      posted := s1.posted ++ s1.linkResets }
    ((if cause = 2 then s2.pllLost else s2).ev .hif 0x0601 [b8 s.mc.mode.code, 1, 3]).lostReport

/-- JUNCTION_WATCHDOG_EXPIRY (R98). -/
def execJunctionWatchdogExpiry (s : State) : Host.Outcome State Fault Refusal := .next (s.jctReset 0)

/-! ## Full reset and power-on (R65, R67, R98) -/

/-- A full reset: everything but AON; `cause` is the bit of RST.CAUSE. Locks and the list of absent dies are cleared; GAU is on while
RESET_N is low, in SLEEP and before the first boot too (R54, Table 02-4), and with it SBX (Table 03-5), unless the power-fail sequence
has switched it off. -/
def State.fullReset (cause : Nat) (s : State) : State :=
  let s1 := if s.cfg.paired && s.pair.actO then s.giveUp 6 else s
  let c := s1.coldBase
  { c with
    pages := c.pages.map (fun g => { g with lock := false })
    rst := { c.rst with cause := setBit 0 cause, absent := 0, fullCount := inc c.rst.fullCount 0xFFFFFFFF }
    pwr := { domains := if cause = 2 || (bit s.pwr.domains 8 && cause ≠ 1) then 0x111 else 1 }
    boot := { failed := decide (cause = 1) }
    mc := { c.mc with wakeCause := setBit c.mc.wakeCause 8 }
    sec := { c.sec with debugOpened := false } }

/-- RESET_N_LOW (R98). -/
def execResetNLow (s : State) : Host.Outcome State Fault Refusal := .next (s.fullReset 2)

/-- A write of RST.REQ (Table 04-8). -/
def State.rstReqWrite (w : Word) (s : State) : State :=
  if w = 0x00007A1D then s.jctReset 1
  else if w = 0x0000F0D1 then s.fullReset 3
  else s.err .rst 0x04 0 0x050

/-- RST_REQ_JUNCTION (R104). -/
def execRstReqJunction (s : State) : Host.Outcome State Fault Refusal :=
  .next (s.gated .rst 0x050 0x00007A1D false (State.rstReqWrite 0x00007A1D))

/-- RST_REQ_FULL (R104). -/
def execRstReqFull (s : State) : Host.Outcome State Fault Refusal :=
  .next (s.gated .rst 0x050 0x0000F0D1 false (State.rstReqWrite 0x0000F0D1))

/-- JTAG_RESET (R98, R506): the instruction is not available while debug is LOCKED. -/
def execJtagReset (s : State) : Host.Outcome State Fault Refusal := .next (if s.debugSta = 1 || !s.domOn 1 then s else s.fullReset 4)

/-- POWER_ON (R67): AON has lost power too: TB restarts from zero, the next boot increments EPOCH (R25), and what AON kept is at its
reset value. -/
def execPowerOn (s : State) : Host.Outcome State Fault Refusal :=
  let c := s.fullReset 0
  .next { c with
    tb := 0, frac := 0, slept := false, period := 0, lost := 0, seq := { c.seq with aonLost := 0 }, rst := { c.rst with aonLost := true }
    pages := State.reset.pages
    pwr := {}
    mc := {} }

/-- PCIE_RESET (R98, R424): the PCIe core is reset and every event queue is disabled; a link that was up enters L2 (R421). -/
def execPcieReset (s : State) : Host.Outcome State Fault Refusal :=
  let h := s.hif
  let s1 : State := { s with
    hif := { h with link := if 2 ≤ h.link then 4 else 0, width := 0, speed := 0, master := false, msix := false, msi := false, msiN := 1, corr := 0, recov := 0
                    pba := 0, perst := true }
    clk := { s.clk with run := clrBit s.clk.run 7, lock := clrBit s.clk.lock 1 } }
  let s2 := forAll (List.finRange 8) (fun q t => t.evqOff q) s1
  .next (s2.modPg .hif (fun g => { g with com := g.com.filter (fun c => decide (c.1 < 0x800)) }))

/-! ## Clock checks (R85) -/

/-- The consequence of a failed clock. -/
def State.clkConsequence (k : Nat) (s : State) : State :=
  match k with
  | 1 => s.jctReset 2
  | 2 => s.jctReset 2
  | 5 => s.jctReset 2
  | 6 => s.jctReset 2
  | 3 => { s with grd := s.grd.stop }.permitReport
  | 4 => { s with sbx := s.sbx.stop }
  | 9 => { s with lswg := { s.lswg with clkFailed := true } }.settleAll
  | 10 =>
    if s.clk.nvmFailed then s
    else ({ s with clk := { s.clk with nvmFailed := true }, mem := { s.mem with nvm := false } }.granaryLost).degrade 0x23
  | _ => s

/-- CLOCK_CHECK (R85): 64 periods of a clock's reference end with `count` periods of it; `rc` is the frequency of an RC reference. A
stopped clock and one that is not checked fail no check. -/
def execClockCheck (k : Fin 12) (count rc : Nat) (s : State) : Host.Outcome State Fault Refusal :=
  if k = 8 || k = 11 || !s.clkRuns k.val || !clkOut k.val count (clkRef k.val rc) || bit s.clk.fail k.val then .next s
  else
    let s1 := s.modClk (fun c => { c with fail := setBit c.fail k.val })
    .next ((s1.ev .clk 0x0201 (leBytes 2 s1.clk.fail.toNat)).clkConsequence k.val)

/-- ON_DEMAND_CLOCK_START (R84): APP, or NVM, restarts at the first access. -/
def execOnDemandClockStart (nvm : Bool) (s : State) : Host.Outcome State Fault Refusal :=
  .next (if nvm then (if s.domOn 9 && bit s.clk.lock 0 && !s.clk.nvmFailed then s.granTouch else s) else s.clkDemand .prg)

/-- NVM_CLOCK_IDLE_STOP (R83): 1 ms has passed without a Granary access; a clock that does not run stays as it is. -/
def execNvmClockIdleStop (s : State) : Host.Outcome State Fault Refusal :=
  .next (if s.mem.nvm then
      let t := s.to (s.mem.touched + ms 1)
      { t with mem := { t.mem with nvm := false } }
    else s)

end Sys2Proof.Machine
end

