-- ==== Sys2Proof/Machine/Supply.lean ====
section
/-! DEFINITION. Supplies, power domains kept off, temperatures and the thermal model of the Plough dies (R59 to R82). -/

namespace Sys2Proof.Machine

/-- Change the PWR state. -/
def State.modPwr (f : Power → Power) (s : State) : State := { s with pwr := f s.pwr }

/-- A condition of SUP_STA begins or ends; SUP_LATCH keeps that it has begun (Table 03-9). From its beginning on its exit filter starts
afresh (R64). -/
def State.supSet (k : Nat) (on : Bool) (s : State) : State :=
  s.modPwr (fun w => { w with
    sta := putBit w.sta k on, latch := if on && !bit w.sta k then setBit w.latch k else w.latch
    back := if on then w.back.mapIdx (fun i x => if i = k then none else x) else w.back })

/-- The instant at which a filter of `n` counts has run, its threshold having been passed since `since` (R64). -/
def filterEnd (since : Option Nat) (n : Nat) : Option Nat := since.map (· + n)

/-- Bit of SUP_STA of condition 1 derate, 2 undervoltage or 3 overvoltage of VMOT_A (0) or VMOT_B (1). -/
def motSup (d : Fin 2) (k : Fin 4) : Fin 8 := Fin.ofNat 8 (k.val + 3 * d.val)

/-- The Plough die of supply VMOT_A (0) or VMOT_B (1). -/
def motDie (d : Fin 2) : Fin 8 := if d.val = 0 then 3 else 4

/-- Its power domain's bit. -/
def motDom (d : Fin 2) : Nat := 5 + d.val

/-- An event of the PWR page whose source instance is a supply or a Plough die (Table 16-7). -/
def State.pwrEv (inst code : Nat) (payload : List Byte) (s : State) : State := s.raise 0 (evSource .pwr + inst) code payload

/-! ## VLOG (R64 to R67) -/

/-- VLOG_WARN_ENTER (R64): VLOG, now at `mv`, has stood below 6.0 V for 100 µs. -/
def execVlogWarnEnter (mv : Nat) (s : State) : Host.Outcome State Fault Refusal :=
  .next (match filterEnd s.pwr.beyond[0] (us 100) with
    | none => s
    | some t =>
      if bit s.pwr.sta 0 || 6000 ≤ mv then s else ((s.to t).supSet 0 true).pwrEv 0 0x0301 (leBytes 2 (mv16 mv)))

/-- VLOG_WARN_EXIT (R64): VLOG has stood above 6.5 V for 1 ms. -/
def execVlogWarnExit (s : State) : Host.Outcome State Fault Refusal :=
  .next (match filterEnd s.pwr.back[0] (ms 1) with | some t => if bit s.pwr.sta 0 then (s.to t).supSet 0 false else s | none => s)

/-- POWER_FAIL (R65): VLOG has stood below 4.5 V for 10 µs, which its measured value of every control period need not show (log 82). The
sequence runs to its end, the full reset 30 µs after VLOG fell, 20 µs after this command's instant. -/
def execPowerFail (s : State) : Host.Outcome State Fault Refusal := .next ((s.to (s.tb + us 20)).fullReset 1)

/-- VLOG_MIN_WRITE (R82): any value; it stays writable while the page is locked (R145). -/
def execVlogMinWrite (w : Word) (s : State) : Host.Outcome State Fault Refusal :=
  .next (s.gated .pwr 0x050 w true (State.modPwr (fun p => { p with vlogMin := 0xFFFF })))

/-! ## VMOT (R68 to R70) -/

/-- A VMOT monitor of Gauge finds `mv` beyond the threshold of derate, undervoltage or overvoltage (Table 03-3). -/
def State.vmotBeyond (s : State) (k mv : Nat) : Bool :=
  s.domOn 8 && (match k with | 1 => decide (mv < 9000) | 2 => decide (mv < 7000) | _ => decide (64000 < mv))

/-- The instant at which condition `k` of VMOT_x begins: Gauge measures `mv` and has found every measurement beyond the threshold for the
entry filter, one control period for the derate and two for the others; none where it does not (R64). -/
def State.vmotBegins (s : State) (d : Fin 2) (k : Fin 4) (mv : Nat) : Option Nat :=
  if s.vmotBeyond k.val mv then filterEnd s.pwr.beyond[motSup d k] (if k = 1 then periodCounts else 2 * periodCounts) else none

/-- The instant at which it ends: every measurement has been beyond the release threshold for the exit filter, one control period for the
derate and 10 ms for the others (R64). -/
def State.vmotEnds (s : State) (d : Fin 2) (k : Fin 4) : Option Nat :=
  if bit s.pwr.sta (motSup d k).val then filterEnd s.pwr.back[motSup d k] (if k = 1 then periodCounts else ms 10) else none

/-- VMOT_DERATE_ENTER (R64, R68): while the derate lasts, s_v follows the voltage. -/
def execVmotDerateEnter (d : Fin 2) (mv : Nat) (s : State) : Host.Outcome State Fault Refusal :=
  .next (match s.vmotBegins d 1 mv with
    | some t => ((s.to t).supSet (motSup d 1) true).modPwr (fun w => { w with sv := w.sv.set d (svOf mv) })
    | none => s)

/-- VMOT_DERATE_EXIT (R64, R68). -/
def execVmotDerateExit (d : Fin 2) (s : State) : Host.Outcome State Fault Refusal :=
  .next (match s.vmotEnds d 1 with
    | some t => ((s.to t).supSet (motSup d 1) false).modPwr (fun w => { w with sv := w.sv.set d 1000000 })
    | none => s)

/-- What stands against the axes of a Plough die, undervoltage, overvoltage or THERMAL_STOP, halts them; an unpowered die's once it is
switched on (R69, R70, R80). -/
def State.supHalts (d : Fin 2) (s : State) : State :=
  forAll [(2 + 3 * d.val, HaltCause.vmotUv), (3 + 3 * d.val, .vmotOv), (10 + d.val, .thermal)]
    (fun e t => if bit t.pwr.sta e.1 && t.domOn (motDom d) then t.haltDie (motDie d) e.2 else t) s

/-- VMOT_UV_ENTER (R64, R69): Gauge monitors the supply whether the Plough die is powered or not. -/
def execVmotUvEnter (d : Fin 2) (mv : Nat) (s : State) : Host.Outcome State Fault Refusal :=
  .next (match s.vmotBegins d 2 mv with
    | some t =>
      if bit s.pwr.sta (motSup d 2).val then s
      else (((s.to t).supSet (motSup d 2) true).supHalts d).pwrEv d.val 0x0302 (leBytes 2 (mv16 mv))
    | none => s)

/-- VMOT_UV_EXIT (R64, R69). -/
def execVmotUvExit (d : Fin 2) (s : State) : Host.Outcome State Fault Refusal :=
  .next (match s.vmotEnds d 2 with
    | some t => ((s.to t).supSet (motSup d 2) false).unhaltDie (motDie d) .vmotUv
    | none => s)

/-- VMOT_OV_ENTER (R64, R70): brake standstill, whatever the standstill mode, which holds as long as the halt. -/
def execVmotOvEnter (d : Fin 2) (mv : Nat) (s : State) : Host.Outcome State Fault Refusal :=
  .next (match s.vmotBegins d 3 mv with
    | some t =>
      if bit s.pwr.sta (motSup d 3).val then s
      else (((s.to t).supSet (motSup d 3) true).supHalts d).pwrEv d.val 0x0303 (leBytes 2 (mv16 mv))
    | none => s)

/-- VMOT_OV_EXIT (R64, R70): the brake ends in the configured standstill mode. -/
def execVmotOvExit (d : Fin 2) (s : State) : Host.Outcome State Fault Refusal :=
  .next (match s.vmotEnds d 3 with
    | some t => ((s.to t).supSet (motSup d 3) false).unhaltDie (motDie d) .vmotOv
    | none => s)

/-! ## VLSW (R349) -/

/-- VLSW_UV_ENTER (R64, R349): VLSW has stood below 4.5 V for 10 µs, which its measured value of every control period need not show;
Gauge monitors it. -/
def execVlswUvEnter (s : State) : Host.Outcome State Fault Refusal :=
  .next (if bit s.pwr.sta 7 || !s.domOn 8 then s else (s.supSet 7 true).lswUv true)

/-- VLSW_UV_EXIT (R64, R349): VLSW has stood above 5.0 V for 1 ms. -/
def execVlswUvExit (s : State) : Host.Outcome State Fault Refusal :=
  .next (match filterEnd s.pwr.back[7] (ms 1) with | some t => if bit s.pwr.sta 7 then ((s.to t).supSet 7 false).lswUv false else s | none => s)

/-! ## The thermal model (R77 to R80) -/

/-- A temperature register in millionths of a degree; none where it reads 0x8000. -/
def tempOf (t : Nat) : Option Int := if t = 0x8000 then none else some (sx 16 t * 62500)

/-- A temperature in millionths of a degree as a register shows it. -/
def tempWord (t : Int) : Nat := tc 16 (clampI (-0x7FFF) 0x7FFF (freeRound 30 t 62500))

/-- R_on in µΩ at a temperature (R77). -/
def rOn (t : Int) : Int := 25000 + (t - 25000000) * 136 / 1000000

/-- P_cond in µW: `sq` is the sum of the squares of the twelve phase currents in mA² (R77). -/
def pCondOf (sq : Nat) (t : Int) : Nat := ((sq * 2 : Nat) * rOn t / 1000000).toNat

/-- P_fix in µW: a bridge of the die is switching while its coils are driven or held (R77). -/
def State.pFix (s : State) (d : Fin 2) : Nat :=
  if (List.finRange 12).any (fun a => ploughDie a = motDie d && (s.coil[a].coil = .driven || s.coil[a].coil = .holding)) then 5000000
  else 2000000

/-- One control period of the lag of τ = 4.0 s towards `x`, in units of 10^-12 K: 1 − e^(−1/64,000) of the distance, to the next unit away
from `l`, so that the distance closes (R77; log 57). -/
def lagStep (l x : Int) : Int :=
  if l ≤ x then l - (l - x) * 15624877930 / 1000000000000000 else l + (x - l) * 15624877930 / 1000000000000000

/-- The die's temperature: the higher of the estimate and its own sensor (R77). -/
def hotter (a b : Option Int) : Option Int :=
  match a, b with | some x, some y => some (max x y) | some x, none => some x | none, y => y

/-- What the own sensor of a die reads; none while the die is unpowered, kept off or absent. -/
def State.sensor (s : State) (d : Fin 8) : Option Int := tempOf (s.tempShown d s.pwr.tempD[d])

/-- The present temperature of a Plough die. -/
def State.dieTemp (s : State) (d : Fin 2) : Option Int := hotter s.pwr.tEst[d] (s.sensor (motDie d))

/-- THERMAL_STOP_x begins at 150 °C and ends below 130 °C (R80). -/
def State.thermalStop (d : Fin 2) (s : State) : State :=
  match s.dieTemp d with
  | none => s
  | some t =>
    if decide (150000000 ≤ t) && !bit s.pwr.sta (10 + d.val) then
      ((s.supSet (10 + d.val) true).haltDie (motDie d) .thermal).pwrEv d.val 0x0305
        ([b8 (s.pwr.scalePct d), 0] ++ leBytes 2 s.pwr.thEst[d])
    else if decide (t < 130000000) && bit s.pwr.sta (10 + d.val) then
      (s.supSet (10 + d.val) false).unhaltDie (motDie d) .thermal
    else s

/-- T_LIM in millionths of a degree (R79). -/
def State.thLimit (s : State) : Int := (s.cf .pwr 0x078 0 8 : Int) * 1000000

/-- s_T of a Plough die becomes `k` millionths; THERMAL_DERATE stands while it is below 1.0, and its beginning is reported (R79). -/
def State.setScale (d : Fin 2) (k : Nat) (s : State) : State :=
  let s1 := (s.modPwr (fun w => { w with sT := w.sT.set d k })).supSet (8 + d.val) (decide (k < 1000000))
  if decide (k < 1000000) && !bit s.pwr.sta (8 + d.val) then
    s1.pwrEv d.val 0x0304 ([b8 (s1.pwr.scalePct d), 0] ++ leBytes 2 s1.pwr.thEst[d])
  else s1

/-- Below T_LIM − 5 K the scale returns to 1.0 (R79). -/
def State.thermalFall (d : Fin 2) (s : State) : State :=
  match s.dieTemp d with
  | some t => if t < s.thLimit - 5000000 then s.setScale d 1000000 else s
  | none => s

/-- THERMAL_MODEL_UPDATE (R77): a control period's estimate for a Plough die, with R_on at the last T_est; before the first estimate at the
baseplate's temperature. The lag starts at 0 (log 57). -/
def execThermalModelUpdate (d : Fin 2) (sq : Nat) (s : State) : Host.Outcome State Fault Refusal :=
  if !s.dieOn (motDie d) then .next s
  else
    let w := s.pwr
    let base := tempOf s.baseShown
    let now := (w.tEst[d].orElse (fun _ => base)).getD 25000000
    let p := pCondOf sq now + s.pFix d
    let lag := lagStep w.lag[d] (2000000 * (p : Int) + 500000 * (w.pSelf[(Fin.ofNat 2 (1 - d.val))] : Int))
    let est := base.map (· + lag / 1000000)
    let s1 := s.modPwr (fun w => { w with
      lag := w.lag.set d lag, pSelf := w.pSelf.set d p, tEst := w.tEst.set d est
      thEst := w.thEst.set d (match hotter est (s.sensor (motDie d)) with | some x => tempWord x | none => 0x8000) })
    .next ((s1.thermalStop d).thermalFall d)

/-- The steady-state estimate of a Plough die at k millionths of the currents asked of it does not exceed the limit: at the limit, R_on is
that of the limit (R79). -/
def State.scaleOk (s : State) (d : Fin 2) (sq k : Nat) (limit base : Int) : Bool :=
  let pc : Int := pCondOf sq limit * (k * k : Nat) / 1000000000000
  decide (base + 2 * (pc + s.pFix d) + (s.pwr.pSelf[(Fin.ofNat 2 (1 - d.val))] : Int) / 2 ≤ limit)

/-- THERMAL_SCALE_UPDATE (R79): s_T is the largest number of millionths that keeps the limit; `sq` is the sum of the squares of the phase
currents as they are without s_T (log 58). -/
def execThermalScaleUpdate (d : Fin 2) (sq : Nat) (s : State) : Host.Outcome State Fault Refusal :=
  match s.dieTemp d, tempOf s.baseShown with
  | some t, some base =>
    .next (if t < s.thLimit - 5000000 then s.setScale d 1000000
      else s.setScale d (highest (fun k => s.scaleOk d sq k s.thLimit base) 20 0 1000000))
  | _, _ => .next s

/-! ## Temperature sensors (R81) -/

/-- The dies' sensors (R81). -/
def State.dieSensors (s : State) : List Int := (List.finRange 8).filterMap s.sensor

/-- Since when a die's sensor has stood at or above 150 °C, once it reads `t` (R81). -/
def hotFrom (t : Option Int) (now : Nat) (since : Option Nat) : Option Nat :=
  match t with
  | some x => if 150000000 ≤ x then (match since with | some b => some b | none => some now) else none
  | none => none

/-- TEMP_SENSOR_UPDATE (R81): a die's sensor, or the baseplate's for none, reads `t` in 1/16 °C; Signal box has none. -/
def execTempSensorUpdate (die : Option (Fin 8)) (t : Int) (s : State) : Host.Outcome State Fault Refusal :=
  let v := tc 16 (clampI (-0x7FFF) 0x7FFF t)
  let reads := match die with | none => s.dieOn 6 | some d => s.dieOn d && d ≠ 2
  if !reads then .next s
  else
    let s1 := s.modPwr (fun w => match die with
      | none => { w with tempBp := v }
      | some d => { w with tempD := w.tempD.set d v, hotSince := w.hotSince.set d (hotFrom (tempOf v) s.tb w.hotSince[d]) })
    let high := s1.dieSensors.any (fun x => decide (145000000 ≤ x))
      || (match tempOf s1.baseShown with | some x => decide (145000000 ≤ x) | none => false)
    let bp := match tempOf s1.baseShown with | some x => decide (100000000 < x) | none => false
    let s2 := (s1.supSet 12 high).supSet 13 bp
    let num := match die with | some d => d.val | none => 0xFF
    let s3 := if high && !bit s.pwr.sta 12 then s2.pwrEv 0 0x0306 ([b8 num, 0] ++ leBytes 2 v) else s2
    let s4 := if bp && !bit s.pwr.sta 13 then s3.pwrEv 0 0x0307 ([0xFF, 0] ++ leBytes 2 v) else s3
    .next (s4.modPwr (fun w => { w with hot := w.hot && s4.dieSensors.any (fun x => decide (140000000 ≤ x)) }))

/-- DIE_OVERTEMP_HOLD (R81): a die's sensor has stood at or above 150 °C for 100 ms. -/
def execDieOvertempHold (d : Fin 8) (s : State) : Host.Outcome State Fault Refusal :=
  match (if s.dieOn d then s.pwr.hotSince[d] else none) with
  | none => .next s
  | some t =>
    let s1 := (s.to (t + ms 100)).modPwr (fun w => { w with hot := true })
    match s.mc.mode with
    | .config | .run | .degraded | .service | .standby => .next (s1.toSafeHold 0x1A 1)
    | .sleep | .boot | .safeHold => .next s1

/-! ## Domains kept off (R73) -/

/-- The axes of a Plough die. -/
def dieAxes (d : Fin 2) : List (Fin 12) := (List.finRange 12).filter (fun a => ploughDie a = motDie d)

/-- The pages whose home is a Plough die. -/
def diePages (d : Fin 2) : List PageId := allPages.filter (fun p => pageDie p = motDie d)

/-- A page whose home domain loses power: its committed and staged words are gone, and its queued writes are discarded (R97, R142). -/
def State.pageOff (p : PageId) (s : State) : State :=
  (s.flushQueue p).modPg p (fun g => { g with
    com := [], stg := [], stage := 0, sole := [], commitDue := none, snapDue := none, snapTaken := false, snapHeld := false, snap := []
    mirror := [], seq := 0, rstPend := false })

/-- A Plough die is switched off: it is not present, its link is down, both sides of it are reset, and what it had not delivered is gone.
A slave of a channel of it loses its master (R257), and a cut by PAIR_ACT_I stands (R471). Its thermal lag starts again at 0 (log 57). -/
def State.ploughOff (d : Fin 2) (s : State) : State :=
  let die := motDie d
  let s0 := (s.setScale d 1000000).dieForgets die
  let s1 : State := { s0 with
    pwr := { s0.pwr with domains := clrBit s0.pwr.domains (motDom d), tempD := s0.pwr.tempD.set die 0x8000, lag := s0.pwr.lag.set d 0
                         pSelf := s0.pwr.pSelf.set d 0, thEst := s0.pwr.thEst.set d 0x8000, tEst := s0.pwr.tEst.set d none
                         hotSince := s0.pwr.hotSince.set die none }
    present := clrBit s0.present die.val
    links := upd s0.links die (fun l =>
      { l with st := if l.st = .absent then .absent else .down, out := {}, inn := {}, mark := none, lost := 0 }) }
  let c : Fin 14 := if d.val = 0 then 12 else 13
  let s1a := forAll (c :: (dieAxes d).map fbOf) (fun c t => t.masterLost c) s1
  let s2 := forAll (dieAxes d) (fun a t =>
    { (((t.modDrv a (fun _ => {})).modCoil a (fun _ => {})).modWatch a (fun w => { pairCut := w.pairCut })).modAx a (fun x =>
        { x with referenced := false, flags := setBit x.flags 7 }) with
      fb := t.fb.set (fbOf a) {}, fbx := t.fbx.set (fbOf a) {} }) s1a
  forAll (diePages d) (fun p t => t.pageOff p) { s2 with fb := s2.fb.set c {}, fbx := s2.fbx.set c {} }

/-- A Plough die is switched on; its link trains unless the die is held absent (R73, R101), and what stands against its supply halts its
axes. -/
def State.ploughOn (d : Fin 2) (s : State) : State :=
  ({ s with
    pwr := { s.pwr with domains := setBit s.pwr.domains (motDom d) }
    links := upd s.links (motDie d) (fun l => { l with st := if s.dieAbsent (motDie d) then .absent else .training }) } : State).supHalts d

/-- Switching a die off is refused while an axis of it belongs to a portal or is not at standstill (R73). -/
def State.mayCut (s : State) (d : Fin 2) : Bool := (dieAxes d).all (fun a => (s.portalOf a).isNone && s.atRest a)

/-- A write of DOM_KEEP_OFF (R73). -/
def State.keepOffWrite (w : Word) (s : State) : State :=
  let was (d : Fin 2) : Bool := bit (s.com .pwr 0x044) (5 + d.val)
  let want (d : Fin 2) : Bool := bit w (5 + d.val)
  if (List.finRange 2).any (fun d => want d && !was d && !s.mayCut d) then s.err .pwr 0x07 0 0x044
  else forAll (List.finRange 2) (fun d t =>
    if want d && !was d then t.ploughOff d else if was d && !want d then t.ploughOn d else t) (s.setCom .pwr 0x044 (w &&& 0x60))

/-- DOM_KEEP_OFF_WRITE (R73). -/
def execDomKeepOffWrite (w : Word) (s : State) : Host.Outcome State Fault Refusal :=
  .next (s.gated .pwr 0x044 w false (State.keepOffWrite w))

end Sys2Proof.Machine
end

