-- ==== Sys2Proof/Machine/Links.lean ====
section
/-! DEFINITION. Die links, stamps, the time base in SLEEP, and the scrubbers (R16 to R24, R32 to R35, R322). -/

namespace Sys2Proof.Machine

/-! ## Coupling links (R16 to R19) -/

/-- The die's link is a Coupling link that is trained or training, and both its ends are powered. -/
def State.coupled (s : State) (d : Fin 8) : Bool :=
  decide (d ≠ 0) && decide (d ≠ 2) && s.domOn 1 && (s.links[d].st = .up || s.links[d].st = .training)

/-- The event packet with this number has reached Junction, and its event is held in the sequencer (R26). -/
def State.eventArrives (d : Fin 8) (seq : Nat) (s : State) : State :=
  { s with seq := { s.seq with held := s.seq.held.map (fun e => if e.die = d.val && e.pkt = seq then { e with arrived := true } else e) } }

/-- A Coupling packet `seq` arrives over a lane, with what it acknowledges of the other direction and, for an event or stamp packet,
its stamp: taken where it is the next in order; a duplicate is acknowledged again and discarded; one after a gap is discarded; one
that fails its CRC is discarded and answered with a negative acknowledgement (R17). What a discarded duplicate or a packet after a gap
acknowledges is taken all the same (DESIGN CHOICE, log 83). -/
def State.packet (d : Fin 8) (toDie : Bool) (seq : Nat) (crcOk : Bool) (ack : Nat) (stamp : Option Nat) (s : State) : State :=
  let want := (s.links[d].lane toDie).want
  let answer (up down n : Nat) : Posted := .packet d.val (if toDie then down else up) n none
  if !crcOk then s.post (answer 6 7 want)
  else
    let s1 := s.modLink d (fun l => (l.modLane toDie (Lane.sent (seq % 65536))).modLane (!toDie) (Lane.acked ack))
    if seq % 65536 = want then
      let next := (want + 1) % 65536
      let s2 := s1.modLink d (fun l =>
        let l1 := l.modLane toDie (fun x => { x with want := next })
        match stamp with
        | some t => if toDie then l1 else { l1 with mark := laterMark l1.mark t }
        | none => l1)
      (if toDie then s2 else s2.eventArrives d want).post (answer 4 5 next)
    else if (want + 65536 - seq % 65536) % 65536 ≤ 64 then s1.post (answer 4 5 want)
    else s1

/-- PACKET_RECEIVED (R17, R19, R322): a packet of an absent die is discarded and counted; a packet that reaches Guard over the link that is up
ends the withdrawal of R322. -/
def execPacketReceived (d : Fin 8) (toDie : Bool) (seq : Nat) (crcOk : Bool) (ack : Nat) (stamp : Option Nat) (s : State) :
    Host.Outcome State Fault Refusal :=
  if s.dieAbsent d && !toDie && s.domOn 1 then .next (s.modLink d (fun l => { l with lateDrop := inc l.lateDrop 0x3FF }))
  else if !s.coupled d || s.dieAbsent d || s.mute d then .next s
  else
    let s1 := s.packet d toDie seq crcOk ack stamp
    .next (if toDie && crcOk && d.val = 1 && s.safe.linkLost && s.links[d].st = .up then
        { s1 with safe := { s1.safe with linkLost := false } }.grdDrive
      else s1)

/-- The sender of a lane resends its oldest packet and every one after it: one retry (R17, R18). With nothing outstanding, or after
the eighth retry, nothing is resent. -/
def State.resend (d : Fin 8) (toDie : Bool) (s : State) : State :=
  let l := s.links[d].lane toDie
  if l.outstanding = 0 || 8 ≤ l.run then s
  else (s.modLink d (fun k =>
      { k.modLane toDie (fun x => { x with run := x.run + 1 }) with
        retries := inc k.retries 0xFFFF, worstRun := max k.worstRun (l.run + 1) })).post
    (.packet d.val (if toDie then 8 else 9) l.oldest none)

/-- NAK_RECEIVED (R17): the sender of the lane is answered with a negative acknowledgement. -/
def execNakReceived (d : Fin 8) (toDie : Bool) (s : State) : Host.Outcome State Fault Refusal :=
  .next (if s.coupled d && !s.dieAbsent d && !s.mute d then s.resend d toDie else s)

/-- ACK_TIMEOUT (R18): the sender resends; a timeout after the eighth retry declares the die absent. -/
def execAckTimeout (d : Fin 8) (toDie : Bool) (s : State) : Host.Outcome State Fault Refusal :=
  let l := s.links[d].lane toDie
  .next (if !s.coupled d || s.dieAbsent d || l.outstanding = 0 || (!toDie && s.mute d) then s
    else if 8 ≤ l.run then s.dieLost d
    else s.resend d toDie)

/-- STAMP_PACKET (R16): a die sends a packet with its stamp on its link; Junction, die 0, on each of its Coupling links. -/
def execStampPacket (d : Fin 8) (s : State) : Host.Outcome State Fault Refusal :=
  .next (if d = 0 then
      forAll ((List.finRange 8).filter (fun k => s.coupled k && !s.dieAbsent k))
        (fun k t => t.sendPacket k true 10 (some (stampOf t.tb))) s
    else if s.coupled d && !s.dieAbsent d && !s.mute d then
      if s.links[d].inn.full || 0 < s.links[d].inn.wait then s
      else (s.sendPacket d false 11 (some (stampOf (s.dieTb d)))).modLink d (fun l => { l with count := max l.count (s.dieTb d) })
    else s)

/-- The die takes a sync packet: the steps of its TB count are set anew against Junction's (R23). -/
def State.discipline (d : Fin 8) (s : State) : State :=
  s.modLink d (fun l => { l with phase := Config.free 36 (s.tbDraw d s.tb) % tbStep d })

/-- SYNC_PACKET (R23): Junction disciplines the TB count of Guard, the Switch die, Gauge or Granary, which so stays within Table 01-4
of its own (State.dieTb). With 64 packets outstanding none goes out (R17). -/
def execSyncPacket (d : Fin 8) (s : State) : Host.Outcome State Fault Refusal :=
  .next (if (d = 1 || d = 5 || d = 6 || d = 7) && s.coupled d && !s.dieAbsent d then
      if s.links[d].out.full || 0 < s.links[d].out.wait then s else (s.sendPacket d true 1 none).discipline d
    else s)

/-! ## TB in SLEEP (R24) -/

/-- SLEEP_TICK (R24): while MOT is stopped, one 32.768 kHz tick adds 78,125 sixteenths of a count. -/
def execSleepTick (s : State) : Host.Outcome State Fault Refusal :=
  .next (if s.clkRuns 5 then s
    else { s with tb := s.tb + (s.frac + 78125) / 16, frac := (s.frac + 78125) % 16, slept := true })

/-- What a step does with no command waiting: one TB count passes while MOT counts TB (R22, R24; log 1). -/
def State.idle (s : State) : State := if s.clkRuns 5 then { s with tb := s.tb + 1 } else s

/-! ## Scrubbing and error correction (R32 to R35) -/

/-- Words of 256 bits of Junction SRAM, Guard SRAM and Granary (Table 01-6). -/
def memWords (k : Fin 3) : Nat := match k.val with | 0 => 131072 | 1 => 16384 | _ => 2097152

/-- A memory is powered and clocked, and its die present. -/
def State.memOn (s : State) (k : Fin 3) : Bool :=
  match k.val with
  | 0 => s.domOn 1 && s.clkRuns 1
  | 1 => s.domOn 3 && s.clkRuns 3 && !s.dieAbsent 1
  | _ => s.domOn 9 && s.domOn 1 && !s.dieAbsent 7 && !s.clk.nvmFailed

/-- The seconds that have ended are reported, each with the corrections of its word in it (R34; log 39). -/
def State.eccReport (s : State) : State :=
  forAll (s.mem.corr.filter (fun c => decide (c.since + ms 1000 ≤ s.tb))) (fun c t =>
    ({ t with mem := { t.mem with corr := t.mem.corr.erase c } } : State).eccEvent (Fin.ofNat 3 c.mem) 0x0102 c.word (leBytes 4 c.count)) s

/-- A miscorrected word holds bytes that nothing determines (R33). -/
def State.garble (k : Fin 3) (w : Nat) (s : State) : State :=
  let l := (List.range 32).map (fun i => b8 (Config.free 24 (s.fresh + i)))
  let t : State := { s with fresh := s.fresh + 32 }
  match k.val with | 0 => t.sramWrite (32 * w) l | 1 => t.guardWrite (32 * w) l | _ => t.granWrite (32 * w) l

/-- A read of a word with `bits` bits in error beside those that it held (R33). Four or more may go undetected, be miscorrected, or be detected: which one is
not determined; `written` says that a functional write has replaced the word since. A word that holds an uncorrectable error is found
so again. -/
def State.eccRead (k : Fin 3) (w bits : Nat) (written : Bool) (s : State) : State :=
  let n := s.mem.softOf k w + bits
  if s.mem.torn.contains (k.val, w) || n = 3 then s.eccUncorr k w
  else if n = 0 then s
  else if n ≤ 2 then s.eccCorr k w
  else
    let r := s.draw
    let t := if written then r.2 else r.2.garble k w
    match Config.free 25 r.1 % 3 with
    | 0 => t
    | 1 => t.eccCorr k w
    | _ => r.2.eccUncorr k w

/-- A word that holds three bits in error: its next read finds them (R33). -/
def State.tear (k : Fin 3) (w : Nat) (s : State) : State :=
  { s with mem := { s.mem with torn := s.mem.torn ++ [(k.val, w)], soft := s.mem.soft.filter (fun e => ¬(e.1 = k.val ∧ e.2.1 = w)) } }

/-- Bits of a word go into error where nothing reads it (R33): one or two are corrected at its next read, three are found there, and of
four or more a free value decides. -/
def State.upset (u : Upset) (s : State) : State :=
  let n := s.mem.softOf u.mem u.word + u.bits
  let keep := s.mem.soft.filter (fun e => ¬(e.1 = u.mem.val ∧ e.2.1 = u.word))
  if u.bits = 0 || s.mem.torn.contains (u.mem.val, u.word) then s
  else if n ≤ 2 then { s with mem := { s.mem with soft := keep ++ [(u.mem.val, u.word, n)] } }
  else if n = 3 then s.tear u.mem u.word
  else
    let r := s.draw
    match Config.free 25 r.1 % 3 with
    | 0 => r.2.garble u.mem u.word
    | 1 => (r.2.garble u.mem u.word).eccCorr u.mem u.word
    | _ => r.2.tear u.mem u.word

/-- SCRUB_VISIT (R35): the scrubber reads the next word of a memory, in which `found.1` bits are in error. `found.2` says which bits of
other words have gone into error since the last visit (log 84). A functional write that fell
between the read and the write-back (`written`) wins, and the scrubber then does not write. A visit to Granary keeps its clock running
(R83). -/
def execScrubVisit (k : Fin 3) (found : Nat × List Upset) (written : Bool) (s0 : State) : Host.Outcome State Fault Refusal :=
  let s := forAll found.2 State.upset s0
  if !s.memOn k then .next s
  else
    let w := s.mem.scrub[k] % memWords k
    let s1 : State := { s with mem := { s.mem with scrub := s.mem.scrub.set k ((w + 1) % memWords k) } }
    .next ((if k.val = 2 then s1.granTouch else s1).eccReport.eccRead k w found.1 written)

end Sys2Proof.Machine
end

