-- ==== Sys2Proof/Machine/Bus.lean ====
section
/-! DEFINITION. Register reads and writes of every page, the BAR2 load window and the HSPI port (R91, R94, R96, R131 to R152, R384,
R425 to R427, R442, R510). -/

namespace Sys2Proof.Machine

/-! ## What a write does to the words of a page -/

/-- A FLAGS word of a block with the bits written as 1 cleared. -/
def w1c (old w : Word) : Word := old &&& ~~~w

/-- A write of a word of W1C fields; the blocks whose flags clear under a condition have an operation of their own (R133). Clearing
PLAN_MISMATCH of an axis ends the HALT that it stands for (R173, R182; DESIGN CHOICE, log 43). -/
def State.w1cWrite (p : PageId) (o : Nat) (w : Word) (s : State) : State :=
  match p with
  | .dev =>
    if o = 0x050 then { s with lost := w1c s.lost w }
    else { s with din := Vector.ofFn (fun (n : Fin 48) =>
        let d := s.din[n]
        if (o = 0x108 && n.val < 32 && bit w n.val) || (o = 0x10C && 32 ≤ n.val && bit w (n.val - 32)) then { d with chg := false } else d) }
  | .tb => if bit w 1 then { s with slept := false } else s
  | .pwr => { s with pwr := { s.pwr with latch := w1c s.pwr.latch w } }
  | .clk => s.modClk (fun c => { c with fail := w1c c.fail w })
  | .rst => { s with rst := { s.rst with jctCause := w1c s.rst.jctCause w } }
  | .hif => { s with mc := { s.mc with wakeCause := w1c s.mc.wakeCause w } }
  | .evq q => s.modEvq q (fun x => { x with flags := w1c x.flags w })
  | .ax a =>
    let s1 := s.modAx a (fun x => { x with flags := w1c x.flags w })
    if bit w 8 then s1.unhalt a .planMismatch else s1
  | .drv a => s.drvFlagsWrite a w
  | .fb a => s.fbFlagsWrite (fbOf a) w
  | .fbx n => s.fbFlagsWrite ⟨12 + n.val, by omega⟩ w
  | .gear a => s.modGear a (fun g => { g with flags := w1c g.flags w })
  | .cam c => s.modCam c (fun g => { g with flags := w1c g.flags w })
  | .ptl n => s.ptlFlagsWrite n w
  | .side d => s.sideFlagsWrite d w
  | .safe =>
    if o = 0x084 then { s with safe := { s.safe with divPermit := w1c s.safe.divPermit w } }
    else { s with safe := { s.safe with divSin := w1c s.safe.divSin w } }
  | .lswg => { s with lswg := { s.lswg with flags := w1c s.lswg.flags w } }
  | .lsw c => s.lswFlagsWrite c w
  | .can n => s.modCan n (fun c => { c with flags := w1c c.flags w })
  | .prg => s.modPrg (fun x => { x with flags := w1c x.flags w })
  | .stn i => s.modStn i (fun x => { x with flags := w1c x.flags w })
  | .recd => s.modRec (fun r => { r with flags := w1c r.flags w })
  | .stat => { s with stat := { s.stat with cleared := s.stat.cleared && !bit w 0 } }
  | .pair => { s with pair := { s.pair with flags := w1c s.pair.flags w } }
  | .sec => s.modSec (fun x => { x with flags := w1c x.flags w })
  | .dbg => s

/-- The word stored where a field clamps what is written (R134): SNAP_LEAD, TH_LIM, WAKE_CFG.FILT, LINK_CTL.MAX_SPEED. -/
def clampWord (p : PageId) (o : Nat) (w : Word) : Word :=
  match p with
  | .clk => if o = 0x058 then mkWord [(0, 5, clampN 1 16 (fld w 0 5))] else w
  | .pwr => if o = 0x078 then mkWord [(0, 8, clampN 100 146 (fld w 0 8))] else w
  | .hif =>
    if o = 0x114 then mkWord [(0, 4, fld w 0 4), (8, 8, max 1 (fld w 8 8))]
    else if o = 0x050 then mkWord [(0, 2, if fld w 0 2 = 0 then 3 else fld w 0 2)]
    else w
  | .dev | .rst | .tb | .evq _ | .ax _ | .drv _ | .fb _ | .fbx _ | .gear _ | .cam _ | .ptl _ | .side _ | .safe | .lswg | .lsw _
  | .can _ | .prg | .stn _ | .recd | .stat | .pair | .sec | .dbg => w

/-- The RW bits of a word: XCVR.MODE is there on CAN0 and CAN1 alone (Table 15-5). -/
def rwBits (p : PageId) (r : Reg) : Word :=
  match p with
  | .can n => if r.off = 0x050 && 2 ≤ n.val then 0 else BitVec.ofNat 32 r.rw
  | .dev | .clk | .pwr | .rst | .tb | .hif | .evq _ | .ax _ | .drv _ | .fb _ | .fbx _ | .gear _ | .cam _ | .ptl _ | .side _ | .safe
  | .lswg | .lsw _ | .prg | .stn _ | .recd | .stat | .pair | .sec | .dbg => BitVec.ofNat 32 r.rw

/-- RW fields take what is written. -/
def State.rwWrite (p : PageId) (r : Reg) (o : Nat) (w : Word) (s : State) : State :=
  let m := rwBits p r
  if m = 0 then s else s.setCom p o ((s.com p o &&& ~~~m) ||| (clampWord p o w &&& m))

/-- RWS fields take a staged value, and the bits of their groups are set (R140). -/
def State.rwsWrite (p : PageId) (r : Reg) (o : Nat) (w : Word) (s : State) : State :=
  let m : Word := r.rws.foldl (fun a e => a ||| BitVec.ofNat 32 e.2) 0
  s.modPg p (fun g => { g with
    stg := g.stg.put o ((s.staged p o &&& ~~~m) ||| (w &&& m))
    stage := r.rws.foldl (fun a e => setBit a e.1) g.stage })

/-- A PCI Express vector whose mask bit is cleared sends the message that waits (R423). -/
def State.msixWrite (o : Nat) (s : State) : State :=
  let v := (o - 0x800) / 16
  if o % 16 = 12 && bit s.hif.pba v && !bit (s.com .hif o) 0 then
    { s with hif := { s.hif with pba := clrBit s.hif.pba v } }.vector v
  else s

/-- The state after a write that is an operation of the block: of a WO command, or of an RW field that the block acts on. PRG.LOAD_OFS is
refused on the whole word: its field of 11 bits cannot hold a value above 2,047, of which R384 speaks (DESIGN CHOICE, log 83). None for a
plain word. -/
def State.blockWrite (p : PageId) (o : Nat) (w : Word) (s : State) : Option State :=
  match p with
  | .clk => if o = 0x04C then some (s.snapAll w) else none
  | .pwr =>
    if o = 0x044 then some (s.keepOffWrite w)
    else if o = 0x050 then some (s.modPwr (fun x => { x with vlogMin := 0xFFFF }))
    else none
  | .rst => if o = 0x050 then some (s.rstReqWrite w) else none
  | .hif =>
    if o = 0x040 then some (s.offerWrite w)
    else if o = 0x104 then some (s.modeReqWrite w)
    else if 0x800 ≤ o then some ((s.setCom .hif o w).msixWrite o)
    else none
  | .evq q => if o = 0x060 then some (s.evqHeadWrite q (fld w 0 16)) else none
  | .ax a => if o = 0x040 then some (s.moveCtl .host a w) else none
  | .fb a => if o = 0x040 then some (s.presetWrite (fbOf a) w) else none
  | .fbx n => if o = 0x040 then some (s.presetWrite ⟨12 + n.val, by omega⟩ w) else none
  | .gear a => if o = 0x040 then some (s.engineCtl .host a.val w) else none
  | .cam c => if o = 0x040 then some (s.engineCtl .host (16 + c.val) w) else none
  | .ptl n => if o = 0x040 then some (s.ptlReqWrite n w) else none
  | .side d => if o = 0x040 then some (s.sideReqWrite d w) else none
  | .lswg => if o = 0x040 then some ((s.setCom .lswg o (w &&& 0x11F)).selectSense) else none
  | .lsw c =>
    if o = 0x040 then some (s.lswCmdWrite .host c w)
    else if o = 0x044 then some (s.lswDutyWrite .host c w)
    else if o = 0x054 then some ((s.setCom (.lsw c) o (w &&& 1)).olWrite c w)
    else none
  | .can n =>
    if o = 0x050 then some (if n.val < 2 then s.canXcvr n w else s)
    else if o = 0x054 then some (s.canCtl n w)
    else none
  | .prg =>
    if o = 0x040 then some (s.prgCtl w)
    else if o = 0x044 then some (s.prgLoadCtl w)
    else if o = 0x0A0 then some (if 2047 < w.toNat then s.err .prg 0x07 0 o else s.setCom .prg o w)
    else if 0x800 ≤ o then some (s.loadWrite (s.cf .prg 0x0A0 0 11 * 2048 + (o - 0x800)) (leBytes 4 w.toNat))
    else none
  | .recd =>
    if o = 0x040 then some (s.recCtl w)
    else if o = 0x088 then some (if 767 < fld w 16 10 then s.err .recd 0x07 0 o else s.setCom .recd o (w &&& 0x3FF0000))
    else if 0x400 ≤ o then some (s.modRec (fun r => { r with token := r.token.put (o - 0x400) w }))
    else none
  | .pair => if o = 0x040 then some (s.pairCtl w) else none
  | .sec =>
    if o = 0x040 then some (s.secCtl w)
    else if o = 0x044 then some (s.secLoadCtl w)
    else if 0x300 ≤ o && decide (o < 0x600) then some (s.modSec (fun x => { x with token := x.token.put (o - 0x300) w }))
    else none
  | .dev | .tb | .drv _ | .safe | .stn _ | .stat | .dbg => none

/-- A write of a block word, from item 7 of R510 on: RO_WRITE, COMMIT_BUSY with the lowest group of the word (R139; log 70), then each
field by its access code (R133). -/
def State.wordWrite (p : PageId) (o : Nat) (w : Word) (s : State) : State :=
  match regAt p o with
  | none => s
  | some r =>
    if r.rw = 0 && r.wo = 0 && r.w1c = 0 && r.rws = [] then s.err p 0x03 0 o
    else if r.rws ≠ [] && (s.pg p).commitDue.isSome then s.err p 0x20 (r.rws.foldl (fun a e => min a e.1) 31) o
    else match s.blockWrite p o w with
      | some t => t
      | none =>
        let s1 := s.rwWrite p r o w
        let s2 := if r.rws = [] then s1 else s1.rwsWrite p r o w
        if r.w1c = 0 then s2 else s2.w1cWrite p o (w &&& BitVec.ofNat 32 r.w1c)

/-! ## The common header (R137, R145) -/

/-- The code with which a write of PG_CTL is refused: the owning chapter's rules on EN, then those on a block reset. -/
def State.ctlRefusal (s : State) (p : PageId) (w : Word) : Option Nat :=
  let en := match p with
    | .ax a => if (s.pg p).en && !bit w 0 && !(s.atRest a || s.ax[a].st = .follow) then some 0x07 else none
    | .evq q => if bit w 0 && !s.evq[q].running && (bit (s.pg p).stage 0 || !s.evq[q].configured) then some 0x40 else none
    | .dev | .clk | .pwr | .rst | .tb | .hif | .drv _ | .fb _ | .fbx _ | .gear _ | .cam _ | .ptl _ | .side _ | .safe | .lswg | .lsw _
    | .can _ | .prg | .stn _ | .recd | .stat | .pair | .sec | .dbg => none
  match en with
  | some c => some c
  | none => if bit w 1 then s.resetRefused p else none

/-- PG_CTL.EN of a page whose PG_CAP.ENABLE is 1. An axis at rest that is disabled has zero setpoints from now on (R186), and moves that wait
are dropped (DESIGN CHOICE, log 72). -/
def State.enWrite (p : PageId) (on : Bool) (s : State) : State :=
  match p with
  | .ax a =>
    let s1 := s.modPg p (fun g => { g with en := on })
    if !on && (s.pg p).en && s.atRest a then s1.axEmpty a else s1
  | .evq q => s.evqEnable q on
  | .can n => if (s.pg p).en = on then s else s.canEnable n on
  | .dev | .clk | .pwr | .rst | .tb | .hif | .drv _ | .fb _ | .fbx _ | .gear _ | .cam _ | .ptl _ | .side _ | .safe | .lswg | .lsw _
  | .prg | .stn _ | .recd | .stat | .pair | .sec | .dbg => s

/-- A write of PG_CTL: each field by itself, nothing where the write is refused. -/
def State.ctlWrite (p : PageId) (w : Word) (s : State) : State :=
  match s.ctlRefusal p w with
  | some c => s.err p c 0 0x00C
  | none =>
    let s1 := if bit w 2 then s.stageClr p else s
    let s2 := (s1.modPg p (fun g => { g with view := bit w 4 })).enWrite p (bit w 0)
    let s3 := if bit w 3 then s2.lockPage p else s2
    if bit w 1 then s3.blockReset p else s3

/-- A write of a header word, from item 7 of R510 on. The reserved words 0x034 to 0x03C count as words whose fields are all RO (DESIGN
CHOICE, log 66). -/
def State.headWrite (p : PageId) (o : Nat) (w : Word) (s : State) : State :=
  if o = 0x00C then s.ctlWrite p w
  else if o = 0x014 then
    s.modPg p (fun g => { g with irq := w1c g.irq w, errCount := if bit w 0 then 0 else g.errCount })
  else if o = 0x018 then s.modPg p (fun g => { g with ien := w })
  else if o = 0x01C then s.irq p (w &&& irqBits)
  else if o = 0x020 then s.commitWrite p w
  else if o = 0x030 then s.snapWrite p w
  else s.err p 0x03 0 o

/-- A write to a locked page is accepted all the same (R145): the header words it leaves writable, words without an RW, RWS or WO
field, and the operational commands, their parameters and the doorbells. -/
def State.lockExempt (s : State) (p : PageId) (o : Nat) (w : Word) : Bool :=
  if o = 0x00C then
    (!pageEnable p || bit w 0 = (s.pg p).en) && bit w 4 = (s.pg p).view && !bit w 1 && !bit w 2
  else if o < 0x040 then o ≠ 0x020
  else match regAt p o with
    | none => true
    | some r =>
      (r.rw = 0 && r.wo = 0 && r.rws = []) ||
      (match p with
       | .ax _ => decide (o ≤ 0x054)
       | .fb _ => decide (o ≤ 0x048)
       | .fbx _ => decide (o ≤ 0x048)
       | .gear _ => o = 0x040
       | .cam _ => o = 0x040
       | .ptl _ => o = 0x040 && 1 ≤ fld w 0 4 && decide (fld w 0 4 ≤ 4)
       | .side _ => o = 0x040
       | .lsw _ => o = 0x040 || o = 0x044
       | .can _ => (o = 0x054 && canCtlFree w) || 0x200 ≤ o
       | .evq _ => o = 0x060
       | .recd => (o = 0x040 && 1 ≤ fld w 0 4 && decide (fld w 0 4 ≤ 3)) || o = 0x044 || 0x200 ≤ o
       | .sec => (o = 0x040 && secExempt w) || (0x0E0 ≤ o && decide (o < 0x100)) || 0x300 ≤ o
       | .clk => o = 0x04C
       | .pwr => o = 0x050
       | .dev | .rst | .tb | .hif | .drv _ | .safe | .lswg | .prg | .stn _ | .stat | .pair | .dbg => false)

/-- What a write to a page does once the bus has let it through. -/
def State.pageEffect (p : PageId) (o : Nat) (w : Word) (s : State) : State :=
  if o < 0x040 then s.headWrite p o w else s.wordWrite p o w

/-- A 32-bit aligned write to a page. -/
def State.pageWrite (p : PageId) (o : Nat) (w : Word) (s : State) : State :=
  s.gated p o w (s.lockExempt p o w) (State.pageEffect p o w)

/-! ## The write queue (R92, R96) -/

/-- The first write that waits takes effect, judged now by items 6 to 10 of R510; one that resets the block discards those behind it
(R97, R102). -/
def State.drainOne (p : PageId) (s : State) : State :=
  match (s.pg p).queue with
  | [] => s
  | e :: l =>
    (s.modPg p (fun g => { g with queue := l })).unlessLocked p e.1 (s.lockExempt p e.1 e.2) (State.pageEffect p e.1 e.2)

/-- The first `n` writes that wait take effect, in order. -/
def State.drain (p : PageId) (n : Nat) (s : State) : State :=
  forAll (List.replicate n ()) (fun _ t => t.drainOne p) s

/-- No access keeps the APP clock running (R83; log 71). -/
def State.appIdle (s : State) : State := s.modClk (fun c => { c with run := clrBit c.run 2 })

/-- WRITE_QUEUE_DRAIN (R96): the home clock runs again, and the page's queued writes take effect in order, each judged now (R510). For DBG
the command is the debugger's clocking of TCK, which runs at that instant (log 71). -/
def execWriteQueueDrain (p : PageId) (s : State) : Host.Outcome State Fault Refusal :=
  if !s.domOn (pageDom p) || (s.clkStopped p && p ≠ .dbg) then .next s
  else
    let t := (if p = .dbg then s.modClk (fun c => { c with tckAt := some s.tb }) else s).drain p (s.pg p).queue.length
    .next (if pageClk p = 2 then t.appIdle else t)

/-! ## Writes by address (R132, R135) -/

/-- The page whose PG_ERR takes an error of an access to BAR0 address `a` before the page is reached: DEV where no page lies there, of
which R132 does not speak (DESIGN CHOICE, log 83). -/
def errPage (a : Nat) : PageId := (pageAt (a / 4096 % 256)).getD .dev

/-- A write of one word at a BAR0 address. -/
def State.addrWrite (a : Nat) (w : Word) (s : State) : State :=
  match pageAt (a / 4096 % 256) with
  | some p => s.pageWrite p (a % 4096) w
  | none => if s.busAlive then s.err .dev 0x01 (a / 4096 % 256) (a % 4096) else s

/-- A write of `size` bytes at a BAR0 address: one word, two words in ascending order, or WIDTH (R132), which an access of more than 64 bits
reports too (DESIGN CHOICE, log 83). -/
def State.busWrite (a size data : Nat) (s : State) : State :=
  if a % 4 = 0 && size = 4 then s.addrWrite a (lo32 data)
  else if a % 4 = 0 && size = 8 then (s.addrWrite a (lo32 data)).addrWrite (a + 4) (hi32 data)
  else if s.busAlive then s.err (errPage a) 0x02 0 (a % 4096)
  else s

/-- REGISTER_WRITE (R133). -/
def execRegisterWrite (a size data : Nat) (s : State) : Host.Outcome State Fault Refusal := .next (s.busWrite a size data)

/-! ## The BAR2 windows (R148 to R150, R384, R456, R460) -/

/-- A write of bytes to offset `off` of the image load window. With FW_INVALID the boot ROM loader takes it into the non-active firmware
copy, whatever contract is agreed (R116, R149). -/
def State.windowWrite (off : Nat) (data : List Byte) (s : State) : State :=
  if !s.domOn 1 then s
  else if s.loaderOnly then
    if s.noGranary then s else s.granWrite (fwBase (1 - s.sec.fwCopy) + off) (data.take (0x100000 - off))
  else if s.hif.agree < 2 then s.err s.loadPage 0x06 0 0
  else s.loadWrite off data

/-- The page that owns the BAR2 window at an offset; none for the reserved window (Table 06-6). -/
def State.bar2Page (s : State) (off : Nat) : Option PageId :=
  if off < 0x400000 then some s.loadPage else if off < 0xC00000 then some .recd else if off < 0xE00000 then some .stat else none

/-- The error that a read of a BAR2 window meets: an agreed contract below v2, or the recorder without Granary (R119, R148). -/
def State.bar2Err (s : State) (p : PageId) : Option Nat :=
  if s.hif.agree < 2 then some 0x06 else if p = .recd && s.noGranary then some 0x11 else none

/-- IMAGE_LOAD_WRITE (R150): a write through BAR2, of any size. A write to a window that only reads does nothing; the recorder and the
statistics window report RO_WRITE (R133, R148; log 73), the reserved window and every window served beside the boot ROM loader's nothing
(R149). -/
def execImageLoadWrite (off : Nat) (data : List Byte) (s : State) : Host.Outcome State Fault Refusal :=
  let o := off % 0x1000000
  if o < 0x400000 then .next (s.windowWrite o data)
  else if !s.busAlive then .next s
  else match s.bar2Page o with
    | none => .next s
    | some p => .next (s.err p (if s.hif.agree < 2 then 0x06 else 0x03) 0 0)

/-- A write to the PRG load view at `y`, as the loader serves it or as the page does (R384). -/
def State.viewWrite (y : Nat) (w : Word) (s : State) : State :=
  if s.loaderOnly then s.windowWrite (s.cf .prg 0x0A0 0 11 * 2048 + y) (leBytes 4 w.toNat) else s.pageWrite .prg (0x800 + y) w

/-- LOAD_VIEW_WRITE (R384): word `k` of the view. -/
def execLoadViewWrite (k : Fin 512) (w : Word) (s : State) : Host.Outcome State Fault Refusal := .next (s.viewWrite (4 * k.val) w)

/-! ## Reads (R90, R91, R94, R132, R135) -/

/-- PG_STA.BLOCK, in place: the block's status as presented, on a mirrored page by the mirror. It is a header field and no block status
field, so SNAP does not hold it (DESIGN CHOICE, log 64). -/
def State.staBlock (s : State) (p : PageId) : Word :=
  let f (o lo n : Nat) : Nat := fld (s.presented p o) lo n
  match p with
  | .ax _ => mkWord [(8, 3, f 0x0A0 0 3)]
  | .drv _ => mkWord [(8, 3, f 0x080 0 3), (11, 2, f 0x080 8 2)]
  | .fb _ | .fbx _ => mkWord [(8, 1, f 0x080 1 1), (9, 1, f 0x080 0 1)]
  | .gear _ => mkWord [(8, 3, f 0x080 0 3)]
  | .cam c => mkWord [(8, 1, b2n s.cam[c].engaged)]
  | .ptl n => mkWord [(8, 4, s.ptl[n].st.code)]
  | .safe => mkWord [(8, 1, f 0x078 17 1), (9, 1, f 0x080 5 1)]
  | .lswg => mkWord [(8, 3, f 0x044 0 3)]
  | .lsw _ => mkWord [(8, 2, f 0x060 0 2), (10, 1, f 0x060 3 1)]
  | .can n => mkWord [(8, 2, s.can[n].fc.code)]
  | .prg => mkWord [(8, 3, f 0x04C 0 3)]
  | .stn _ => mkWord [(8, 3, f 0x040 0 3)]
  | .evq _ => mkWord [(8, 3, f 0x068 0 3)]
  | .recd => mkWord [(8, 1, b2n s.recd.full)]
  | .stat => mkWord [(8, 1, b2n s.widthPend)]
  | .pair => mkWord [(8, 2, s.pair.link.code), (10, 1, b2n s.pair.actO)]
  | .sec => mkWord [(8, 3, f 0x04C 8 3)]
  | .dev | .clk | .pwr | .rst | .tb | .hif | .side _ | .dbg => 0

/-- A header word (Table 06-2). -/
def State.headWord (s : State) (p : PageId) (o : Nat) : Word :=
  let g := s.pg p
  if o = 0x000 then mkWord [(0, 8, (pageDie p).val), (8, 8, pageInst p), (16, 16, pageType p)]
  else if o = 0x004 then mkWord [(0, 16, Config.build (pageType p)), (24, 8, 3)]
  else if o = 0x008 then
    mkWord [(0, 1, b2n (decide (pageGroups p ≠ 0))), (1, 1, b2n (pageMirrored p)), (2, 1, b2n (pageLockable p)),
            (3, 1, b2n (pageEnable p)), (6, 6, pageGroups p), (12, 4, pageClk p), (16, 16, pageCapBlock p)]
  else if o = 0x00C then mkWord [(0, 1, b2n (g.en || !pageEnable p)), (3, 1, b2n g.lock), (4, 1, b2n g.view)]
  else if o = 0x010 then
    s.staBlock p ||| mkWord [(0, 1, b2n g.rstPend), (1, 1, b2n g.commitDue.isSome), (2, 1, b2n g.snapHeld), (3, 1, b2n (s.clkStopped p)),
                             (4, 1, b2n g.lock)]
  else if o = 0x014 then g.irq
  else if o = 0x018 then g.ien
  else if o = 0x024 then g.stage
  else if o = 0x028 then g.seq
  else if o = 0x02C then mkWord [(2, 10, g.errOff), (12, 4, g.errCount), (16, 8, g.errDetail), (24, 8, g.errCode)]
  else if o = 0x030 then mkWord [(0, 1, b2n g.snapDue.isSome)]
  else 0

/-- RW fields that the block keeps in its own state, shown by its status words: VLOG_MIN, HEAD, CMD.STATE, DUTY and LOAD_CTL. -/
def liveWord (p : PageId) (o : Nat) : Bool :=
  match p with
  | .pwr => o = 0x050
  | .evq _ => o = 0x060
  | .lsw _ => o = 0x040 || o = 0x044
  | .prg => o = 0x044
  | .sec => o = 0x044
  | .dev | .clk | .rst | .tb | .hif | .ax _ | .drv _ | .fb _ | .fbx _ | .gear _ | .cam _ | .ptl _ | .side _ | .safe | .lswg | .can _
  | .stn _ | .recd | .stat | .pair | .dbg => false

/-- A block word by the access codes of its fields: the committed words of RW fields, staged or committed words of RWS fields, 0 for WO
fields, and status as presented, or as captured while SNAP values are held (R94). -/
def State.blockWord (s : State) (p : PageId) (o : Nat) : Word :=
  match regAt p o with
  | none => 0
  | some r =>
    if liveWord p o then s.statusWord p o
    else
      let g := s.pg p
      let rw := BitVec.ofNat 32 r.rw
      let rws : Word := r.rws.foldl (fun a e => a ||| BitVec.ofNat 32 e.2) 0
      let st := if g.snapHeld then (g.snap.get? o).getD (s.presented p o) else s.presented p o
      (s.com p o &&& rw) ||| ((if g.view then s.com p o else s.staged p o) &&& rws)
        ||| (st &&& ~~~(rw ||| rws ||| BitVec.ofNat 32 r.wo))

/-- The further words of a field wider than 32 bits, by its lowest word (R91). -/
def wideOf (p : PageId) (o : Nat) : List Nat :=
  let next (l : List Nat) : List Nat := if l.contains o then [o + 4] else []
  let run (a n : Nat) : List Nat := if o = a then (List.range n).map (fun k => a + 4 * (k + 1)) else []
  match p with
  | .dev => next [0x044, 0x100, 0x108]
  | .clk => next [0x050]
  | .tb => next [0x040, 0x050]
  | .hif => next [0x124]
  | .evq _ => next [0x040, 0x050, 0x074, 0x07C]
  | .ax _ => next [0x044, 0x080, 0x088, 0x0A8, 0x0B4]
  | .fb _ => next [0x044, 0x070, 0x088, 0x090, 0x098, 0x0A4] ++ run 0x0C0 2 ++ run 0x0CC 2 ++ run 0x0D8 2 ++ run 0x0E4 2
  | .fbx _ => next [0x044, 0x088, 0x090, 0x098, 0x0A4] ++ run 0x0C0 2 ++ run 0x0CC 2 ++ run 0x0D8 2 ++ run 0x0E4 2
  | .gear _ => next [0x054, 0x088, 0x090, 0x098, 0x0A0, 0x0A8]
  | .cam _ => next [0x048, 0x088, 0x090]
  | .ptl _ => next [0x050, 0x080, 0x088, 0x090, 0x098, 0x0A0, 0x0A8]
  | .side _ => next [0x050]
  | .prg => next [0x064, 0x070, 0x07C]
  | .stn _ => next [0x05C, 0x068]
  | .recd => next [0x060, 0x068, 0x080, 0x090] ++ run 0x0A0 7
  | .stat => next [0x050, 0x058]
  | .pair => next [0x05C, 0x064]
  | .can _ => next [0x108, 0x114] ++ run 0x110 2
  | .sec => run 0x080 15 ++ run 0x0C0 7 ++ run 0x0E0 7
  | .pwr | .rst | .drv _ | .safe | .lswg | .lsw _ | .dbg => []

/-- Granary byte address that a host read of a page's window touches (R456, R460). -/
def State.granRead (s : State) (p : PageId) (o : Nat) : Option Nat :=
  if o < 0x800 then none
  else match p with
    | .recd => some ((s.cf .recd 0x08C 0 26 + (o - 0x800)) % recSize)
    | .stat => some (statBase + s.cf .stat 0x064 0 21 + (o - 0x800))
    | .dev | .clk | .pwr | .rst | .tb | .hif | .evq _ | .ax _ | .drv _ | .fb _ | .fbx _ | .gear _ | .cam _ | .ptl _ | .side _ | .safe
    | .lswg | .lsw _ | .can _ | .prg | .stn _ | .pair | .sec | .dbg => none

/-- The word lies in a Granary word with an uncorrectable error, whose data is not delivered (R33). -/
def State.badRead (s : State) (p : PageId) (o : Nat) : Bool :=
  match s.granRead p o with
  | some a => !s.noGranary && s.mem.torn.contains (2, a / 32)
  | none => false

/-- The next read of a captured word ends its capture; any other read captures the further words of a wide field whose lowest word it
reads (R91). -/
def State.capture (p : PageId) (o : Nat) (s : State) : State :=
  s.modPg p (fun g => { g with
    cap := if (g.cap.get? o).isSome then g.cap.del o else (wideOf p o).foldl (fun c k => c.put k (s.blockWord p k)) g.cap })

/-- What a read leaves behind: captures, the read of a word of the receive window (R409), an access to Granary (R84). -/
def State.readEffect (p : PageId) (o : Nat) (s : State) : State :=
  let s0 := s.capture p o
  let s1 := match s.granRead p o with | some a => s0.granUse a 4 | none => s0
  match p with
  | .can n => if 0x100 ≤ o && decide (o < 0x160) then s1.windowRead n ((o - 0x100) / 4) else s1
  | .dev | .clk | .pwr | .rst | .tb | .hif | .evq _ | .ax _ | .drv _ | .fb _ | .fbx _ | .gear _ | .cam _ | .ptl _ | .side _ | .safe
  | .lswg | .lsw _ | .prg | .stn _ | .recd | .stat | .pair | .sec | .dbg => s1

/-- The answer of a page's home domain to a read: the word, and the state after it. -/
def State.pageAnswer (p : PageId) (o : Nat) (s : State) : Word × State :=
  if s.dbgClosed p then (0, s.err .dbg 0x05 0 o)
  else if o < 0x040 then (s.headWord p o, s)
  else if p = .recd && 0x800 ≤ o && s.noGranary then (0, s.err .recd 0x11 0 o)
  else if s.badRead p o then (0, (s.granUse ((s.granRead p o).getD 0) 4).err p 0x16 0 o)
  else (((s.pg p).cap.get? o).getD (s.blockWord p o), s.readEffect p o)

/-- The writes to a page that came before a read of it take effect first, unless its clock is stopped (R92, R96). -/
def State.settled (p : PageId) (s : State) : State := if s.clkStopped p then s else s.drain p (s.pg p).queue.length

/-- A 32-bit aligned read of a page: the word, and the state after it. It demands an on-demand clock, and does not wait for it (R84, R96). -/
def State.pageRead (p : PageId) (o : Nat) (s : State) : Word × State :=
  if !s.busAlive then (0, s)
  else match s.readErr p o with
  | some (q, code, detail) => (0, s.err q code detail o)
  | none =>
    let r := (s.settled p).pageAnswer p o
    (r.1, r.2.clkDemand p)

/-- A read of a word at a BAR0 address (R135). -/
def State.addrRead (a : Nat) (s : State) : Word × State :=
  match pageAt (a / 4096 % 256) with
  | some p => s.pageRead p (a % 4096)
  | none => (0, if s.busAlive then s.err .dev 0x01 (a / 4096 % 256) (a % 4096) else s)

/-- A word has been read and goes out. -/
def State.readOut (r : Word × State) : State := { r.2 with hspi := { r.2.hspi with rdata := r.2.hspi.rdata ++ [r.1] } }

/-- A new read begins: nothing has been shifted out. -/
def State.readBegin (s : State) : State := { s with hspi := { s.hspi with rdata := [] } }

/-- A read of `size` bytes at a BAR0 address: one word, two words in ascending order, or 0 and WIDTH (R132). -/
def State.busRead (a size : Nat) (s : State) : State :=
  if a % 4 = 0 && size = 4 then State.readOut (s.addrRead a)
  else if a % 4 = 0 && size = 8 then State.readOut ((State.readOut (s.addrRead a)).addrRead (a + 4))
  else State.readOut (0, if s.busAlive then s.err (errPage a) 0x02 0 (a % 4096) else s)

/-- Logical Granary address of offset `off` of the recorder or the statistics window (R456, R460). -/
def State.bar2Addr (s : State) (off : Nat) : Nat :=
  if off < 0xC00000 then (s.cf .recd 0x088 0 26 + (off - 0x400000)) % recSize else statBase + (off - 0xC00000)

/-- The byte at an offset of BAR2 as a read delivers it: 0 in the load and the reserved window, without Granary, and in a word with an
uncorrectable error (R33, R148). -/
def State.bar2Byte (s : State) (off : Nat) : Byte :=
  if off < 0x400000 || 0xE00000 ≤ off || s.noGranary || s.mem.torn.contains (2, s.bar2Addr off / 32) then 0
  else s.mem.granary.read (s.bar2Addr off)

/-- Bytes go out as words, the last one padded with zeros. -/
def outWords : List Byte → Nat → List Word
  | _, 0 => []
  | l, n + 1 => lo32 (leNat (l.take 4)) :: outWords (l.drop 4) n

/-- A read of `size` bytes delivers some, and zeros for those missing. -/
def State.bytesOut (size : Nat) (l : List Byte) (s : State) : State :=
  { s with hspi := { s.hspi with rdata := outWords l (ceilDiv size 4) } }

/-- A read of Granary through BAR2 that page `p` owns: it keeps the NVM clock running, and reports an uncorrectable word (R33, R84). -/
def State.bar2Fetch (p : PageId) (a size : Nat) (s : State) : State :=
  if s.noGranary then s
  else
    let t := s.granUse a size
    if s.mem.tornIn 2 a size = [] then t else t.err p 0x16 0 0

/-- A read of `size` bytes at offset `off` of BAR2 (R148, R149): errors go to the page that owns the window. -/
def State.bar2Read (off size : Nat) (s : State) : State :=
  if !s.busAlive then s.bytesOut size []
  else match s.bar2Page off with
  | none => s.bytesOut size []
  | some p =>
    match s.bar2Err p with
    | some code => (s.err p code 0 0).bytesOut size []
    | none =>
      let l := (List.range size).map (fun i => s.bar2Byte (off + i))
      (if off < 0x400000 then s else s.bar2Fetch p (s.bar2Addr off) size).bytesOut size l

/-- WIDE_FIELD_READ (R91): a read over PCI Express of `size` bytes at an address of BAR0, of the lowest word of a wide field or of anything
else, or of BAR2. -/
def execWideFieldRead (a : BarAddr) (size : Nat) (s : State) : Host.Outcome State Fault Refusal :=
  .next (match a with
    | .bar0 a => s.readBegin.busRead a size
    | .bar2 a => s.readBegin.bar2Read (a % 0x1000000) size)

/-- RX_WINDOW_READ (R409): host software reads a word of the receive window; in lock mode the read locks it, or releases it and advances
the reader. -/
def execRxWindowRead (n : Fin 4) (w : Fin 24) (s : State) : Host.Outcome State Fault Refusal :=
  .next (State.readOut (s.readBegin.pageRead (.can n) (0x100 + 4 * w.val)))

/-! ## HSPI (R151, R152, R425, R427, R442) -/

/-- The address of the next word of a burst: past 0x1FFF it continues at 0x1000 (R152). -/
def hspiNext (a : Nat) : Nat := if 0x1FFC ≤ a && decide (a < 0x2000) then a - 0xFFC else (a + 4) % 65536

/-- The selected page, where an HSPI address lies in the page window, otherwise DEV (DESIGN CHOICE, log 83). -/
def State.hspiErrPage (s : State) (a : Nat) : PageId :=
  if 0x1000 ≤ a && decide (a < 0x2000) then errPage (s.hspi.page * 4096) else .dev

/-- A write of a word at an HSPI address, while Junction answers. A written IRQ_THRESH above 64 stores 64, as one of 0 stores 1 (DESIGN
CHOICE, log 67). -/
def State.hspiWord (a : Nat) (w : Word) (s : State) : State :=
  if a % 4 ≠ 0 then s.err (s.hspiErrPage a) 0x02 0 (a % 4096)
  else if a < 0x400 then
    if s.hif.agree ≠ 1 then s.err .dev 0x06 0 a
    else if a = 0x004 then { s with hspi := { s.hspi with sel := fld w 0 3 } }
    else if a = 0x00C then s.flkCmd (fld w 0 4)
    else if a ≤ 0x020 || (0x040 ≤ a && decide (a < 0x050)) then s.err .dev 0x03 0 a
    else s
  else if a = 0x800 then { s with hspi := { s.hspi with page := fld w 0 8 } }
  else if a = 0x804 then
    { s with hspi := { s.hspi with
        evtCfg := mkWord [(0, 1, fld w 0 1), (1, 1, fld w 1 1), (8, 7, clampN 1 64 (fld w 8 7)), (16, 16, fld w 16 16)] } }
  else if a = 0x808 || (0x840 ≤ a && decide (a < 0x860)) then s.err .dev 0x03 0 a
  else if 0x1000 ≤ a && decide (a < 0x2000) then s.addrWrite (s.hspi.page * 4096 + a % 4096) w
  else s.err .dev 0x01 (a / 4096) (a % 4096)

/-- With FW_INVALID the loader serves HSPI_PAGE, LOAD_OFS and the load view, and nothing else (R116, R384). -/
def State.hspiLoader (a : Nat) (w : Word) (s : State) : State :=
  if a = 0x800 then { s with hspi := { s.hspi with page := fld w 0 8 } }
  else if s.hspi.page ≠ pageNo .prg then s
  else if a = 0x10A0 then (if 2047 < w.toNat then s else s.setCom .prg 0x0A0 w)
  else if 0x1800 ≤ a && decide (a < 0x2000) && a % 4 = 0 then s.viewWrite (a - 0x1800) w
  else s

/-- An HSPI write transaction: whole words in ascending order. -/
def State.hspiWrite (a : Nat) (l : List Word) (s : State) : State :=
  if !s.domOn 1 then s
  else (l.foldl (fun (c : Nat × State) w => (hspiNext c.1, if c.2.loaderOnly then c.2.hspiLoader c.1 w else c.2.hspiWord c.1 w))
    (a % 65536, s)).2

/-- Word `k` of the head record is read through HSPI_EVT or FLK_EVT: the record leaves the FIFO with its last word (R442). -/
def State.evtRead (k : Nat) (s : State) : Word × State := (s.hspiEvtWord k, if s.hspiEvtLast = some k then s.hspiPop else s)

/-- A read of a page through HSPI. Its own clock runs meanwhile, and shows so in CLK.RUN (R83). -/
def State.hspiPageRead (p : PageId) (o : Nat) (s : State) : Word × State :=
  let r := s.pageRead p o
  if p = .clk && o = 0x040 && s.busAlive && (s.readErr p o).isNone && !(s.pg .clk).snapHeld then (setBit r.1 8, r.2) else r

/-- A read of a word at an HSPI address: the word, and the state after it. -/
def State.hspiReadWord (a : Nat) (s : State) : Word × State :=
  if s.loaderOnly then (if a = 0x800 then mkWord [(0, 8, s.hspi.page)] else 0, s)
  else if a % 4 ≠ 0 then (0, s.err (s.hspiErrPage a) 0x02 0 (a % 4096))
  else if a < 0x400 then
    if s.hif.agree ≠ 1 then (0, s.err .dev 0x06 0 a)
    else if 0x040 ≤ a && decide (a < 0x050) then s.evtRead ((a - 0x040) / 4)
    else (s.flkWord a, s)
  else if a = 0x800 then (mkWord [(0, 8, s.hspi.page)], s)
  else if a = 0x804 then (putBit s.hspi.evtCfg 0 s.hspiV1, s)
  else if a = 0x808 then (mkWord [(0, 7, s.hspi.fifo.length), (16, 16, s.hspi.lostCount)], s)
  else if 0x840 ≤ a && decide (a < 0x860) then s.evtRead ((a - 0x840) / 4)
  else if 0x1000 ≤ a && decide (a < 0x2000) then
    match pageAt s.hspi.page with
    | some p => s.hspiPageRead p (a % 4096)
    | none => (0, s.err .dev 0x01 s.hspi.page (a % 4096))
  else (0, s)

/-- An HSPI read transaction of `n` words. -/
def State.hspiRead (a n : Nat) (s : State) : State :=
  if !s.domOn 1 then { s.readBegin with hspi := { s.readBegin.hspi with rdata := List.replicate n 0 } }
  else ((List.range n).foldl (fun (c : Nat × State) _ => (hspiNext c.1, State.readOut (c.2.hspiReadWord c.1))) (a % 65536, s.readBegin)).2

/-- A transaction by its opcode (Table 16-1): the words written, or how many are read. An unknown opcode ends it: nothing is read or written,
and UNMAPPED is reported in DEV.PG_ERR, with DETAIL and OFFSET 0, which no rule gives (DESIGN CHOICE, log 83); no command of the table
carries one. -/
def State.hspiTransaction (op a : Nat) (l : List Word) (n : Nat) (s : State) : State :=
  match op with
  | 0x21 | 0x25 => s.hspiWrite a l
  | 0x31 | 0x35 => s.hspiRead a n
  | _ => if s.busAlive then s.err .dev 0x01 0 0 else s

/-- HSPI_WRITE_SINGLE (R425): the words complete when HS_CS_N rises. -/
def execHspiWriteSingle (a : Nat) (l : List Word) (s : State) : Host.Outcome State Fault Refusal := .next (s.hspiTransaction 0x21 a l 0)

/-- HSPI_WRITE_QUAD (R425). -/
def execHspiWriteQuad (a : Nat) (l : List Word) (s : State) : Host.Outcome State Fault Refusal := .next (s.hspiTransaction 0x25 a l 0)

/-- HSPI_READ_SINGLE (R425): the words whose last bit has been shifted out. -/
def execHspiReadSingle (a n : Nat) (s : State) : Host.Outcome State Fault Refusal := .next (s.hspiTransaction 0x31 a [] n)

/-- HSPI_READ_QUAD (R425). -/
def execHspiReadQuad (a n : Nat) (s : State) : Host.Outcome State Fault Refusal := .next (s.hspiTransaction 0x35 a [] n)

end Sys2Proof.Machine
end

