-- ==== Sys2Proof/Machine/Boot.lean ====
section
/-! DEFINITION. Sleep entry, wake, and the boot order with the application of the configuration image (R108 to R118, R380, R491, R497
to R499). -/

namespace Sys2Proof.Machine

/-! ## Wake sources (R108 to R110) -/

/-- An enabled source is recognised: in SLEEP the first one is a wake, which pulls PE_WAKE_N low; during sleep entry it is latched, and
the wake follows; in any other mode it is latched as long as RUN has not been entered (R108 to R110). -/
def State.recognise (k : Nat) (s : State) : State :=
  if !bit (s.com .hif 0x110) k then s
  else
    let m := s.mc
    let latched : ModeCtl := { m with wakeCause := setBit m.wakeCause k }
    if m.busy && m.target = some .sleep then { s with mc := { latched with wakeHeld := true } }
    else match m.mode with
      | .sleep =>
        if m.wakeHeld then { s with mc := latched }
        else { s with mc := { latched with wakeHeld := true, peWake := true, wakeAt := s.tb } }
      | .boot | .config | .run | .degraded | .service | .safeHold | .standby => if m.ran then s else { s with mc := latched }

/-- WAKE_PAD (R108): a WAKE pad has held a level for WAKE_CFG.FILT. -/
def execWakePad (k : Fin 4) (high : Bool) (s : State) : Host.Outcome State Fault Refusal :=
  let t : State := { s with mc := { s.mc with pads := putBit s.mc.pads k.val high } }
  .next (if high = bit (s.com .hif 0x114) k.val then t.recognise k.val else t)

/-- WAKE_CAN (R108): a wake-up pattern on CAN0 or CAN1. -/
def execWakeCan (n : Fin 2) (s : State) : Host.Outcome State Fault Refusal := .next (s.recognise (4 + n.val))

/-- WAKE_TIMER (R108): SLP_TIMER seconds have passed since SLEEP was entered, whether it lasts or not; 0 disables the timer. -/
def execWakeTimer (s : State) : Host.Outcome State Fault Refusal :=
  let n := (s.com .hif 0x11C).toNat
  match s.mc.sleptAt with
  | none => .next s
  | some t => .next (if n = 0 then s else (s.to (t + ms (1000 * n))).recognise 6)

/-- WAKE_SIN (R108): an input has changed state on both contacts for 10 ms. -/
def execWakeSin (n : Fin 32) (s : State) : Host.Outcome State Fault Refusal :=
  .next (if bit (s.com .hif 0x118) n.val then s.recognise 7 else s)

/-- PE_WAKE_TIMEOUT (R109): 1 s after the wake. -/
def execPeWakeTimeout (s : State) : Host.Outcome State Fault Refusal :=
  .next (if s.mc.peWake then
      let t := s.to (s.mc.wakeAt + ms 1000)
      { t with mc := { t.mc with peWake := false } }
    else s)

/-! ## Sleep entry (R112) -/

/-- Every held event takes its SEQ, the first of R27 first. -/
def State.releaseAll : Nat → State → State
  | 0, s => s
  | n + 1, s => match s.firstHeld with | some e => State.releaseAll n (s.releaseOne e) | none => s

/-- Every staged record is written. -/
def State.writeAll : Nat → State → State
  | 0, s => s
  | n + 1, s => State.writeAll n s.recWriteNext

/-- The SLEEP frames of step 3 leave on every bus that carries a station. -/
def State.sendSleep (s : State) : State :=
  let t := s.stnSleep
  forAll ((List.finRange 4).filter (fun n => decide (0 < t.stationsOn n) && t.canSends n)) (fun n u =>
    match u.can[n].fifo.getLast? with | some f => u.post (.canFrame n.val f.w0 f.w1 f.data) | none => u) t

/-- Steps 1 to 4 of Table 05-4a, while Junction is powered. -/
def State.sleepSteps (s : State) : State :=
  let s1 := (s.retDone s.tb).prgSuspend
  let s2 := (s1.ev .hif 0x0601 [b8 s1.mc.mode.code, 0, 4]).statVeh 5 1
  let s3 := s2.releaseAll s2.seq.held.length
  let s4 := s3.ownRec 0x0011 3 (leBytes 4 (s3.com .hif 0x110).toNat)
  ((s4.writeAll s4.recd.stage.length).sendSleep).lswSend 3

/-- SLEEP_ENTRY (R112): the sequence from E, the end of the running cycle, to its end 1.3 ms later: every domain but AON is off, and the
two integrated transceivers detect wake-up patterns. -/
def execSleepEntry (s : State) : Host.Outcome State Fault Refusal :=
  if s.mc.target ≠ some .sleep || !s.mc.busy || s.prg.inCycle || s.prg.waitRet then .next s
  else
    let t := s.sleepSteps.to (s.tb + us 1300)
    let c := t.coldBase
    .next (((({ c with
      mc := { c.mc with
        mode := .sleep, prev := s.mc.mode.code, cause := 4, busy := false, sleptAt := some t.tb, wakeHeld := t.mc.wakeHeld
        peWake := t.mc.wakeHeld, wakeAt := t.tb } } : State).setCom (.can 0) 0x050 2).setCom (.can 1) 0x050 2))

/-! ## Start of the boot (R113 to R115) -/

/-- A link begins to train, unless its die is held absent. -/
def State.trainLink (d : Fin 8) (s : State) : State :=
  s.modLink d (fun l => { l with st := if s.dieAbsent d then .absent else .training })

/-- Steps 1 to 4 of Table 05-4: GAU, GRD, SBX, JCT and GRN are on, PLL0 has locked, and the PCI Express PLL unless PE_PERST_N holds it; the
first links train, and the boot ROM reads Granary. -/
def State.powerUp (s : State) : State :=
  let t : State := { s with
    pwr := { s.pwr with domains := s.pwr.domains ||| 0x31B }
    clk := { s.clk with run := s.clk.run ||| (if s.hif.perst then 0x07B else 0x0FB), lock := s.clk.lock ||| (if s.hif.perst then 5 else 7) } }
  (forAll [1, 2, 6, 7] (fun d u => u.trainLink d) t).granTouch

/-- The boot stops at step 1, 2 or 4 (R116). -/
def State.fwInvalid (s : State) : State := ({ s with boot := { s.boot with fwBad := true } }).toSafeHold 0x10 1

/-- BOOT_START (R113): the reference of Table 05-4, after a wake, a full reset or a power-on; EPOCH rises once AON has lost power (R25,
R114). Guard reads its fuses; where the two copies of a word differ, the boot stops (R491). After a power-on or a full reset MODE_CHANGE
and PREV give BOOT as the old mode, there being no earlier one (DESIGN CHOICE, log 65). -/
def execBootStart (fuseOk : Bool) (s : State) : Host.Outcome State Fault Refusal :=
  let wake := s.mc.mode = .sleep && s.mc.wakeHeld
  if !wake && (s.mc.mode ≠ .boot || s.boot.started) then .next s
  else
    let s0 : State := if s.rst.aonLost then { s with epoch := inc s.epoch 0xFFFF, rst := { s.rst with aonLost := false } } else s
    let s1 : State := if wake then { s0 with rst := { s0.rst with absent := 0 }, mc := { s0.mc with wakeHeld := false } } else s0
    let s2 : State := { s1 with
      boot := { ref := if wake then s.mc.wakeAt else s.tb, started := true }
      sec := { s1.sec with fuseErr := !fuseOk } }
    let s3 := (s2.modeTo .boot (if wake then 2 else 1)).powerUp
    let s4 : State := { s3 with mc := { s3.mc with busy := true } }
    .next (if fuseOk then s4 else s4.fwInvalid)

/-! ## Firmware (R115, R116, R498) -/

/-- Guard can read an image in Granary. -/
def State.imagesReadable (s : State) : Bool := !s.noGranary && !s.dieAbsent 1

/-- Guard boots from the other copy, which becomes the active one (R498). -/
def State.fallBack (s : State) : State :=
  let copy := 1 - s.sec.fwCopy
  ((s.modSec (fun x => { x with fwCopy := copy })).secFlag 5).ev .sec 0xA007 [b8 copy]

/-- Guard has verified the other firmware copy, and raises the outcome of each image (R498, R509). -/
def State.otherVerdict (s : State) : State :=
  if s.imagesReadable then s.copyVerdict 1 (1 - s.sec.fwCopy) else s.guardVerdict 1 (fwBase (1 - s.sec.fwCopy)) 1

/-- The other firmware copy passes. -/
def State.otherCopyOk (s : State) : Bool := s.imagesReadable && s.fwReason (1 - s.sec.fwCopy) = 0

/-- GUARD_FW_VERIFIED (R115): step 2, from the copy that an activation names after a full reset or a power-on (R499). -/
def execGuardFwVerified (s : State) : Host.Outcome State Fault Refusal :=
  if s.mc.mode ≠ .boot || !s.boot.started || s.boot.guardOk || s.boot.fwBad then .next s
  else
    let s1 := if s.sec.fwPend && s.mc.cause ≠ 2 then s.modSec (fun x => { x with fwCopy := 1 - x.fwCopy, fwPend := false }) else s
    let r := if s1.imagesReadable then s1.guardReason s1.sec.fwCopy else 1
    let s2 := s1.guardVerdict 1 (fwBase s1.sec.fwCopy) r
    let ok (t : State) : State := { t with boot := { t.boot with guardOk := true } }
    let s3 := s2.otherVerdict
    .next (if r = 0 then ok s2 else if s2.otherCopyOk then ok s3.fallBack else s3.fwInvalid)

/-- Recording resumes, the statistics region gets its header where it has none, and the BOOT record, 48 bytes long, is the first of the boot
(R452, R460, Table 17-2). -/
def State.recBoot (s : State) : State :=
  let t := s.recResume.statSetup
  let r := t.rst
  let u := t.ownRec 0x0012 6 ([b8 r.cause.toNat, b8 r.jctCause.toNat] ++ leBytes 2 t.epoch ++ leBytes 4 r.fullCount ++ leBytes 4 r.jctCount
    ++ leBytes 2 r.lostEvents ++ [b8 (b2n (bit t.recd.flags 5))] ++ List.replicate 17 0)
  let v := u.statVeh 4 1
  if t.boot.fromJct then v.statVeh 7 1 else v.statVeh 6 (b2n (bit r.cause 1 && t.mc.cause = 1))

/-- Every die is present, held absent, or kept off. -/
def State.diesKnown (s : State) : Bool :=
  (List.finRange 8).all (fun d => d = 0 || bit s.present d.val || s.dieAbsent d
    || (d = 3 && !s.domOn 5) || (d = 4 && !s.domOn 6))

/-- The boot goes from BOOT straight to SAFE_HOLD once it is complete (R118). -/
def Boot.returns (b : Boot) : Bool := b.fromJct && (b.modeAt = .safeHold || b.modeAt = .service)

/-- Both channels have taken their part of step 3, or one of them never will. A Junction reset runs no seal sequence again (R113, R115,
R305). -/
def State.sealDone (s : State) : Bool :=
  (s.safe.sealBoot = 2 && s.safe.sealRun ≠ 1 && s.safe.sealRun ≠ 2) || s.grd.halted || s.sbx.halted || s.dieAbsent 2

/-- Step 6 is complete: CONFIG follows, or SAFE_HOLD where a channel found no good seal word (R115, R116). After a Junction reset taken in
SAFE_HOLD or SERVICE, with the seal good, BOOT lasts until step 8 (R118). BOOT to CONFIG keeps the cause of the boot, for which Table 05-2
gives no code (DESIGN CHOICE, log 77). -/
def State.bootSix (s : State) : State :=
  if s.mc.mode ≠ .boot || !s.boot.jctOk || !s.diesKnown || !s.sealDone then s
  else if !s.grd.sealOk || !s.sbx.sealOk then s.toSafeHold 0x11 1
  else if s.boot.returns then s
  else s.toConfig s.mc.cause

/-- PLA, PLB and SWD are switched on and their links train, unless they have been since the last full reset or wake (R113). -/
def State.powerRest (s : State) : State :=
  if s.boot.sixth then s
  else
    let t : State := { s with
      boot := { s.boot with sixth := true }
      pwr := { s.pwr with domains := s.pwr.domains ||| 0x0E0 }
      clk := { s.clk with run := s.clk.run ||| 0x200 } }
    ((forAll [3, 4, 5] (fun d u => u.trainLink d) t).supHalts 0).supHalts 1

/-- Junction firmware starts, and step 6 goes on; the envelopes are restored from Granary (R286). -/
def State.junctionStarts (s : State) : State :=
  let copy := s.sec.fwCopy
  let g := fwBase copy
  let t : State := { s with
    boot := { s.boot with jctOk := true }
    env := if s.noGranary then [] else s.envKept
    sec := { s.sec with fwVersion := s.img g 0x014 4, fwRb := s.img g 0x00C 4, fwHash := s.imgHash (s.jctImage copy) }
    pwr := { s.pwr with domains := s.pwr.domains ||| 0x004 } }
  t.powerRest.recBoot.bootSix

/-- JUNCTION_FW_VERIFIED (R115): step 4, once steps 2 and 3 are over. A Junction reset verifies the copy Guard booted from, and no other
(R499); a failed PLL0 has locked again (R98). -/
def execJunctionFwVerified (s0 : State) : Host.Outcome State Fault Refusal :=
  let s := s0.pllLock
  if s.mc.mode ≠ .boot || !s.boot.started || s.boot.jctOk || s.boot.fwBad || !s.boot.guardOk || !s.sealDone then .next s
  else
    let r := if s.imagesReadable && s.boot.guardOk then s.jctReason s.sec.fwCopy else 1
    let s1 := s.guardVerdict 2 (s.jctImage s.sec.fwCopy) r
    .next (if r = 0 then s1.junctionStarts
      else if s.boot.fromJct then s1.fwInvalid
      else if s1.otherCopyOk then s1.otherVerdict.fallBack.junctionStarts
      else s1.otherVerdict.fwInvalid)

/-- BOOT_LOADER_IMAGE (R116, R499): the boot ROM loader verifies the copy it has loaded, makes it active, and takes a full reset, for which
Table 04-8 has no bit of RST.CAUSE: it shows bit 3, RST.REQ (DESIGN CHOICE, log 63). -/
def execBootLoaderImage (s : State) : Host.Outcome State Fault Refusal :=
  .next (if !s.loaderOnly then s
    else
      let t := s.otherVerdict
      if s.otherCopyOk then (t.modSec (fun x => { x with fwCopy := 1 - x.fwCopy, fwPend := false })).fullReset 3 else t)

/-! ## Links (R19, R100, R115, R116) -/

/-- DIE_LINK_TRAINED (R115): at the instant `t` the training has ended, the die is present, and its axes no longer lack the forwarded MOT
clock (R128; log 49). A die that has stopped answering does not train (R320, R353). After a Junction reset it reports the event packets it had sent and that were not acknowledged (R100). -/
def execDieLinkTrained (d : Fin 8) (t : Nat) (s0 : State) : Host.Outcome State Fault Refusal :=
  if s0.links[d].st ≠ .training || s0.dieAbsent d || s0.mute d then .next s0
  else
    let s := s0.pllLock.to t
    let n := if s.boot.fromJct && s.mc.mode = .boot then s.links[d].lost else 0
    let s1 : State := { s.modLink d (fun l => { l with st := .up, lost := 0 }) with
      present := setBit s.present d.val
      drv := Vector.ofFn (fun (a : Fin 12) => if ploughDie a = d then { s.drv[a] with motLost := false } else s.drv[a])
      rst := { s.rst with lostEvents := min (s.rst.lostEvents + n) 0xFFFF } }
    .next s1.lostReport.bootSix

/-- DIE_TRAIN_TIMEOUT (R116): 100 ms after the reference the die is declared absent, and the boot continues. -/
def execDieTrainTimeout (d : Fin 8) (s0 : State) : Host.Outcome State Fault Refusal :=
  if s0.links[d].st ≠ .training then .next s0
  else
    let s := s0.pllLock
    .next (((s.to (s.boot.ref + ms 100)).dieLost d).lostReport).bootSix

/-! ## The configuration image's records (Table 19-9) -/

/-- The values of the image at a base, each record where the directory gives it and its default where it is absent; the sides of the
portals come from the seal word. -/
def State.imageCfg (s : State) (base : Nat) (word : Word) : ImageCfg :=
  let at_ (id : Nat) : Option Nat := (s.cfgRec base id).map (·.1)
  let b (a : Nat) : Nat := s.img a 0 1
  let w (a : Nat) : Nat := s.img a 0 2
  let d (a : Nat) : Word := BitVec.ofNat 32 (s.img a 0 4)
  let dev := (at_ 0x0001).getD 0
  let ptl := (at_ 0x0004).getD 0
  let c0 : ImageCfg :=
    { autoRun := b (dev + 4) = 1, serviceKey := if b (dev + 5) = 0x3F then none else some (b (dev + 5)), joinWait := w (dev + 6)
      svcVmax := (d (dev + 8)).toNat, svcFmax := w (dev + 12)
      assign0 := Vector.ofFn (fun p => d (ptl + 8 * p.val))
      assign1 := Vector.ofFn (fun p => (d (ptl + 8 * p.val + 4) &&& 0xFFFCFFFF) ||| BitVec.ofNat 32 (sealSide word p.val * 65536)) }
  let c1 := match at_ 0x0002 with
    | none => c0
    | some a => { c0 with
        dinFilt := Vector.ofFn (fun n => fld (d (a + 4 * (n.val / 8))) (4 * (n.val % 8)) 3)
        dinType := Vector.ofFn (fun n => fld (d (a + 24 + 4 * (n.val / 16))) (2 * (n.val % 16)) 2)
        sinType := Vector.ofFn (fun n => fld (d (a + 36 + 4 * (n.val / 16))) (2 * (n.val % 16)) 2) }
  let c2 := match at_ 0x0003 with
    | none => c1
    | some a => { c1 with
        axHost := bitsOf 12 (fun n => b (a + 4 * n) % 2 = 1), axGate := bitsOf 12 (fun n => b (a + 4 * n + 1) = 1) }
  let c3 := match at_ 0x0005 with
    | none => c2
    | some a => { c2 with
        lswFs := Vector.ofFn (fun c => (fld (d (a + 4 * c.val)) 0 2, fld (d (a + 4 * c.val)) 8 10))
        lswHost := bitsOf 24 (fun c => bit (d (a + 4 * c)) 2) }
  let c4 := match at_ 0x0006 with
    | none => c3
    | some a => { c3 with lswWdt := b a, lswHold := w (a + 2), cust := Vector.ofFn (fun k => d (a + 4 + 4 * k.val)) }
  let c5 := match at_ 0x0007 with
    | none => c4
    | some a => { c4 with stn := Vector.ofFn (fun i =>
        let o := a + 16 * i.val
        { bus := if b o = 0xFF then none else some (b o), inLen := b (o + 1), outLen := b (o + 2), missMax := b (o + 3) % 16
          goodN := b (o + 3) / 16, wdt := w (o + 4), replyTmo := w (o + 6), typeId := d (o + 8), subAt := w (o + 12), subN := w (o + 14) }) }
  let c6 := match s.cfgRec base 0x0008 with
    | none => c5
    | some (a, len) => { c5 with subst := (List.range (len / 8)).map (fun k =>
        let o := a + 8 * k
        { byte := b o, bit := b (o + 1), width := b (o + 2), fixed := if b (o + 3) = 1 then some (d (o + 4)).toNat else none }) }
  let c7 := match at_ 0x0009 with
    | none => c6
    | some a => { c6 with timeW := w a, forceW := w (a + 2) }
  match at_ 0x000A with
  | none => c7
  | some a => { c7 with paired := b a % 2 = 1, second := b a / 2 % 2 = 1, overlap := b (a + 1), electTmo := w (a + 2) }

/-- The word of REC.CFG that the RECORDING record gives; 0 without it (R453, R454). -/
def State.imageRecCfg (s : State) (base : Nat) : Word :=
  match s.cfgRec base 0x0009 with
  | none => 0
  | some (a, _) => mkWord [(0, 1, s.imgB (a + 6)), (16, 3, s.img (a + 4) 0 2)]

/-- Plough dies are kept off, or switched on, as the DEVICE record says (R73). -/
def State.imageKeepOff (w : Word) (s : State) : State :=
  forAll (List.finRange 2) (fun d t =>
    let off := bit w (5 + d.val)
    if off && t.domOn (motDom d) then t.ploughOff d else if !off && !t.domOn (motDom d) then t.ploughOn d else t) (s.setCom .pwr 0x044 w)

/-- A portal without a first leaf is not in use (R262). -/
def ptlAssigned (c : ImageCfg) (p : Fin 8) (x : Ptl) : Ptl := if fld c.assign0[p] 0 4 = 15 then { x with st := .unused, cause := 0 } else x

/-- The records other than PAGE_INIT take effect. -/
def State.applyRecords (base : Nat) (word : Word) (s : State) : State :=
  let c := s.imageCfg base word
  let dev := ((s.cfgRec base 0x0001).map (·.1)).getD 0
  let s1 : State := { s with
    cfg := c
    hif := { s.hif with subsys := BitVec.ofNat 32 (s.img dev 0 4) }
    ptl := Vector.ofFn (fun (p : Fin 8) => ptlAssigned c p s.ptl[p])
    stn := Vector.ofFn (fun (i : Fin 16) => { s.stn[i] with st := if c.stn[i].bus.isNone then .unconfigured else .absent }) }
  let s2 := s1.imageKeepOff (BitVec.ofNat 32 (s.imgB (dev + 14) % 4 * 32))
  let s3 := forAll (List.finRange 8) (fun p t => t.gateLsw p.val) { s2 with lswg := { s2.lswg with gates := s2.lockGates } }
  (s3.setCom .recd 0x048 (s3.imageRecCfg base)).recCommit

/-! ## PAGE_INIT (R497) -/

/-- A write to a page with the answer whether it was taken; PG_ERR counts a refusal. -/
def State.judged (p : PageId) (o : Nat) (w : Word) (s : State) : Bool × State :=
  let n := (s.pg p).errCount
  let t := (s.modPg p (fun g => { g with errCount := 0 })).pageWrite p o w
  if (t.pg p).errCount = 0 then (true, t.modPg p (fun g => { g with errCount := n }))
  else (false, t.modPg p (fun g => { g with errCount := inc n 15 }))

/-- The entries of PAGE_INIT: address and value. -/
def State.pageInits (s : State) (base : Nat) : List (Nat × Nat) :=
  match s.cfgRec base 0x0010 with
  | none => []
  | some (a, len) => (List.range (len / 8)).map (fun k => (s.img (a + 8 * k) 0 4, s.img (a + 8 * k + 4) 0 4))

/-- One entry is written, PG_CTL without its LOCK; after a refusal nothing more is. -/
def pageInit (r : Bool × State) (e : Nat × Nat) : Bool × State :=
  let o := e.1 % 4096
  let w : Word := BitVec.ofNat 32 e.2
  if !r.1 then r
  else match pageAt (e.1 / 4096) with
    | none => (false, r.2)
    | some p => r.2.judged p o (if o = 0x00C then clrBit w 3 else w)

/-- The commit key is written to every page that holds staged values. -/
def State.commitAll (r : Bool × State) : Bool × State :=
  (allPages.filter (fun p => (r.2.pg p).stage ≠ 0)).foldl (fun r p => if r.1 then r.2.judged p 0x020 commitKey else r) r

/-- The pending commits take effect at the next boundary. -/
def State.boundaryNow (s : State) : State :=
  match allPages.filter (fun p => (s.pg p).commitDue.isSome) with
  | [] => s
  | l => forAll l (fun p t => t.commitNow p) (s.to ((s.tb / periodCounts + 1) * periodCounts))

/-- The image is applied, whatever contract is agreed; its own writes are not refused by locks that have outlived a Junction reset, and
the LOCK writes among its entries come last. -/
def State.applyImage (base : Nat) (word : Word) (s : State) : Bool × State :=
  let locks := s.pages.map (·.lock)
  let s1 := s.applyRecords base word
  let s2 : State := { s1 with pages := s1.pages.map (fun g => { g with lock := false }), hif := { s1.hif with agree := 3 } }
  let l := s2.pageInits base
  let r := State.commitAll (l.foldl pageInit (true, s2))
  let t := if r.1 then r.2.boundaryNow else r.2
  let u : State := { t with
    pages := Vector.ofFn (fun (i : Fin 130) => { t.pages[i] with lock := locks[i] })
    hif := { t.hif with agree := s1.hif.agree } }
  (r.1, if r.1 then
      forAll (l.filter (fun e => e.1 % 4096 = 0x00C && e.2 / 8 % 2 = 1)) (fun e v =>
        match pageAt (e.1 / 4096) with | some p => v.lockPage p | none => v) u
    else u)

/-! ## Steps 7 and 8 (R115 to R118) -/

/-- Step 7 or 8 has failed: the module stays in CONFIG, or goes there, with the cause (R116, R118). -/
def State.bootFails (cause : Nat) (s : State) : State :=
  (if s.mc.mode = .boot then s.toConfig s.mc.cause else s).causeTo cause

/-- Step 7 may be taken: in CONFIG, or in BOOT on the way back to SAFE_HOLD. -/
def State.mayApply (s : State) : Bool :=
  s.boot.jctOk && (s.mc.mode = .config || (s.mc.mode = .boot && s.boot.returns && s.diesKnown)) && s.mc.cause ≠ 0x30
    && s.mc.cause ≠ 0x31

/-- The CAN controllers start with their transceivers in NORMAL, and the stations are sent the wake-up pattern (R393, R400, R417). -/
def State.canBoot (s : State) : State :=
  let s1 := (s.setCom (.can 0) 0x050 0).setCom (.can 1) 0x050 0
  let s2 := forAll (List.finRange 4) (fun n t => if (t.pg (.can n)).en then t else t.canEnable n true) s1
  forAll [0, 1] (fun n t => if s.mc.cause = 2 || decide (0 < s.stationsOn n) then t.post (.canWup n.val) else t) s2

/-- A cause of SAFE_HOLD that shows with the image applied, that no Plough die with a portal axis is left, takes effect in CONFIG (R124,
Table 05-6). -/
def State.holdAgain (s : State) : State :=
  match s.mc.mode, s.holdCause with
  | .config, some c => s.toSafeHold c 1
  | _, _ => s

/-- CONFIG_IMAGE_VERIFIED (R497): Guard has verified the active configuration copy, or the one an activation names (R499). The copy that was READY
is then the active one, and nothing is loaded in the other (DEDUCED, log 53). -/
def execConfigImageVerified (s0 : State) : Host.Outcome State Fault Refusal :=
  let s := s0.bootSix
  if !s.mayApply || s.boot.cfgOk then .next s
  else
    let s1 := if s.sec.cfgPend then s.modSec (fun x =>
        { x with cfgCopy := 1 - x.cfgCopy, cfgPend := false, load := if x.copyKind = 2 then .empty else x.load }) else s
    let base := cfgBase s1.sec.cfgCopy
    let r := if s1.imagesReadable then s1.cfgReason s1.sec.cfgCopy s1.grd.word else 1
    let s2 := s1.guardVerdict 3 base r
    .next (if r ≠ 0 then s2.bootFails 0x30
      else match s2.applyImage base (s2.grd.word.getD 0) with
        | (false, t) => t.bootFails 0x30
        | (true, t) =>
          let u := (t.modSec (fun x =>
            { x with cfgVersion := s1.img base 0x014 4, cfgRb := s1.img base 0x00C 4, cfgHash := s1.imgHash base })).canBoot
          { u with boot := { u.boot with cfgOk := true, canStart := some u.tb } }.holdAgain)

/-- PROGRAM_IMAGE_VERIFIED (R361): the active slot's image is verified into Junction SRAM. -/
def execProgramImageVerified (s : State) : Host.Outcome State Fault Refusal :=
  if !s.mayApply || !s.boot.cfgOk || s.boot.prgOk then .next s
  else
    let slot := s.prg.slot
    let r := if s.imagesReadable then s.prgReason slot else 1
    let s1 := s.guardVerdict 4 (slotBase slot) r
    .next (if r ≠ 0 then s1.bootFails 0x31
      else
        let im := s1.imageOf slot
        let s2 := ((s1.loadBank slot s1.prg.bank im).modPrg (fun p => { p with image := im, run := .loaded })).helloChange
        let s3 : State := { s2 with boot := { s2.boot with prgOk := true } }
        if s3.mc.mode = .boot then s3.toSafeHold 3 1 else s3)

/-- RETAINED_RESTORED (R380): the newest valid buffer is restored into the bank, where its layout is the program's; the restart that
follows is warm or cold by Table 14-10. The buffers are read whole, and a word with an uncorrectable error is reported (R33). -/
def execRetainedRestored (s : State) : Host.Outcome State Fault Refusal :=
  if !s.boot.prgOk || s.boot.retOk then .next s
  else
    let s0 := s.retRead
    let s2 := match (s.restartKind false).1 with
      | some (data, old) => s0.putRetained data old
      | none => s0
    .next ({ s2 with boot := { s2.boot with retOk := true } }.noteLeave)

end Sys2Proof.Machine
end

