-- ==== Sys2Proof/Machine/Dispatch.lean ====
section
/-! DEFINITION. One arm per command: the effect of each on everything but the queue. -/

namespace Sys2Proof.Machine

/-- The effect of a command on the machine, by the rule of spec/ its meaning cites. -/
def exec (i : Instr) (s : State) : Host.Outcome State Fault Refusal :=
  match i with
  | .packetReceived d toDie seq crcOk ack stamp => Sys2Proof.Machine.execPacketReceived d toDie seq crcOk ack stamp s
  | .nakReceived d toDie => Sys2Proof.Machine.execNakReceived d toDie s
  | .ackTimeout d toDie => Sys2Proof.Machine.execAckTimeout d toDie s
  | .stampPacket d => Sys2Proof.Machine.execStampPacket d s
  | .syncPacket d => Sys2Proof.Machine.execSyncPacket d s
  | .statusFrame good cnt => Sys2Proof.Machine.execStatusFrame good cnt s
  | .statusFrameMissing => Sys2Proof.Machine.execStatusFrameMissing s
  | .linkResetReceived d => Sys2Proof.Machine.execLinkResetReceived d s
  | .setpointTimeout d => Sys2Proof.Machine.execSetpointTimeout d s
  | .motClockLoss d => Sys2Proof.Machine.execMotClockLoss d s
  | .sleepTick => Sys2Proof.Machine.execSleepTick s
  | .eventRelease => Sys2Proof.Machine.execEventRelease s
  | .scrubVisit k found written => Sys2Proof.Machine.execScrubVisit k found written s
  | .wideFieldRead a size => Sys2Proof.Machine.execWideFieldRead a size s
  | .registerWrite a size data => Sys2Proof.Machine.execRegisterWrite a size data s
  | .resetNLow => Sys2Proof.Machine.execResetNLow s
  | .powerOn => Sys2Proof.Machine.execPowerOn s
  | .vlogWarnEnter mv => Sys2Proof.Machine.execVlogWarnEnter mv s
  | .vlogWarnExit => Sys2Proof.Machine.execVlogWarnExit s
  | .powerFail => Sys2Proof.Machine.execPowerFail s
  | .vmotDerateEnter d mv => Sys2Proof.Machine.execVmotDerateEnter d mv s
  | .vmotDerateExit d => Sys2Proof.Machine.execVmotDerateExit d s
  | .vmotUvEnter d mv => Sys2Proof.Machine.execVmotUvEnter d mv s
  | .vmotUvExit d => Sys2Proof.Machine.execVmotUvExit d s
  | .vmotOvEnter d mv => Sys2Proof.Machine.execVmotOvEnter d mv s
  | .vmotOvExit d => Sys2Proof.Machine.execVmotOvExit d s
  | .vlswUvEnter => Sys2Proof.Machine.execVlswUvEnter s
  | .vlswUvExit => Sys2Proof.Machine.execVlswUvExit s
  | .thermalModelUpdate d sq => Sys2Proof.Machine.execThermalModelUpdate d sq s
  | .thermalScaleUpdate d sq => Sys2Proof.Machine.execThermalScaleUpdate d sq s
  | .tempSensorUpdate die t => Sys2Proof.Machine.execTempSensorUpdate die t s
  | .dieOvertempHold d => Sys2Proof.Machine.execDieOvertempHold d s
  | .domKeepOffWrite w => Sys2Proof.Machine.execDomKeepOffWrite w s
  | .vlogMinWrite w => Sys2Proof.Machine.execVlogMinWrite w s
  | .clockCheck k count rc => Sys2Proof.Machine.execClockCheck k count rc s
  | .onDemandClockStart nvm => Sys2Proof.Machine.execOnDemandClockStart nvm s
  | .nvmClockIdleStop => Sys2Proof.Machine.execNvmClockIdleStop s
  | .mirrorUpdate p m => Sys2Proof.Machine.execMirrorUpdate p m s
  | .pgSnapWrite p on => Sys2Proof.Machine.execPgSnapWrite p on s
  | .snapAll => Sys2Proof.Machine.execSnapAll s
  | .snapCapture p arrival => Sys2Proof.Machine.execSnapCapture p arrival s
  | .snapComplete p => Sys2Proof.Machine.execSnapComplete p s
  | .writeQueueDrain p => Sys2Proof.Machine.execWriteQueueDrain p s
  | .junctionWatchdogExpiry => Sys2Proof.Machine.execJunctionWatchdogExpiry s
  | .rstReqJunction => Sys2Proof.Machine.execRstReqJunction s
  | .rstReqFull => Sys2Proof.Machine.execRstReqFull s
  | .jtagReset => Sys2Proof.Machine.execJtagReset s
  | .pcieReset => Sys2Proof.Machine.execPcieReset s
  | .blockReset p => Sys2Proof.Machine.execBlockReset p s
  | .blockResetDone p => Sys2Proof.Machine.execBlockResetDone p s
  | .modeReqRun => Sys2Proof.Machine.execModeReqRun s
  | .modeReqDegraded => Sys2Proof.Machine.execModeReqDegraded s
  | .modeReqService => Sys2Proof.Machine.execModeReqService s
  | .modeReqSafeHold => Sys2Proof.Machine.execModeReqSafeHold s
  | .modeReqConfig => Sys2Proof.Machine.execModeReqConfig s
  | .modeReqSleep => Sys2Proof.Machine.execModeReqSleep s
  | .sleepEntry => Sys2Proof.Machine.execSleepEntry s
  | .wakePad k high => Sys2Proof.Machine.execWakePad k high s
  | .wakeCan n => Sys2Proof.Machine.execWakeCan n s
  | .wakeTimer => Sys2Proof.Machine.execWakeTimer s
  | .wakeSin n => Sys2Proof.Machine.execWakeSin n s
  | .bootStart fuseOk => Sys2Proof.Machine.execBootStart fuseOk s
  | .peWakeTimeout => Sys2Proof.Machine.execPeWakeTimeout s
  | .guardFwVerified => Sys2Proof.Machine.execGuardFwVerified s
  | .junctionFwVerified => Sys2Proof.Machine.execJunctionFwVerified s
  | .dieLinkTrained d at_ => Sys2Proof.Machine.execDieLinkTrained d at_ s
  | .dieTrainTimeout d => Sys2Proof.Machine.execDieTrainTimeout d s
  | .configImageVerified => Sys2Proof.Machine.execConfigImageVerified s
  | .programImageVerified => Sys2Proof.Machine.execProgramImageVerified s
  | .retainedRestored => Sys2Proof.Machine.execRetainedRestored s
  | .joinWaitExpiry => Sys2Proof.Machine.execJoinWaitExpiry s
  | .configExit => Sys2Proof.Machine.execConfigExit s
  | .bootLoaderImage => Sys2Proof.Machine.execBootLoaderImage s
  | .serviceKeyLost => Sys2Proof.Machine.execServiceKeyLost s
  | .svcKeyLostHold => Sys2Proof.Machine.execSvcKeyLostHold s
  | .pgCommit p w => Sys2Proof.Machine.execPgCommit p w s
  | .commitBoundary p => Sys2Proof.Machine.execCommitBoundary p s
  | .pgStageClr p => Sys2Proof.Machine.execPgStageClr p s
  | .pgLock p => Sys2Proof.Machine.execPgLock p s
  | .pgIset p w => Sys2Proof.Machine.execPgIset p w s
  | .imageLoadWrite off data => Sys2Proof.Machine.execImageLoadWrite off data s
  | .loadViewWrite k w => Sys2Proof.Machine.execLoadViewWrite k w s
  | .hspiWriteSingle a l => Sys2Proof.Machine.execHspiWriteSingle a l s
  | .hspiWriteQuad a l => Sys2Proof.Machine.execHspiWriteQuad a l s
  | .hspiReadSingle a n => Sys2Proof.Machine.execHspiReadSingle a n s
  | .hspiReadQuad a n => Sys2Proof.Machine.execHspiReadQuad a n s
  | .go a kind neg => Sys2Proof.Machine.execGo a kind neg s
  | .imm a kind neg => Sys2Proof.Machine.execImm a kind neg s
  | .stop a => Sys2Proof.Machine.execStop a s
  | .qstop a => Sys2Proof.Machine.execQstop a s
  | .flush a => Sys2Proof.Machine.execFlush a s
  | .plannerTake a => Sys2Proof.Machine.execPlannerTake a s
  | .controlPeriodBoundary => Sys2Proof.Machine.execControlPeriodBoundary s
  | .ploughPeriodStart a => Sys2Proof.Machine.execPloughPeriodStart a s
  | .microstepEmit a => Sys2Proof.Machine.execMicrostepEmit a s
  | .voltageUpdate a vmot valley => Sys2Proof.Machine.execVoltageUpdate a vmot valley s
  | .standstillDelayExpiry a => Sys2Proof.Machine.execStandstillDelayExpiry a s
  | .loadAngleEstimate a u cur e => Sys2Proof.Machine.execLoadAngleEstimate a u cur e s
  | .overcurrentTrip a => Sys2Proof.Machine.execOvercurrentTrip a s
  | .openPhaseDetect a phaseB => Sys2Proof.Machine.execOpenPhaseDetect a phaseB s
  | .gdrvUv d low => Sys2Proof.Machine.execGdrvUv d low s
  | .drvFlagClear a w => Sys2Proof.Machine.execDrvFlagClear a w s
  | .gateCut side => Sys2Proof.Machine.execGateCut side s
  | .gateRestore side => Sys2Proof.Machine.execGateRestore side s
  | .encoderTransition c a b t => Sys2Proof.Machine.execEncoderTransition c a b t s
  | .indexEdge c t => Sys2Proof.Machine.execIndexEdge c t s
  | .ssiFrameStart c => Sys2Proof.Machine.execSsiFrameStart c s
  | .ssiFrameDone c d1 d2 last => Sys2Proof.Machine.execSsiFrameDone c d1 d2 last s
  | .vencFault low => Sys2Proof.Machine.execVencFault low s
  | .fbFlagClear c w => Sys2Proof.Machine.execFbFlagClear c w s
  | .fbSpeedUpdate c => Sys2Proof.Machine.execFbSpeedUpdate c s
  | .speedTimeout c => Sys2Proof.Machine.execSpeedTimeout c s
  | .preset c => Sys2Proof.Machine.execPreset c s
  | .probeEdge k rising t => Sys2Proof.Machine.execProbeEdge k rising t s
  | .probeLatchDone c k => Sys2Proof.Machine.execProbeLatchDone c k s
  | .dinEdge n level first t => Sys2Proof.Machine.execDinEdge n level first t s
  | .gearEngage a => Sys2Proof.Machine.execGearEngage a s
  | .gearDisengage a => Sys2Proof.Machine.execGearDisengage a s
  | .gearArm a => Sys2Proof.Machine.execGearArm a s
  | .gearDisarm a => Sys2Proof.Machine.execGearDisarm a s
  | .camEngage c => Sys2Proof.Machine.execCamEngage c s
  | .camDisengage c => Sys2Proof.Machine.execCamDisengage c s
  | .groupTimeout grp => Sys2Proof.Machine.execGroupTimeout grp s
  | .doorCycleEval => Sys2Proof.Machine.execDoorCycleEval s
  | .cwTExpiry p => Sys2Proof.Machine.execCwTExpiry p s
  | .reopenTExpiry p => Sys2Proof.Machine.execReopenTExpiry p s
  | .autoCloseExpiry p => Sys2Proof.Machine.execAutoCloseExpiry p s
  | .unlockTmoExpiry p => Sys2Proof.Machine.execUnlockTmoExpiry p s
  | .lockTmoExpiry p => Sys2Proof.Machine.execLockTmoExpiry p s
  | .lockRetryPulseEnd p => Sys2Proof.Machine.execLockRetryPulseEnd p s
  | .swTmoExpiry p => Sys2Proof.Machine.execSwTmoExpiry p s
  | .ptlOpen p => Sys2Proof.Machine.execPtlOpen p s
  | .ptlClose p => Sys2Proof.Machine.execPtlClose p s
  | .ptlNudge p => Sys2Proof.Machine.execPtlNudge p s
  | .ptlAck p => Sys2Proof.Machine.execPtlAck p s
  | .envClr p => Sys2Proof.Machine.execEnvClr p s
  | .openAll d => Sys2Proof.Machine.execOpenAll d s
  | .closeAll d => Sys2Proof.Machine.execCloseAll d s
  | .sedgSample e ohm => Sys2Proof.Machine.execSedgSample e ohm s
  | .edgeFaultDetect e => Sys2Proof.Machine.execEdgeFaultDetect e s
  | .edgeFaultClear p => Sys2Proof.Machine.execEdgeFaultClear p s
  | .sbxSample a b => Sys2Proof.Machine.execSbxSample a b s
  | .guardCycle a b => Sys2Proof.Machine.execGuardCycle a b s
  | .discrepancyExpiry sbx n => Sys2Proof.Machine.execDiscrepancyExpiry sbx n s
  | .testPulse k seen => Sys2Proof.Machine.execTestPulse k seen s
  | .tpContactSample sbx k live => Sys2Proof.Machine.execTpContactSample sbx k live s
  | .tpMonitor sbx k high => Sys2Proof.Machine.execTpMonitor sbx k high s
  | .tpSourceFault sbx k => Sys2Proof.Machine.execTpSourceFault sbx k s
  | .tpFaultRecover sbx k => Sys2Proof.Machine.execTpFaultRecover sbx k s
  | .sealSequence => Sys2Proof.Machine.execSealSequence s
  | .reread => Sys2Proof.Machine.execReread s
  | .sealSequenceDone g g2 b b2 => Sys2Proof.Machine.execSealSequenceDone g g2 b b2 s
  | .soutStuck sbx n on => Sys2Proof.Machine.execSoutStuck sbx n on s
  | .soutOvercurrent sbx n => Sys2Proof.Machine.execSoutOvercurrent sbx n s
  | .guardLatchTimeout => Sys2Proof.Machine.execGuardLatchTimeout s
  | .lockstepMismatch => Sys2Proof.Machine.execLockstepMismatch s
  | .divergeTimeout => Sys2Proof.Machine.execDivergeTimeout s
  | .guardLinkWithdraw => Sys2Proof.Machine.execGuardLinkWithdraw s
  | .gateMapReadback map types locks => Sys2Proof.Machine.execGateMapReadback map types locks s
  | .lswCmd c st => Sys2Proof.Machine.execLswCmd c st s
  | .lswDuty c duty => Sys2Proof.Machine.execLswDuty c duty s
  | .lswPacketInterval => Sys2Proof.Machine.execLswPacketInterval s
  | .lswNormalPacket => Sys2Proof.Machine.execLswNormalPacket s
  | .lswFailsafePacket => Sys2Proof.Machine.execLswFailsafePacket s
  | .lswAllOffPacket => Sys2Proof.Machine.execLswAllOffPacket s
  | .lswStorePacket => Sys2Proof.Machine.execLswStorePacket s
  | .lswWdtExpiry => Sys2Proof.Machine.execLswWdtExpiry s
  | .lswHoldExpiry => Sys2Proof.Machine.execLswHoldExpiry s
  | .lswFastTrip c => Sys2Proof.Machine.execLswFastTrip c s
  | .lswOcTimeout c => Sys2Proof.Machine.execLswOcTimeout c s
  | .lswThermalTrip c => Sys2Proof.Machine.execLswThermalTrip c s
  | .lswRetry c => Sys2Proof.Machine.execLswRetry c s
  | .lswRetryDeferred c => Sys2Proof.Machine.execLswRetryDeferred c s
  | .lswTriesReset c => Sys2Proof.Machine.execLswTriesReset c s
  | .inrushSegmentEnd c => Sys2Proof.Machine.execInrushSegmentEnd c s
  | .ocLatchClear c => Sys2Proof.Machine.execOcLatchClear c s
  | .clampLatchClear c => Sys2Proof.Machine.execClampLatchClear c s
  | .offHighSet c => Sys2Proof.Machine.execOffHighSet c s
  | .offHighClear c => Sys2Proof.Machine.execOffHighClear c s
  | .pulsePeriodStart c => Sys2Proof.Machine.execPulsePeriodStart c s
  | .revBlock c => Sys2Proof.Machine.execRevBlock c s
  | .revBlockRelease c => Sys2Proof.Machine.execRevBlockRelease c s
  | .solPermitChange p => Sys2Proof.Machine.execSolPermitChange p s
  | .timetableTick => Sys2Proof.Machine.execTimetableTick s
  | .tasksComplete t out bank times => Sys2Proof.Machine.execTasksComplete t out bank times s
  | .retainWriteDone t => Sys2Proof.Machine.execRetainWriteDone t s
  | .taskTimeout tasks stops => Sys2Proof.Machine.execTaskTimeout tasks stops s
  | .programTrap task cause pc val stops => Sys2Proof.Machine.execProgramTrap task cause pc val stops s
  | .eventTaskRelease task out bank time => Sys2Proof.Machine.execEventTaskRelease task out bank time s
  | .axCmd a tgt vel vmax tag ctl => Sys2Proof.Machine.execAxCmd a tgt vel vmax tag ctl s
  | .axProfile a p => Sys2Proof.Machine.execAxProfile a p s
  | .ptlReq p code => Sys2Proof.Machine.execPtlReq p code s
  | .sideReq d code => Sys2Proof.Machine.execSideReq d code s
  | .engineCtl cam n ctl => Sys2Proof.Machine.execEngineCtl cam n ctl s
  | .canSend n w0 w1 data => Sys2Proof.Machine.execCanSend n w0 w1 data s
  | .canRecv n => Sys2Proof.Machine.execCanRecv n s
  | .reqStatus h => Sys2Proof.Machine.execReqStatus h s
  | .stnAck st => Sys2Proof.Machine.execStnAck st s
  | .recWrite type sev data => Sys2Proof.Machine.execRecWrite type sev data s
  | .warn code data => Sys2Proof.Machine.execWarn code data s
  | .tbNow => Sys2Proof.Machine.execTbNow s
  | .semTake n => Sys2Proof.Machine.execSemTake n s
  | .semGive n => Sys2Proof.Machine.execSemGive n s
  | .prgVerify => Sys2Proof.Machine.execPrgVerify s
  | .prgVerifyDone => Sys2Proof.Machine.execPrgVerifyDone s
  | .prgSwitch => Sys2Proof.Machine.execPrgSwitch s
  | .prgSwitchExec t => Sys2Proof.Machine.execPrgSwitchExec t s
  | .prgWarm => Sys2Proof.Machine.execPrgWarm s
  | .prgCold => Sys2Proof.Machine.execPrgCold s
  | .prgStop => Sys2Proof.Machine.execPrgStop s
  | .prgDiscard => Sys2Proof.Machine.execPrgDiscard s
  | .prgActivate => Sys2Proof.Machine.execPrgActivate s
  | .prgLoadOpen on => Sys2Proof.Machine.execPrgLoadOpen on s
  | .joinReq st data => Sys2Proof.Machine.execJoinReq st data s
  | .stnIn st ctr status data t => Sys2Proof.Machine.execStnIn st ctr status data t s
  | .stnReplyTimeout st => Sys2Proof.Machine.execStnReplyTimeout st s
  | .stnConfigExchange => Sys2Proof.Machine.execStnConfigExchange s
  | .canFrameRx n w0 w1 data sof val => Sys2Proof.Machine.execCanFrameRx n w0 w1 data sof val s
  | .canBusError n kind tx more spare => Sys2Proof.Machine.execCanBusError n kind tx more spare s
  | .canTxComplete n sof val => Sys2Proof.Machine.execCanTxComplete n sof val s
  | .canTxAttemptFail n error => Sys2Proof.Machine.execCanTxAttemptFail n error s
  | .canRecoveryDone n => Sys2Proof.Machine.execCanRecoveryDone n s
  | .canWupDetect n => Sys2Proof.Machine.execCanWupDetect n s
  | .push n => Sys2Proof.Machine.execPush n s
  | .pop n => Sys2Proof.Machine.execPop n s
  | .abortHead n => Sys2Proof.Machine.execAbortHead n s
  | .txFlush n => Sys2Proof.Machine.execTxFlush n s
  | .recover n => Sys2Proof.Machine.execRecover n s
  | .sendWup n => Sys2Proof.Machine.execSendWup n s
  | .rxWindowRead n w => Sys2Proof.Machine.execRxWindowRead n w s
  | .canEnable n on => Sys2Proof.Machine.execCanEnable n on s
  | .hifOffer w => Sys2Proof.Machine.execHifOffer w s
  | .pcieLinkChange link width speed master msix msi msiN corr recov => Sys2Proof.Machine.execPcieLinkChange link width speed master msix msi msiN corr recov s
  | .evqEnable q => Sys2Proof.Machine.execEvqEnable q s
  | .evqDisable q => Sys2Proof.Machine.execEvqDisable q s
  | .evqHead q w => Sys2Proof.Machine.execEvqHead q w s
  | .evqRecordWrite q => Sys2Proof.Machine.execEvqRecordWrite q s
  | .evqOverflow q => Sys2Proof.Machine.execEvqOverflow q s
  | .evqCoalTimeout q => Sys2Proof.Machine.execEvqCoalTimeout q s
  | .hspiEvtRead => Sys2Proof.Machine.execHspiEvtRead s
  | .flkOpen => Sys2Proof.Machine.execFlkOpen s
  | .flkClose => Sys2Proof.Machine.execFlkClose s
  | .flkNudge => Sys2Proof.Machine.execFlkNudge s
  | .flkAck => Sys2Proof.Machine.execFlkAck s
  | .recordWrite => Sys2Proof.Machine.execRecordWrite s
  | .recWriteCmd => Sys2Proof.Machine.execRecWriteCmd s
  | .recNonce => Sys2Proof.Machine.execRecNonce s
  | .recClear => Sys2Proof.Machine.execRecClear s
  | .recClearDone => Sys2Proof.Machine.execRecClearDone s
  | .pairHelloTimer => Sys2Proof.Machine.execPairHelloTimer s
  | .pairStatusTimer => Sys2Proof.Machine.execPairStatusTimer s
  | .hello good cnt versions second serial sealW hash layout mode => Sys2Proof.Machine.execHello good cnt versions second serial sealW hash layout mode s
  | .status good cnt mode actO ok stale cycle => Sys2Proof.Machine.execStatus good cnt mode actO ok stale cycle s
  | .motion good cnt stamp payload => Sys2Proof.Machine.execMotion good cnt stamp payload s
  | .queue good cnt a qcnt q => Sys2Proof.Machine.execQueue good cnt a qcnt q s
  | .image good cnt cycle frag data => Sys2Proof.Machine.execImage good cnt cycle frag data s
  | .loads good cnt data => Sys2Proof.Machine.execLoads good cnt data s
  | .env good cnt p leaf data => Sys2Proof.Machine.execEnv good cnt p leaf data s
  | .pairLinkLoss => Sys2Proof.Machine.execPairLinkLoss s
  | .pairActIRise => Sys2Proof.Machine.execPairActIRise s
  | .pairActIFall => Sys2Proof.Machine.execPairActIFall s
  | .pairGateRestore => Sys2Proof.Machine.execPairGateRestore s
  | .takeoverGuard => Sys2Proof.Machine.execTakeoverGuard s
  | .electAssertWait => Sys2Proof.Machine.execElectAssertWait s
  | .electTimeout => Sys2Proof.Machine.execElectTimeout s
  | .yield => Sys2Proof.Machine.execYield s
  | .loadOverlapExpiry => Sys2Proof.Machine.execLoadOverlapExpiry s
  | .giveupLoadTimeout => Sys2Proof.Machine.execGiveupLoadTimeout s
  | .secNonce => Sys2Proof.Machine.execSecNonce s
  | .secVerify => Sys2Proof.Machine.execSecVerify s
  | .secVerifyDone => Sys2Proof.Machine.execSecVerifyDone s
  | .secActivate => Sys2Proof.Machine.execSecActivate s
  | .attest => Sys2Proof.Machine.execAttest s
  | .attestDone => Sys2Proof.Machine.execAttestDone s
  | .advance => Sys2Proof.Machine.execAdvance s
  | .install => Sys2Proof.Machine.execInstall s
  | .lockDebug => Sys2Proof.Machine.execLockDebug s
  | .secDiscard => Sys2Proof.Machine.execSecDiscard s
  | .tokenInstall => Sys2Proof.Machine.execTokenInstall s
  | .tokenRevoke => Sys2Proof.Machine.execTokenRevoke s
  | .tokenDebugOpen => Sys2Proof.Machine.execTokenDebugOpen s
  | .secLoadOpen on target => Sys2Proof.Machine.execSecLoadOpen on target s
  | .lswChannelCooled c => Sys2Proof.Machine.execLswChannelCooled c s
  | .lselChange code => Sys2Proof.Machine.execLselChange code s
  | .mirrorStale => Sys2Proof.Machine.execMirrorStale s

end Sys2Proof.Machine
end

