-- ==== Sys2Proof/Machine/Pads.lean ====
section
/-! DEFINITION. Levels of the output pads as functions of the state, by Tables 02-4 and 05-5: no command writes them, each follows
from what the state holds (R49, R109, R127, R226, R302, R312, R318, R471). -/

namespace Sys2Proof.Machine

/-- What an output pad shows. -/
inductive PadLevel where
  /-- Driven low. -/
  | low
  /-- Driven or pulled high. -/
  | high
  /-- High impedance, released, or its switch off. -/
  | off
  /-- As the controller behind it drives it, frame by frame. -/
  | frames
  deriving DecidableEq, Repr

/-- A level driven low or high. -/
def PadLevel.ofBool (b : Bool) : PadLevel := if b then .high else .low

/-- The logic supply is up: the module is neither without supply nor past step 6 of a power fail (Tables 02-4, 03-4). -/
def State.powered (s : State) : Bool := s.domOn 8

/-- RESET_N has been low and the start-up of Table 05-4 has not begun (column "In RESET_N"). -/
def State.inReset (s : State) : Bool := s.powered && s.mc.mode = .boot && !s.boot.started

/-- A controller drives its bus: it is started, not in bus-off and not listening only, and has an attempt under way, an acknowledgement to
give in a frame it receives, or a wake-up pattern to send (R401, R413). -/
def State.canDrives (s : State) (n : Fin 4) : Bool :=
  let c := s.can[n]
  c.onBus && !s.canMode n 4 && (c.txActive || c.rxActive)

/-- CAN2_TXD and CAN3_TXD (Table 05-5): recessive until the controller starts, and while it drives nothing (R401); in SLEEP the AON
pull-up holds them high. They are high in RESET_N and after a power fail. -/
def State.padCanTxd (s : State) (n : Fin 2) : PadLevel :=
  if s.boot.failed then .high
  else if !s.powered && s.mc.mode ≠ .sleep then .off
  else if !s.domOn 1 || s.inReset || !s.canDrives ⟨n.val + 2, by omega⟩ then .high
  else .frames

/-- PE_WAKE_N (R109): open drain. -/
def State.padPeWake (s : State) : PadLevel := if s.mc.peWake then .low else .off

/-- PAIR_ACT_O (R471, Table 05-5): undriven in SLEEP and without supply, which the external pull-down reads low; low in RESET_N and until
Junction drives it. -/
def State.padActO (s : State) : PadLevel :=
  if s.boot.failed then .low
  else if !s.powered || s.mc.mode = .sleep then .off else PadLevel.ofBool (s.pair.actO && s.domOn 1 && !s.inReset)

/-- TP0 to TP3 (R312, Tables 02-4, 05-5): off until Signal box evaluates; then high but for the pulse of 500 µs. -/
def State.padTp (s : State) (k : Fin 4) : PadLevel :=
  if !s.domOn 4 || !s.sbx.evaluates then .off
  else match s.sbx.tp[k].fell with
    | some f => PadLevel.ofBool (decide (f + us 500 ≤ s.tb))
    | none => .high

/-- VENC5 is on while RESET_N is low, and from step 2 of the start-up (Tables 02-4, 05-5): with Gauge. -/
def State.padVenc5 (s : State) : PadLevel := if s.powered then .high else .off

/-- SOUTn_H is Guard's half of a safe output, SOUTn_L Signal box's (R50, R302, Table 05-5). -/
def State.padSout (s : State) (guard : Bool) (n : Fin 4) : PadLevel :=
  if guard then (if s.domOn 3 && bit s.grd.out.sout n.val then .high else .off)
  else if s.domOn 4 && bit s.sbx.out.sout n.val then .low else .off

/-- SEAL_CLK and SEAL_LD_N stand low in RESET_N, which loads the chain, and float without supply (Table 02-4); while Signal box runs a
sequence its clock is on them. -/
def State.padSeal (s : State) : PadLevel :=
  if !s.domOn 4 then .off else if s.inReset || s.safe.sealRun = 0 then .low else .frames

/-- What LSENSE carries (Table 13-4). -/
inductive Sense where
  /-- A current in nA, sourced. -/
  | current (nA : Nat)
  /-- A voltage in 0.1 mV. -/
  | voltage (v : Int)
  /-- High impedance. -/
  | highZ
  deriving DecidableEq, Repr

/-- LSENSE follows the select code in force (R348, Table 13-4): a channel's present current divided by 2,000 or 5,000, the Switch
die's temperature, a 20th of VLSW. -/
def State.padLsense (s : State) : Sense :=
  let n := s.lswg.selIn
  if !s.domOn 7 then .highZ
  else if h : n < 24 then
    let c : Fin 24 := ⟨n, h⟩
    .current (match (if s.conducts c s.tb then s.lswx[c].samples else []) with | e :: _ => e.2.1 * (if n < 16 then 500 else 200) | [] => 0)
  else if n = 24 then .voltage (10000 + (sx 16 s.pwr.tempD[5] - 400) * 50 / 16)
  else if n = 25 then .voltage (s.pwr.vlsw * 10 / 20 : Nat)
  else .highZ

/-- ENCnn_A at TB count `t`: the SSI clock of a frame in progress, which idles high, falls at the boundary and changes every DIV MOT
clocks (R226); in every other MODE, and in a module of a pair that is not active, an input (R470). -/
def State.padEncA (s : State) (c : Fin 12) (t : Nat) : PadLevel :=
  let k := fbOf c
  if !s.domOn (dieDom (ploughDie c)) || s.fbMode k ≠ 2 || (s.cfg.paired && !s.pair.actO) then .off
  else match s.fbx[k].frame with
  | none => .high
  | some t0 =>
    let cfg := s.com (fbPage k) 0x060
    let cycles := (if bit cfg 13 then 2 * fld cfg 0 6 else fld cfg 0 6) + 1
    let half := (t - t0) / max 1 (s.cf (fbPage k) 0x064 0 10)
    if 2 * cycles ≤ half then .high else PadLevel.ofBool (half % 2 = 1)

/-- CAN0_H/L and CAN1_H/L (Table 02-4): recessive (high) but for what the controller drives in NORMAL of the transceiver; without supply
as an unpowered node. -/
def State.padCanBus (s : State) (n : Fin 2) : PadLevel :=
  let k : Fin 4 := ⟨n.val, by omega⟩
  if !s.powered then .off
  else if s.domOn 1 && !s.inReset && s.cf (.can k) 0x050 0 2 = 0 && s.canDrives k then .frames else .high

/-- PE_CLKREQ_N (Table 02-4): released in RESET_N and without supply; else pulled low while the PCI Express clock is wanted, which is
while the link is in use (R83). -/
def State.padPeClkreq (s : State) : PadLevel := if s.powered && !s.inReset && s.domOn 1 && s.clkRuns 7 then .low else .off

/-- PAIR_TX0 and PAIR_TX1 (Table 02-4): the driver is off in RESET_N and without supply; frames go out where the module is paired (R474). -/
def State.padPairTx (s : State) : PadLevel := if s.powered && !s.inReset && s.domOn 1 && s.cfg.paired then .frames else .off

/-- TDO (Table 02-4): high impedance but while a debugger shifts data out (R506). -/
def State.padTdo (s : State) : PadLevel := if s.domOn 1 && !s.inReset && s.debugSta ≠ 1 && s.clkRuns 11 then .frames else .off

/-- PE_TX0 and PE_TX1 (Table 02-4): electrical idle but in a link that is up. -/
def State.padPeTx (s : State) : PadLevel := if s.domOn 1 && !s.inReset && decide (2 ≤ s.hif.link) then .frames else .off

end Sys2Proof.Machine
end

