-- ==== Sys2Proof/Safety.lean ====
section
/-! DEFINITION. What a safe run means here, in the terms that statements use: which parts of the state a command may change, the
canonical form of the three memories, and what no command takes back (R24, R29, R491 to R493). -/

namespace Sys2Proof.Machine

/-- The parts of the state, one for each field of State. -/
inductive Part where
  | tb
  | epoch
  | slept
  | frac
  | period
  | links
  | present
  | lost
  | seq
  | mem
  | pages
  | pwr
  | clk
  | rst
  | boot
  | mc
  | ax
  | drv
  | coil
  | watch
  | fb
  | fbx
  | din
  | gear
  | cam
  | ptl
  | ptlIn
  | ptlRun
  | cyc
  | cycEnd
  | doorAt
  | env
  | envKept
  | edges
  | side
  | grd
  | sbx
  | safe
  | lsw
  | lswx
  | lswg
  | can
  | canc
  | stn
  | prg
  | prgx
  | evq
  | hif
  | hspi
  | recd
  | stat
  | pair
  | pairx
  | fuses
  | sec
  | cfg
  | posted
  | fresh
  | pending
  deriving DecidableEq, Repr

/-- Every part. -/
def Part.all : List Part :=
  [.tb, .epoch, .slept, .frac, .period, .links, .present, .lost, .seq, .mem, .pages, .pwr, .clk, .rst, .boot, .mc, .ax, .drv,
   .coil, .watch, .fb, .fbx, .din, .gear, .cam, .ptl, .ptlIn, .ptlRun, .cyc, .cycEnd, .doorAt, .env, .envKept, .edges, .side, .grd,
   .sbx, .safe, .lsw, .lswx, .lswg, .can, .canc, .stn, .prg, .prgx, .evq, .hif, .hspi, .recd, .stat, .pair, .pairx, .fuses,
   .sec, .cfg, .posted, .fresh, .pending]

/-- A part stands in `t` as it stood in `s`. -/
def Part.same (s t : State) : Part → Prop
  | .tb => t.tb = s.tb
  | .epoch => t.epoch = s.epoch
  | .slept => t.slept = s.slept
  | .frac => t.frac = s.frac
  | .period => t.period = s.period
  | .links => t.links = s.links
  | .present => t.present = s.present
  | .lost => t.lost = s.lost
  | .seq => t.seq = s.seq
  | .mem => t.mem = s.mem
  | .pages => t.pages = s.pages
  | .pwr => t.pwr = s.pwr
  | .clk => t.clk = s.clk
  | .rst => t.rst = s.rst
  | .boot => t.boot = s.boot
  | .mc => t.mc = s.mc
  | .ax => t.ax = s.ax
  | .drv => t.drv = s.drv
  | .coil => t.coil = s.coil
  | .watch => t.watch = s.watch
  | .fb => t.fb = s.fb
  | .fbx => t.fbx = s.fbx
  | .din => t.din = s.din
  | .gear => t.gear = s.gear
  | .cam => t.cam = s.cam
  | .ptl => t.ptl = s.ptl
  | .ptlIn => t.ptlIn = s.ptlIn
  | .ptlRun => t.ptlRun = s.ptlRun
  | .cyc => t.cyc = s.cyc
  | .cycEnd => t.cycEnd = s.cycEnd
  | .doorAt => t.doorAt = s.doorAt
  | .env => t.env = s.env
  | .envKept => t.envKept = s.envKept
  | .edges => t.edges = s.edges
  | .side => t.side = s.side
  | .grd => t.grd = s.grd
  | .sbx => t.sbx = s.sbx
  | .safe => t.safe = s.safe
  | .lsw => t.lsw = s.lsw
  | .lswx => t.lswx = s.lswx
  | .lswg => t.lswg = s.lswg
  | .can => t.can = s.can
  | .canc => t.canc = s.canc
  | .stn => t.stn = s.stn
  | .prg => t.prg = s.prg
  | .prgx => t.prgx = s.prgx
  | .evq => t.evq = s.evq
  | .hif => t.hif = s.hif
  | .hspi => t.hspi = s.hspi
  | .recd => t.recd = s.recd
  | .stat => t.stat = s.stat
  | .pair => t.pair = s.pair
  | .pairx => t.pairx = s.pairx
  | .fuses => t.fuses = s.fuses
  | .sec => t.sec = s.sec
  | .cfg => t.cfg = s.cfg
  | .posted => t.posted = s.posted
  | .fresh => t.fresh = s.fresh
  | .pending => t.pending = s.pending

/-- Nothing changes from `s` to `t` but, at most, the parts listed: the frame of a command. -/
def SameExcept (l : List Part) (s t : State) : Prop := ∀ p : Part, p ∉ l → p.same s t

/-- Every part of the first list is in the second. -/
def Part.within (l m : List Part) : Bool := l.all (fun p => m.contains p)

/-- The memories are in canonical form: addresses strictly rising, no entry equal to what an unlisted address reads as (log 5). -/
def State.memOk (s : State) : Prop := s.mem.granary.wf = true ∧ s.mem.sram.wf = true ∧ s.mem.guard.wf = true

/-- SEQ is handed out from a reserved block only (R29): the next SEQ does not lie beyond the boundary stored in Granary. -/
def State.seqOk (s : State) : Prop := s.seq.next ≤ s.seq.limit

/-- What no command takes back: the queue is the step's own; the memories stay canonical; SEQ stays within its reserved block and
never goes back (R27, R29); no anti-rollback counter decreases (R491), a revoked key slot stays revoked (R492) and the debug lock
stays (R506). -/
structure Lasts (s t : State) : Prop where
  /-- Only the step itself takes a command off the queue. -/
  pending : t.pending = s.pending
  /-- Memories stay canonical. -/
  mem : s.memOk → t.memOk
  /-- SEQ stays within its block. -/
  seqOk : s.seqOk → t.seqOk
  /-- SEQ never goes back. -/
  seqUp : s.seqOk → s.seq.next ≤ t.seq.next
  /-- Anti-rollback counters never decrease. -/
  rb : ∀ k : Fin 3, s.fuses.rb[k] ≤ t.fuses.rb[k]
  /-- A revoked slot stays revoked. -/
  revoked : ∀ k : Fin 4, s.fuses.slots[k] = .revoked → t.fuses.slots[k] = .revoked
  /-- The debug lock stays. -/
  debugLock : s.fuses.debugLock = true → t.fuses.debugLock = true

/-- A change of the state that touches at most the parts listed, takes nothing back and does not move TB back (R24). -/
structure Effect (l : List Part) (s t : State) : Prop where
  /-- The frame. -/
  same : SameExcept l s t
  /-- What lasts. -/
  lasts : Lasts s t
  /-- TB never decreases. -/
  tb : s.tb ≤ t.tb

/-- A 32-bit write by host software reaches its register: Junction answers, none of the errors that R510 puts before the register
applies, the page's home clock runs, no earlier write waits, and the debug page is not closed. -/
def State.takes (s : State) (p : PageId) (o : Nat) (exempt : Bool) : Prop :=
  s.busAlive = true ∧ s.busErr p o = none ∧ s.waits p = false ∧ ((s.pg p).lock = false ∨ exempt = true) ∧ (p = .dbg → s.debugSta ≠ 1)

/-- Among the events raised from `s` to `t` is one with a source, a code and a payload. -/
def RaisesFrom (s t : State) (source code : Nat) (payload : List Byte) : Prop :=
  ∃ l e, t.seq.held = s.seq.held ++ l ∧ e ∈ l ∧ e.source = source ∧ e.code = code ∧ e.payload = payload

/-- Among the events raised from `s` to `t` is one of a page, with its code and payload. -/
def Raises (s t : State) (p : PageId) (code : Nat) (payload : List Byte) : Prop := RaisesFrom s t (evSource p) code payload

/-- The state in which the next door cycle evaluates portal `p`: at that instant, after the portals before it (R266). -/
def State.doorTurn (s : State) (p : Fin 8) : State :=
  forAll ((List.finRange 8).take p.val) (fun q t => t.ptlEval q) { s.to s.nextDoor with doorAt := (s.to s.nextDoor).tb }

/-- A portal in use in RUN or DEGRADED to which nothing of R267's ranks 1 to 3 is due, its switches not contradicting each other. -/
def State.doorQuiet (s : State) (p : Fin 8) : Prop :=
  s.ptlUsed p = true ∧ (s.mc.mode = .run ∨ s.mc.mode = .degraded) ∧ s.ptlIn[p].iso = false ∧ s.ptlIn[p].egress = false
    ∧ s.causeDue p = none ∧ (s.ptlIn[p].lockedSw = true → s.ptlIn[p].closedSw = true)

/-- A portal with release and no request waiting. -/
def State.doorHeld (s : State) (p : Fin 8) : Prop := s.sideRelease (s.sideOf p) = true ∧ s.ptlIn[p].reqs = []

end Sys2Proof.Machine
end

