-- ==== Sys2Proof/Certificates/Slice0/Obligations.lean ====
section
/-! DEFINITION. The statements about the model, each from the rules of the specification that it cites. -/

set_option linter.unusedVariables false

open Sys2Proof Sys2Proof.Machine

/-- A step takes the command at the front of the queue and runs it with the rest of the queue; with none waiting it is one clock
of MOT (R22, R24). For every command c, every list of commands and every state with c at the front of its queue: step answers
exactly what exec of c answers on that state with the rest of the queue. (The queue is the model's form of commands that
arrive one after the other, log 1.) What a step does on an empty queue is the model's choice (log 1): it answers the state
with TB one count further where the clock MOT runs, and the same state where it does not. -/
def Obligations.StepTakesFront : Prop :=
  (∀ (c : Instr) (rest : List Instr) (s : State), step { s with pending := c :: rest } = exec c { s with pending := rest })
  ∧ (∀ s : State, s.pending = [] →
    (s.clkRuns 5 = true → step s = .next { s with tb := s.tb + 1 }) ∧ (s.clkRuns 5 = false → step s = .next s))

/-- Every step keeps Granary, Junction SRAM and Guard SRAM in their one canonical form, whatever command runs (R30, R31). From every
state in which the contents of the three memories are in canonical form (addresses strictly rising, no entry equal to what an
unlisted byte reads as, log 5), a step that answers a next state answers one in which they are again, so that equal contents
are equal data. -/
def Obligations.MemoriesStayCanonical : Prop := ∀ s t : State, s.memOk → step s = .next t → t.memOk

/-- SEQ is handed out only below the boundary stored in Granary and never goes back, whatever command runs (R27, R29). From every
state in which the next SEQ does not lie beyond the reserved block's boundary, a step that answers a next state answers one in
which it again does not, and the next SEQ is not less than before: no SEQ is used twice, across resets and losses of power
too. -/
def Obligations.SeqNeverReused : Prop := ∀ s t : State, s.seqOk → step s = .next t → t.seqOk ∧ s.seq.next ≤ t.seq.next

/-- TB never goes back but at POWER_ON; no anti-rollback counter falls, no REVOKED slot is revived, and the debug lock stays (R22,
R24, R491, R492, R506). For every state and every command but POWER_ON, exec answers a next state whose TB is not less than
before; an idle step keeps it or counts it on. For every state and every command at the front of its queue: in the next state
no anti-rollback counter is lower, every slot that was REVOKED is REVOKED, and a debug lock that was set is set. -/
def Obligations.NothingRunsBackwards : Prop :=
  (∀ s t : State, (s.pending.head? ≠ some .powerOn) → step s = .next t → s.tb ≤ t.tb)
  ∧ (∀ s t : State, step s = .next t → (∀ k : Fin 3, s.fuses.rb[k] ≤ t.fuses.rb[k])
    ∧ (∀ k : Fin 4, s.fuses.slots[k] = .revoked → t.fuses.slots[k] = .revoked)
    ∧ (s.fuses.debugLock = true → t.fuses.debugLock = true))

/-- Every command of the table is answered with a next state, and no command adds to or takes from the queue. For every command
and every state there is a next state that exec answers. What that state holds is what the other statements say, command by
command. For every command and every state, exec answers a next state with the same waiting commands, so that step leaves
exactly the tail of the queue. (The queue is the model's own, log 1.) -/
def Obligations.EveryCommandAnswersNext : Prop :=
  (∀ (c : Instr) (s : State), ∃ t, exec c s = .next t)
  ∧ ((∀ (c : Instr) (s t : State), exec c s = .next t → t.pending = s.pending)
  ∧ (∀ s t : State, step s = .next t → t.pending = s.pending.tail))

/-- The state after reset meets the invariants of the machine (R29, R31). Right after reset the three memories are in
canonical form, the next SEQ lies in its reserved block, no command waits, and no slot is REVOKED. -/
def Obligations.ResetInvariants : Prop :=
  State.reset.memOk ∧ State.reset.seqOk ∧ State.reset.pending = [] ∧ (∀ k : Fin 4, State.reset.fuses.slots[k] ≠ .revoked)

/-- A packet is taken only as the next in order, a damaged one is answered with a NACK, and a NACK or a timeout resends what is
unacknowledged (R17, R19, R18). On a Coupling link of a present die that answers (a Switch die whose clock has failed does not,
R353, nor a halted Guard, R320): a packet that fails its CRC changes no sequence number and is answered with a negative
acknowledgement of the number the receiver waits for; a good packet from the die with that number is taken, so that the receiver
waits for the next one, which it acknowledges, and the event that the packet carried is in the sequencer; a duplicate is
acknowledged again, and a packet after a gap is not answered: both leave the number the receiver waits for, and the events, as
they were. A packet from an absent die to a powered Junction is discarded and counted in LATE_DROP, and nothing else changes. On
a Coupling link of a present die with packets outstanding: before the eighth retry, NAK_RECEIVED and ACK_TIMEOUT answer the same
state, in which the sender has resent from its oldest packet on, the retry is counted in RETRIES and in the run of the oldest
packet, and only the link and the bus output change. After the eighth retry ACK_TIMEOUT declares the die absent, which clears it
in DIE_PRESENT and sets it in DIE_LOST. -/
def Obligations.LinkPackets : Prop :=
  (∀ (s : State) (d : Fin 8) (seq ack : Nat) (stamp : Option Nat),
    (s.coupled d = true → s.dieAbsent d = false → s.mute d = false →
      (∀ toDie : Bool, exec (.packetReceived d toDie seq false ack stamp) s
          = .next (s.post (.packet d.val (if toDie then 7 else 6) (s.links[d].lane toDie).want none)))
      ∧ (seq % 65536 = s.links[d].inn.want → ∃ t, exec (.packetReceived d false seq true ack stamp) s = .next t
          ∧ t.links[d].inn.want = (s.links[d].inn.want + 1) % 65536
          ∧ t.posted = s.posted ++ [.packet d.val 4 ((s.links[d].inn.want + 1) % 65536) none]
          ∧ (∀ e ∈ t.seq.held, e.die = d.val → e.pkt = s.links[d].inn.want → e.arrived = true)
          ∧ t.seq.next = s.seq.next ∧ SameExcept [.links, .seq, .posted] s t)
      ∧ (seq % 65536 ≠ s.links[d].inn.want → ∃ t, exec (.packetReceived d false seq true ack stamp) s = .next t
          ∧ t.links[d].inn.want = s.links[d].inn.want
          ∧ t.posted = s.posted ++ (if (s.links[d].inn.want + 65536 - seq % 65536) % 65536 ≤ 64
              then [.packet d.val 4 s.links[d].inn.want none] else [])
          ∧ SameExcept [.links, .posted] s t))
    ∧ (s.dieAbsent d = true → s.domOn 1 = true → ∃ t, exec (.packetReceived d false seq true ack stamp) s = .next t
        ∧ t.links[d].lateDrop = min (s.links[d].lateDrop + 1) 0x3FF ∧ SameExcept [.links] s t)
    ∧ (s.mute d = true → s.dieAbsent d = false → ∀ (toDie ok : Bool), exec (.packetReceived d toDie seq ok ack stamp) s = .next s
        ∧ exec (.nakReceived d toDie) s = .next s))
  ∧ (∀ (s : State) (d : Fin 8) (toDie : Bool), s.coupled d = true → s.dieAbsent d = false → s.mute d = false →
    (s.links[d].lane toDie).outstanding ≠ 0 →
      ((s.links[d].lane toDie).run < 8 → ∃ t,
        exec (.nakReceived d toDie) s = .next t ∧ exec (.ackTimeout d toDie) s = .next t
        ∧ (t.links[d].lane toDie).run = (s.links[d].lane toDie).run + 1
        ∧ (t.links[d].lane toDie).oldest = (s.links[d].lane toDie).oldest
        ∧ t.links[d].retries = min (s.links[d].retries + 1) 0xFFFF
        ∧ t.posted = s.posted ++ [.packet d.val (if toDie then 8 else 9) (s.links[d].lane toDie).oldest none]
        ∧ SameExcept [.links, .posted] s t)
      ∧ (8 ≤ (s.links[d].lane toDie).run → ∃ t, exec (.ackTimeout d toDie) s = .next t
        ∧ t.dieAbsent d = true ∧ bit t.present d.val = false ∧ bit t.lost d.val = true))

/-- Stamp and sync packets take the next number of their link; a good Signal box frame gives its state, and the eighth missing
slot loses die 2 (R16, R17, R19, R20, R23). On a Coupling link of a present die that answers, with fewer than 64 packets
outstanding and no event packet waiting for room: a die other than Junction sends its stamp packet as the next packet of the
link to Junction, with that packet's number and the die's own TB as its stamp, and Junction's sync packet to Guard, the Switch
die, Gauge or Granary is the next packet of the link to it. With 64 outstanding neither is sent. Junction's own stamp packet
goes out once, with its number and TB, on every Coupling link of a present die that has room, and on no other. In each case
nothing changes but the links named and the output. With Junction and Signal box powered and Signal box present: a good frame's
bits and counter are what Junction then holds, forwards and acknowledges on the status link, its run of missing slots is over,
and TB does not move; a bad frame changes nothing. A good frame of a Signal box that is held absent is counted in LATE_DROP, and
nothing else changes. A slot without a good frame on an up status link counts in the run; the eighth in a row declares Signal
box absent, which clears it in DIE_PRESENT and sets it in DIE_LOST. -/
def Obligations.PacketsOfTheDies : Prop :=
  (∀ (s : State) (d : Fin 8),
    (d ≠ 0 → s.coupled d = true → s.dieAbsent d = false → s.mute d = false → s.links[d].inn.outstanding < 64 → s.links[d].inn.wait = 0 →
      ∃ t, exec (.stampPacket d) s = .next t ∧ t.links[d].inn.next = (s.links[d].inn.next + 1) % 65536
      ∧ t.posted = s.posted ++ [.packet d.val 11 s.links[d].inn.next (some (s.dieTb d % 2 ^ 48))]
      ∧ (∀ k : Fin 8, k ≠ d → t.links[k] = s.links[k]) ∧ SameExcept [.links, .posted] s t)
    ∧ (d = 1 ∨ d = 5 ∨ d = 6 ∨ d = 7 → s.coupled d = true → s.dieAbsent d = false → s.links[d].out.outstanding < 64 →
      s.links[d].out.wait = 0 → ∃ t, exec (.syncPacket d) s = .next t
      ∧ t.links[d].out.next = (s.links[d].out.next + 1) % 65536 ∧ t.posted = s.posted ++ [.packet d.val 1 s.links[d].out.next none]
      ∧ (∀ k : Fin 8, k ≠ d → t.links[k] = s.links[k]) ∧ SameExcept [.links, .posted] s t)
    ∧ (d ≠ 0 → 64 ≤ s.links[d].inn.outstanding → exec (.stampPacket d) s = .next s)
    ∧ (64 ≤ s.links[d].out.outstanding → exec (.syncPacket d) s = .next s)
    ∧ (∃ t, exec (.stampPacket 0) s = .next t ∧ SameExcept [.links, .posted] s t
      ∧ t.posted = s.posted ++ ((List.finRange 8).filter (fun k => s.coupled k && !s.dieAbsent k
            && decide (s.links[k].out.outstanding < 64) && decide (s.links[k].out.wait = 0))).map
          (fun k => .packet k.val 10 s.links[k].out.next (some (s.tb % 2 ^ 48)))
      ∧ (∀ k : Fin 8, s.coupled k = false → t.links[k] = s.links[k])))
  ∧ (∀ (s : State) (cnt : Nat),
    (s.dieAbsent 2 = false → exec (.statusFrame false cnt) s = .next s)
    ∧ (s.domOn 1 = true → s.domOn 4 = true → s.dieAbsent 2 = false → ∃ t, exec (.statusFrame true cnt) s = .next t
        ∧ t.safe.frame = s.sbx.frame ∧ t.safe.frameCnt = cnt % 65536 ∧ t.safe.frames = true ∧ t.links[(2 : Fin 8)].inn.run = 0
        ∧ Posted.packet 2 12 (cnt % 65536) none ∈ t.posted ∧ t.tb = s.tb)
    ∧ (s.domOn 1 = true → s.domOn 4 = true → s.dieAbsent 2 = true → ∃ t, exec (.statusFrame true cnt) s = .next t
        ∧ t.links[(2 : Fin 8)].lateDrop = min (s.links[(2 : Fin 8)].lateDrop + 1) 0x3FF ∧ SameExcept [.links] s t)
    ∧ (s.domOn 1 = true → s.links[(2 : Fin 8)].st = .up →
        (s.links[(2 : Fin 8)].inn.run < 7 → ∃ t, exec .statusFrameMissing s = .next t
          ∧ t.links[(2 : Fin 8)].inn.run = s.links[(2 : Fin 8)].inn.run + 1 ∧ SameExcept [.links] s t)
        ∧ (7 ≤ s.links[(2 : Fin 8)].inn.run → s.dieAbsent 2 = false → ∃ t, exec .statusFrameMissing s = .next t
          ∧ t.dieAbsent 2 = true ∧ bit t.present 2 = false ∧ bit t.lost 2 = true)))

/-- In SLEEP each tick advances TB by 4,882 or 4,883 counts, and sixteen ticks advance it by exactly 78,125 (R24). While MOT is
stopped, SLEEP_TICK answers a next state whose TB is 4,882 or 4,883 counts further, with the remainder kept in the 4-bit
fraction accumulator; sixteen ticks in a row advance TB by exactly 78,125 counts and bring the accumulator back to what it
was. Nothing else but the note that TB has run through SLEEP changes. -/
def Obligations.SleepTicksKeepTime : Prop :=
  ∀ s : State, s.clkRuns 5 = false → s.frac < 16 →
    (∃ t, exec .sleepTick s = .next t ∧ (t.tb = s.tb + 4882 ∨ t.tb = s.tb + 4883)
      ∧ 16 * t.tb + t.frac = 16 * s.tb + s.frac + 78125 ∧ t.frac < 16 ∧ SameExcept [.tb, .frac, .slept] s t)
    ∧ (∃ l : List State, l.length = 17 ∧ l.head? = some s
        ∧ (∀ k : Fin 16, ∀ a b, l[k.val]? = some a → l[k.val + 1]? = some b → exec .sleepTick a = .next b)
        ∧ (∀ u, l[16]? = some u → u.tb = s.tb + 78125 ∧ u.frac = s.frac))

/-- A scrub visit moves to the next word of its memory; it corrects up to two bits and marks a word with three (R33, R34, R35).
With the memory powered, clocked and its die present, SCRUB_VISIT advances the scrub position by one word, to 0 after the
last. A word without error marks nothing. One or two bits in error, those that it held and those now found together, count as a
correction of the word in its running second, or begin one, and the word holds none then. Three are uncorrectable, and a word
that holds an uncorrectable error is found so again: the word is marked and
ECC_UNCORR is raised with the die and the word. ECC_CORR is raised with the word and its count for every word of the memory
whose second has ended (that it is raised at the scrubber's next visit is the model's choice, log 39). In every case with at
most three bits in error no byte of the three memories changes. A visit to a memory that does not run does nothing. (The statement
is about visits that bring no error into other words, log 84; the next clause is: one or two bits that go into error in a word that
holds none stay there, uncounted, until a read or a write of it.) -/
def Obligations.ScrubVisits : Prop :=
  (∀ (s : State) (k : Fin 3) (bits n : Nat) (written : Bool), s.memOn k = true → s.mem.scrub[k] < memWords k →
    n = s.mem.softOf k s.mem.scrub[k] + bits → n ≤ 3 →
    ∃ t, exec (.scrubVisit k (bits, []) written) s = .next t
      ∧ t.mem.scrub[k] = (if s.mem.scrub[k] + 1 = memWords k then 0 else s.mem.scrub[k] + 1)
      ∧ t.mem.granary = s.mem.granary ∧ t.mem.sram = s.mem.sram ∧ t.mem.guard = s.mem.guard
      ∧ (n ≤ 2 → (k.val, s.mem.scrub[k]) ∉ s.mem.torn → t.mem.bad = s.mem.bad ∧ t.mem.torn = s.mem.torn
          ∧ (n = 0 → t.mem.soft = s.mem.soft) ∧ (0 < n → t.mem.softOf k s.mem.scrub[k] = 0))
      ∧ (1 ≤ n → n ≤ 2 → (k.val, s.mem.scrub[k]) ∉ s.mem.torn →
          ((∀ c ∈ s.mem.corr, c.mem ≠ k.val ∨ c.word ≠ s.mem.scrub[k]) → (⟨k.val, s.mem.scrub[k], s.tb, 1⟩ : Corr) ∈ t.mem.corr)
          ∧ (∀ c ∈ s.mem.corr, c.mem = k.val → c.word = s.mem.scrub[k] → s.tb < c.since + 160000000 →
              (⟨c.mem, c.word, c.since, c.count + 1⟩ : Corr) ∈ t.mem.corr))
      ∧ (n = 3 ∨ (k.val, s.mem.scrub[k]) ∈ s.mem.torn → (k.val, s.mem.scrub[k]) ∈ t.mem.bad ∧ (k.val, s.mem.scrub[k]) ∈ t.mem.torn
          ∧ Raises s t .dev 0x0103 ([b8 (memDie k).val, 0, 0, 0] ++ leBytes 4 s.mem.scrub[k]))
      ∧ (∀ c ∈ s.mem.corr, c.mem = k.val → c.since + 160000000 ≤ s.tb →
          Raises s t .dev 0x0102 ([b8 (memDie k).val, 0, 0, 0] ++ leBytes 4 c.word ++ leBytes 4 c.count))
      ∧ SameExcept [.mem, .seq, .links] s t)
  ∧ (∀ (s : State) (k j : Fin 3) (w bits : Nat) (written : Bool), s.memOn k = false →
    exec (.scrubVisit k (bits, []) written) s = .next s
    ∧ (∀ b : Nat, 0 < b → b ≤ 2 → s.mem.softOf j w = 0 → (j.val, w) ∉ s.mem.torn →
      ∃ t, exec (.scrubVisit k (bits, [⟨j, w, b⟩]) written) s = .next t ∧ t.mem.softOf j w = b ∧ t.mem.corr = s.mem.corr
        ∧ t.mem.torn = s.mem.torn ∧ SameExcept [.mem] s t))

/-- Supply conditions set their STA bits; VMOT conditions halt their die's axes; VLSW undervoltage switches load channels off
and keeps their commands (R64, R68, R69, R70, R173, R174, R349). A condition begins and ends only when its entry or exit filter
has run: each command answers a state of an instant at which the measured supply has been beyond the threshold for the filter's
time, and does nothing where it has not been beyond it. VLOG_WARN_ENTER below 6.0 V with the warning clear sets
SUP_STA.VLOG_WARN and its latch and raises SUPPLY_LOW with the voltage, and takes no other action; from 6.0 V on it does
nothing. VLOG_WARN_EXIT with the warning present clears the bit and leaves the latch and every other bit. With Gauge powered,
VMOT_DERATE_ENTER below 9.0 V sets the die's DERATE bit and gives that die, and no other, s_v = 0.6 + 0.4 × (VMOT − 7.0 V) / 2.0
V, held between 0.6 and 1.0 (in millionths), and does nothing from 9.0 V on; VMOT_DERATE_EXIT clears the bit and gives 1.0. With
Gauge powered and the condition clear, VMOT_UV_ENTER below 7.0 V and VMOT_OV_ENTER above 64.0 V set their SUP_STA bit and latch
and raise VMOT_UV and VMOT_OV of the supply with the voltage. Where the Plough domain is on they give every axis of the die the
HALT cause; an axis of the die that no cause held is HALTED with an empty queue and velocity 0, and under overvoltage the coils
of an axis brake whose gate drive is up, in a mode that does not keep the bridges off and with no bridge fault standing. An axis
of the other die keeps its state, queue and causes. The exits clear the bit, and the cause with it, so that an axis held by that
cause alone is IDLE. With Gauge powered and VLSW_UV clear, VLSW_UV_ENTER sets it in SUP_STA, in the Switch die's status and its
count, and no channel's output is on; every channel keeps its commanded state, the state it last took and its count of tries.
VLSW_UV_EXIT clears the condition, keeps the same, and a channel whose state in force is on and that nothing else holds off is
on again. -/
def Obligations.SupplyConditions : Prop :=
  (∀ (s : State) (d : Fin 2) (mv since : Nat),
    (s.pwr.beyond[(0 : Fin 8)] = some since → bit s.pwr.sta 0 = false → mv < 6000 → ∃ t, exec (.vlogWarnEnter mv) s = .next t
      ∧ t.tb = max s.tb (since + us 100)
      ∧ bit t.pwr.sta 0 = true ∧ bit t.pwr.latch 0 = true ∧ Raises s t .pwr 0x0301 (leBytes 2 mv) ∧ SameExcept [.tb, .pwr, .seq, .links] s t)
    ∧ (6000 ≤ mv ∨ s.pwr.beyond[(0 : Fin 8)] = none → exec (.vlogWarnEnter mv) s = .next s)
    ∧ (s.pwr.back[(0 : Fin 8)] = none → exec .vlogWarnExit s = .next s)
    ∧ (s.pwr.back[(0 : Fin 8)] = some since → bit s.pwr.sta 0 = true → ∃ t, exec .vlogWarnExit s = .next t
      ∧ t.tb = max s.tb (since + ms 1) ∧ bit t.pwr.sta 0 = false ∧ t.pwr.latch = s.pwr.latch
      ∧ (∀ k, 0 < k → k < 32 → bit t.pwr.sta k = bit s.pwr.sta k) ∧ SameExcept [.tb, .pwr] s t)
    ∧ (s.pwr.beyond[motSup d 1] = some since → s.domOn 8 = true → mv < 9000 → ∃ t, exec (.vmotDerateEnter d mv) s = .next t
      ∧ t.tb = max s.tb (since + periodCounts) ∧ bit t.pwr.sta (1 + 3 * d.val) = true
      ∧ (7000 ≤ mv → t.pwr.sv[d] = 600000 + 200 * (mv - 7000)) ∧ (mv ≤ 7000 → t.pwr.sv[d] = 600000)
      ∧ (∀ k : Fin 2, k ≠ d → t.pwr.sv[k] = s.pwr.sv[k]) ∧ SameExcept [.tb, .pwr] s t)
    ∧ (9000 ≤ mv ∨ s.pwr.beyond[motSup d 1] = none → exec (.vmotDerateEnter d mv) s = .next s)
    ∧ (s.pwr.back[motSup d 1] = none → exec (.vmotDerateExit d) s = .next s)
    ∧ (s.pwr.back[motSup d 1] = some since → bit s.pwr.sta (1 + 3 * d.val) = true → ∃ t, exec (.vmotDerateExit d) s = .next t
      ∧ t.tb = max s.tb (since + periodCounts) ∧ bit t.pwr.sta (1 + 3 * d.val) = false ∧ t.pwr.sv[d] = 1000000
      ∧ t.pwr.latch = s.pwr.latch ∧ (∀ k : Fin 2, k ≠ d → t.pwr.sv[k] = s.pwr.sv[k]) ∧ SameExcept [.tb, .pwr] s t))
  ∧ (∀ (s : State) (d : Fin 2) (mv since : Nat), mv < 65536 →
    (s.pwr.beyond[motSup d 2] = some since → s.domOn 8 = true → mv < 7000 → bit s.pwr.sta (2 + 3 * d.val) = false → ∃ t, exec (.vmotUvEnter d mv) s = .next t
      ∧ t.tb = max s.tb (since + 2 * periodCounts) ∧ bit t.pwr.sta (2 + 3 * d.val) = true ∧ bit t.pwr.latch (2 + 3 * d.val) = true ∧ RaisesFrom s t (evSource .pwr + d.val) 0x0302 (leBytes 2 mv)
      ∧ (s.domOn (motDom d) = true → ∀ a, ploughDie a = motDie d → .vmotUv ∈ t.ax[a].halts
          ∧ (s.ax[a].halts = [] → t.ax[a].st = .halted ∧ t.ax[a].queue = [] ∧ t.ax[a].vel = 0
              ∧ (bit s.pwr.sta (3 + 3 * d.val) = false → bit s.pwr.sta (10 + d.val) = false → t.ax[a].halts = [.vmotUv])))
      ∧ (∀ a, ploughDie a ≠ motDie d → t.ax[a].st = s.ax[a].st ∧ t.ax[a].queue = s.ax[a].queue ∧ t.ax[a].halts = s.ax[a].halts))
    ∧ (s.pwr.beyond[motSup d 3] = some since → s.domOn 8 = true → 64000 < mv → bit s.pwr.sta (3 + 3 * d.val) = false → ∃ t, exec (.vmotOvEnter d mv) s = .next t
      ∧ t.tb = max s.tb (since + 2 * periodCounts) ∧ bit t.pwr.sta (3 + 3 * d.val) = true ∧ bit t.pwr.latch (3 + 3 * d.val) = true ∧ RaisesFrom s t (evSource .pwr + d.val) 0x0303 (leBytes 2 mv)
      ∧ (s.domOn (motDom d) = true → ∀ a, ploughDie a = motDie d → .vmotOv ∈ t.ax[a].halts
          ∧ (s.supplyOff a = false → s.axesOff = false → .bridgeFault ∉ s.ax[a].halts → .vmotOv ∉ s.ax[a].halts →
              t.coil[a].coil = .brake ∧ t.coil[a].level = 0)
          ∧ (s.ax[a].halts = [] → t.ax[a].st = .halted ∧ t.ax[a].queue = [] ∧ t.ax[a].vel = 0
              ∧ (bit s.pwr.sta (2 + 3 * d.val) = false → bit s.pwr.sta (10 + d.val) = false → t.ax[a].halts = [.vmotOv]))))
    ∧ (bit s.pwr.sta (2 + 3 * d.val) = true → s.pwr.back[motSup d 2] = some since → ∃ t, exec (.vmotUvExit d) s = .next t
      ∧ t.tb = max s.tb (since + ms 10) ∧ bit t.pwr.sta (2 + 3 * d.val) = false
      ∧ (∀ a, ploughDie a = motDie d → .vmotUv ∉ t.ax[a].halts ∧ (s.ax[a].halts = [.vmotUv] → t.ax[a].st = .idle ∧ t.ax[a].halts = [])))
    ∧ (bit s.pwr.sta (3 + 3 * d.val) = true → s.pwr.back[motSup d 3] = some since → ∃ t, exec (.vmotOvExit d) s = .next t
      ∧ t.tb = max s.tb (since + ms 10) ∧ bit t.pwr.sta (3 + 3 * d.val) = false
      ∧ (∀ a, ploughDie a = motDie d → .vmotOv ∉ t.ax[a].halts ∧ (s.ax[a].halts = [.vmotOv] → t.ax[a].st = .idle ∧ t.ax[a].halts = []))))
  ∧ (∀ s : State,
    (bit s.pwr.sta 7 = false → s.domOn 8 = true → ∃ t, exec .vlswUvEnter s = .next t ∧ bit t.pwr.sta 7 = true ∧ t.lswg.uv = true
      ∧ t.lswg.uvCount = min (s.lswg.uvCount + 1) 0xFFFF
      ∧ (∀ c : Fin 24, t.lsw[c].out = 0 ∧ t.lsw[c].cmd = s.lsw[c].cmd ∧ t.lsw[c].got = s.lsw[c].got ∧ t.lsw[c].tries = s.lsw[c].tries))
    ∧ (∀ since : Nat, bit s.pwr.sta 7 = true → s.pwr.back[(7 : Fin 8)] = some since → ∃ t, exec .vlswUvExit s = .next t ∧ bit t.pwr.sta 7 = false ∧ t.lswg.uv = false
      ∧ (∀ c : Fin 24, t.lsw[c].cmd = s.lsw[c].cmd ∧ t.lsw[c].got = s.lsw[c].got ∧ t.lsw[c].tries = s.lsw[c].tries
          ∧ ((s.lswState c).1 = 1 → State.lswHeld { s with lswg := { s.lswg with uv := false } } c = false → t.lsw[c].out = 1))))

/-- POWER_ON takes AON too, and TB restarts; a full reset takes everything but AON and counts itself with its cause (R25, R67,
R98, R65, R29, R104, R145, R49, R71). After POWER_ON TB is 0, the mode is BOOT with every field of the mode and of the supply
page at its reset value, RST.CAUSE shows power-on, FULL_COUNT counts it, no page holds a committed word or a lock, no event is
held and SEQ goes on at the stored boundary; the loss of AON, for which the next boot increments EPOCH, is kept until that boot
whatever resets come between; Granary keeps its contents, and the fuses theirs, of which an installation of a key that had not
ended has not blown ACTIVE, so that its slot is REVOKED (R492). RESET_N_LOW, POWER_FAIL, RST_REQ_FULL where the write reaches
its register, and JTAG_RESET where debug is not LOCKED and Junction is powered: the next state is in BOOT, with its cause in
RST.CAUSE and one more in FULL_COUNT, no axis or coil or load channel but at its reset value (bridges free, channels off), no
held event, SEQ going on at the stored boundary, no die held absent, no page locked and PE_WAKE_N released. TB does not go back
and, but for the 20 µs of the power-fail sequence, does not move; Granary keeps its contents, the fuses do as above, and the
SRAMs list nothing. After a power fail only AON is powered; after another full reset Gauge stays on where it was on, and Signal
box with it, and RESET_N switches both on. -/
def Obligations.PowerOnAndFullReset : Prop :=
  (∀ s : State, ∃ t, exec .powerOn s = .next t
    ∧ t.tb = 0 ∧ t.frac = 0 ∧ t.mc = State.reset.mc ∧ t.pwr = State.reset.pwr ∧ t.pages = State.reset.pages
    ∧ t.rst.cause = 1 ∧ t.rst.fullCount = min (s.rst.fullCount + 1) 0xFFFFFFFF ∧ t.rst.absent = 0
    ∧ t.ax = State.reset.ax ∧ t.coil = State.reset.coil ∧ t.lsw = State.reset.lsw ∧ t.seq.held = [] ∧ t.seq.next = s.seq.limit
    ∧ t.rst.aonLost = true ∧ t.mem.granary = s.mem.granary ∧ t.fuses = s.fuses.cut s.tb)
  ∧ (∀ (s : State) (c : Instr) (k : Nat),
    ((c = .resetNLow ∧ k = 2) ∨ (c = .powerFail ∧ k = 1) ∨ (c = .rstReqFull ∧ k = 3 ∧ s.takes .rst 0x050 false)
      ∨ (c = .jtagReset ∧ k = 4 ∧ s.debugSta ≠ 1 ∧ s.domOn 1 = true)) →
    ∃ t, exec c s = .next t
      ∧ t.mc.mode = .boot ∧ bit t.rst.cause k = true ∧ t.rst.fullCount = min (s.rst.fullCount + 1) 0xFFFFFFFF ∧ t.rst.absent = 0
      ∧ t.ax = State.reset.ax ∧ t.drv = State.reset.drv ∧ t.coil = State.reset.coil ∧ t.lsw = State.reset.lsw ∧ t.grd = State.reset.grd ∧ t.sbx = State.reset.sbx
      ∧ t.seq.held = [] ∧ t.seq.next = s.seq.limit ∧ t.seq.limit = s.seq.limit
      ∧ (∀ p, (t.pg p).lock = false ∧ (t.pg p).stg = []) ∧ (∀ p, p ≠ .hif → (t.pg p).com = [])
      ∧ t.mem.granary = s.mem.granary ∧ t.mem.sram = [] ∧ t.mem.guard = [] ∧ t.fuses = s.fuses.cut t.tb
      ∧ (s.fuses.burn = none → t.fuses = s.fuses)
      ∧ (∀ (j : Fin 4) (e : Nat), s.fuses.burn = some (j, e) → t.tb < e → s.fuses.fuse[j].used = true → t.fuses.slots[j] = .revoked)
      ∧ t.mc.peWake = false ∧ t.rst.aonLost = s.rst.aonLost
      ∧ s.tb ≤ t.tb ∧ (k ≠ 1 → t.tb = s.tb) ∧ (k = 1 → t.pwr.domains = 1)
      ∧ (k = 2 ∨ (k ≠ 1 ∧ s.domOn 8 = true) → t.domOn 8 = true ∧ t.domOn 4 = true ∧ t.domOn 1 = false))

/-- A Junction reset spares the dies and TB, a PCI Express reset stops the event queues, and a block reset clears its page's
staged set (R98, R100, R101, R104, R113, R118, R424, R102, R145, R511). With Junction powered and the module not asleep,
JUNCTION_WATCHDOG_EXPIRY, and RST_REQ_JUNCTION where the write reaches its register, answer a state in BOOT with PREV the mode
before, their bit in JCT_CAUSE and one more in JCT_COUNT. The Plough dies' drives and coils, feedback, Guard, Signal box, the
outputs of the load channels, the list of absent dies, TB and the fuses are unchanged; the axes' queues are empty, no event is
held without a SEQ, and the number of events lost in Junction is kept in AON while a Coupling link is still to train, and
reported with EVENTS_LOST at once where every Coupling die is absent. A LINK_RESET goes out on every Coupling link that is up.
PCIE_RESET answers a state in which no event queue is enabled or running and none stages a record, the link is in L2 where it
was up and down otherwise (R421), and bus mastering, MSI and MSI-X are off. The committed words of every page but HIF, and the
agreed contract, are unchanged, and so is everything but the PCI Express side, the queues and the clock status. Where the write
of RST_REQ reaches the page before a pending commit of it is due: a reset the block does not refuse leaves RST_PEND at 1,
nothing staged and no commit pending, VIEW and LOCK as they were; on AX it empties the queue and what is held for a start group,
clears FLAGS and MOVE_COUNT and sets EN to its reset value 1. An axis that is not at rest refuses it with 0x43 in PG_ERR, sets
no RST_PEND and keeps its queue. BLOCK_RESET_DONE clears RST_PEND of that page and changes nothing else. -/
def Obligations.PartialResets : Prop :=
  (∀ (s : State) (c : Instr) (k : Nat),
    ((c = .junctionWatchdogExpiry ∧ k = 0) ∨ (c = .rstReqJunction ∧ k = 1 ∧ s.takes .rst 0x050 false)) →
    s.domOn 1 = true → s.mc.mode ≠ .sleep →
    ∃ t, exec c s = .next t
      ∧ t.mc.mode = .boot ∧ t.mc.prev = s.mc.mode.code ∧ t.mc.cause = 3 ∧ bit t.rst.jctCause k = true
      ∧ t.rst.jctCount = min (s.rst.jctCount + 1) 0xFFFFFFFF ∧ t.rst.absent = s.rst.absent
      ∧ t.tb = s.tb ∧ t.drv = s.drv ∧ t.coil = s.coil ∧ t.watch = s.watch ∧ t.fb = s.fb ∧ t.fbx = s.fbx ∧ t.grd = s.grd ∧ t.sbx = s.sbx ∧ t.fuses = s.fuses
      ∧ (∀ n : Fin 24, t.lsw[n].out = s.lsw[n].out ∧ t.lsw[n].got = s.lsw[n].got ∧ t.lsw[n].cmd = 0)
      ∧ (∀ a : Fin 12, t.ax[a].queue = []) ∧ t.seq.next = s.seq.limit
      ∧ (s.pair.actO = false → (∃ d : Fin 8, d ≠ 0 ∧ d ≠ 2 ∧ s.dieAbsent d = false ∧ s.links[d].st = .up) → t.seq.aonLost = s.seq.inside.length)
      ∧ (s.pair.actO = false → (∀ d : Fin 8, d ≠ 0 → d ≠ 2 → s.dieAbsent d = true) → t.rst.lostEvents = min s.seq.inside.length 65535
          ∧ ∃ e ∈ t.seq.held, e.code = 0x0401 ∧ e.payload = leBytes 2 (min s.seq.inside.length 65535))
      ∧ (∀ d : Fin 8, d ≠ 0 → d ≠ 2 → s.links[d].st = .up → Posted.packet d.val 2 s.links[d].out.next none ∈ t.posted))
  ∧ (∀ s : State, ∃ t, exec .pcieReset s = .next t
    ∧ (∀ q : Fin 8, (t.pg (.evq q)).en = false ∧ t.evq[q].running = false ∧ t.evq[q].staged = [])
    ∧ t.hif.link = (if 2 ≤ s.hif.link then 4 else 0) ∧ t.hif.master = false ∧ t.hif.msi = false ∧ t.hif.msix = false ∧ t.hif.perst = true ∧ t.hif.agree = s.hif.agree
    ∧ (∀ p, p ≠ .hif → (t.pg p).com = (s.pg p).com) ∧ SameExcept [.pages, .evq, .hif, .clk] s t)
  ∧ (∀ (s : State) (p : PageId), (∀ b, (s.pg p).commitDue = some b → s.tb < b) →
    (s.takes p 0x00C false → s.resetRefused p = none → ∃ t, exec (.blockReset p) s = .next t
      ∧ (t.pg p).rstPend = true ∧ (t.pg p).stg = [] ∧ (t.pg p).stage = 0 ∧ (t.pg p).commitDue = none
      ∧ (t.pg p).view = (s.pg p).view ∧ (t.pg p).lock = (s.pg p).lock
      ∧ (∀ a, p = .ax a → t.ax[a].queue = [] ∧ t.gear[a].waiting = none ∧ t.ax[a].flags = 0 ∧ t.ax[a].moveCount = 0 ∧ (t.pg p).en = true ∧ t.ax[a].pos = s.ax[a].pos))
    ∧ (∀ a, p = .ax a → s.atRest a = false → s.takes p 0x00C false → ∃ t, exec (.blockReset p) s = .next t
      ∧ (t.pg p).errCode = 0x43 ∧ (t.pg p).rstPend = (s.pg p).rstPend ∧ t.ax = s.ax)
    ∧ (∃ t, exec (.blockResetDone p) s = .next t ∧ (t.pg p).rstPend = false ∧ (∀ q, q ≠ p → t.pg q = s.pg q) ∧ SameExcept [.pages] s t))

/-- A clock whose count leaves its band fails: CLK.FAIL, CLK_FAIL and the clock's consequence; on-demand clocks stop and restart
(R83, R84, R85). A clock check completes with the clock's consequence: of a running clock that is checked and has not failed,
a count outside the band of its reference (3 % for the clocks checked against SLP, 15 % for GRD and SBX, 25 % for SLP and LSW)
of SLP or PCIE shows the clock's bit in CLK.FAIL, raises CLK_FAIL and changes nothing else; of GRD and SBX it does so and
stops that channel; of LSW it is kept in the Switch die's state, and of NVM as failed; of SYS, APP, MOT or CAN of an awake,
powered Junction it leads to BOOT with the cause PLL0 in JCT_CAUSE, PLL0 unlocked and the clocks divided from it stopped. A
count inside the band, and HSPI and TCK, change nothing. ON_DEMAND_CLOCK_START completes with the clock running: APP, and NVM
with the access noted, where the clock's domain is powered and PLL0 locked, and NVM has not failed. NVM_CLOCK_IDLE_STOP of a
running NVM clock completes with the clock stopped, 1 ms after the last access to Granary; of a stopped one it changes
nothing. -/
def Obligations.ClockChecks : Prop :=
  ∀ (s : State) (k : Fin 12) (count rc : Nat),
    (clkOut k.val count (clkRef k.val rc) = false ∨ k = 8 ∨ k = 11 → exec (.clockCheck k count rc) s = .next s)
    ∧ (k ≠ 8 → k ≠ 11 → s.clkRuns k.val = true → bit s.clk.fail k.val = false → clkOut k.val count (clkRef k.val rc) = true →
        ∃ t, exec (.clockCheck k count rc) s = .next t
          ∧ (k = 0 ∨ k = 7 → t.clk = { s.clk with fail := setBit s.clk.fail k.val } ∧ SameExcept [.clk, .seq, .links] s t)
          ∧ (k = 0 ∨ k = 7 ∨ k = 3 ∨ k = 4 → bit t.clk.fail k.val = true ∧ Raises s t .clk 0x0201 (leBytes 2 (setBit s.clk.fail k.val).toNat))
          ∧ (k = 3 → t.grd = s.grd.stop) ∧ (k = 4 → t.sbx = s.sbx.stop)
          ∧ (k = 9 → t.lswg.clkFailed = true) ∧ (k = 10 → t.clk.nvmFailed = true)
          ∧ (k = 1 ∨ k = 2 ∨ k = 5 ∨ k = 6 → s.domOn 1 = true → s.mc.mode ≠ .sleep → t.mc.mode = .boot ∧ bit t.rst.jctCause 2 = true
              ∧ bit t.clk.lock 0 = false ∧ t.clkRuns 1 = false ∧ t.clkRuns 2 = false ∧ t.clkRuns 5 = false ∧ t.clkRuns 6 = false
              ∧ t.clkRuns 10 = false))
    ∧ (s.domOn 2 = true → bit s.clk.lock 0 = true →
        exec (.onDemandClockStart false) s = .next { s with clk := { s.clk with run := setBit s.clk.run 2 } })
    ∧ (s.domOn 9 = true → bit s.clk.lock 0 = true → s.clk.nvmFailed = false →
        exec (.onDemandClockStart true) s = .next { s with mem := { s.mem with nvm := true, touched := s.tb } })
    ∧ (s.mem.nvm = true → exec .nvmClockIdleStop s
        = .next { s with tb := max s.tb (s.mem.touched + 160000), mem := { s.mem with nvm := false } })
    ∧ (s.mem.nvm = false → exec .nvmClockIdleStop s = .next s)

/-- The thermal model takes its power each period; its die's axes stop at 150 °C, and s_T is the largest scale that keeps T_LIM
(R77, R80, R79). With the Plough domain on and its die present, THERMAL_MODEL_UPDATE answers a state in which P_self is P_cond
+ P_fix, with P_cond the sum of the squares of the phase currents × 2 × R_on at the die's estimate T_est, and P_fix 5.0 W
while a bridge of the die is switching and 2.0 W otherwise. Where the temperature it then has is 150 °C or more and
THERMAL_STOP was clear, THERMAL_STOP is set, its event raised and every axis of the die holds the thermal HALT cause; below
130 °C the bit is clear; below T_LIM − 5 K s_T is 1.0. The other die's values are unchanged. With an estimate for the die and
a baseplate value, THERMAL_SCALE_UPDATE answers a state in which s_T of that die is 1.0 where the die is cooler than T_LIM −
5 K, and otherwise the largest k of 0 to 1,000,000 for which the steady-state estimate at k millionths of the currents does
not exceed T_LIM (0 where none does); THERMAL_DERATE of the die is set exactly where the scale is below 1.0, and its event is
raised where the bit rises. (Millionths, and the currents taken without s_T, are the model's choices, log 58.) Only the supply
page's status and the event change. -/
def Obligations.ThermalModelAndScale : Prop :=
  (∀ (s : State) (d : Fin 2) (sq : Nat), s.domOn (motDom d) = true → s.dieAbsent (motDie d) = false →
    ∃ t, exec (.thermalModelUpdate d sq) s = .next t
      ∧ (∀ T : Int, s.pwr.tEst[d] = some T →
          (t.pwr.pSelf[d] : Int) = max 0 ((sq * 2 : Nat) * (25000 + (T - 25000000) * 136 / 1000000) / 1000000)
            + (if ∃ a : Fin 12, ploughDie a = motDie d ∧ (s.coil[a].coil = .driven ∨ s.coil[a].coil = .holding) then 5000000 else 2000000))
      ∧ (∀ T : Int, t.dieTemp d = some T →
          (150000000 ≤ T → bit s.pwr.sta (10 + d.val) = false → bit t.pwr.sta (10 + d.val) = true
            ∧ (∀ a, ploughDie a = motDie d → .thermal ∈ t.ax[a].halts)
            ∧ RaisesFrom s t (evSource .pwr + d.val) 0x0305 ([b8 (s.pwr.scalePct d), 0] ++ leBytes 2 t.pwr.thEst[d]))
          ∧ (T < 130000000 → bit t.pwr.sta (10 + d.val) = false)
          ∧ (130000000 ≤ T → T < 150000000 → bit t.pwr.sta (10 + d.val) = bit s.pwr.sta (10 + d.val) ∧ t.ax = s.ax)
          ∧ (T < (s.cf .pwr 0x078 0 8 : Int) * 1000000 - 5000000 → t.pwr.sT[d] = 1000000))
      ∧ (∀ e : Fin 2, e ≠ d → t.pwr.thEst[e] = s.pwr.thEst[e] ∧ t.pwr.tEst[e] = s.pwr.tEst[e] ∧ t.pwr.pSelf[e] = s.pwr.pSelf[e]
          ∧ t.pwr.sT[e] = s.pwr.sT[e]))
  ∧ (∀ (s : State) (d : Fin 2) (sq : Nat) (T base : Int), s.dieTemp d = some T → tempOf s.baseShown = some base →
    ∃ t, exec (.thermalScaleUpdate d sq) s = .next t
      ∧ (T < (s.cf .pwr 0x078 0 8 : Int) * 1000000 - 5000000 → t.pwr.sT[d] = 1000000)
      ∧ ((s.cf .pwr 0x078 0 8 : Int) * 1000000 - 5000000 ≤ T → t.pwr.sT[d] ≤ 1000000
          ∧ (0 < t.pwr.sT[d] → s.scaleOk d sq t.pwr.sT[d] ((s.cf .pwr 0x078 0 8 : Int) * 1000000) base = true)
          ∧ (∀ k, t.pwr.sT[d] < k → k ≤ 1000000 → s.scaleOk d sq k ((s.cf .pwr 0x078 0 8 : Int) * 1000000) base = false))
      ∧ bit t.pwr.sta (8 + d.val) = decide (t.pwr.sT[d] < 1000000)
      ∧ (t.pwr.sT[d] < 1000000 → bit s.pwr.sta (8 + d.val) = false →
          RaisesFrom s t (evSource .pwr + d.val) 0x0304 ([b8 (t.pwr.scalePct d), 0] ++ leBytes 2 s.pwr.thEst[d]))
      ∧ SameExcept [.pwr, .seq, .links] s t)

/-- A sensor value enters its TEMP field; 145 °C sets TEMP_HIGH, above 100 °C on the baseplate BASE_HOT, 150 °C for 100 ms is
SAFE_HOLD (R81, R82, R125). TEMP_SENSOR_UPDATE of a powered, present die other than Signal box shows the value, in 1/16 °C, in
that die's field, and with Gauge powered and present that of the baseplate in TEMP_BP, which otherwise reads 0x8000; of a die
that is unpowered or held absent it does nothing, and its field reads 0x8000. A die at 145 °C or more with TEMP_HIGH clear sets
it and raises TEMP_HIGH with the die and the value; a baseplate above 100 °C with BASE_HOT clear sets it and raises BASE_HOT.
Signal box has no sensor. The instant from which a die's sensor has stood at 150 °C or more is kept, and DIE_OVERTEMP_HOLD of
such a powered, present die, 100 ms after it, enters SAFE_HOLD with the temperature cause from every mode from CONFIG to STANDBY
but SAFE_HOLD itself; of a cooler die it does nothing. -/
def Obligations.TemperatureSensors : Prop :=
  ∀ (s : State) (d : Fin 8) (v : Int), -0x7FFF ≤ v → v ≤ 0x7FFF →
    (s.dieOn d = true → d ≠ 2 → ∃ t, exec (.tempSensorUpdate (some d) v) s = .next t ∧ t.pwr.tempD[d] = (v % 65536).toNat
      ∧ (∀ e : Fin 8, e ≠ d → t.pwr.tempD[e] = s.pwr.tempD[e]) ∧ t.pwr.tempBp = s.pwr.tempBp
      ∧ (145 * 16 ≤ v → bit t.pwr.sta 12 = true)
      ∧ (150 * 16 ≤ v → s.pwr.hotSince[d] = none → t.pwr.hotSince[d] = some s.tb) ∧ (v < 150 * 16 → t.pwr.hotSince[d] = none)
      ∧ (145 * 16 ≤ v → bit s.pwr.sta 12 = false → Raises s t .pwr 0x0306 ([b8 d.val, 0] ++ leBytes 2 (v % 65536).toNat))
      ∧ SameExcept [.pwr, .seq, .links] s t)
    ∧ (s.dieOn 6 = false → exec (.tempSensorUpdate none v) s = .next s ∧ s.baseShown = 0x8000)
    ∧ (s.dieOn 6 = true → ∃ t, exec (.tempSensorUpdate none v) s = .next t ∧ t.pwr.tempBp = (v % 65536).toNat ∧ t.pwr.tempD = s.pwr.tempD
      ∧ bit t.pwr.sta 13 = decide (100 * 16 < v)
      ∧ (100 * 16 < v → bit s.pwr.sta 13 = false → Raises s t .pwr 0x0307 ([0xFF, 0] ++ leBytes 2 (v % 65536).toNat))
      ∧ SameExcept [.pwr, .seq, .links] s t)
    ∧ (exec (.tempSensorUpdate (some 2) v) s = .next s)
    ∧ (s.dieOn d = false → exec (.tempSensorUpdate (some d) v) s = .next s ∧ s.tempShown d s.pwr.tempD[d] = 0x8000)
    ∧ (∀ b, s.pwr.hotSince[d] = some b → s.dieOn d = true →
        (s.mc.mode = .config ∨ s.mc.mode = .run ∨ s.mc.mode = .degraded ∨ s.mc.mode = .service ∨ s.mc.mode = .standby) →
          ∃ t, exec (.dieOvertempHold d) s = .next t ∧ t.mc.mode = .safeHold ∧ t.mc.cause = 0x1A ∧ t.pwr.hot = true ∧ b + 16000000 ≤ t.tb)
    ∧ (s.pwr.hotSince[d] = none → exec (.dieOvertempHold d) s = .next s)

/-- A write of any value to VLOG_MIN sets it to 0xFFFF (R82). Where Junction answers and no earlier error stands in the way,
VLOG_MIN_WRITE with any value leaves VLOG_MIN at 0xFFFF, on a locked page too, and changes nothing else. -/
def Obligations.VlogMinWrite : Prop :=
  ∀ (s : State) (w : Word), s.takes .pwr 0x050 true →
    exec (.vlogMinWrite w) s = .next { s with pwr := { s.pwr with vlogMin := 0xFFFF } }

/-- DOM_KEEP_OFF switches a Plough die off and on, and is refused while one of its axes is assigned or moving (R73). Where the
write reaches the register: keeping off a die any of whose axes belongs to a portal or is not at standstill is refused with
VALUE_REFUSED, and the field, the domains and DIE_PRESENT keep their values. Otherwise the field takes bits 6:5, a die newly
kept off is unpowered, not present and not marked lost, with no DIE_ABSENT event, and a die no longer kept off is powered, its
link training unless the die is held absent, and its axes are halted where an undervoltage of its supply stands. -/
def Obligations.DomKeepOff : Prop :=
  ∀ (s : State) (w : Word), s.takes .pwr 0x044 false →
    ((∃ d : Fin 2, bit w (5 + d.val) = true ∧ bit (s.com .pwr 0x044) (5 + d.val) = false ∧ s.mayCut d = false) →
      ∃ t, exec (.domKeepOffWrite w) s = .next t ∧ (t.pg .pwr).errCode = 0x07 ∧ t.com .pwr 0x044 = s.com .pwr 0x044
        ∧ SameExcept [.pages, .hif, .posted] s t)
    ∧ ((∀ d : Fin 2, bit w (5 + d.val) = true → bit (s.com .pwr 0x044) (5 + d.val) = false → s.mayCut d = true) →
      ∃ t, exec (.domKeepOffWrite w) s = .next t ∧ t.com .pwr 0x044 = w &&& 0x60 ∧ t.lost = s.lost ∧ t.seq.next = s.seq.next
        ∧ (∀ e ∈ t.seq.held, e ∉ s.seq.held → e.code ≠ 0x0101)
        ∧ (∀ d : Fin 2, bit w (5 + d.val) = true → bit (s.com .pwr 0x044) (5 + d.val) = false →
            t.domOn (motDom d) = false ∧ bit t.present (motDie d).val = false)
        ∧ (∀ d : Fin 2, bit w (5 + d.val) = false → bit (s.com .pwr 0x044) (5 + d.val) = true →
            t.domOn (motDom d) = true ∧ (s.dieAbsent (motDie d) = false → t.links[motDie d].st = .training)
            ∧ (bit s.pwr.sta (2 + 3 * d.val) = true → ∀ a, ploughDie a = motDie d → .vmotUv ∈ t.ax[a].halts)))

/-- A commit needs its key and a valid staged set, and at the boundary every staged word becomes committed; STAGE_CLR discards
them instead (R139, R140, R141, R142, R143, R256). For a write of PG_COMMIT that reaches its page: another word than the key 0x5EED
reports BAD_KEY; the key with a commit pending reports COMMIT_BUSY; the key with a group that breaks its chapter's rules
reports COMMIT_INVALID with the group; in these cases the staged and committed words and the pending commit are as before.
Otherwise, with values staged, the commit is pending, due at the first boundary (a multiple of 10,000 counts) after now, and
nothing else changes. With a commit of the page's staged set pending to boundary b, COMMIT_BOUNDARY answers a state no earlier
than b in which every staged word is the committed word, nothing is staged, no commit is pending, bit 1 of PG_IRQ is set and
COMMIT is raised with the groups (where the page's die is present). A STAGE_CLR that reaches the page leaves nothing staged
and no commit pending, and, before the boundary of a pending commit, the committed words as they were; at or past it that
commit is already in effect. With no commit pending COMMIT_BOUNDARY does nothing. A commit that an ENGAGE accepted since its own
acceptance would make replace what an engaged engine runs on, or the inrush profile of a load channel that has gone on since, does not
take effect: COMMIT_BOUNDARY reports COMMIT_INVALID with the
group, ends the commit, and leaves the staged and committed words (the model's choice, log 77). -/
def Obligations.GroupCommits : Prop :=
  (∀ (s : State) (p : PageId) (w : Word), s.takes p 0x020 false → ∃ t, exec (.pgCommit p w) s = .next t
    ∧ (t.pg p).com = (s.pg p).com ∧ (t.pg p).stg = (s.pg p).stg ∧ (t.pg p).stage = (s.pg p).stage ∧ SameExcept [.pages, .hif, .posted] s t
    ∧ (w ≠ 0x5EED → (t.pg p).errCode = 0x04 ∧ (t.pg p).commitDue = (s.pg p).commitDue)
    ∧ (w = 0x5EED → (s.pg p).commitDue.isSome = true → (t.pg p).errCode = 0x20 ∧ (t.pg p).commitDue = (s.pg p).commitDue)
    ∧ (∀ g, w = 0x5EED → (s.pg p).commitDue = none → s.badGroup p = some g →
        (t.pg p).errCode = 0x21 ∧ (t.pg p).errDetail = g ∧ (t.pg p).commitDue = none)
    ∧ (w = 0x5EED → (s.pg p).commitDue = none → s.badGroup p = none → (s.pg p).stage ≠ 0 →
        (∃ b, (t.pg p).commitDue = some b ∧ s.tb < b ∧ b ≤ s.tb + 10000 ∧ b % 10000 = 0)
        ∧ (∀ q, q ≠ p → t.pg q = s.pg q) ∧ SameExcept [.pages] s t))
  ∧ (∀ (s : State) (p : PageId),
    (∀ b, (s.pg p).commitDue = some b → s.overtaken p = none → (s.pg p).sole = [] → (s.pg p).stg.Pairwise (fun x y => x.1 < y.1) →
      ∃ t, exec (.commitBoundary p) s = .next t
        ∧ t.tb = max s.tb b ∧ (t.pg p).stg = [] ∧ (t.pg p).stage = 0 ∧ (t.pg p).commitDue = none ∧ bit (t.pg p).irq 1 = true
        ∧ (∀ o w, (o, w) ∈ (s.pg p).stg → t.com p o = w)
        ∧ (∀ o, (∀ w, (o, w) ∉ (s.pg p).stg) → t.com p o = s.com p o)
        ∧ (pageDie p = 0 ∨ s.dieAbsent (pageDie p) = false → Raises s t p 0x0602 (leBytes 4 (s.pg p).stage.toNat)))
    ∧ (∀ b g, (s.pg p).commitDue = some b → s.overtaken p = some g → ∃ t, exec (.commitBoundary p) s = .next t
        ∧ t.tb = max s.tb b ∧ (t.pg p).errCode = 0x21 ∧ (t.pg p).errDetail = g ∧ (t.pg p).commitDue = none ∧ (t.pg p).stg = (s.pg p).stg
        ∧ (t.pg p).com = (s.pg p).com ∧ SameExcept [.tb, .pages, .hif, .posted] s t)
    ∧ ((s.pg p).commitDue = none → exec (.commitBoundary p) s = .next s)
    ∧ (s.takes p 0x00C false → ∃ t, exec (.pgStageClr p) s = .next t ∧ (t.pg p).stg = [] ∧ (t.pg p).stage = 0 ∧ (t.pg p).commitDue = none
        ∧ ((∀ b, (s.pg p).commitDue = some b → s.tb < b) →
            (t.pg p).com = (s.pg p).com ∧ (∀ q, q ≠ p → t.pg q = s.pg q) ∧ SameExcept [.pages] s t)
        ∧ (∀ b, (s.pg p).commitDue = some b → b ≤ s.tb → s.overtaken p = none → (s.pg p).sole = [] → (s.pg p).stg.Pairwise (fun x y => x.1 < y.1) →
            ∀ o w, (o, w) ∈ (s.pg p).stg → t.com p o = w)))

/-- A register write changes the RW bits of its word and nothing else, or is refused; LOCK and PG_ISET act on their page as
written (R137, R145, R132, R133, R134, R135, R510). Where the write reaches the page: PG_LOCK sets LOCKED on a lockable page
and nothing else, and changes nothing on another. PG_ISET leaves PG_IRQ with the bits written set, the reserved bits 7:3
apart, on a locked page too. A commit written to a locked page is refused with LOCKED and leaves the staged set and the
committed words. REGISTER_WRITE of four bytes at the address of a word with RW fields only that no block acts on, where the
write reaches it: the committed word keeps its other bits and takes the RW bits written (as clamped where R134 clamps), every
other word and everything else is as before. At an address with no page UNMAPPED is reported on DEV, and a width other than 4
or 8 bytes, or an address that is no multiple of 4, reports WIDTH (of a width above 8 bytes, and of the page where
the address lies in none, the model's choice, log 83); a word without writable fields reports RO_WRITE: no committed or staged word
changes. -/
def Obligations.RegisterWrites : Prop :=
  (∀ (s : State) (p : PageId) (w : Word),
    (s.takes p 0x00C true → ∃ t, exec (.pgLock p) s = .next t ∧ (t.pg p).lock = ((s.pg p).lock || pageLockable p) ∧ (t.pg p).com = (s.pg p).com
      ∧ (t.pg p).stg = (s.pg p).stg ∧ (∀ q, q ≠ p → t.pg q = s.pg q) ∧ SameExcept [.pages] s t)
    ∧ (s.takes p 0x01C true → ∃ t, exec (.pgIset p w) s = .next t ∧ (t.pg p).irq = (s.pg p).irq ||| (w &&& 0xFFFFFF07)
      ∧ (t.pg p).com = (s.pg p).com ∧ (t.pg p).ien = (s.pg p).ien ∧ (∀ q, q ≠ p → t.pg q = s.pg q) ∧ SameExcept [.pages, .hif, .posted] s t)
    ∧ (s.busAlive = true → s.busErr p 0x020 = none → s.waits p = false → (s.pg p).lock = true →
      ∃ t, exec (.pgCommit p w) s = .next t ∧ (t.pg p).errCode = 0x05 ∧ (t.pg p).com = (s.pg p).com ∧ (t.pg p).stg = (s.pg p).stg
      ∧ (t.pg p).commitDue = (s.pg p).commitDue))
  ∧ (∀ (s : State) (p : PageId) (o data : Nat) (w : Word), o < 4096 → 0x040 ≤ o → data < 2 ^ 32 → w = BitVec.ofNat 32 data →
    (∀ r, regAt p o = some r → r.rws = [] → r.w1c = 0 → rwBits p r ≠ 0 → s.blockWrite p o w = none → p ≠ .dbg →
      s.takes p o (s.lockExempt p o w) → ∃ t, exec (.registerWrite (4096 * pageNo p + o) 4 data) s = .next t
        ∧ t.com p o = (s.com p o &&& ~~~(rwBits p r)) ||| (clampWord p o w &&& rwBits p r)
        ∧ (∀ q k, (q ≠ p ∨ k ≠ o) → t.com q k = s.com q k) ∧ (∀ q, q ≠ p → t.pg q = s.pg q) ∧ (t.pg p).stg = (s.pg p).stg ∧ SameExcept [.pages] s t)
    ∧ (∀ r, regAt p o = some r → r.rw = 0 → r.wo = 0 → r.w1c = 0 → r.rws = [] → p ≠ .dbg → s.takes p o (s.lockExempt p o w) →
        ∃ t, exec (.registerWrite (4096 * pageNo p + o) 4 data) s = .next t ∧ (t.pg p).errCode = 0x03
          ∧ (∀ q, (t.pg q).com = (s.pg q).com ∧ (t.pg q).stg = (s.pg q).stg) ∧ SameExcept [.pages, .hif, .posted] s t)
    ∧ (∀ a size, s.busAlive = true → (a % 4 ≠ 0 ∨ (size ≠ 4 ∧ size ≠ 8)) → ∃ t, exec (.registerWrite a size data) s = .next t
        ∧ (t.pg (errPage a)).errCode = 0x02 ∧ (∀ q, (t.pg q).com = (s.pg q).com ∧ (t.pg q).stg = (s.pg q).stg) ∧ SameExcept [.pages, .hif, .posted] s t)
    ∧ (∀ a, s.busAlive = true → a % 4 = 0 → pageAt (a / 4096 % 256) = none → ∃ t, exec (.registerWrite a 4 data) s = .next t
        ∧ (t.pg .dev).errCode = 0x01 ∧ (∀ q, (t.pg q).com = (s.pg q).com ∧ (t.pg q).stg = (s.pg q).stg) ∧ SameExcept [.pages, .hif, .posted] s t))

/-- The read of a wide field's lowest word captures its others; a page capture is due after its lead and is held until it is
released (R91, R93, R94, R95, R132, R135, R148). For a read of a word of a page that Junction answers and no error meets,
with no write of the page waiting that could take effect before it: the word read goes out, and every further word of a field
wider than 32 bits of which it is the lowest is captured with the value it then has. A word that has been captured is
answered from the capture, whatever it holds by then, and no committed or staged word changes. A read that is no aligned one
of 4 or 8 bytes answers 0 and reports WIDTH (above 8 bytes the model's choice, log 83); one of an address in no page answers 0 and reports UNMAPPED on DEV; one of
BAR2's reserved window answers 0. PG_SNAP with 1 that reaches its page makes a capture due at TB plus SNAP_LEAD microseconds,
shown in CLK.SNAP_TB; with 0 it releases the held values, while a capture that is under way goes on. SNAP_ALL makes one
capture due, for the same instant, on every page whose domain is on and whose die is present. SNAP_CAPTURE takes every status
word of the page not before that instant; where the count arrives later it reports SNAP_LATE and counts it. SNAP_COMPLETE
clears the due capture, shows SNAP_HELD and sets SNAP_DONE in PG_IRQ. -/
def Obligations.WideReadsAndCaptures : Prop :=
  (∀ (s : State) (p : PageId) (o : Nat), o % 4 = 0 → o < 4096 → 0x040 ≤ o → p ≠ .dbg → s.busAlive = true → s.readErr p o = none → s.badRead p o = false →
    (p = .recd → 0x800 ≤ o → s.noGranary = false) → (s.clkStopped p = true ∨ (s.pg p).queue = []) →
    ∃ t, exec (.wideFieldRead (.bar0 (4096 * pageNo p + o)) 4) s = .next t
      ∧ ((s.pg p).cap.get? o = none → t.hspi.rdata = [s.blockWord p o])
      ∧ (∀ v, (s.pg p).cap.get? o = some v → t.hspi.rdata = [v])
      ∧ ((s.pg p).cap.get? o = none → ∀ k ∈ wideOf p o, (t.pg p).cap.get? k = some (s.blockWord p k))
      ∧ (∀ q, (t.pg q).com = (s.pg q).com ∧ (t.pg q).stg = (s.pg q).stg))
  ∧ (∀ (s : State) (a size : Nat), s.busAlive = true →
    ((a % 4 ≠ 0 ∨ (size ≠ 4 ∧ size ≠ 8)) → ∃ t, exec (.wideFieldRead (.bar0 a) size) s = .next t ∧ t.hspi.rdata = [0]
      ∧ (t.pg (errPage a)).errCode = 0x02 ∧ SameExcept [.pages, .hspi, .hif, .posted] s t)
    ∧ (a % 4 = 0 → pageAt (a / 4096 % 256) = none → ∃ t, exec (.wideFieldRead (.bar0 a) 4) s = .next t ∧ t.hspi.rdata = [0]
      ∧ (t.pg .dev).errCode = 0x01 ∧ SameExcept [.pages, .hspi, .hif, .posted] s t)
    ∧ (0xE00000 ≤ a → a < 0x1000000 → ∃ t, exec (.wideFieldRead (.bar2 a) size) s = .next t ∧ (∀ w ∈ t.hspi.rdata, w = 0) ∧ SameExcept [.hspi] s t))
  ∧ (∀ (s : State) (p : PageId),
    (s.takes p 0x030 true → (∃ t, exec (.pgSnapWrite p true) s = .next t ∧ (t.pg p).snapDue = some (s.tb + 160 * s.cf .clk 0x058 0 5)
        ∧ t.clk.snapTb = s.tb + 160 * s.cf .clk 0x058 0 5 ∧ (∀ q, q ≠ p → t.pg q = s.pg q) ∧ SameExcept [.pages, .clk] s t)
      ∧ (∃ t, exec (.pgSnapWrite p false) s = .next t ∧ (t.pg p).snapHeld = false ∧ (t.pg p).snapTaken = (s.pg p).snapTaken
        ∧ (t.pg p).snapDue = (s.pg p).snapDue ∧ ((s.pg p).snapTaken = true → (t.pg p).snap = (s.pg p).snap)
        ∧ (∀ q, q ≠ p → t.pg q = s.pg q) ∧ SameExcept [.pages] s t))
    ∧ (s.takes .clk 0x04C true → ∃ t, exec .snapAll s = .next t ∧ t.clk.snapTb = s.tb + 160 * s.cf .clk 0x058 0 5
        ∧ (∀ q, s.domOn (pageDom q) = true → s.dieAbsent (pageDie q) = false → (t.pg q).snapDue = some (s.tb + 160 * s.cf .clk 0x058 0 5))
        ∧ (∀ q, (s.domOn (pageDom q) = false ∨ s.dieAbsent (pageDie q) = true) → t.pg q = s.pg q) ∧ SameExcept [.pages, .clk] s t)
    ∧ (∀ due arr, (s.pg p).snapDue = some due → (s.pg p).snapTaken = false → (s.pg p).commitDue = none → ∃ t, exec (.snapCapture p arr) s = .next t
        ∧ (t.pg p).snapTaken = true ∧ t.tb = max s.tb (max due arr)
        ∧ (t.pg p).snap = (snapWords p).map (fun o => (o, State.statusWord { s with tb := max s.tb (max due arr) } p o))
        ∧ (due < arr → (t.pg p).errCode = 0x15 ∧ t.clk.lateCnt = min (s.clk.lateCnt + 1) 0xFFFF)
        ∧ (arr ≤ due → (t.pg p).errCode = (s.pg p).errCode ∧ t.clk = s.clk))
    ∧ ((s.pg p).snapTaken = true → ∃ t, exec (.snapComplete p) s = .next t ∧ (t.pg p).snapDue = none ∧ (t.pg p).snapHeld = true
        ∧ bit (t.pg p).irq 2 = true ∧ (t.pg p).snap = (s.pg p).snap ∧ SameExcept [.pages, .hif, .posted] s t))

/-- A die's update puts its status words into Junction's mirror; a queued write takes effect when the clock is back (R84, R90,
R92, R96, R97, R102, R353). A MIRROR_UPDATE of a mirrored page from a die that is present and answers, with Junction and the
page's domain powered, makes every status word that Junction presents for the page the word the die then has. A write to a page
whose clock is stopped, or for which earlier writes wait, is queued behind those that wait and changes no word, and on a page of
the APP domain it restarts that clock while PLL0 is locked; with eight waiting it is dropped, reported and counted. A write of
PG_IEN that waits alone takes effect at WRITE_QUEUE_DRAIN once the clock runs, which for the debug page is the debugger's
clocking of TCK, and the queue is then empty. A write that waits behind one that resets the block is discarded and counted. -/
def Obligations.MirrorsAndQueuedWrites : Prop :=
  ∀ (s : State) (p : PageId),
    (pageMirrored p = true → s.mute (pageDie p) = true → exec (.mirrorUpdate p .plain) s = .next s)
    ∧ (pageMirrored p = true → s.domOn 1 = true → s.domOn (pageDom p) = true → s.dieAbsent (pageDie p) = false → s.mute (pageDie p) = false →
      ∃ t, exec (.mirrorUpdate p .plain) s = .next t ∧ (∀ o ∈ snapWords p, t.presented p o = s.statusWord p o)
        ∧ (∀ q, q ≠ p → t.pg q = s.pg q) ∧ SameExcept [.pages] s t)
    ∧ (∀ w, s.busAlive = true → s.busErr p 0x020 = none → s.waits p = true → (s.pg p).queue.length < 8 →
      ∃ t, exec (.pgCommit p w) s = .next t ∧ (t.pg p).queue = (s.pg p).queue ++ [(0x020, w)] ∧ (t.pg p).commitDue = (s.pg p).commitDue
        ∧ (pageClk p = 2 → s.domOn 2 = true → bit s.clk.lock 0 = true → t.clkRuns 2 = true)
        ∧ (∀ q, q ≠ p → t.pg q = s.pg q) ∧ SameExcept [.pages, .clk] s t)
    ∧ (∀ w, s.busAlive = true → s.busErr p 0x020 = none → 8 ≤ (s.pg p).queue.length →
      ∃ t, exec (.pgCommit p w) s = .next t ∧ (t.pg p).queue = (s.pg p).queue ∧ (t.pg p).errCode = 0x12
        ∧ t.clk.dropCnt = min (s.clk.dropCnt + 1) 0xFFFF ∧ SameExcept [.pages, .clk, .hif, .posted] s t)
    ∧ (s.domOn (pageDom p) = true → s.clkStopped p = false → pageClk p ≠ 2 → p ≠ .dbg → (s.pg p).queue = [] → exec (.writeQueueDrain p) s = .next s)
    ∧ (∀ w, s.domOn (pageDom p) = true → (s.clkStopped p = false ∨ p = .dbg) → (p = .dbg → s.debugSta ≠ 1) → (s.pg p).queue = [(0x018, w)] →
      ∃ t, exec (.writeQueueDrain p) s = .next t ∧ (t.pg p).queue = [] ∧ (t.pg p).ien = w ∧ (∀ q, q ≠ p → t.pg q = s.pg q)
        ∧ SameExcept [.pages, .clk] s t)
    ∧ (∀ a v, p = .drv a → s.domOn (pageDom p) = true → s.clkStopped p = false → (s.pg p).lock = false → s.resetRefused p = none →
      (∀ b, (s.pg p).commitDue = some b → s.tb < b) → (s.pg p).queue = [(0x00C, 2), v] →
      ∃ t, exec (.writeQueueDrain p) s = .next t ∧ (t.pg p).queue = [] ∧ (t.pg p).rstPend = true
        ∧ t.clk.dropCnt = min (s.clk.dropCnt + 1) 0xFFFF)

/-- A MODE_REQ whose condition holds is taken or starts its sequence; any other is refused with its code, and the mode stays
(R105, R106, R111, R117, R121, R124, R125). For a request that reaches its register with no transition in progress: RUN of an
unpaired module in CONFIG that may leave it, with no cause of DEGRADED, enters RUN, and DEGRADED enters DEGRADED where such a
cause stands; SERVICE from RUN or DEGRADED with the key on for 100 ms, zero speed in both channels and every axis at rest
enters SERVICE; SAFE_HOLD from any mode from CONFIG to STANDBY enters SAFE_HOLD with every axis halted. Each raises
MODE_CHANGE with the old mode, the new mode and the cause HOST_REQUEST and shows PREV. CONFIG from SAFE_HOLD sends REREAD to
Signal box and, where the link has room, to Guard, and
SLEEP under the conditions of R111 starts the sleep entry: both show BUSY and leave the mode as it is. For a request that
reaches its register: while a transition is in progress each of the six is refused with MODE_BUSY; otherwise SLEEP is refused
with MODE_REFUSED where a condition of R111 fails and with WAKE_ACTIVE where only an enabled wake source is active, SERVICE
outside RUN and DEGRADED and SAFE_HOLD in SAFE_HOLD, SLEEP or BOOT with MODE_REFUSED, and CONFIG from SAFE_HOLD where a channel has
halted or is absent and cannot read the chains again (the model's choice, log 80). The code is in PG_ERR of HIF, the mode
control is unchanged, and nothing but that report happens. -/
def Obligations.ModeRequests : Prop :=
  (∀ s : State, s.takes .hif 0x104 false → s.mc.busy = false →
    (s.mc.mode = .config → s.mayLeave = true → s.degradedDue = false → s.cfg.paired = false → ∃ t, exec .modeReqRun s = .next t
      ∧ t.mc.mode = .run ∧ t.mc.prev = 2 ∧ t.mc.cause = 4 ∧ Raises s t .hif 0x0601 [2, 3, 4])
    ∧ (s.mc.mode = .config → s.mayLeave = true → s.degradedDue = true → s.cfg.paired = false → ∃ t, exec .modeReqDegraded s = .next t
      ∧ t.mc.mode = .degraded ∧ t.mc.prev = 2 ∧ t.mc.cause = 4 ∧ Raises s t .hif 0x0601 [2, 4, 4])
    ∧ (s.runs = true → s.keyOn 100 = true → s.zeroSpeed = true → (∀ a, s.atRest a = true) → ∃ t, exec .modeReqService s = .next t
      ∧ t.mc.mode = .service ∧ t.mc.prev = s.mc.mode.code ∧ t.mc.cause = 4 ∧ Raises s t .hif 0x0601 [b8 s.mc.mode.code, 5, 4])
    ∧ (s.mc.mode = .config ∨ s.mc.mode = .run ∨ s.mc.mode = .degraded ∨ s.mc.mode = .service ∨ s.mc.mode = .standby →
      ∃ t, exec .modeReqSafeHold s = .next t ∧ t.mc.mode = .safeHold ∧ t.mc.prev = s.mc.mode.code ∧ t.mc.cause = 4
      ∧ (∀ a : Fin 12, .safeHold ∈ t.ax[a].halts) ∧ t.prg.run ≠ .running ∧ Raises s t .hif 0x0601 [b8 s.mc.mode.code, 6, 4])
    ∧ (s.mc.mode = .safeHold → s.boot.guardOk = true → s.boot.jctOk = true → s.mayReread = true → ∃ t, exec .modeReqConfig s = .next t
      ∧ t.mc.mode = .safeHold ∧ t.mc.busy = true ∧ t.mc.target = some .config
      ∧ t.posted = s.posted ++ .packet 2 3 0 none :: (if s.links[(1 : Fin 8)].out.outstanding < 64 ∧ s.links[(1 : Fin 8)].out.wait = 0
          then [.packet 1 3 s.links[(1 : Fin 8)].out.next none] else [])
      ∧ SameExcept [.mc, .safe, .links, .posted] s t)
    ∧ (s.maySleep = true → s.wakeActive = false → ∃ t, exec .modeReqSleep s = .next t
      ∧ t.mc.mode = s.mc.mode ∧ t.mc.busy = true ∧ t.mc.target = some .sleep ∧ SameExcept [.mc] s t))
  ∧ (∀ (s : State) (c : Instr) (code : Nat), s.takes .hif 0x104 false →
    ((s.mc.busy = true ∧ code = 0x31 ∧ (c = .modeReqRun ∨ c = .modeReqDegraded ∨ c = .modeReqService ∨ c = .modeReqSafeHold ∨ c = .modeReqConfig ∨ c = .modeReqSleep))
      ∨ (s.mc.busy = false ∧ c = .modeReqSleep ∧ s.maySleep = false ∧ code = 0x30)
      ∨ (s.mc.busy = false ∧ c = .modeReqSleep ∧ s.maySleep = true ∧ s.wakeActive = true ∧ code = 0x32)
      ∨ (s.mc.busy = false ∧ c = .modeReqConfig ∧ s.mc.mode = .safeHold ∧ s.mayReread = false ∧ code = 0x30)
      ∨ (s.mc.busy = false ∧ c = .modeReqService ∧ s.runs = false ∧ code = 0x30)
      ∨ (s.mc.busy = false ∧ c = .modeReqSafeHold ∧ (s.mc.mode = .safeHold ∨ s.mc.mode = .sleep ∨ s.mc.mode = .boot) ∧ code = 0x30)) →
    ∃ t, exec c s = .next t ∧ (t.pg .hif).errCode = code ∧ t.mc = s.mc ∧ SameExcept [.pages, .hif, .posted] s t)

/-- Sleep switches off every domain but AON and keeps what is stored; with the service key off every axis stops and SAFE_HOLD
follows (R71, R105, R112, R123). With a sleep entry in progress and no cycle running, SLEEP_ENTRY answers a state in SLEEP with
PREV the mode before, no transition in progress and only AON powered; 1.3 ms have passed since E, no event is held, no axis
holds a move, every bridge is free and every load channel off; page locks and the list of absent dies stand, and the fuses are
as they were, but that an installation of a key that had not ended has not blown ACTIVE (R492). In SERVICE with the key off
since t and not yet lost, SERVICE_KEY_LOST answers a state no earlier than t + 100 ms in which every axis that was not at rest
has a command waiting, one at rest is as it was, and the mode is still SERVICE. SVC_KEY_LOST_HOLD then, with every axis at rest,
enters SAFE_HOLD with the cause SVC_KEY_LOST; while an axis still moves it does nothing. -/
def Obligations.SleepAndServiceKey : Prop :=
  (∀ s : State, s.mc.target = some .sleep → s.mc.busy = true → s.prg.inCycle = false → s.prg.waitRet = false →
    ∃ t, exec .sleepEntry s = .next t
      ∧ t.mc.mode = .sleep ∧ t.mc.prev = s.mc.mode.code ∧ t.mc.busy = false ∧ t.pwr.domains = 1 ∧ s.tb + 208000 ≤ t.tb
      ∧ t.seq.held = [] ∧ t.ax = State.reset.ax ∧ t.coil = State.reset.coil ∧ t.lsw = State.reset.lsw
      ∧ (∀ p, (t.pg p).lock = (s.pg p).lock) ∧ t.rst.absent = s.rst.absent ∧ t.fuses = s.fuses.cut t.tb
      ∧ (s.fuses.burn = none → t.fuses = s.fuses))
  ∧ (∀ s : State, s.mc.mode = .service →
    (∀ at_, s.mc.keyLost = false → s.serviceKey = some (false, at_) → ∃ t, exec .serviceKeyLost s = .next t
      ∧ t.tb = max s.tb (at_ + 16000000) ∧ t.mc.mode = .service ∧ t.mc.keyLost = true
      ∧ (∀ a : Fin 12, (s.atRest a = true → t.ax[a] = s.ax[a]) ∧ (s.atRest a = false → t.ax[a].taken ≠ [])) ∧ SameExcept [.tb, .mc, .ax] s t)
    ∧ (s.mc.keyLost = true → (∀ a, s.atRest a = true) → ∃ t, exec .svcKeyLostHold s = .next t ∧ t.mc.mode = .safeHold ∧ t.mc.cause = 0x17)
    ∧ ((∃ a, s.atRest a = false) → exec .svcKeyLostHold s = .next s))

/-- In SLEEP the first enabled source recognised is the wake: latched, PE_WAKE_N low for at most 1 s, and the boot may start
(R108, R109, R110, R113). Asleep with no wake recognised yet: a WAKE pad that holds its waking level, a wake-up pattern on
CAN0 or CAN1, the Sleeper timer with a time set, and a selected safety input are each recognised where their bit of WAKE_EN is
set: their bit of WAKE_CAUSE is set and PE_WAKE_N is driven low; with the bit clear nothing is recognised. PE_WAKE_TIMEOUT
releases PE_WAKE_N one second after the wake. BOOT_START then, with good fuses, enters BOOT with the cause WAKE and no die
held absent, powers GAU, Guard, Signal box, Junction and Granary, and is in transition; EPOCH rises by one, up to 65,535, where
AON has lost its power since the last boot, and stands otherwise. -/
def Obligations.WakesAndBoot : Prop :=
  ∀ s : State, s.mc.mode = .sleep → s.mc.busy = false →
    (s.mc.wakeHeld = false → ∀ (c : Instr) (k : Nat),
      ((∃ n : Fin 4, c = .wakePad n (bit (s.com .hif 0x114) n.val) ∧ k = n.val) ∨ (∃ n : Fin 2, c = .wakeCan n ∧ k = 4 + n.val)
        ∨ (c = .wakeTimer ∧ k = 6 ∧ s.com .hif 0x11C ≠ 0 ∧ s.mc.sleptAt ≠ none) ∨ (∃ n : Fin 32, c = .wakeSin n ∧ k = 7 ∧ bit (s.com .hif 0x118) n.val = true)) →
      ∃ t, exec c s = .next t
        ∧ (bit (s.com .hif 0x110) k = true → bit t.mc.wakeCause k = true ∧ t.mc.peWake = true ∧ t.mc.wakeHeld = true ∧ t.mc.wakeAt = t.tb)
        ∧ (bit (s.com .hif 0x110) k = false → t.mc.wakeCause = s.mc.wakeCause ∧ t.mc.peWake = s.mc.peWake ∧ t.mc.wakeHeld = false)
        ∧ t.mc.mode = .sleep ∧ SameExcept [.mc, .tb] s t)
    ∧ (s.mc.peWake = true → ∃ t, exec .peWakeTimeout s = .next t ∧ t.mc.peWake = false ∧ t.tb = max s.tb (s.mc.wakeAt + 160000000) ∧ SameExcept [.mc, .tb] s t)
    ∧ (s.mc.wakeHeld = true → ∃ t, exec (.bootStart true) s = .next t ∧ t.mc.mode = .boot ∧ t.mc.cause = 2 ∧ t.mc.prev = 0 ∧ t.mc.busy = true
        ∧ t.rst.absent = 0 ∧ t.rst.aonLost = false ∧ t.epoch = (if s.rst.aonLost then min (s.epoch + 1) 0xFFFF else s.epoch) ∧ (∀ d, d = 0 ∨ d = 1 ∨ d = 3 ∨ d = 4 ∨ d = 8 ∨ d = 9 → t.domOn d = true) ∧ Raises s t .hif 0x0601 [0, 1, 2])

/-- Firmware is verified, with fallback to the other copy, else SAFE_HOLD; a link that has not trained in 100 ms loses its
die (R115, R116, R498, R499, R19). In a started boot after a power-on, a full reset or a wake: with images readable and an
active copy whose Guard part passes, GUARD_FW_VERIFIED takes step 2 and the boot goes on; with Guard's part failing and the
other copy failing too it enters SAFE_HOLD with FW_INVALID. JUNCTION_FW_VERIFIED, once Guard's is verified and the seal
sequence of step 3 is over, starts Junction firmware from a copy that passes, which powers the program's domain and, unless
that has been done since the last full reset or wake, the Plough dies and the Switch die; with neither copy passing it enters
SAFE_HOLD with FW_INVALID. In SAFE_HOLD with the loader alone running, BOOT_LOADER_IMAGE of a loaded copy that passes makes
it the active one and takes a full reset, which shows bit 3 of RST.CAUSE (the model's choice, log 63); of one that fails it
shows the verdict and leaves the copy that is active, and without the loader it does nothing. For a die whose link trains, that answers
(R320, R353) and that is not held absent: DIE_LINK_TRAINED, not before the instant it gives,
makes the link up and shows the die in DIE_PRESENT, no other die's bit changes, and the axes of a Plough die lack the MOT
clock no longer (log 49); DIE_TRAIN_TIMEOUT declares it absent, clear in DIE_PRESENT and set in DIE_LOST, not before 100 ms
after the reference. With the link not in training neither does anything, and a die that has stopped answering does not train. -/
def Obligations.FirmwareAndLinkTraining : Prop :=
  (∀ s : State,
    (s.mc.mode = .boot → s.boot.started = true → s.boot.fromJct = false → s.boot.fwBad = false →
      (s.boot.guardOk = false → s.sec.fwPend = false → s.imagesReadable = true →
        (s.guardReason s.sec.fwCopy = 0 → ∃ t, exec .guardFwVerified s = .next t ∧ t.boot.guardOk = true ∧ t.mc = s.mc ∧ t.sec.fwCopy = s.sec.fwCopy)
        ∧ (s.guardReason s.sec.fwCopy ≠ 0 → s.fwReason (1 - s.sec.fwCopy) ≠ 0 →
            ∃ t, exec .guardFwVerified s = .next t ∧ t.boot.guardOk = false ∧ t.mc.mode = .safeHold ∧ t.mc.cause = 0x10))
      ∧ (s.boot.guardOk = true → s.sealDone = true → s.boot.jctOk = false → s.imagesReadable = true →
        (s.jctReason s.sec.fwCopy = 0 → ∃ t, exec .junctionFwVerified s = .next t ∧ t.boot.jctOk = true
            ∧ t.domOn 2 = true ∧ (s.boot.sixth = false → t.domOn 5 = true ∧ t.domOn 6 = true ∧ t.domOn 7 = true))
        ∧ (s.jctReason s.sec.fwCopy ≠ 0 → s.fwReason (1 - s.sec.fwCopy) ≠ 0 →
            ∃ t, exec .junctionFwVerified s = .next t ∧ t.boot.jctOk = false ∧ t.mc.mode = .safeHold ∧ t.mc.cause = 0x10)))
    ∧ (s.loaderOnly = true → s.otherCopyOk = true → ∃ t, exec .bootLoaderImage s = .next t ∧ t.sec.fwCopy = 1 - s.sec.fwCopy
        ∧ t.mc.mode = .boot ∧ bit t.rst.cause 3 = true ∧ t.rst.fullCount = min (s.rst.fullCount + 1) 0xFFFFFFFF)
    ∧ (s.loaderOnly = false → exec .bootLoaderImage s = .next s)
    ∧ (s.loaderOnly = true → s.otherCopyOk = false → ∃ t, exec .bootLoaderImage s = .next t ∧ t.sec.fwCopy = s.sec.fwCopy
        ∧ t.sec.fwPend = s.sec.fwPend ∧ SameExcept [.links, .seq, .mem, .pages, .hif, .sec, .posted] s t))
  ∧ (∀ (s : State) (d : Fin 8) (at_ : Nat),
    (s.links[d].st = .training → s.dieAbsent d = false →
      (s.mute d = true → exec (.dieLinkTrained d at_) s = .next s)
      ∧ (s.mute d = false → ∃ t, exec (.dieLinkTrained d at_) s = .next t ∧ at_ ≤ t.tb ∧ t.links[d].st = .up ∧ bit t.present d.val = true ∧ t.rst.absent = s.rst.absent
        ∧ (∀ a : Fin 12, ploughDie a = d → t.drv[a].motLost = false) ∧ (∀ k : Fin 8, k ≠ d → bit t.present k.val = bit s.present k.val))
      ∧ (∃ t, exec (.dieTrainTimeout d) s = .next t ∧ t.dieAbsent d = true ∧ bit t.present d.val = false ∧ bit t.lost d.val = true
        ∧ s.boot.ref + 16000000 ≤ t.tb))
    ∧ (s.links[d].st ≠ .training → exec (.dieLinkTrained d at_) s = .next s ∧ exec (.dieTrainTimeout d) s = .next s))

/-- The configuration and program images are verified before CONFIG can be left; an image that fails keeps the module in CONFIG
(R115, R116, R117, R361, R380, R497). In CONFIG with Junction firmware verified and no image refused: a configuration image
that passes and all of whose entries are taken is applied, so that the CAN controllers start and SEC shows its version and
hash; one that Guard refuses leaves the cause CFG_INVALID; a program image that passes, after the configuration image, makes
the program LOADED, and one that fails leaves the cause PRG_INVALID; RETAINED_RESTORED after a verified program notes that
retained data is settled. JOIN_WAIT_EXPIRY ends the wait for stations JOIN_WAIT after CAN started. CONFIG_EXIT of an unpaired
module with AUTO_RUN that may leave enters RUN at the next multiple of 1 ms, or DEGRADED where its cause stands, and one that
may not leave stays in CONFIG. -/
def Obligations.ImagesAndRetainedData : Prop :=
  ∀ s : State, s.mc.mode = .config →
    (s.boot.jctOk = true → s.mc.cause ≠ 0x30 → s.mc.cause ≠ 0x31 →
      (s.boot.cfgOk = false → s.sec.cfgPend = false → s.imagesReadable = true → s.cfgReason s.sec.cfgCopy s.grd.word ≠ 0 →
        ∃ t, exec .configImageVerified s = .next t ∧ t.boot.cfgOk = false ∧ t.mc.mode = .config ∧ t.mc.cause = 0x30)
      ∧ (s.boot.cfgOk = false → s.sec.cfgPend = false → s.imagesReadable = true → s.cfgReason s.sec.cfgCopy s.grd.word = 0 →
        ((s.guardVerdict 3 (cfgBase s.sec.cfgCopy) 0).applyImage (cfgBase s.sec.cfgCopy) (s.grd.word.getD 0)).1 = true →
        ∃ t, exec .configImageVerified s = .next t ∧ t.boot.cfgOk = true ∧ t.boot.canStart = some t.tb
          ∧ t.sec.cfgVersion = s.img (cfgBase s.sec.cfgCopy) 0x014 4 ∧ t.sec.cfgHash = s.imgHash (cfgBase s.sec.cfgCopy))
      ∧ (s.boot.cfgOk = true → s.boot.prgOk = false → s.imagesReadable = true →
        (s.prgReason s.prg.slot = 0 → ∃ t, exec .programImageVerified s = .next t ∧ t.boot.prgOk = true ∧ t.prg.run = .loaded ∧ t.mc = s.mc)
        ∧ (s.prgReason s.prg.slot ≠ 0 → ∃ t, exec .programImageVerified s = .next t ∧ t.boot.prgOk = false ∧ t.mc.cause = 0x31 ∧ t.mc.mode = .config)))
    ∧ (s.boot.prgOk = true → s.boot.retOk = false → ∃ t, exec .retainedRestored s = .next t ∧ t.boot.retOk = true ∧ t.mc.mode = .config)
    ∧ (∀ at_, s.boot.canStart = some at_ → ∃ t, exec .joinWaitExpiry s = .next t ∧ t.boot.joinOver = true
        ∧ t.tb = max s.tb (at_ + 160000 * s.cfg.joinWait) ∧ t.mc.mode = .config)
    ∧ (s.mayLeave = true → s.cfg.autoRun = true → s.mc.busy = false → s.cfg.paired = false → ∃ t, exec .configExit s = .next t
        ∧ t.mc.mode = (if s.degradedDue then .degraded else .run) ∧ t.mc.cause = 0 ∧ s.tb < t.tb ∧ t.tb ≤ s.tb + 160000 ∧ t.tb % 160000 = 0)
    ∧ (s.mayLeave = false → exec .configExit s = .next s)

/-- The event released is the one no other held event precedes, it takes the next SEQ, and SEQ stays within a reserved block (R22,
R26, R27, R29). With Junction firmware running and a first held event for which both release conditions hold, EVENT_RELEASE
removes that event and no other from those held or on their way, adds none but reports of uncorrectable words that its records and
statistics meet (a token or switch check that waited for the engine behind an attestation may add its own), and advances the next SEQ
by one; where all stamps held lie
within 2^47 counts of the present, for which R22 orders them, no held event comes before it in the order of stamp, die and
link sequence number; and where the block was used up a new block's boundary is stored first. With no event in the sequencer,
or the first one not yet releasable, nothing happens. -/
def Obligations.EventsTakeSeqInOrder : Prop :=
  ∀ s : State,
    (∀ e, s.firstHeld = some e → s.domOn 1 = true → s.boot.jctOk = true → s.releasable e = true → ∃ t, exec .eventRelease s = .next t
      ∧ e ∈ s.seq.inside ∧ (∃ l, t.seq.held = s.seq.held.erase e ++ l ∧ (e.code ≠ 0xA005 → ∀ x ∈ l, x.code = 0x0103))
      ∧ (s.mem.torn = [] → e.code ≠ 0xA005 → t.seq.held = s.seq.held.erase e)
      ∧ ((∀ x ∈ s.seq.inside, s.age x < 2 ^ 47) → ∀ x ∈ s.seq.inside, x.before e = false)
      ∧ t.seq.next = s.seq.next + 1
      ∧ t.seq.limit = (if s.seq.limit ≤ s.seq.next then s.seq.next + 65536 else s.seq.limit)
      ∧ (e.code = 0x0601 → t.mc.entrySeq = s.seq.next))
    ∧ (∀ e, s.firstHeld = some e → s.releasable e = false → exec .eventRelease s = .next s)
    ∧ (s.seq.inside = [] → exec .eventRelease s = .next s)

/-- A move command that no rule refuses waits for its period and changes nothing else; of a refused one nothing is taken up
(R159, R160, R161, R170). For a write of MOVE_CTL by host software that reaches its register. The commands STOP, QSTOP and
FLUSH of an axis that may move, enabled, not halted, not following and owned by the host wait, behind those that wait, for
the present period, or for the next where fewer than 3,200 counts of it remain. GO and IMM of an absolute or velocity move,
for which no reason of R160 to R162 stands, wait likewise with the move the MV_ fields hold. A relative move, for whose
target as it now stands no such reason stands (a GO's counted from the end of the last positioned move held, an IMM's and a
first GO's from the position at the commit point), waits with its distance, whose base is counted when the planner takes it.
For a write of MOVE_CTL by host software that reaches its register: KIND 3 with GO or IMM is refused with MOVE_CONFLICT; GO
with sixteen moves held, those accepted and not yet taken among them, with QUEUE_FULL; every command in a mode in which no
axis moves, of a disabled axis, or of an axis that is halted or following, with NOT_READY (beside those two); and one of an
axis the host does not own with NOT_OWNER. The code is in PG_ERR of the axis's page and no axis changes. -/
def Obligations.MoveCommands : Prop :=
  (∀ (s : State) (a : Fin 12), s.takes (.ax a) 0x040 true →
    let m := if s.tb % 10000 < 6800 then s.tb / 10000 else s.tb / 10000 + 1
    let waits (t : State) (w : Taken) : Prop := t.ax[a].taken = s.ax[a].taken ++ [(m, w)] ∧ t.ax[a].queue = s.ax[a].queue ∧ t.ax[a].furrow = s.ax[a].furrow
      ∧ (∀ b : Fin 12, b ≠ a → t.ax[b] = s.ax[b]) ∧ SameExcept [.ax] s t
    (s.modeMoves = true → (s.mc.mode = .degraded → s.dieAbsent (ploughDie a) = false) → (s.pg (.ax a)).en = true → s.ax[a].st ≠ .halted →
        s.ax[a].halts = [] → s.ax[a].following = false → s.ownsAxis .host a = true →
      (∃ t, exec (.stop a) s = .next t ∧ waits t (.stop 6)) ∧ (∃ t, exec (.qstop a) s = .next t ∧ waits t .qstop)
      ∧ (∃ t, exec (.flush a) s = .next t ∧ waits t .flush))
    ∧ (∀ (k : Fin 4) (neg : Bool), k = 0 ∨ k = 2 →
        (s.axRefusal .host a 0 (s.mvFields a k.val neg) (s.ax[a].lastEnd.getD s.ax[a].commitPos) = none →
          ∃ t, exec (.go a k neg) s = .next t ∧ waits t (.go (s.mvFields a k.val neg) false 0))
        ∧ (s.axRefusal .host a 1 (s.mvFields a k.val neg) s.ax[a].commitPos = none →
          ∃ t, exec (.imm a k neg) s = .next t ∧ waits t (.imm (s.mvFields a k.val neg) false 0)))
    ∧ (∀ (neg : Bool) (base : Int),
        (base = s.ax[a].lastEnd.getD s.ax[a].commitPos →
          s.axRefusal .host a 0 { s.mvFields a 1 neg with goal := base + (s.mvFields a 1 neg).goal } base = none →
          ∃ t, exec (.go a 1 neg) s = .next t ∧ waits t (.go (s.mvFields a 1 neg) true 0))
        ∧ (base = s.ax[a].commitPos → s.axRefusal .host a 1 { s.mvFields a 1 neg with goal := base + (s.mvFields a 1 neg).goal } base = none →
          ∃ t, exec (.imm a 1 neg) s = .next t ∧ waits t (.imm (s.mvFields a 1 neg) true 0))))
  ∧ (∀ (s : State) (a : Fin 12) (k : Fin 4) (neg : Bool), s.takes (.ax a) 0x040 true →
    let refuses (c : Instr) (code : Nat) : Prop := ∃ t, exec c s = .next t ∧ (t.pg (.ax a)).errCode = code ∧ t.ax = s.ax ∧ SameExcept [.pages, .hif, .posted] s t
    refuses (.go a 3 neg) 0x44 ∧ refuses (.imm a 3 neg) 0x44
    ∧ (k ≠ 3 → 16 ≤ s.ax[a].queue.length + s.ax[a].pendingMoves.length → refuses (.go a k neg) 0x40)
    ∧ (s.modeMoves = false ∨ (s.pg (.ax a)).en = false ∨ s.ax[a].st = .halted ∨ s.ax[a].following = true →
        refuses (.stop a) 0x43 ∧ refuses (.qstop a) 0x43 ∧ refuses (.flush a) 0x43 ∧ (k ≠ 3 → refuses (.imm a k neg) 0x43))
    ∧ (s.modeMoves = true → (s.mc.mode = .degraded → s.dieAbsent (ploughDie a) = false) → (s.pg (.ax a)).en = true → s.ax[a].st ≠ .halted →
        s.ax[a].halts = [] → s.ax[a].following = false → s.ownsAxis .host a = false →
        refuses (.stop a) 0x42 ∧ refuses (.qstop a) 0x42 ∧ refuses (.flush a) 0x42))

/-- A boundary starts the next period and sends the setpoints; what is due in a period is taken in it (R140, R169, R180, R181,
R163, R170, R171). CONTROL_PERIOD_BOUNDARY answers a state in the period after the one before, or in the one TB has reached, no
earlier than that period's first count. Every axis has been sent the setpoint of the period after it, one of speed zero where it
is disabled; one on no engine and with no takeover due that is not halted and has setpoints planned shows in POS_CMD the end
position of the setpoint in force. With no takeover due on the axis, PLANNER_TAKE leaves no command of the present or an earlier
period waiting and keeps every later one. Where something is taken of an axis that no engine drives, the running setpoint is the
one it had, and the committed one differs at most in the plan that follows it. A single GO taken by an axis at rest with nothing
queued, in no start group and in a period in which nothing has been taken yet, leaves that move as the only one of the queue; a
STOP taken by any such axis leaves no move planned behind the commit point. -/
def Obligations.PeriodsAndPlannerTakes : Prop :=
  (∀ s : State, ∃ t, exec .controlPeriodBoundary s = .next t
    ∧ t.period = max (s.period + 1) (s.tb / 10000) ∧ t.tb = max s.tb (t.period * 10000)
    ∧ (∀ a : Fin 12, ∃ sp, (t.period + 1, sp) ∈ t.drv[a].next ∧ ((s.pg (.ax a)).en = false → sp.rate0 = 0 ∧ sp.slope = 0))
    ∧ ((∀ a : Fin 12, s.pairx.ax[a].due = false) → ∀ a : Fin 12, s.ax[a].engine = none →
        s.ax[a].st ≠ .halted → s.ax[a].halts = [] → s.ax[a].furrow ≠ [] → t.ax[a].pos = s.drv[a].sp.endPos))
  ∧ (∀ (s : State) (a : Fin 12), s.pairx.ax[a].due = false → ∃ t, exec (.plannerTake a) s = .next t
    ∧ (∀ e ∈ t.ax[a].taken, s.tb / 10000 < e.1) ∧ (∀ e ∈ s.ax[a].taken, s.tb / 10000 < e.1 → e ∈ t.ax[a].taken)
    ∧ (s.ax[a].following = false → (∃ e ∈ s.ax[a].taken, e.1 ≤ s.tb / 10000) → ∃ p : Plan,
        t.ax[a].furrow.take 2 = s.ax[a].front.take 1 ++ (s.ax[a].front.drop 1).map (fun (q : Period) => { q with plan := p }))
    ∧ (∀ mv h, s.ax[a].following = false → bit (s.com (.gear a) 0x060) 0 = false → s.ax[a].st = .idle → s.ax[a].active = false → s.ax[a].queue = []
        → (∀ q ∈ s.ax[a].furrow, q.early = 0 ∧ q.done = 0 ∧ q.drop = 0) → s.gear[a].waiting = none
        → (∀ k, s.ax[a].took = some k → k.period ≠ s.tb / 10000) → s.ax[a].taken = [(s.tb / 10000, .go mv false h)] → t.ax[a].queue = [mv] ∧ t.ax[a].taken = [] ∧ t.ax[a].tagged = true)
    ∧ (s.ax[a].following = false → bit (s.com (.gear a) 0x060) 0 = false → s.gear[a].waiting = none → s.portalOf a = none
        → (∀ q ∈ s.ax[a].furrow, q.early = 0 ∧ q.done = 0 ∧ q.drop = 0)
        → s.ax[a].taken = [(s.tb / 10000, .stop 6)] → t.ax[a].queue = [] ∧ t.ax[a].taken = []))

/-- At a period's first MOT clock the die applies that period's setpoint; a position off END_POS halts the axis (R128, R179, R180,
R182). For an axis with the MOT clock whose last period's clocks are done and that no cause halts: where ACC stands at END_POS,
PLOUGH_PERIOD_START applies the setpoint that has arrived for the period, from clock 0, and drops those of earlier periods;
where none has arrived the rate is 0 and one more missed period is counted. Where ACC does not stand at END_POS, PLAN_MISMATCH
is flagged and the axis is halted by it. MICROSTEP_EMIT, while a microstep is left in the period, runs the multiplier to the
clock that emits it, which moves the position, and changes nothing but the die's drive, coils and counters, the noted POS_CMD
of the feedback channel and TB. Without the MOT clock neither does anything. -/
def Obligations.SetpointsAreApplied : Prop :=
  ∀ (s : State) (a : Fin 12),
    (s.drv[a].motLost = true → exec (.ploughPeriodStart a) s = .next s ∧ exec (.microstepEmit a) s = .next s)
    ∧ (s.drv[a].motLost = false → s.drv[a].clock = 10000 → s.ax[a].halts = [] →
      (s.drv[a].acc / 2 ^ 24 = s.drv[a].sp.endPos → ∃ t, exec (.ploughPeriodStart a) s = .next t
        ∧ t.drv[a].per = max (s.drv[a].per + 1) (s.tb / 10000) ∧ t.drv[a].clock = 0 ∧ t.drv[a].acc = s.drv[a].acc ∧ t.ax = s.ax
        ∧ (∀ e ∈ t.drv[a].next, max (s.drv[a].per + 1) (s.tb / 10000) < e.1)
        ∧ (∀ n sp, s.drv[a].next.find? (fun e => e.1 = max (s.drv[a].per + 1) (s.tb / 10000)) = some (n, sp) →
            t.drv[a].sp = sp ∧ t.drv[a].rate = sp.rate0 ∧ t.drv[a].slope = sp.slope ∧ t.drv[a].missed = 0)
        ∧ (s.drv[a].next.find? (fun e => e.1 = max (s.drv[a].per + 1) (s.tb / 10000)) = none → t.drv[a].rate = 0 ∧ t.drv[a].slope = 0
            ∧ t.drv[a].sp.stop = true ∧ t.drv[a].missed = s.drv[a].missed + 1)
        ∧ (∀ b : Fin 12, b ≠ a → t.drv[b] = s.drv[b]))
      ∧ (s.drv[a].acc / 2 ^ 24 ≠ s.drv[a].sp.endPos → ∃ t, exec (.ploughPeriodStart a) s = .next t
        ∧ bit t.ax[a].flags 8 = true ∧ .planMismatch ∈ t.ax[a].halts ∧ t.ax[a].st = .halted ∧ Raises s t (.ax a) 0x2008
            (leBytes 2 (s.actTag a) ++ [b8 s.ax[a].st.code, 0] ++ leBytes 5 (tc 40 s.ax[a].pos))))
    ∧ (s.drv[a].motLost = false → (s.drv[a].toEmit (10000 - s.drv[a].clock)).2 = true → ∃ t, exec (.microstepEmit a) s = .next t
        ∧ t.drv[a].acc / 2 ^ 24 ≠ s.drv[a].acc / 2 ^ 24 ∧ s.drv[a].clock < t.drv[a].clock ∧ t.drv[a].clock ≤ 10000
        ∧ s.tb ≤ t.tb ∧ SameExcept [.drv, .coil, .watch, .fb, .tb] s t)
    ∧ ((s.drv[a].toEmit (10000 - s.drv[a].clock)).2 = false → exec (.microstepEmit a) s = .next s)

/-- A voltage update drives the coils within 0.96 of the supply; a die that loses its setpoints takes standstill on all its axes
(R194 to R198, R200, R128, R201). VOLTAGE_UPDATE of an axis with the MOT clock comes at the next multiple of N_half (2,500 or
5,000 clocks) that it has not served, to which the multiplier runs on. Coils that are then FREE or BRAKE change at most their
measured currents, which at a PWM valley, every second such multiple, are those measured. Of driven or holding coils I_SET is
the amplitude in force; at rest without feed-forward, VOLT_LIMIT is shown exactly where R_PH × I_SET exceeds 0.96 of the
supply, and is then latched in FLAGS; each leg is high for 0 to N_half clocks. The dead-time correction of the legs is none
below 100 mA or with DTC clear, and a current reversed with its voltage gives leg P what leg M had. Without the MOT clock the
update does nothing. STANDSTILL_DELAY_EXPIRY of an axis that is HOLDING, or holds behind a gate cut, puts its coils into the
standstill mode at level 0, not before STBY_DELAY × 10 ms from rest; of another it does nothing. SETPOINT_TIMEOUT and
MOT_CLOCK_LOSS of a Plough die each leave every axis of that die with its rate 0, no setpoint waiting, its whole-microstep
position unchanged and its coils in the standstill mode at level 0, and after the second without the MOT clock; no axis of the
other die changes, and nothing else does. LINK_RESET_RECEIVED does the same to the axes not before the end of the second PWM
period from then, up to which they run on, and flushes the link's endpoint. -/
def Obligations.VoltageAndStandstill : Prop :=
  (∀ (s : State) (a : Fin 12) (vmot : Nat) (m : Option (Int × Int)),
    let n := if s.cf (.drv a) 0x070 0 1 = 1 then 5000 else 2500
    let at_ := s.updateAt a
    let r := State.runTo a (min 10000 (at_ - s.drv[a].per * 10000)) runFuel (s.to at_)
    (s.drv[a].motLost = true → exec (.voltageUpdate a vmot m) s = .next s)
    ∧ (s.drv[a].motLost = false → ∃ t, exec (.voltageUpdate a vmot m) s = .next t
      ∧ at_ % n = 0 ∧ s.tb ≤ at_ ∧ (∀ last, s.coil[a].updAt = some last → last < at_) ∧ t.tb = at_ ∧ t.coil[a].updAt = some at_
      ∧ t.drv = r.drv ∧ t.ax = s.ax ∧ (∀ b : Fin 12, b ≠ a → t.coil[b] = s.coil[b])
      ∧ (∀ i, m = some i → at_ % (2 * n) = 0 → t.coil[a].iA = i.1 ∧ t.coil[a].iB = i.2)
      ∧ (m = none ∨ at_ % (2 * n) ≠ 0 → t.coil[a].iA = s.coil[a].iA ∧ t.coil[a].iB = s.coil[a].iB)
      ∧ (r.coil[a].coil = .free ∨ r.coil[a].coil = .brake →
          t.coil[a] = { r.coil[a] with iA := t.coil[a].iA, iB := t.coil[a].iB, updAt := some at_ } ∧ SameExcept [.coil] r t)
      ∧ (r.coil[a].coil = .driven ∨ r.coil[a].coil = .holding →
          t.coil[a].iSet = r.amplitude a ∧ t.coil[a].coil = r.coil[a].coil ∧ t.coil[a].level = r.coil[a].level
          ∧ (r.drv[a].rate = 0 → s.cf (.drv a) 0x04C 0 1 = 0 → t.coil[a].vLim = decide (960 * vmot < s.cf (.drv a) 0x040 0 16 * r.amplitude a))
          ∧ (t.coil[a].vLim = true → bit t.coil[a].flags 5 = true)
          ∧ (∀ k : Int, k = t.coil[a].legA.1 ∨ k = t.coil[a].legA.2 ∨ k = t.coil[a].legB.1 ∨ k = t.coil[a].legB.2 → 0 ≤ k ∧ k ≤ n)))
    ∧ (∀ u v i : Int, (s.cf (.drv a) 0x070 24 1 = 0 ∨ i.natAbs < 100 → s.legs a u v i = s.legs a u v 0)
        ∧ (s.legs a u v i).1 = (s.legs a (-u) v (-i)).2)
    ∧ (s.coil[a].coil = .holding ∨ s.watch[a].hold = true → ∃ t, exec (.standstillDelayExpiry a) s = .next t
      ∧ t.coil[a].coil = s.standbyCoil a ∧ t.coil[a].level = 0
      ∧ t.tb = max s.tb (s.watch[a].restAt + 1600000 * s.cf (.drv a) 0x054 0 8) ∧ (∀ b : Fin 12, b ≠ a → t.coil[b] = s.coil[b])
      ∧ SameExcept [.tb, .coil, .watch] s t)
    ∧ (s.coil[a].coil ≠ .holding → s.watch[a].hold = false → exec (.standstillDelayExpiry a) s = .next s))
  ∧ (∀ (s : State) (d : Fin 2),
    let rests (t : State) : Prop :=
      (∀ a : Fin 12, ploughDie a = motDie d → t.drv[a].rate = 0 ∧ t.drv[a].slope = 0 ∧ t.drv[a].next = [] ∧ t.coil[a].level = 0
          ∧ t.coil[a].coil = t.standbyCoil a)
      ∧ (∀ a : Fin 12, ploughDie a ≠ motDie d → t.drv[a] = s.drv[a] ∧ t.coil[a] = s.coil[a] ∧ t.watch[a] = s.watch[a])
    (∀ c : Instr, c = .setpointTimeout d ∨ c = .motClockLoss d → ∃ t, exec c s = .next t ∧ rests t
      ∧ (∀ a : Fin 12, ploughDie a = motDie d → t.drv[a].acc / 2 ^ 24 = s.drv[a].acc / 2 ^ 24 ∧ t.coil[a].coil = s.standbyCoil a
          ∧ (c = .motClockLoss d → t.drv[a].motLost = true))
      ∧ SameExcept [.drv, .coil, .watch] s t)
    ∧ (∃ t, exec (.linkResetReceived d) s = .next t ∧ rests t ∧ t.links[motDie d].out = {} ∧ t.links[motDie d].inn = {}
      ∧ (∀ a : Fin 12, ploughDie a = motDie d → (s.tb / (2 * s.nHalf a) + 2) * (2 * s.nHalf a) ≤ t.tb)))

/-- The estimator averages the period's back-EMF vector; a condition that lasts STALL_N periods declares one stall (R203,
R204, R206, R207). LOAD_ANGLE_ESTIMATE of an axis whose coils are driven or holding puts the period's vector u − R_PH × i −
L_PH × Δi / 62.5 µs in front of at most LA_FILT earlier ones and keeps the currents of the period's end; coils that are free
or brake are not estimated. For driven coils with an encoder, below the speed at which the angle is valid: a position error
over STALL_ERR in the STALL_N-th period in a row, none declared before it, latches STALL, counts it and, from a die that is
not held absent, raises STALL with the position error; an error within STALL_ERR ends the run. Without an encoder STALL_BLIND
is shown instead and nothing is declared. -/
def Obligations.LoadAngleAndStall : Prop :=
  ∀ (s : State) (a : Fin 12) (u i e : Int × Int),
    (s.coil[a].coil = .free ∨ s.coil[a].coil = .brake → exec (.loadAngleEstimate a u i e) s = .next s)
    ∧ (s.coil[a].coil = .driven ∨ s.coil[a].coil = .holding → ∃ t, exec (.loadAngleEstimate a u i e) s = .next t
      ∧ t.watch[a].iPrev = e ∧ t.watch[a].emf.length ≤ max 1 (s.cf (.drv a) 0x078 24 8)
      ∧ t.watch[a].emf.head? = some
          (1000 * u.1 - s.cf (.drv a) 0x040 0 16 * i.1 - 16 * s.cf (.drv a) 0x044 0 16 * (e.1 - s.watch[a].iPrev.1),
           1000 * u.2 - s.cf (.drv a) 0x040 0 16 * i.2 - 16 * s.cf (.drv a) 0x044 0 16 * (e.2 - s.watch[a].iPrev.2))
      ∧ (s.coil[a].coil = .driven → (fullStepNum s.drv[a].sp.rate0).natAbs < s.cf (.drv a) 0x07C 16 16 * 2 ^ 56 →
          (s.hasEncoder a = true → s.cf (.drv a) 0x07C 0 16 < s.coil[a].posErr.natAbs →
            (s.cf (.drv a) 0x078 8 8 ≤ s.watch[a].stallRun + 1 → s.watch[a].stalled = false →
              bit t.coil[a].flags 4 = true ∧ t.watch[a].stalled = true ∧ t.watch[a].stallCount = min (s.watch[a].stallCount + 1) 0xFFFF
              ∧ (s.dieAbsent (ploughDie a) = false → Raises s t (.drv a) 0x2102 ([1, 0, 0, 0] ++ leBytes 4 (tc 32 s.coil[a].posErr))))
            ∧ (s.watch[a].stallRun + 1 < s.cf (.drv a) 0x078 8 8 → t.watch[a].stallRun = s.watch[a].stallRun + 1 ∧ t.seq = s.seq))
          ∧ (s.hasEncoder a = true → s.coil[a].posErr.natAbs ≤ s.cf (.drv a) 0x07C 0 16 → t.watch[a].stallRun = 0 ∧ t.seq = s.seq)
          ∧ (s.hasEncoder a = false → t.coil[a].blind = true ∧ t.seq = s.seq)))

/-- A bridge fault frees and halts its axis alone; a gate-drive cut frees its side's axes, halts those that move and latches no
fault (R173, R208, R209, R202). OVERCURRENT_TRIP latches OC and counts it; OPEN_PHASE_DETECT latches OPEN_A or OPEN_B where the
coils are driven or holding and the phase's peak over the last 64 PWM periods has stayed under 10 % of a demanded peak of 200 mA
or more, and does nothing otherwise; GDRV_UV latches its flag on every axis of the die. Each frees the axis, gives it the
bridge-fault HALT cause and raises BRIDGE_FAULT with the FLAGS bits where the die is not held absent, and alters no other axis's
coils. A write of FLAGS that reaches the page is refused with FAULT_ACTIVE for the over-current within 10 ms of it, and for
GDRV_UV while the gate drive measures low; that bit stays, with the HALT cause, and every other bit written clears. Otherwise it
clears the bits written, and with the last fault bit the HALT cause. While a half of the side's gate permit is off, GATE_CUT
leaves every axis of that side, by the gate map its die holds, FREE with GATE_CUT shown and its fault flags as they were; one
that moves, or stays driven without having come to rest, is halted by the cut, and any other keeps its planner. An axis of the
other side keeps its coils. With both halves on GATE_CUT does nothing, and GATE_RESTORE clears GATE_CUT and the halt by it on
every axis of the side that was cut, leaves it FREE in a mode that keeps every bridge off, and changes no coil of the other
side. -/
def Obligations.BridgeFaults : Prop :=
  (∀ (s : State) (a : Fin 12) (w : Word),
    let faulted (k : Nat) (t : State) : Prop := bit t.coil[a].flags k = true ∧ t.coil[a].coil = .free ∧ .bridgeFault ∈ t.ax[a].halts
      ∧ (∀ b : Fin 12, b ≠ a → t.coil[b] = s.coil[b] ∧ t.drv[b] = s.drv[b])
      ∧ (s.dieAbsent (ploughDie a) = false → Raises s t (.drv a) 0x2101 [b8 t.coil[a].flags.toNat])
    (∃ t, exec (.overcurrentTrip a) s = .next t ∧ faulted 0 t ∧ t.watch[a].ocCount = min (s.watch[a].ocCount + 1) 0xFFFF)
    ∧ (∀ b : Bool, (s.phaseOpen a b = true → ∃ t, exec (.openPhaseDetect a b) s = .next t ∧ faulted (if b then 2 else 1) t)
        ∧ (s.phaseOpen a b = false → exec (.openPhaseDetect a b) s = .next s))
    ∧ (∀ b : Bool, s.phaseOpen a b = true →
        let l := s.coil[a].pwm.map (fun e => if b then e.2 else e.1)
        (s.coil[a].coil = .driven ∨ s.coil[a].coil = .holding) ∧ 64 ≤ l.length ∧ (∃ e ∈ l, 200 ≤ e.2 ∧ ∀ x ∈ l, 10 * x.1 < e.2))
    ∧ (∀ d : Fin 2, ∃ t, exec (.gdrvUv d true) s = .next t ∧ (∀ b : Fin 12, ploughDie b = motDie d →
          bit t.coil[b].flags 3 = true ∧ t.coil[b].coil = .free ∧ .bridgeFault ∈ t.ax[b].halts ∧ t.watch[b].gdrvLow = true)
        ∧ (∀ b : Fin 12, ploughDie b ≠ motDie d → t.coil[b] = s.coil[b] ∧ t.watch[b] = s.watch[b]))
    ∧ (∀ d : Fin 2, ∃ t, exec (.gdrvUv d false) s = .next t ∧ (∀ b : Fin 12, ploughDie b = motDie d → t.watch[b].gdrvLow = false) ∧ SameExcept [.watch] s t)
    ∧ (s.takes (.drv a) 0x084 true →
        (∀ oc gd : Bool, oc = (bit w 0 && bit s.coil[a].flags 0 && decide (s.tb < s.watch[a].ocAt + 1600000)) →
          gd = (bit w 3 && bit s.coil[a].flags 3 && s.watch[a].gdrvLow) → oc = true ∨ gd = true →
          ∃ t, exec (.drvFlagClear a w) s = .next t ∧ (t.pg (.drv a)).errCode = 0x40 ∧ t.ax = s.ax
            ∧ (∀ k, k < 32 → bit t.coil[a].flags k = (bit s.coil[a].flags k && (!bit w k || (oc && k == 0) || (gd && k == 3))))
            ∧ (∀ b : Fin 12, b ≠ a → t.coil[b] = s.coil[b]) ∧ SameExcept [.coil, .pages, .hif, .posted] s t)
        ∧ ((bit w 0 = false ∨ bit s.coil[a].flags 0 = false ∨ s.watch[a].ocAt + 1600000 ≤ s.tb) → (bit w 3 = false ∨ bit s.coil[a].flags 3 = false ∨ s.watch[a].gdrvLow = false) →
          ∃ t, exec (.drvFlagClear a w) s = .next t ∧ t.coil[a].flags = s.coil[a].flags &&& ~~~w
            ∧ (s.coil[a].flags &&& 0xF ≠ 0 → t.coil[a].flags &&& 0xF = 0 → .bridgeFault ∉ t.ax[a].halts))))
  ∧ (∀ (s : State) (side : Fin 2),
    (s.gateOn side = false → (∃ t, exec (.gateCut side) s = .next t
        ∧ (∀ a : Fin 12, s.heldSide a = side → t.coil[a].coil = .free ∧ t.coil[a].gateCut = true ∧ t.coil[a].flags = s.coil[a].flags
            ∧ (s.ax[a].moves = true ∨ s.watch[a].live = true → .gateCut ∈ t.ax[a].halts)
            ∧ (s.ax[a].moves = false → s.watch[a].live = false → t.ax[a] = s.ax[a]))
        ∧ (∀ a : Fin 12, s.heldSide a ≠ side → t.coil[a] = s.coil[a]))
      ∧ exec (.gateRestore side) s = .next s)
    ∧ (s.gateOn side = true → exec (.gateCut side) s = .next s ∧ (∃ t, exec (.gateRestore side) s = .next t
        ∧ (∀ a : Fin 12, s.heldSide a = side → s.coil[a].gateCut = true → t.coil[a].gateCut = false ∧ .gateCut ∉ t.ax[a].halts
            ∧ (s.axesOff = true → t.coil[a].coil = .free))
        ∧ (∀ a : Fin 12, s.heldSide a ≠ side → t.coil[a] = s.coil[a]))))

/-- A legal quadrature transition moves RAW by one, an illegal one is counted; a good SSI frame gives POS, a bad one only counts
(R217, R218, R220, R221, R225, R226, R227, R228). For a channel in MODE 1 without an encoder fault. A change that would end a
level of its line shorter than FILT clocks only passes time, as does an index edge within twice that of the last. With the lines
one place on in the order 00, 10, 11, 01 (A leads, which counts positive with DIR_INV 0, B leading negative, as the model reads
R217, log 61) or one place back: RAW moves by one count in that direction, POS too, except that with HYST_EN the first count
after a reversal leaves POS and increments HYST_COUNT; the direction is kept. With both lines changed RAW and POS stay,
QERR_COUNT increments and POS_UNCERTAIN and QUAD_ERR are set. With neither changed nothing moves. An INDEX_EDGE with A and B
high latches POS and sets INDEX; with either low only the time of the edge is kept. For a channel in MODE 2 without an encoder
fault. With no frame in progress, none started in the last SSI_PER periods and TM past since the last one's end, SSI_FRAME_START
of an unpaired module or of the active one of a pair starts one at the boundary, with the position as it then stands; a module
of a pair that is not active clocks none and listens from where the active module's frame begins (R470; of one not in STANDBY
the model's choice, log 87). A frame in progress that ends with the line low, in single transfer with no status bit of the error
mask set: as the first good frame since the restart, with no jump limit, it gives POS and RAW the decoded value plus SSI_OFS,
clears POS_UNCERTAIN and ends the run of bad frames. One that ends with the line high is bad: POS stays, SSI_ERR_COUNT and the
run of bad frames increment and SSI_ERR is set. -/
def Obligations.EncoderDecoding : Prop :=
  (∀ (s : State) (c : Fin 14) (a b : Bool) (at_ : Nat), s.fbMode c = 1 → s.encFault c = false →
    let k := (quadPlace a b + 4 - quadPlace s.fb[c].lvA s.fb[c].lvB) % 4
    let inv : Bool := s.cf (fbPage c) 0x058 2 1 = 1
    let absorbs (d : Int) : Bool := s.cf (fbPage c) 0x058 3 1 = 1 && decide (s.fb[c].lastDir ≠ 0) && decide (d ≠ s.fb[c].lastDir)
    let short : Prop := (a ≠ s.fb[c].lvA ∧ s.fb[c].tooShort 0 (max s.tb at_) (s.fbFilt c) = true)
      ∨ (b ≠ s.fb[c].lvB ∧ s.fb[c].tooShort 1 (max s.tb at_) (s.fbFilt c) = true)
    (short → ∃ t, exec (.encoderTransition c a b at_) s = .next t ∧ SameExcept [.tb] s t)
    ∧ (∀ d : Int, ¬ short → (k = 1 ∧ d = (if inv then -1 else 1)) ∨ (k = 3 ∧ d = (if inv then 1 else -1)) →
      ∃ t, exec (.encoderTransition c a b at_) s = .next t ∧ t.fb[c].raw = s.fb[c].raw + d ∧ t.fb[c].lastDir = d
        ∧ t.fb[c].pos = s.fb[c].pos + (if absorbs d then 0 else d) ∧ t.fb[c].hyst = (if absorbs d then min (s.fb[c].hyst + 1) 0xFFFF else s.fb[c].hyst)
        ∧ t.fb[c].lvA = a ∧ t.fb[c].lvB = b ∧ (∀ e : Fin 14, e ≠ c → t.fb[e] = s.fb[e]))
    ∧ (¬ short → k = 2 → ∃ t, exec (.encoderTransition c a b at_) s = .next t ∧ t.fb[c].raw = s.fb[c].raw ∧ t.fb[c].pos = s.fb[c].pos ∧ t.fb[c].lastDir = s.fb[c].lastDir
        ∧ t.fb[c].qerr = min (s.fb[c].qerr + 1) 0xFFFF ∧ t.fb[c].uncertain = true ∧ bit t.fb[c].flags 1 = true
        ∧ (s.fb[c].window = none → bit t.fb[c].flags 0 = decide (s.cf (fbPage c) 0x058 16 8 = 0)))
    ∧ (k = 0 → ∃ t, exec (.encoderTransition c a b at_) s = .next t ∧ t.fb = s.fb ∧ SameExcept [.tb, .fb] s t)
    ∧ (s.fb[c].tooShort 2 (max s.tb at_) (2 * s.fbFilt c) = true → ∃ t, exec (.indexEdge c at_) s = .next t ∧ SameExcept [.tb] s t)
    ∧ (s.fb[c].tooShort 2 (max s.tb at_) (2 * s.fbFilt c) = false → s.fb[c].lvA = true → s.fb[c].lvB = true →
      ∃ t, exec (.indexEdge c at_) s = .next t ∧ t.fb[c].idxPos = s.fb[c].pos ∧ bit t.fb[c].flags 3 = true
        ∧ t.fb[c].pos = s.fb[c].pos ∧ (∀ e : Fin 14, e ≠ c → t.fb[e] = s.fb[e]))
    ∧ (s.fb[c].lvA = false ∨ s.fb[c].lvB = false → ∃ t, exec (.indexEdge c at_) s = .next t
        ∧ t.fb[c] = { s.fb[c] with edges := t.fb[c].edges } ∧ (∀ e : Fin 14, e ≠ c → t.fb[e] = s.fb[e]) ∧ SameExcept [.tb, .fb] s t))
  ∧ (∀ (s : State) (c : Fin 14) (d1 d2 : Nat), s.fbMode c = 2 → s.encFault c = false →
    (s.fbx[c].frame = none → s.cfg.paired = true → s.pair.actO = false → ∃ t, exec (.ssiFrameStart c) s = .next t ∧ t.fbx[c].frame = some s.tb
        ∧ (∀ e : Fin 14, e ≠ c → t.fbx[e] = s.fbx[e]) ∧ SameExcept [.fbx] s t)
    ∧ (s.fbx[c].frame = none → s.cfg.paired = false ∨ s.pair.actO = true → (∀ n, s.fbx[c].lastFrame = some n → n + s.cf (fbPage c) 0x068 0 5 ≤ s.period
          ∧ n * 10000 + s.ssiClocks c + 160 * s.cf (fbPage c) 0x064 24 6 ≤ s.period * 10000) →
      ∃ t, exec (.ssiFrameStart c) s = .next t ∧ t.fbx[c].frame = some (s.period * 10000) ∧ t.fbx[c].lastFrame = some s.period
        ∧ (∀ e : Fin 14, e ≠ c → t.fbx[e] = s.fbx[e]) ∧ SameExcept [.fbx] s t)
    ∧ (∀ latch, s.fbx[c].frame = some latch →
      let cfg := s.com (fbPage c) 0x060
      let n := fld cfg 0 6
      let st := fld cfg 8 3
      let code := d1 % 2 ^ n / 2 ^ st
      let v := if bit cfg 11 then grayDecode (n - st) code else code
      let p : Int := if bit cfg 12 then sx (n - st) v else v
      (bit cfg 13 = false → d1 % 2 ^ st &&& fld cfg 16 5 = 0 → s.cf (fbPage c) 0x06C 0 24 = 0 → s.fbx[c].prev = none →
        ∃ t, exec (.ssiFrameDone c d1 d2 false) s = .next t ∧ t.fbx[c].frame = none ∧ t.fbx[c].prev = some p ∧ t.fbx[c].badRun = 0
          ∧ t.fb[c].pos = p + sx 40 ((s.com (fbPage c) 0x070).toNat + 2 ^ 32 * s.cf (fbPage c) 0x074 0 8)
          ∧ t.fb[c].raw = t.fb[c].pos ∧ t.fb[c].uncertain = false)
      ∧ (∃ t, exec (.ssiFrameDone c d1 d2 true) s = .next t ∧ t.fbx[c].frame = none ∧ t.fb[c].pos = s.fb[c].pos ∧ t.fb[c].raw = s.fb[c].raw
          ∧ t.fbx[c].errs = min (s.fbx[c].errs + 1) 0xFFFF ∧ t.fbx[c].badRun = s.fbx[c].badRun + 1 ∧ bit t.fb[c].flags 2 = true
          ∧ bit t.fb[c].flags 0 = decide (s.cf (fbPage c) 0x060 24 4 ≤ s.fbx[c].badRun + 1))))

/-- A low encoder supply faults the active channels; PRESET needs rest; a selected probe edge is latched; a DIN change is raised
with its stamp (R223, R224, R230, R231, R233, R232, R235, R236, R237, R238, R239, R240). VENC_FAULT sets ENC_FAULT on every
channel in MODE 1 or 2 alone, with cause VENC where none stood; a supply good again changes only what the clears ask about. A
write of 1 to ENC_FAULT that reaches the page is refused while VENC5 is low, and clears the other bits written; else it clears
it too, with VEL 0 at standstill and no cause. SPEED_TIMEOUT puts a channel in MODE 1 or 2 without a fault at standstill with
VEL 0 and keeps POS, which ends the HALT that a stall raised on an axis with an encoder (R207); under a fault, or off, nothing. FB_SPEED_UPDATE of such a channel at standstill shows VEL 0 and, for an axis with an encoder, the position error
against the setpoint at the latch; one faulted or off keeps VEL. A write of PRESET that reaches a channel not in MODE 2,
whose axis if any is IDLE or HALTED, sets POS and RAW to PRE_VAL and clears POS_UNCERTAIN; in MODE 2, and with the axis not at
rest, it is refused and changes no channel. PROBE_EDGE whose stamp, 18 clocks before, follows the probe's last one by 18 clocks
or more makes a channel that selects the edge wait with it, behind those that wait, where the slot is free or may be
overwritten, sets PRB_OVR where it may not, and leaves another channel but for the stamp; a closer one changes nothing.
PROBE_LATCH_DONE of a channel in MODE 0 or 1 stores, for the oldest edge that waits, POS as it stood at the stamp and the stamp
in the slot, sets its flag and raises PROBE where the channel's die is not held absent; with none waiting it does nothing. With
GAU on, the start-up begun and a level other than the accepted one sampled for the input's filter time, DIN_EDGE leaves that
level, with the stamp, and the change bit and, where Gauge is not held absent, raises DIN_EDGE on DEV with the
input, the level, its filter code and the first sample's stamp by Gauge's count, within 4 counts of Junction's (R23); no other
input changes, and the level the program sees stays until the event's release. Otherwise only time passes. -/
def Obligations.EncoderServices : Prop :=
  (∀ (s : State) (c : Fin 14) (w : Word),
    (∃ t, exec (.vencFault true) s = .next t ∧ t.fb[c].vencLow = true
      ∧ (s.fbMode c = 1 ∨ s.fbMode c = 2 → bit t.fb[c].flags 0 = true ∧ (s.encFault c = false → t.fb[c].cause = 3 ∧ t.fb[c].uncertain = true))
      ∧ (s.fbMode c ≠ 1 → s.fbMode c ≠ 2 → t.fb[c] = { s.fb[c] with vencLow := true }))
    ∧ (∃ t, exec (.vencFault false) s = .next t ∧ t.fb[c] = { s.fb[c] with vencLow := false } ∧ SameExcept [.fb] s t)
    ∧ (s.takes (fbPage c) 0x084 true → bit w 0 = true → bit s.fb[c].flags 0 = true →
        (s.fb[c].vencLow = true → ∃ t, exec (.fbFlagClear c w) s = .next t ∧ (t.pg (fbPage c)).errCode = 0x42
            ∧ t.fb[c] = { s.fb[c] with flags := s.fb[c].flags &&& ~~~(clrBit w 0) } ∧ (∀ e : Fin 14, e ≠ c → t.fb[e] = s.fb[e]))
        ∧ (s.fb[c].vencLow = false → ∃ t, exec (.fbFlagClear c w) s = .next t ∧ t.fb[c].flags = s.fb[c].flags &&& ~~~w ∧ t.fb[c].cause = 0
            ∧ t.fb[c].vel = 0 ∧ t.fb[c].still = true ∧ t.fb[c].pos = s.fb[c].pos
            ∧ ((∀ a, axisOf c = some a → .stall ∉ s.ax[a].halts) → SameExcept [.fb, .fbx] s t)))
    ∧ (s.encFault c = true ∨ s.fbMode c = 0 → exec (.speedTimeout c) s = .next s)
    ∧ (s.encFault c = false → s.fbMode c ≠ 0 → ∃ t, exec (.speedTimeout c) s = .next t ∧ t.fb[c].still = true ∧ t.fb[c].vel = 0 ∧ t.fb[c].pos = s.fb[c].pos ∧ t.fb[c].raw = s.fb[c].raw
        ∧ (∀ e : Fin 14, e ≠ c → t.fb[e] = s.fb[e])
        ∧ (∀ a, axisOf c = some a → s.hasEncoder a = true → .stall ∉ t.ax[a].halts ∧ (s.ax[a].halts = [.stall] → t.ax[a].st = .idle))
        ∧ ((∀ a, axisOf c = some a → .stall ∉ s.ax[a].halts) → SameExcept [.tb, .fb] s t))
    ∧ (∃ t, exec (.fbSpeedUpdate c) s = .next t ∧ t.fb[c].pos = s.fb[c].pos ∧ (s.encFault c = true ∨ s.fbMode c = 0 → t.fb[c].vel = s.fb[c].vel)
        ∧ (s.encFault c = false → s.fbMode c ≠ 0 → s.fb[c].still = true → t.fb[c].vel = 0)
        ∧ (s.fb[c].still = true → (s.period, s.fb[c].pos * 65536) ∈ t.fb[c].fines)
        ∧ (∀ a : Fin 12, fbOf a = c → s.hasEncoder a = true → t.coil[a].posErr = s.fbUs c - s.fb[c].cmdAt)
        ∧ SameExcept [.fb, .coil, .gear, .cam] s t))
  ∧ (∀ (s : State) (c : Fin 14) (k : Fin 4) (rising : Bool) (at_ : Nat),
    (s.takes (fbPage c) 0x040 true →
      (s.fbMode c ≠ 2 → (∀ a, axisOf c = some a → s.atRest a = true) → ∃ t, exec (.preset c) s = .next t
        ∧ t.fb[c].pos = sx 40 ((s.com (fbPage c) 0x044).toNat + 2 ^ 32 * s.cf (fbPage c) 0x048 0 8) ∧ t.fb[c].raw = t.fb[c].pos
        ∧ t.fb[c].uncertain = false ∧ t.fb[c].lastDir = s.fb[c].lastDir ∧ (∀ e : Fin 14, e ≠ c → t.fb[e] = s.fb[e])
        ∧ ((∀ a, axisOf c = some a → .stall ∉ s.ax[a].halts) → SameExcept [.fb, .ax, .drv] s t))
      ∧ (s.fbMode c = 2 → ∃ t, exec (.preset c) s = .next t ∧ t.fb = s.fb ∧ (t.pg (fbPage c)).errCode = 0x41)
      ∧ (∀ a, s.fbMode c ≠ 2 → axisOf c = some a → s.atRest a = false → ∃ t, exec (.preset c) s = .next t ∧ t.fb = s.fb ∧ (t.pg (fbPage c)).errCode = 0x40))
    ∧ (∃ t, exec (.probeEdge k rising at_) s = .next t ∧
        let cfg := s.com (fbPage c) 0x078
        let p := s.fbx[c].prb[k]
        let merged : Prop := ∃ e, p.edge = some e ∧ at_ - 18 < e + 18
        (merged → t.fb[c] = s.fb[c] ∧ t.fbx[c] = s.fbx[c])
        ∧ (¬ merged →
          (bit cfg (2 * k.val + (if rising then 0 else 1)) = false → t.fb[c] = s.fb[c] ∧ t.fbx[c].prb[k] = { p with edge := some (at_ - 18) })
          ∧ (bit cfg (2 * k.val + (if rising then 0 else 1)) = true →
            (bit cfg (8 + k.val) = true ∨ (bit s.fb[c].flags (4 + k.val) = false ∧ p.pend = []) →
                t.fb[c] = s.fb[c] ∧ t.fbx[c].prb[k] = { p with edge := some (at_ - 18), pend := p.pend ++ [at_ - 18] })
            ∧ (bit cfg (8 + k.val) = false → (bit s.fb[c].flags (4 + k.val) = true ∨ p.pend ≠ []) →
                t.fbx[c].prb[k] = { p with edge := some (at_ - 18) } ∧ bit t.fb[c].flags 8 = true))))
    ∧ (∀ te l, s.fbx[c].prb[k].pend = te :: l → s.fbMode c ≠ 2 → ∃ t, exec (.probeLatchDone c k) s = .next t
        ∧ t.fbx[c].prb[k] = { s.fbx[c].prb[k] with pos := s.fb[c].posAt te, te := te, pend := l }
        ∧ bit t.fb[c].flags (4 + k.val) = true ∧ te + 18 ≤ t.tb
        ∧ (s.dieAbsent (pageDie (fbPage c)) = false →
          RaisesFrom s t (evSource (fbPage c)) 0x2202 ([b8 k.val] ++ leBytes 5 (tc 40 (s.fb[c].posAt te)) ++ leBytes 6 (stampOf te))))
    ∧ (s.fbx[c].prb[k].pend = [] → exec (.probeLatchDone c k) s = .next s))
  ∧ (∀ (s : State) (n : Fin 48) (level : Bool) (first at_ : Nat),
    let long : Prop := first + 160 * dinTime s.cfg.dinFilt[n] ≤ at_
    (s.domOn 8 = true → s.boot.started = true → long → s.din[n].level ≠ level → ∃ t, exec (.dinEdge n level first at_) s = .next t
      ∧ t.din[n].level = level ∧ t.din[n].chg = true ∧ t.din[n].since = first + 160 * dinTime s.cfg.dinFilt[n] ∧ t.din[n].seqLevel = s.din[n].seqLevel
      ∧ (∀ m : Fin 48, m ≠ n → t.din[m] = s.din[m])
      ∧ (s.dieAbsent 6 = false → ∃ done : Nat, done ≤ first + 160 * dinTime s.cfg.dinFilt[n] + 4 ∧ first + 160 * dinTime s.cfg.dinFilt[n] ≤ done + 4
          ∧ Raises s t .dev 0x0104 ([b8 n.val, b8 (b2n level), b8 s.cfg.dinFilt[n], 0, 0, 0]
            ++ leBytes 6 (stampOf (done - 160 * dinTime s.cfg.dinFilt[n]))))
      ∧ SameExcept [.tb, .din, .seq, .links] s t)
    ∧ (s.domOn 8 = false ∨ s.boot.started = false ∨ ¬ long ∨ s.din[n].level = level → ∃ t, exec (.dinEdge n level first at_) s = .next t ∧ SameExcept [.tb] s t))

/-- ENGAGE couples an idle axis to its gear or cam without a step; a start group that waits too long discards its held moves
(R244, R245, R252, R253, R257, R248, R255, R256). For a write of GEAR CTL that reaches the engine's page: with no reason of R245
against it ENGAGE shows ENGAGED, puts the axis in FOLLOW under this engine with the committed ratio, the present setpoint
position as REF_S and the master's sample as REF_M; with a reason it reports the code and engages nothing, and outside RUN,
DEGRADED and SERVICE that is 0x42. DISENGAGE disarms, and of the engine that drives the axis it waits for the planner. ARM
copies the committed group 1 and is refused with ARM_BUSY while armed; DISARM leaves no arm. For a write of CAM CTL that reaches
the engine's page: with no reason against it ENGAGE puts the cam's axis in FOLLOW with OFS such that the table's value at the
master's sample plus OFS is the axis's present setpoint position; with a reason the code is reported and nothing engages.
DISENGAGE of the engine that drives the axis waits for the planner, and of another does nothing. GROUP_TIMEOUT of a group with a
member whose wait has a deadline empties the queue of every waiting member, ends its wait, sets its GROUP_TMO flag and raises
GROUP_TIMEOUT, not before the earliest deadline; of another group it does nothing. -/
def Obligations.EngineFollows : Prop :=
  (∀ (s : State) (a : Fin 12), s.takes (.gear a) 0x040 true →
    (s.engageRefusal .host a a.val (s.gearSrc a) = none → ∃ t, exec (.gearEngage a) s = .next t
      ∧ t.gear[a].engaged = true ∧ t.ax[a].engine = some a.val ∧ t.ax[a].st = .follow ∧ t.ax[a].pos = s.ax[a].pos
      ∧ t.gear[a].refS = s.ax[a].pos ∧ t.gear[a].refM = (s.engageRef (s.gearSrc a)).2 ∧ t.gear[a].since = s.takePeriod
      ∧ t.gear[a].num = (s.com (.gear a) 0x044).toInt ∧ t.gear[a].den = (s.com (.gear a) 0x048).toNat
      ∧ (∀ b : Fin 12, b ≠ a → t.ax[b] = s.ax[b] ∧ t.gear[b] = s.gear[b]) ∧ SameExcept [.ax, .gear] s t)
    ∧ (∀ code, s.engageRefusal .host a a.val (s.gearSrc a) = some code → ∃ t, exec (.gearEngage a) s = .next t
      ∧ (t.pg (.gear a)).errCode = code ∧ t.gear = s.gear ∧ t.ax = s.ax)
    ∧ (s.modeMoves = false → s.ax[a].engine = none → ∃ t, exec (.gearEngage a) s = .next t ∧ (t.pg (.gear a)).errCode = 0x42 ∧ t.gear = s.gear)
    ∧ (s.ax[a].engine = some a.val → ∃ t, exec (.gearDisengage a) s = .next t ∧ t.gear[a] = { s.gear[a] with arm := none } ∧ t.ax[a].taken = s.ax[a].taken ++ [(s.takePeriod, .follow .disengage)]
      ∧ t.ax[a].engine = some a.val ∧ (∀ b : Fin 12, b ≠ a → t.ax[b] = s.ax[b] ∧ t.gear[b] = s.gear[b]) ∧ SameExcept [.ax, .gear] s t)
    ∧ (s.ax[a].engine ≠ some a.val → ∃ t, exec (.gearDisengage a) s = .next t ∧ t.gear[a] = { s.gear[a] with arm := none }
      ∧ (∀ b : Fin 12, b ≠ a → t.gear[b] = s.gear[b]) ∧ SameExcept [.gear] s t)
    ∧ (s.gear[a].arm = none → ∃ t, exec (.gearArm a) s = .next t ∧ (∃ num den pos dir, t.gear[a].arm = some (num, den, pos, dir)
        ∧ num = (s.com (.gear a) 0x04C).toInt ∧ den = (s.com (.gear a) 0x050).toNat ∧ dir = s.cf (.gear a) 0x058 8 2
        ∧ pos = sx 40 ((s.com (.gear a) 0x054).toNat + 2 ^ 32 * s.cf (.gear a) 0x058 0 8)) ∧ SameExcept [.gear] s t)
    ∧ (s.gear[a].arm ≠ none → ∃ t, exec (.gearArm a) s = .next t ∧ (t.pg (.gear a)).errCode = 0x43 ∧ t.gear = s.gear)
    ∧ (∃ t, exec (.gearDisarm a) s = .next t ∧ t.gear[a].arm = none ∧ (∀ b : Fin 12, b ≠ a → t.gear[b] = s.gear[b]) ∧ SameExcept [.gear] s t))
  ∧ ((∀ (s : State) (c : Fin 4), s.takes (enginePage (16 + c.val)) 0x040 true →
    (s.engageRefusal .host (s.camAxis c) (16 + c.val) (s.camSrc c) = none → ∃ t, exec (.camEngage c) s = .next t
      ∧ t.cam[c].engaged = true ∧ t.ax[s.camAxis c].engine = some (16 + c.val) ∧ t.ax[s.camAxis c].st = .follow
      ∧ t.cam[c].ofs + (s.camY c (s.engageRef (s.camSrc c)).2).1 = s.ax[s.camAxis c].pos ∧ SameExcept [.ax, .cam] s t)
    ∧ (∀ code, s.engageRefusal .host (s.camAxis c) (16 + c.val) (s.camSrc c) = some code → ∃ t, exec (.camEngage c) s = .next t
      ∧ (t.pg (enginePage (16 + c.val))).errCode = code ∧ t.cam = s.cam ∧ t.ax = s.ax)
    ∧ (s.ax[s.camAxis c].engine = some (16 + c.val) → ∃ t, exec (.camDisengage c) s = .next t
      ∧ t.ax[s.camAxis c].taken = s.ax[s.camAxis c].taken ++ [(s.takePeriod, .follow .disengage)] ∧ SameExcept [.ax] s t)
    ∧ (s.ax[s.camAxis c].engine ≠ some (16 + c.val) → exec (.camDisengage c) s = .next s))
  ∧ (∀ (s : State) (g : Fin 4),
    ((∀ a ∈ s.members g, s.groupDeadline a = none) → exec (.groupTimeout g) s = .next s)
    ∧ (∀ a₀ d₀, a₀ ∈ s.members g → s.groupDeadline a₀ = some d₀ → ∃ t, exec (.groupTimeout g) s = .next t
      ∧ (∃ a₁ d₁, a₁ ∈ s.members g ∧ s.groupDeadline a₁ = some d₁ ∧ (∀ b d, b ∈ s.members g → s.groupDeadline b = some d → d₁ ≤ d) ∧ t.tb = max s.tb d₁)
      ∧ (∀ a ∈ s.members g, s.gear[a].waiting.isSome = true → t.ax[a].queue = [] ∧ t.gear[a].waiting = none ∧ bit t.gear[a].flags 4 = true)
      ∧ (∀ a, a ∉ s.members g → t.ax[a] = s.ax[a] ∧ t.gear[a] = s.gear[a]))))

/-- The door cycle evaluates every portal once per period: isolation, egress and causes come first, then obstacles, then release
(R266, R267, R269, R270, R279, R281, R282, R293, R297). DOOR_CYCLE_EVAL goes to the next offset of 3,000 counts. Of a portal in
use in RUN or DEGRADED: with isolation it is ISOLATED; with egress alone EGRESS, unless it was ISOLATED; with a halt cause, in
no state that holds portals still, FAULT with a cause at most that; else, with an edge known actuated, a normal CLOSING becomes
OBSTACLE_STOP and counts the obstacle; without release RELEASED becomes CLOSED_LOCKED and OPEN becomes CLOSE_WARN; with it a
waiting OPEN in RELEASED is applied and a waiting CLOSE is refused. In CONFIG, SERVICE and SAFE_HOLD the portal follows its
inputs. In the other modes it stays but for its flags, and where no leaf is assigned it stays. ALL_LOCKED says whether every
portal of the side is closed, released or isolated. -/
def Obligations.DoorCycleEvaluates : Prop :=
  ∀ (s : State) (p : Fin 8), ∃ t, exec .doorCycleEval s = .next t
    ∧ s.tb ≤ t.tb ∧ t.doorAt = t.tb ∧ (s.doorAt ≤ s.tb → t.tb % 10000 = 3000)
    ∧ (s.ptlUsed p = false → t.ptl[p] = s.ptl[p])
    ∧ (s.mc.mode = .sleep ∨ s.mc.mode = .boot ∨ s.mc.mode = .standby → t.ptl[p] = { s.ptl[p] with flags := t.ptl[p].flags })
    ∧ (∀ d : Fin 2, t.side[d].allLocked = true ↔ s.portalsOf d ≠ [] ∧ ∀ q ∈ s.portalsOf d,
        t.ptl[q].st = .closedLocked ∨ t.ptl[q].st = .released ∨ t.ptl[q].st = .isolated)
    ∧ (let u := s.doorTurn p
      let i := s.ptlIn[p]
      let st := s.ptl[p].st
      s.ptlUsed p = true →
      (s.mc.mode = .run ∨ s.mc.mode = .degraded →
        (i.iso = true → t.ptl[p].st = .isolated)
        ∧ (i.iso = false → i.egress = true → st ≠ .isolated → t.ptl[p].st = .egress)
        ∧ (∀ c, i.iso = false → i.egress = false → st ≠ .isolated → st ≠ .egress → st ≠ .fault → (c ∈ i.causes ∨ c ∈ u.haltCauses p) →
            t.ptl[p].st = .fault ∧ t.ptl[p].cause ≤ c)
        ∧ (u.doorQuiet p → s.ptl[p].refRun = false → st = .closing → s.edgeKnown p = true →
            t.ptl[p].st = .obstacleStop ∧ t.ptl[p].obsInClose = min (s.ptl[p].obsInClose + 1) 15)
        ∧ (u.doorQuiet p → s.sideRelease (s.sideOf p) = false → i.reqs = [] →
            (st = .released → t.ptl[p].st = .closedLocked) ∧ (st = .open → t.ptl[p].st = .closeWarn))
        ∧ (u.doorQuiet p → s.sideRelease (s.sideOf p) = true → st = .released →
            (i.reqs = [⟨1, 0⟩] → t.ptl[p].st = .opening)
            ∧ (i.reqs = [⟨2, 0⟩] → t.ptl[p].st = .released ∧ (t.pg (.ptl p)).errCode = 0x40)))
      ∧ (s.mc.mode = .config ∨ s.mc.mode = .service ∨ s.mc.mode = .safeHold →
        t.ptl[p].suspended = decide (s.mc.mode = .service)
        ∧ t.ptl[p].st = (if i.iso then .isolated else if i.egress then .egress else if i.closedSw && i.lockedSw then .closedLocked else .fault)
        ∧ (t.ptl[p].st = .fault → t.ptl[p].cause = 12)))

/-- A door timer that has run out is taken by the next evaluation: close, reopen, warn, unlock failure, lock retry, missing
switch (R270, R272, R274, R275, R277, R278, R282, R284, R289). Where its timer runs and nothing higher is due. CW_T in
CLOSE_WARN, with no edge known actuated and the gate supply on, starts NUDGE after a nudge request, enough obstacles or with a
known edge fault, else CLOSING, which is a reference close where one is needed. NUDGE_PAUSE starts NUDGE and REOPEN_T enters
CLOSE_WARN; AUTO_CLOSE_T in OPEN enters CLOSE_WARN. UNLOCK_TMO while locked returns to RELEASED with UNLOCK_FAIL. LOCK_TMO
without the switch starts a pulse of 200 ms, or with the retries that were set when it started used up FAULT 7; the pulse's end
restarts LOCK_TMO. SW_TMO after closing moves stops the close as an obstacle; after an opening it sets SW_DISAGREE; with locked
but not closed it faults. With no such timer running the command does nothing. -/
def Obligations.PortalTimersExpire : Prop :=
  ∀ (s : State) (p : Fin 8),
    let runs (l : List Timer) (k : Timer) (d : Nat) : Prop := s.deadline p k = some d ∧ ∀ j ∈ l, j ≠ k → s.deadline p j = none
    let ready (d : Nat) : Prop := ((s.to d).doorTurn p).doorQuiet p ∧ s.doorHeld p
    let st := s.ptl[p].st
    let r := s.ptlRun[p]
    (s.deadline p .cw = none → exec (.cwTExpiry p) s = .next s)
    ∧ (∀ d, s.deadline p .cw = some d → ready d → st = .closeWarn → s.edgeKnown p = false →
        ((s.to d).doorTurn p).gateIsCut p = false →
        ∃ t, exec (.cwTExpiry p) s = .next t ∧ d ≤ t.tb
          ∧ (r.needRef = true → t.ptl[p].st = .closing ∧ t.ptl[p].refRun = true)
          ∧ (r.needRef = false → t.ptl[p].refRun = false ∧ t.ptl[p].st =
              if r.nudgeMark || decide (s.cf (.ptl p) 0x0E8 16 4 ≤ s.ptl[p].obsInClose)
                || (s.ptlIn[p].faultHeld && (s.edgeFault p || (s.edgesOf p).any (fun e => s.edges[e].reading = 3))) then .nudge else .closing))
    ∧ ((∀ k ∈ [Timer.reopen, .nudgePause, .refWait, .step], s.deadline p k = none) → exec (.reopenTExpiry p) s = .next s)
    ∧ (∀ d, runs [.reopen, .nudgePause, .refWait, .step] .reopen d → ready d → st = .reopenHold →
        ∃ t, exec (.reopenTExpiry p) s = .next t ∧ d ≤ t.tb ∧ t.ptl[p].st = .closeWarn)
    ∧ (∀ d, runs [.reopen, .nudgePause, .refWait, .step] .nudgePause d → ready d → st = .reopenHold →
        ∃ t, exec (.reopenTExpiry p) s = .next t ∧ d ≤ t.tb ∧ t.ptl[p].st = .nudge ∧ t.ptl[p].nudgeCount = min (s.ptl[p].nudgeCount + 1) 0xFFFF)
    ∧ (s.deadline p .autoClose = none → exec (.autoCloseExpiry p) s = .next s)
    ∧ (∀ d, s.deadline p .autoClose = some d → ready d → st = .open →
        ∃ t, exec (.autoCloseExpiry p) s = .next t ∧ d ≤ t.tb ∧ t.ptl[p].st = .closeWarn)
    ∧ (s.deadline p .unlock = none → exec (.unlockTmoExpiry p) s = .next s)
    ∧ (∀ d, s.deadline p .unlock = some d → ready d → st = .opening → r.phase = .unlock → s.ptlIn[p].lockedSw = true → s.ptlIn[p].stalls = [] →
        ∃ t, exec (.unlockTmoExpiry p) s = .next t ∧ d ≤ t.tb ∧ t.ptl[p].st = .released ∧ bit t.ptl[p].flags 3 = true)
    ∧ (s.deadline p .lock = none → exec (.lockTmoExpiry p) s = .next s)
    ∧ (∀ d, s.deadline p .lock = some d → ready d → st = .locking → r.phase ≠ .pulse → s.ptlIn[p].lockedSw = false →
        s.ptlIn[p].closedSw = true → s.ptlIn[p].closedLost = false → s.ptlIn[p].edgeSeq = none →
        ∃ t, exec (.lockTmoExpiry p) s = .next t ∧ d ≤ t.tb
          ∧ (r.retries < fld (s.limWord p 3) 4 3 → t.ptl[p].st = .locking ∧ t.ptlRun[p].phase = .pulse ∧ t.ptlRun[p].retries = r.retries + 1
              ∧ t.deadline p .retry = some (t.tb + 32000000) ∧ bit t.ptl[p].flags 2 = true)
          ∧ (fld (s.limWord p 3) 4 3 ≤ r.retries → t.ptl[p].st = .fault ∧ t.ptl[p].cause = 7))
    ∧ (s.deadline p .retry = none → exec (.lockRetryPulseEnd p) s = .next s)
    ∧ (∀ d, s.deadline p .retry = some d → ready d → st = .locking → r.phase = .pulse → s.ptlIn[p].lockedSw = false →
        s.ptlIn[p].closedSw = true → s.ptlIn[p].closedLost = false → s.ptlIn[p].edgeSeq = none →
        ∃ t, exec (.lockRetryPulseEnd p) s = .next t ∧ d ≤ t.tb ∧ t.ptl[p].st = .locking ∧ t.ptlRun[p].phase = .idle
          ∧ t.deadline p .lock = some (t.tb + 160000 * s.cf (.ptl p) 0x0F0 16 16))
    ∧ ((∀ k ∈ [Timer.swClosed, .swOpen, .swConflict], s.deadline p k = none) → exec (.swTmoExpiry p) s = .next s)
    ∧ (∀ d, runs [.swClosed, .swOpen, .swConflict] .swClosed d → ready d → st = .closing → s.ptl[p].refRun = false → r.phase = .gap →
        s.ptlIn[p].closedSw = false → ∃ t, exec (.swTmoExpiry p) s = .next t ∧ d ≤ t.tb ∧ t.ptl[p].st = .obstacleStop)
    ∧ (∀ d, runs [.swClosed, .swOpen, .swConflict] .swOpen d → ready d → st = .open → s.dinSeq (fld s.cfg.assign0[p] 16 6) = false →
        ∃ t, exec (.swTmoExpiry p) s = .next t ∧ d ≤ t.tb ∧ bit t.ptl[p].flags 5 = true)
    ∧ (∀ d, runs [.swClosed, .swOpen, .swConflict] .swConflict d → s.ptlUsed p = true → (s.mc.mode = .run ∨ s.mc.mode = .degraded) →
        s.ptlIn[p].iso = false → s.ptlIn[p].egress = false → st ≠ .isolated → st ≠ .egress → st ≠ .fault →
        s.ptlIn[p].lockedSw = true → s.ptlIn[p].closedSw = false →
        ∃ t, exec (.swTmoExpiry p) s = .next t ∧ d ≤ t.tb ∧ t.ptl[p].st = .fault ∧ t.ptl[p].cause ≤ 11)

/-- A host's portal request waits for the next evaluation or is refused; an edge is accepted after two samples, its fault after
100 (R266, R267, R286, R293, R296, R297, R281). A write of PTL REQ that reaches the page. Codes 1 to 4, with HOST_REQ set, the
portal in use and the mode RUN or DEGRADED, join the waiting requests in order and change nothing else; without HOST_REQ they
are refused with 0x41, and in another mode or on an unused portal with 0x40. They are taken also while the page is locked.
ENV_CLR removes every envelope of the portal, in Granary too where it is reached (the model's choice, log 78), keeps the others
and changes nothing else. OPEN_ALL and CLOSE_ALL of a side pass the request on to each of its portals that would take it, and
touch no other portal. A resistance below 2,000 ohm reads actuated, 6,500 to 10,000 normal, any other fault. The second sample
of a class other than fault in a row makes it the reading; the actuated class then increments EDGE_COUNT of every portal that
uses the edge, and no other portal. One sample, and fault samples, leave the reading; between a reset and the start-up nothing
is sampled (R49). EDGE_FAULT_DETECT after 100 fault samples in a row sets EDGE_FAULT on every portal that uses the edge; before
that it does nothing. EDGE_FAULT_CLEAR clears the flag not before every edge of the portal has read normal for 1 s, and does
nothing while one does not read normal. -/
def Obligations.PortalRequestsAndEdges : Prop :=
  (∀ (s : State) (p : Fin 8) (d : Fin 2),
    (s.takes (.ptl p) 0x040 true → ∀ c i, (c, i) ∈ [(1, Instr.ptlOpen p), (2, .ptlClose p), (3, .ptlNudge p), (4, .ptlAck p)] →
      let on := bit (s.com (.ptl p) 0x0F8) 1
      let runs := s.ptlUsed p = true ∧ (s.mc.mode = .run ∨ s.mc.mode = .degraded)
      (on = true → runs → ∃ t, exec i s = .next t ∧ t.ptlIn[p] = { s.ptlIn[p] with reqs := s.ptlIn[p].reqs ++ [⟨c, 0⟩] }
        ∧ (∀ q : Fin 8, q ≠ p → t.ptlIn[q] = s.ptlIn[q]) ∧ SameExcept [.ptlIn] s t)
      ∧ (on = true → ¬runs → ∃ t, exec i s = .next t ∧ (t.pg (.ptl p)).errCode = 0x40 ∧ SameExcept [.pages, .hif, .posted] s t)
      ∧ (on = false → ∃ t, exec i s = .next t ∧ (t.pg (.ptl p)).errCode = 0x41 ∧ SameExcept [.pages, .hif, .posted] s t))
    ∧ (s.takes (.ptl p) 0x040 false → ∃ t, exec (.envClr p) s = .next t
      ∧ (∀ e, e ∈ t.env ↔ e ∈ s.env ∧ e.1.1 ≠ p.val) ∧ (s.noGranary = false → ∀ e, e ∈ t.envKept ↔ e ∈ s.envKept ∧ e.1.1 ≠ p.val)
      ∧ (s.noGranary = true → t.envKept = s.envKept) ∧ SameExcept [.env, .envKept] s t)
    ∧ (s.takes (.side d) 0x040 true → ∀ c i, (c, i) ∈ [(1, Instr.openAll d), (2, .closeAll d)] → ∃ t, exec i s = .next t
      ∧ (∀ q : Fin 8, q ∈ s.portalsOf d → bit (s.com (.ptl q) 0x0F8) 1 = true → s.ptlUsed q = true → (s.mc.mode = .run ∨ s.mc.mode = .degraded) →
          t.ptlIn[q] = { s.ptlIn[q] with reqs := s.ptlIn[q].reqs ++ [⟨c, 0⟩] })
      ∧ (∀ q : Fin 8, q ∈ s.portalsOf d → bit (s.com (.ptl q) 0x0F8) 1 = false → t.ptlIn[q] = s.ptlIn[q] ∧ (t.pg (.ptl q)).errCode = 0x41)
      ∧ (∀ q : Fin 8, q ∉ s.portalsOf d → t.ptlIn[q] = s.ptlIn[q]) ∧ SameExcept [.ptlIn, .pages, .hif, .posted] s t))
  ∧ (∀ (s : State) (e : Fin 16) (ohm : Nat) (p : Fin 8),
    (s.domOn 8 = false ∨ s.boot.started = false → exec (.sedgSample e ohm) s = .next s)
    ∧ (s.domOn 8 = true → s.boot.started = true → ∃ t, exec (.sedgSample e ohm) s = .next t
      ∧ (let k := if ohm < 2000 then 2 else if 6500 ≤ ohm ∧ ohm ≤ 10000 then 1 else 3
        let new : Bool := k ≠ 3 && decide (s.edges[e].last = k) && decide (1 ≤ s.edges[e].run) && decide (s.edges[e].reading ≠ k)
        t.edges[e].last = k ∧ t.edges[e].ohm = ohm ∧ t.edges[e].reading = (if new then k else s.edges[e].reading)
        ∧ (∀ x : Fin 16, x ≠ e → t.edges[x] = s.edges[x])
        ∧ t.ptl[p].edgeCount = (if new && k = 2 && (s.edgeUsers e).contains p then min (s.ptl[p].edgeCount + 1) 0xFFFF else s.ptl[p].edgeCount)
        ∧ (new = false ∨ k ≠ 2 → SameExcept [.edges] s t)))
    ∧ (s.edges[e].last = 3 → 100 ≤ s.edges[e].run → s.edges[e].reading ≠ 3 → ∃ t, exec (.edgeFaultDetect e) s = .next t
      ∧ t.edges[e].reading = 3 ∧ bit t.ptl[p].flags 6 = (bit s.ptl[p].flags 6 || (s.edgeUsers e).contains p))
    ∧ (s.edges[e].last ≠ 3 ∨ s.edges[e].run < 100 ∨ s.edges[e].reading = 3 → exec (.edgeFaultDetect e) s = .next s)
    ∧ (s.edgeFault p = true → (∀ x ∈ s.edgesOf p, s.edges[x].reading = 1) → ∃ t, exec (.edgeFaultClear p) s = .next t
      ∧ bit t.ptl[p].flags 6 = false ∧ (∀ x ∈ s.edgesOf p, s.edges[x].since + 160000000 ≤ t.tb)
      ∧ (∀ q : Fin 8, q ≠ p → t.ptl[q] = s.ptl[q]) ∧ SameExcept [.tb, .ptl, .ptlIn] s t)
    ∧ (s.edgeFault p = false ∨ (∃ x ∈ s.edgesOf p, s.edges[x].reading ≠ 1) → exec (.edgeFaultClear p) s = .next s))

/-- HSPI moves whole words in order; an offer agrees the highest common contract; Floko commands pass under v1; an event read
empties a slot (R149, R151, R152, R425, R421, R424, R427, R428, R430, R442). Single and quad transactions have the same
effect. While Junction is powered and serves its registers: a write at 0x0800 selects the page and changes nothing else; a
write at an aligned address of the page window has exactly the effect of the same write over PCI Express; an address that is
no multiple of 4 is WIDTH. A burst writes its first word and then goes on 4 bytes later, past 0x1FFC at 0x1000. A read of n
words leaves n words shifted out; one word at 0x0800 is the selected page, one in the window is the read of the same word
over PCI Express, but for CLK.RUN, which then shows HSPI's own clock running, and one at an address that holds nothing is 0.
With Junction unpowered writes are ignored and reads give 0. Where the write reaches HIF. HIF_OFFER agrees 3, 2 or 1 by the
highest bit set, and 1 with NEG_FAIL by none; with a queue running and another contract to come it is refused with 0x40. A
change of the PCI Express link shows its state, and with the link not up width and rate 0; in L2 the PCIE clock stops; with
nothing waiting to be signalled it changes no queue. Under v1 the Floko commands 1 to 4 join the requests of the selected
portal as PTL REQ would; under another contract they report CONTRACT and change nothing else. The read of a polled record's
last word answers that word and removes the record; an empty FIFO answers 0. -/
def Obligations.HspiAndFloko : Prop :=
  ((∀ (s : State) (a : Nat) (l : List Word), exec (.hspiWriteQuad a l) s = exec (.hspiWriteSingle a l) s)
  ∧ (∀ (s : State) (a n : Nat), exec (.hspiReadQuad a n) s = exec (.hspiReadSingle a n) s)
  ∧ (∀ (s : State) (a n : Nat) (w : Word) (l : List Word),
    (s.domOn 1 = false → exec (.hspiWriteSingle a l) s = .next s)
    ∧ (∃ t, exec (.hspiReadSingle a n) s = .next t ∧ t.hspi.rdata.length = n
        ∧ (s.domOn 1 = false → t.hspi.rdata = List.replicate n 0 ∧ SameExcept [.hspi] s t))
    ∧ (s.busAlive = true →
      (∃ t, exec (.hspiWriteSingle 0x0800 [w]) s = .next t ∧ t.hspi = { s.hspi with page := fld w 0 8 } ∧ SameExcept [.hspi] s t)
      ∧ (0x1000 ≤ a → a < 0x2000 → a % 4 = 0 →
          exec (.hspiWriteSingle a [w]) s = exec (.registerWrite (s.hspi.page * 4096 + a % 4096) 4 w.toNat) s
          ∧ (∀ p, pageAt s.hspi.page = some p → p ≠ .clk ∨ a % 4096 ≠ 0x040 →
              exec (.hspiReadSingle a 1) s = exec (.wideFieldRead (.bar0 (s.hspi.page * 4096 + a % 4096)) 4) s)
          ∧ (pageAt s.hspi.page = some .clk → a % 4096 = 0x040 → s.readErr .clk 0x040 = none → (s.pg .clk).snapHeld = false →
              ∃ t v, exec (.hspiReadSingle a 1) s = .next t ∧ t.hspi.rdata = [v] ∧ bit v 8 = true))
      ∧ (a < 0x10000 → a % 4 ≠ 0 → ∃ t, exec (.hspiWriteSingle a [w]) s = .next t
          ∧ (t.pg (s.hspiErrPage a)).errCode = 0x02 ∧ SameExcept [.pages, .hif, .posted] s t)
      ∧ (a < 0x10000 → a % 4 = 0 → ∃ u, exec (.hspiWriteSingle a [w]) s = .next u
          ∧ (u.domOn 1 = true → exec (.hspiWriteSingle a (w :: l)) s = exec (.hspiWriteSingle (if a = 0x1FFC then 0x1000 else a + 4) l) u))
      ∧ (∃ t, exec (.hspiReadSingle 0x0800 1) s = .next t ∧ t.hspi.rdata = [BitVec.ofNat 32 (s.hspi.page % 256)] ∧ SameExcept [.hspi] s t)
      ∧ (0x2000 ≤ a → a < 0x10000 → a % 4 = 0 → ∃ t, exec (.hspiReadSingle a 1) s = .next t ∧ t.hspi.rdata = [0] ∧ SameExcept [.hspi] s t))))
  ∧ (∀ (s : State) (w : Word) (link width speed msiN corr recov : Nat) (master msix msi : Bool),
    (s.takes .hif 0x040 false →
      let v := if bit w 2 then 3 else if bit w 1 then 2 else 1
      let fails := !(bit w 0 || bit w 1 || bit w 2)
      ((v = s.hif.agree ∨ ∀ q : Fin 8, s.evq[q].running = false) → ∃ t, exec (.hifOffer w) s = .next t ∧ t.hif = { s.hif with agree := v, negFail := fails }
        ∧ SameExcept [.hif, .pages] s t)
      ∧ (∀ q : Fin 8, v ≠ s.hif.agree → s.evq[q].running = true → ∃ t, exec (.hifOffer w) s = .next t ∧ (t.pg .hif).errCode = 0x40
        ∧ t.hif.agree = s.hif.agree ∧ t.hif.negFail = s.hif.negFail))
    ∧ (∃ t, exec (.pcieLinkChange link width speed master msix msi msiN corr recov) s = .next t
      ∧ t.hif.link = (if link ≤ 4 then link else 0) ∧ t.hif.master = master ∧ t.hif.msix = msix ∧ t.hif.msi = msi
      ∧ (link < 2 ∨ 4 < link → t.hif.width = 0 ∧ t.hif.speed = 0)
      ∧ (2 ≤ link → link ≤ 4 → 1 ≤ t.hif.width ∧ t.hif.width ≤ 2 ∧ 1 ≤ t.hif.speed ∧ t.hif.speed ≤ 3)
      ∧ t.hif.agree = s.hif.agree ∧ ((∀ q : Fin 8, s.evq[q].dueVec = false) → t.evq = s.evq ∧ SameExcept [.hif, .mc, .clk] s t)
      ∧ (link = 4 → bit t.clk.run 7 = false))
    ∧ (s.busAlive = true → ∀ c i, (c, i) ∈ [(1, Instr.flkOpen), (2, .flkClose), (3, .flkNudge), (4, .flkAck)] →
        let p : Fin 8 := Fin.ofNat 8 s.hspi.sel
        let runs := s.ptlUsed p = true ∧ (s.mc.mode = .run ∨ s.mc.mode = .degraded)
        (s.hif.agree ≠ 1 → ∃ t, exec i s = .next t ∧ (t.pg .dev).errCode = 0x06 ∧ SameExcept [.pages, .hif, .posted] s t)
        ∧ (s.hif.agree = 1 → bit (s.com (.ptl p) 0x0F8) 1 = true → runs → ∃ t, exec i s = .next t
            ∧ t.ptlIn[p] = { s.ptlIn[p] with reqs := s.ptlIn[p].reqs ++ [⟨c, 0⟩] } ∧ (∀ q : Fin 8, q ≠ p → t.ptlIn[q] = s.ptlIn[q]) ∧ SameExcept [.ptlIn] s t)
        ∧ (s.hif.agree = 1 → bit (s.com (.ptl p) 0x0F8) 1 = false → ∃ t, exec i s = .next t ∧ (t.pg (.ptl p)).errCode = 0x41 ∧ t.ptlIn = s.ptlIn))
    ∧ (s.busAlive = false → ∀ i ∈ [Instr.flkOpen, .flkClose, .flkNudge, .flkAck], exec i s = .next s)
    ∧ (s.hspi.fifo = [] → ∃ t, exec .hspiEvtRead s = .next t ∧ t.hspi = { s.hspi with rdata := [0] } ∧ SameExcept [.hspi] s t)
    ∧ (∀ r l, s.hspi.fifo = r :: l → ∃ t, exec .hspiEvtRead s = .next t ∧ t.hspi.rdata = [BitVec.ofNat 32 (leNat ((r.drop (4 * (r.length / 4 - 1))).take 4))]
        ∧ (s.hspi.lost = none → t.hspi.fifo = l) ∧ l <+: t.hspi.fifo ∧ t.hspi.fifo.length ≤ l.length + 1 ∧ SameExcept [.hspi] s t))

/-- The image load window serves the one load that is open; the view of R384 has exactly the effect of the same write through
BAR2 (R116, R149, R150, R381, R384, R499). With Junction serving its registers under contract v2 or later and Granary present.
With PRG LOAD_CTL open the bytes go to the Siding's slot at their offset, LOAD_LEN counts them and the Siding is LOADING; with
SEC LOAD_CTL open alone they go to the copy that TARGET names; every byte outside them stays (a word filled in part is read
first, and one that proves uncorrectable is reported, R33). With neither open nothing is stored and PRG reports LOAD_BUSY. Under
contract v1, and with Granary absent, nothing is stored, and the page whose load is open, PRG with none, reports CONTRACT or
DIE_ABSENT. A write to the recorder or the statistics window only reports RO_WRITE on its page (the model's choice, log 73). A
write that reaches the view at 0x800 + y is the write through BAR2 at LOAD_OFS x 2,048 + y. With FW_INVALID the bytes go to the
non-active firmware copy whatever the contract, through the view too. -/
def Obligations.ImageLoadWindow : Prop :=
  ∀ (s : State) (off : Nat) (data : List Byte) (k : Fin 512) (w : Word), off < 0x400000 →
    let stored (t : State) (base n : Nat) : Prop := ∀ a, t.mem.granary.read a =
      if h : base + off ≤ a ∧ a - (base + off) < (data.take (n - off)).length then (data.take (n - off))[a - (base + off)]'h.2 else s.mem.granary.read a
    (s.domOn 1 = false → exec (.imageLoadWrite off data) s = .next s)
    ∧ (s.loaderOnly = true → s.domOn 1 = true → s.noGranary = false → s.memOk →
        ∃ t, exec (.imageLoadWrite off data) s = .next t ∧ stored t (fwBase (1 - s.sec.fwCopy)) 0x100000 ∧ SameExcept [.links, .seq, .mem] s t)
    ∧ (s.busAlive = true → s.hif.agree < 2 → ∃ t, exec (.imageLoadWrite off data) s = .next t
        ∧ (t.pg s.loadPage).errCode = 0x06 ∧ SameExcept [.pages, .hif, .posted] s t)
    ∧ (s.busAlive = true → 2 ≤ s.hif.agree → s.noGranary = true → ∃ t, exec (.imageLoadWrite off data) s = .next t
        ∧ (t.pg s.loadPage).errCode = 0x11 ∧ SameExcept [.pages, .hif, .posted] s t)
    ∧ (s.busAlive = true → 2 ≤ s.hif.agree → s.noGranary = false →
        (s.prg.loadOpen = true → s.memOk → ∃ t, exec (.imageLoadWrite off data) s = .next t ∧ stored t (slotBase (1 - s.prg.slot)) 0x400000
          ∧ t.prg.loadLen = min (s.prg.loadLen + data.length) 0xFFFFFFFF ∧ t.prg.siding = .loading ∧ t.mem.sram = s.mem.sram
          ∧ SameExcept [.links, .seq, .mem, .prg] s t)
        ∧ (s.prg.loadOpen = false → s.sec.loadOpen = true → s.memOk → ∃ t, exec (.imageLoadWrite off data) s = .next t
          ∧ (if s.sec.target = 1 then stored t (fwBase (1 - s.sec.fwCopy)) 0x100000 else stored t (cfgBase (1 - s.sec.cfgCopy)) 0x80000)
          ∧ t.sec.loadLen = min (s.sec.loadLen + data.length) 0xFFFFFFFF ∧ t.sec.load = .loading ∧ SameExcept [.links, .seq, .mem, .sec] s t)
        ∧ (s.prg.loadOpen = false → s.sec.loadOpen = false → ∃ t, exec (.imageLoadWrite off data) s = .next t
          ∧ (t.pg .prg).errCode = 0x08 ∧ SameExcept [.pages, .hif, .posted] s t))
    ∧ (∀ j, 0x400000 ≤ j → j < 0xE00000 → s.busAlive = true → 2 ≤ s.hif.agree → ∃ t, exec (.imageLoadWrite j data) s = .next t
        ∧ (t.pg (if j < 0xC00000 then .recd else .stat)).errCode = 0x03 ∧ SameExcept [.pages, .hif, .posted] s t)
    ∧ ((s.takes .prg (0x800 + 4 * k.val) false ∧ 2 ≤ s.hif.agree) ∨ (s.loaderOnly = true ∧ s.domOn 1 = true) →
        exec (.loadViewWrite k w) s = exec (.imageLoadWrite (s.cf .prg 0x0A0 0 11 * 2048 + 4 * k.val) (leBytes 4 w.toNat)) s)

/-- Each channel filters its contacts, takes the safe value at once, and lets no permit half go on that the functions do not give
(R309, R310, R313, R314, R318, R320, R322). SBX_SAMPLE and GUARD_CYCLE of a channel that evaluates a word. A contact outside a
test-pulse window keeps its filtered level while the sample equals it, and takes a new one only with the last sample of the
filter time. An input is at the safe value exactly where a fault is latched or either filtered level shows it. Zero speed is
its input; release of a side needs zero speed and the release input; a solenoid permit needs zero speed, a portal in use and
no isolation; the loop is closed exactly when every portal in use is closed and locked, or isolated and locked or bypassed,
and no egress is active; no faulty output is driven on. Guard, while it withdraws, gives no release and no solenoid half.
GUARD_CYCLE refreshes the latch. A channel that does not evaluate does nothing. -/
def Obligations.SafetyEvaluation : Prop :=
  (∀ (s : State) (a b : Word), (s.sbx.evaluates = false → exec (.sbxSample a b) s = .next s)
      ∧ (s.grd.evaluates = false → exec (.guardCycle a b) s = .next s))
  ∧ (∀ (s : State) (a b w : Word) (sbx : Bool), (s.chan sbx).evaluates = true → (s.chan sbx).word = some w →
    ∃ t, exec (if sbx then .sbxSample a b else .guardCycle a b) s = .next t
      ∧ (sbx = true → SameExcept [.sbx] s t) ∧ (sbx = false → t.safe.latchAt = s.tb ∧ t.sbx = s.sbx)
      ∧ (let c := s.chan sbx
        let d := t.chan sbx
        let on (r : Role) : Prop := ∃ n : Fin 32, sealRole w n.val = r ∧ d.sin[n].value = true
        let egress : Prop := ∃ p, sealUses w p = true ∧ p < 8 ∧ on (.egress (if bit w 1 then sealSide w p else p))
        (∀ n : Fin 32,
          let r := sealRole w n.val
          let safe : Prop := d.sin[n].fault ≠ 0 ∨ d.sin[n].a.level = r.safeLevel w ∨ d.sin[n].b.level = r.safeLevel w
          d.sin[n].value = (if safe then r.safeValue else !r.safeValue)
          ∧ (r.pulsed w = false → d.sin[n].a.level =
              if bit a n.val = c.sin[n].a.level ∨ c.sin[n].a.run + 1 < filtSamples w then c.sin[n].a.level else bit a n.val)
          ∧ (r.pulsed w = false → d.sin[n].b.level =
              if bit b n.val = c.sin[n].b.level ∨ c.sin[n].b.run + 1 < filtSamples w then c.sin[n].b.level else bit b n.val))
        ∧ (d.out.zs = true ↔ on .zeroSpeed)
        ∧ (∀ k < 2, bit d.out.rel k = true ↔ on .zeroSpeed ∧ on (.release k) ∧ (k = 0 ∨ bit w 0 = true) ∧ (sbx = true ∨ s.withdrawn = false))
        ∧ (∀ p < 8, bit d.out.sol p = true → on .zeroSpeed ∧ sealUses w p = true ∧ ¬on (.isolation p) ∧ (sbx = true ∨ s.withdrawn = false))
        ∧ (d.out.loopOk = true ↔ ¬egress ∧ ∀ p < 8, sealUses w p = true →
            (on (.closed p) ∧ on (.locked p)) ∨ (on (.isolation p) ∧ (on (.locked p) ∨ bit w 30 = true)))
        ∧ d.out.sout &&& d.outFault = 0 ∧ d.outFault = c.outFault ∧ d.word = some w))

/-- A safety input's fault puts it to its safe value; a seal word is latched only from a good sequence, and never changed by later
ones (R311, R312, R328, R303, R304, R305). For a channel that evaluates. DISCREPANCY_EXPIRY with the timer running latches
DISC on its input; with none running it does nothing. TP_CONTACT_SAMPLE latches TP_CONTACT on every pulsed input of the pad
that reads energised. TP_MONITOR with the pad high in the low part of its pulse, and TP_SOURCE_FAULT, set TP_FAULT on the pad
and latch TP_SOURCE on every pulsed input it feeds; TP_MONITOR otherwise does nothing. An input on which a fault is latched
already, and every other input, stays as it was. TP_FAULT_RECOVER clears the pad's TP_FAULT alone. With the pattern running
TEST_PULSE of the pad whose turn it is comes not before its instant, stamps the falling edge for Signal box, and for Guard where
Guard sees it, and gives the turn to the next pad, 4 ms less 5 % later at the earliest (the model's least time, log 75); of
another pad it does nothing. A sequence is good where in both reads the complement is
exact, the fill is 0, the reads are equal and the word passes the checks. Signal box's first sequence, and the one Guard
requests, begin once each; a REREAD runs a later one. At the end of Signal box's first Guard is unchanged. A channel with no
word, not halted, latches the word of a good boot sequence, with SEAL_OK, every half still off, and of a bad one none. A
channel with a word keeps it whatever the sequence, and SEAL_OK then says whether the sequence was good with that word. A
REREAD latches nothing. With no sequence in progress its end does nothing. -/
def Obligations.SafetyFaultsAndSeal : Prop :=
  (∀ (s : State) (sbx : Bool) (n : Fin 32) (k : Fin 4) (live w : Word), (s.chan sbx).evaluates = true → (s.chan sbx).word = some w →
    let latched (t : State) (cause : Nat) (m : Fin 32) : Prop :=
      (t.chan sbx).sin[m] = if (s.chan sbx).sin[m].fault = 0
        then { (s.chan sbx).sin[m] with fault := cause, disc := none, value := (sealRole w m.val).safeValue } else (s.chan sbx).sin[m]
    let padFails (t : State) : Prop := (t.chan sbx).tp[k].fault = true ∧ ∀ m : Fin 32,
      (m ∈ pulsedFrom w k → (s.chan sbx).tp[k].fault = false → latched t 3 m)
      ∧ (m ∉ pulsedFrom w k ∨ (s.chan sbx).tp[k].fault = true → (t.chan sbx).sin[m] = (s.chan sbx).sin[m])
    ((s.chan sbx).sin[n].disc = none → exec (.discrepancyExpiry sbx n) s = .next s)
    ∧ (∀ t₀, (s.chan sbx).sin[n].disc = some t₀ → ∃ t, exec (.discrepancyExpiry sbx n) s = .next t ∧ latched t 1 n
        ∧ (∀ m : Fin 32, m ≠ n → (t.chan sbx).sin[m] = (s.chan sbx).sin[m]) ∧ t.chan (!sbx) = s.chan (!sbx)
        ∧ (sbx = false → t₀ + 160000 * (sealRole w n.val).discMs w ≤ t.tb))
    ∧ (∀ f, (s.chan sbx).tp[k].fell = some f → ∃ t, exec (.tpContactSample sbx k live) s = .next t ∧ t.chan (!sbx) = s.chan (!sbx)
        ∧ ∀ m : Fin 32, (m ∈ pulsedFrom w k → bit live m.val = true → latched t 2 m)
          ∧ (m ∉ pulsedFrom w k ∨ bit live m.val = false → (t.chan sbx).sin[m] = (s.chan sbx).sin[m]))
    ∧ (∀ f, (s.chan sbx).tp[k].fell = some f → f + 3200 ≤ s.tb → s.tb < f + 80000 →
        (∃ t, exec (.tpMonitor sbx k true) s = .next t ∧ padFails t) ∧ exec (.tpMonitor sbx k false) s = .next s)
    ∧ ((∀ f, (s.chan sbx).tp[k].fell = some f → s.tb < f + 3200 ∨ f + 80000 ≤ s.tb) → exec (.tpMonitor sbx k true) s = .next s)
    ∧ (∃ t, exec (.tpSourceFault sbx k) s = .next t ∧ padFails t ∧ t.chan (!sbx) = s.chan (!sbx))
    ∧ (∃ t, exec (.tpFaultRecover sbx k) s = .next t ∧ (t.chan sbx).tp[k].fault = false ∧ (t.chan sbx).sin = (s.chan sbx).sin
        ∧ t.chan (!sbx) = s.chan (!sbx) ∧ SameExcept [.sbx, .grd] s t)
    ∧ (sbx = true → ∀ seen due, s.safe.tpDue = some due → (s.safe.tpNext ≠ k.val → exec (.testPulse k seen) s = .next s)
        ∧ (s.safe.tpNext = k.val → ∃ t, exec (.testPulse k seen) s = .next t ∧ t.tb = max s.tb due ∧ t.sbx.tp[k].fell = some t.tb
          ∧ t.grd.tp[k].fell = (if seen then some t.tb else s.grd.tp[k].fell) ∧ t.safe.tpNext = (k.val + 1) % 4
          ∧ (∃ next, t.safe.tpDue = some next ∧ t.tb + 608000 ≤ next) ∧ SameExcept [.sbx, .grd, .safe, .tb] s t)))
  ∧ ((∀ s : State,
    let ready := s.domOn 4 = true ∧ s.sbx.halted = false ∧ s.safe.sealRun = 0
    (ready → s.safe.sealBoot = 0 → ∃ t, exec .sealSequence s = .next t ∧ t.safe.sealRun = 1 ∧ t.safe.sealBoot = 1 ∧ SameExcept [.safe] s t)
    ∧ (ready → s.safe.sealBoot = 1 → s.boot.guardOk = true → s.grd.halted = false →
        ∃ t, exec .sealSequence s = .next t ∧ t.safe.sealRun = 2 ∧ t.safe.sealBoot = 2 ∧ SameExcept [.safe] s t)
    ∧ (¬ready ∨ 2 ≤ s.safe.sealBoot → exec .sealSequence s = .next s)
    ∧ (ready → s.safe.reread = true → ∃ t, exec .reread s = .next t ∧ t.safe.sealRun = 3 ∧ SameExcept [.safe] s t)
    ∧ (¬ready ∨ s.safe.reread = false → exec .reread s = .next s))
  ∧ (∀ (s : State) (g h b c : SealRead),
    let good (r q : SealRead) : Prop := r.1 = ~~~r.2.1 ∧ q.1 = ~~~q.2.1 ∧ r.1 = q.1 ∧ r.2.2 = (0, 0) ∧ q.2.2 = (0, 0) ∧ sealOkWord q.1 = true
    (s.safe.sealRun = 0 → exec (.sealSequenceDone g h b c) s = .next s)
    ∧ (s.safe.sealRun ≠ 0 → ∃ t, exec (.sealSequenceDone g h b c) s = .next t ∧ t.safe.sealRun = 0
      ∧ (s.safe.sealRun = 1 → t.grd = s.grd)
      ∧ (s.safe.sealRun ≠ 3 → s.sbx.word = none → s.sbx.halted = false →
          (good b c → t.sbx.word = some c.1 ∧ t.sbx.sealOk = true ∧ t.sbx.running = true ∧ t.sbx.out = s.sbx.out) ∧ (¬good b c → t.sbx = s.sbx))
      ∧ (s.safe.sealRun = 2 → s.boot.guardOk = true → s.grd.word = none → s.grd.halted = false →
          (good g h → t.grd.word = some h.1 ∧ t.grd.sealOk = true ∧ t.grd.running = true ∧ t.grd.out = s.grd.out) ∧ (¬good g h → t.grd = s.grd))
      ∧ (∀ w, s.sbx.word = some w → t.sbx.word = some w ∧ (t.sbx.sealOk = true ↔ good b c ∧ w = c.1))
      ∧ (∀ w, s.grd.word = some w → t.grd.word = some w ∧
          (s.safe.sealRun ≠ 1 → s.boot.guardOk = true → s.grd.halted = false → (t.grd.sealOk = true ↔ good g h ∧ w = h.1)))
      ∧ (s.safe.sealRun = 3 → s.sbx.word = none → t.sbx.word = none) ∧ (s.safe.sealRun = 3 → s.grd.word = none → t.grd.word = none))))

/-- An output fault holds the channel's half off for good; a lost latch or lockstep drops every Guard half; divergence demands
(R317, R318, R320, R321, R322). SOUT_STUCK against the commanded state and SOUT_OVERCURRENT latch OUT_FAULT in the channel
that reads it and hold its half off, the other channel's state unchanged; one that agrees does nothing. A channel that has halted acts
on none of it, and a halted Guard neither compares the channels nor reads anything back. GUARD_LATCH_TIMEOUT,
not before 1 ms from the refresh, and LOCKSTEP_MISMATCH leave every Guard half off, and the second halts Guard; while the latch
has dropped them, not even a withdrawal drives one on.
GUARD_LINK_WITHDRAW takes release and solenoid halves away. DIVERGE_TIMEOUT with a difference that no bit records yet sets
DIVERGE and GUARD_DEMAND, not before 500 ms from its start; with no difference it does nothing. A gate map, SIN types or lock
channels that read back differently set GUARD_DEMAND; equal ones are only recorded. -/
def Obligations.GuardAndOutputFaults : Prop :=
  (∀ (s : State) (sbx : Bool) (n : Fin 4) (on : Bool),
    let fails (t : State) : Prop := bit (t.chan sbx).outFault n.val = true ∧ bit (t.chan sbx).out.sout n.val = false
      ∧ (t.chan sbx).sin = (s.chan sbx).sin ∧ t.chan (!sbx) = s.chan (!sbx)
    (bit (s.chan sbx).out.sout n.val = on → exec (.soutStuck sbx n on) s = .next s)
    ∧ ((s.chan sbx).halted = true → exec (.soutStuck sbx n on) s = .next s ∧ exec (.soutOvercurrent sbx n) s = .next s)
    ∧ ((s.chan sbx).halted = false → bit (s.chan sbx).outFault n.val = false → bit (s.chan sbx).out.sout n.val ≠ on → ∃ t, exec (.soutStuck sbx n on) s = .next t ∧ fails t)
    ∧ ((s.chan sbx).halted = false → bit (s.chan sbx).outFault n.val = false → ∃ t, exec (.soutOvercurrent sbx n) s = .next t ∧ fails t)
    ∧ (bit (s.chan sbx).outFault n.val = true → exec (.soutOvercurrent sbx n) s = .next s))
  ∧ (∀ s : State,
    (∃ t, exec .guardLatchTimeout s = .next t ∧ t.grd = { s.grd with out := {} } ∧ t.sbx = s.sbx ∧ t.safe.latchOff = true
      ∧ s.safe.latchAt + 160000 ≤ t.tb)
    ∧ (∃ t, exec .lockstepMismatch s = .next t ∧ t.grd.halted = true ∧ t.grd.out = {}
      ∧ SameExcept [.grd, .hif, .links, .mem, .pages, .posted, .safe, .seq, .side] s t)
    ∧ (s.safe.latchOff = true → ∃ t, exec .guardLinkWithdraw s = .next t ∧ t.grd.out = {})
    ∧ (∃ t, exec .guardLinkWithdraw s = .next t ∧ t.safe.linkLost = true ∧ t.grd.out.rel = 0 ∧ t.grd.out.sol = 0 ∧ t.sbx = s.sbx)
    ∧ (s.safe.diffs = [] ∨ s.grd.halted = true → exec .divergeTimeout s = .next s)
    ∧ (∀ k t₀, s.grd.halted = false → (k, t₀) ∈ s.safe.diffs → (∀ d ∈ s.safe.diffs, t₀ ≤ d.2) → k < 18 → bit s.safe.divPermit k = false →
        ∃ t, exec .divergeTimeout s = .next t ∧ t.safe.diverge = true ∧ bit t.safe.divPermit k = true ∧ t₀ + 80000000 ≤ t.tb
          ∧ (s.mc.mode = .run → t.mc.guardDemand = true ∧ t.mc.mode = .safeHold)))
  ∧ (∀ (s : State) (map : Word) (types : List Nat) (locks : List (Nat × Nat)),
    let same := map &&& 0xFFF = s.gateMapCfg ∧ types = s.cfg.sinType.toList ∧ locks = s.lockGates
    (s.grd.halted = true → exec (.gateMapReadback map types locks) s = .next s)
    ∧ (s.grd.halted = false → same → ∃ t, exec (.gateMapReadback map types locks) s = .next t ∧ t.safe.gateMap = s.gateMapCfg ∧ t.safe.mapDiff = false ∧ SameExcept [.safe] s t)
    ∧ (s.grd.halted = false → ¬same → s.safe.mapDiff = false → s.mc.mode = .run → ∃ t, exec (.gateMapReadback map types locks) s = .next t
        ∧ t.safe.mapDiff = true ∧ t.mc.guardDemand = true ∧ t.mc.mode = .safeHold))

/-- A load command changes its channel and sends all 24, or is refused; a channel's output checks act on that channel alone (R333,
R334, R344, R332, R343, R346, R348). Where the write reaches the page. With host software the channel's owner and the mode
RUN, DEGRADED or SERVICE, a state 0 to 2, or a duty, becomes the commanded one of that channel; no other channel, and nothing
on the Switch die, changes at once; and with the die present and powered one NORMAL packet with the states and duties of all
24 channels, as they now stand, is on its way. State 3 is refused with 0x43, a write by host software of a channel that it
does not own with 0x40, and in another mode with 0x41; a refused write changes no channel. OFF_HIGH_SET of an off channel with
the check enabled, no undervoltage and OFF_HIGH 0 sets it with its flag and, from a die not held absent, its event, not before
5 ms of the check, which rests after a switch-off, a dip and a change of the bit; otherwise it does nothing. OFF_HIGH_CLEAR, not
before 5 ms of the check either, and REV_BLOCK_RELEASE clear their bits alone. REV_BLOCK of a channel that is on sets
its bit and flag; of one that is off it does nothing. PULSE_PERIOD_START of a channel whose generator runs goes to
its next period start and takes the duty in force, 0 as off and 1,023 as on, and the committed frequency; of another channel it
does nothing.
SOL_PERMIT_CHANGE holds the portal's lock channels off without the permit, and touches no other channel. LSEL_CHANGE shows the
pads' code in SEL_IN where SEL_SRC is 0. -/
def Obligations.LoadCommandsAndChecks : Prop :=
  (∀ (s : State) (c : Fin 24) (st : Fin 4) (duty : Fin 1024),
    let only (t : State) (x : Lsw) : Prop := t.lsw[c] = x ∧ (∀ d : Fin 24, d ≠ c → t.lsw[d] = s.lsw[d])
      ∧ (s.dieAbsent 5 = false → s.domOn 7 = true → t.lswg.sending = 1
          ∧ t.lswg.air = s.lswg.air ++ [(1, (List.finRange 24).map (fun d => (t.lsw[d].cmd, t.lsw[d].cmdDuty)))])
      ∧ SameExcept [.lsw, .lswg, .pair, .posted] s t
    let refused (o : Option State) (code : Nat) : Prop := ∃ t, o = some t ∧ (t.pg (.lsw c)).errCode = code ∧ SameExcept [.pages, .hif, .posted] s t
    let next (o : Host.Outcome State Fault Refusal) : Option State := match o with | .next t => some t | _ => none
    (s.takes (.lsw c) 0x040 true →
      (s.lswOwner c = .host → s.modeMoves = true → st.val ≠ 3 → ∃ t, exec (.lswCmd c st) s = .next t ∧ only t { s.lsw[c] with cmd := st.val })
      ∧ (s.lswOwner c = .host → s.modeMoves = true → st.val = 3 → refused (next (exec (.lswCmd c st) s)) 0x43)
      ∧ (s.lswOwner c ≠ .host → refused (next (exec (.lswCmd c st) s)) 0x40)
      ∧ (s.lswOwner c = .host → s.modeMoves = false → refused (next (exec (.lswCmd c st) s)) 0x41))
    ∧ (s.takes (.lsw c) 0x044 true →
      (s.lswOwner c = .host → s.modeMoves = true → ∃ t, exec (.lswDuty c duty) s = .next t ∧ only t { s.lsw[c] with cmdDuty := duty.val })
      ∧ (s.lswOwner c ≠ .host → refused (next (exec (.lswDuty c duty) s)) 0x40)
      ∧ (s.lswOwner c = .host → s.modeMoves = false → refused (next (exec (.lswDuty c duty) s)) 0x41)))
  ∧ (∀ (s : State) (c : Fin 24) (p : Fin 8) (code : Fin 32),
    let x := s.lsw[c]
    let others (t : State) : Prop := ∀ d : Fin 24, d ≠ c → t.lsw[d] = s.lsw[d]
    let may := x.out = 0 ∧ s.lswg.uv = false ∧ s.cf (.lsw c) 0x054 0 1 = 1 ∧ x.offHigh = false
    (may → ∃ t, exec (.offHighSet c) s = .next t ∧ t.lsw[c].offHigh = true ∧ bit t.lsw[c].flags 3 = true ∧ t.lsw[c].out = 0 ∧ others t
        ∧ s.lswx[c].checkAt + 800000 ≤ t.tb ∧ (s.dieAbsent 5 = false → Raises s t (.lsw c) 0x5104 (leBytes 2 (tc 16 x.vOut))))
    ∧ (¬may → exec (.offHighSet c) s = .next s)
    ∧ (x.offHigh = true → ∃ t, exec (.offHighClear c) s = .next t ∧ t.lsw[c] = { x with offHigh := false } ∧ others t
        ∧ s.lswx[c].checkAt + 800000 ≤ t.tb ∧ SameExcept [.lsw, .lswx, .tb] s t)
    ∧ (x.offHigh = false → exec (.offHighClear c) s = .next s)
    ∧ (x.out ≠ 0 → ∃ t, exec (.revBlock c) s = .next t ∧ t.lsw[c].rev = true ∧ bit t.lsw[c].flags 4 = true ∧ t.lsw[c].out = x.out ∧ others t)
    ∧ (x.out = 0 → exec (.revBlock c) s = .next s)
    ∧ (∃ t, exec (.revBlockRelease c) s = .next t ∧ t.lsw[c] = { x with rev := false } ∧ others t ∧ SameExcept [.lsw] s t)
    ∧ (s.lswx[c].gen = true → ∃ t, exec (.pulsePeriodStart c) s = .next t ∧ t.tb = max s.tb (s.nextPeriod c)
        ∧ t.lswx[c].perAt = some (s.nextPeriod c)
        ∧ t.lsw[c].duty = (s.lswState c).2 ∧ t.lswx[c].freq = s.cf (.lsw c) 0x050 16 16 ∧ others t
        ∧ t.lsw[c].out = (if (s.lswState c).2 = 0 then 0 else if (s.lswState c).2 = 1023 then 1 else 2)
        ∧ (s.cf (.lsw c) 0x050 12 1 = 0 → t.lsw[c].phase = s.cf (.lsw c) 0x050 0 10) ∧ SameExcept [.lsw, .lswx, .tb] s t)
    ∧ (s.lswx[c].gen = false → exec (.pulsePeriodStart c) s = .next s)
    ∧ (∃ t, exec (.solPermitChange p) s = .next t
        ∧ ((p.val, c.val) ∈ s.lswg.gates → t.lsw[c].gated = !(bit s.grd.out.sol p.val && bit s.sbx.out.sol p.val)
            ∧ (t.lsw[c].gated = true → t.lsw[c].out = 0))
        ∧ ((p.val, c.val) ∉ s.lswg.gates → t.lsw[c] = x))
    ∧ (∃ t, exec (.lselChange code) s = .next t ∧ t.lswg.pads = code.val ∧ SameExcept [.lswg] s t
        ∧ t.lswg.selIn = (if bit (s.com .lswg 0x040) 8 then fld (s.com .lswg 0x040) 0 5 else code.val)))

/-- NORMAL packets apply the commanded states and run the watchdog; FAILSAFE, ALL_OFF, store and its expiries act by Table 13-5
(R334, R344, R346, R349, R350, R351, R352, R353). With the LSW clock good. The packet first on its way, of the command's mode,
leaves the line. NORMAL gives each channel its carried state, with the watchdog RUNNING; FAILSAFE enters FAIL_CMD with the
stored states; ALL_OFF disarms and switches every channel off; a store packet loads the store and moves no watchdog. A channel
that nothing holds is then on, off or pulsing as its state says, a running generator at the duty it has up to its period start,
and one held by undervoltage, a latch or gating is off. With the clock failed the packet only leaves the line, and where another
mode is first the command does nothing. LSW_WDT in RUNNING enters HOLD, or FAIL_WDT with LSW_HOLD 0; FAIL_CMD and an expired
HOLD become FAIL_WDT. PACKET_INTERVAL sends NORMAL in SERVICE, and in RUN once publication has begun; FAILSAFE in SAFE_HOLD
where no pair's handover is under way. -/
def Obligations.LoadPacketsAndWatchdog : Prop :=
  ∀ (s : State) (l : List (Nat × Nat)) (rest : List (Nat × List (Nat × Nat))) (m : Nat) (c : Fin 24),
    let packet (m : Nat) : Instr := if m = 1 then .lswNormalPacket else if m = 2 then .lswFailsafePacket else if m = 3 then .lswAllOffPacket else .lswStorePacket
    let free (t : State) : Prop := t.lswg.uv = false ∧ bit t.lsw[c].flags 1 = false ∧ bit t.lsw[c].flags 2 = false ∧ t.lsw[c].gated = false
      ∧ t.lsw[c].pause = none ∧ t.lsw[c].hot = false ∧ t.lsw[c].due = false ∧ t.domOn 7 = true
    let follows (t : State) (st duty : Nat) : Prop :=
      (free s → (st ≠ 2 → t.lsw[c].out = if st = 1 then 1 else 0)
        ∧ (st = 2 → s.lswx[c].gen = false → t.lsw[c].out = if duty = 0 then 0 else if duty = 1023 then 1 else 2)
        ∧ (st = 2 → s.lswx[c].gen = true → t.lsw[c].out = if s.lsw[c].duty = 0 then 0 else if s.lsw[c].duty = 1023 then 1 else 2))
      ∧ (s.lswg.uv = true ∨ bit s.lsw[c].flags 1 = true ∨ bit s.lsw[c].flags 2 = true ∨ s.lsw[c].gated = true → t.lsw[c].out = 0)
    (s.lswg.clkFailed = false → s.lswg.air = (m, l) :: rest →
      (m = 1 → ∃ t, exec .lswNormalPacket s = .next t ∧ t.lswg.wdt = .running ∧ t.lswg.lastPkt = s.tb ∧ t.lswg.air = rest
        ∧ t.lsw[c].got = (l.getD c.val (0, 0)).1 ∧ t.lsw[c].gotDuty = (l.getD c.val (0, 0)).2
        ∧ follows t (l.getD c.val (0, 0)).1 (l.getD c.val (0, 0)).2)
      ∧ (m = 2 → ∃ t, exec .lswFailsafePacket s = .next t ∧ t.lswg.wdt = .failCmd ∧ t.lswg.lastPkt = s.tb ∧ t.lswg.air = rest
        ∧ (s.lswg.wdt ≠ .failCmd → bit t.lswg.flags 1 = true) ∧ t.lsw[c].got = s.lsw[c].got ∧ follows t s.lsw[c].fs s.lsw[c].fsDuty)
      ∧ (m = 3 → ∃ t, exec .lswAllOffPacket s = .next t ∧ t.lswg.wdt = .disarmed ∧ t.lswg.air = rest ∧ t.lsw[c].out = 0)
      ∧ (m = 4 → ∃ t, exec .lswStorePacket s = .next t ∧ t.lswg.wdt = s.lswg.wdt ∧ t.lswg.lastPkt = s.lswg.lastPkt ∧ t.lswg.air = rest
        ∧ t.lsw[c].fs = (l.getD c.val (0, 0)).1 ∧ t.lsw[c].fsDuty = (l.getD c.val (0, 0)).2 ∧ t.lsw[c].got = s.lsw[c].got))
    ∧ (s.lswg.clkFailed = true → s.lswg.air = (m, l) :: rest → 1 ≤ m → m ≤ 4 →
        ∃ t, exec (packet m) s = .next t ∧ t.lswg = { s.lswg with air := rest } ∧ SameExcept [.lswg] s t)
    ∧ (1 ≤ m → m ≤ 4 → (s.lswg.air = [] ∨ ∃ e r, s.lswg.air = e :: r ∧ e.1 ≠ m) → exec (packet m) s = .next s)
    ∧ (s.lswg.wdt = .running → ∃ t, exec .lswWdtExpiry s = .next t ∧ s.lswg.lastPkt + 160000 * s.cfg.lswWdt ≤ t.tb
        ∧ bit t.lswg.flags 0 = true ∧ t.lswg.wdtCount = min (s.lswg.wdtCount + 1) 0xFFFF
        ∧ (s.cfg.lswHold ≠ 0 → t.lswg.wdt = .hold ∧ t.lswg.holdAt = t.tb ∧ t.lsw = s.lsw)
        ∧ (s.cfg.lswHold = 0 → s.lswg.clkFailed = false → t.lswg.wdt = .failWdt ∧ bit t.lswg.flags 1 = true ∧ follows t s.lsw[c].fs s.lsw[c].fsDuty))
    ∧ (s.lswg.wdt = .failCmd → ∃ t, exec .lswWdtExpiry s = .next t ∧ t.lswg.wdt = .failWdt ∧ bit t.lswg.flags 0 = true ∧ bit t.lswg.flags 1 = true)
    ∧ (s.lswg.wdt ≠ .running → s.lswg.wdt ≠ .failCmd → exec .lswWdtExpiry s = .next s)
    ∧ (s.lswg.wdt = .hold → ∃ t, exec .lswHoldExpiry s = .next t ∧ s.lswg.holdAt + 160000 * s.cfg.lswHold ≤ t.tb ∧ t.lswg.wdt = .failWdt
        ∧ bit t.lswg.flags 1 = true ∧ follows t s.lsw[c].fs s.lsw[c].fsDuty)
    ∧ (s.lswg.wdt ≠ .hold → exec .lswHoldExpiry s = .next s)
    ∧ (s.dieAbsent 5 = false → s.domOn 7 = true →
        (s.mc.mode = .service ∨ ((s.mc.mode = .run ∨ s.mc.mode = .degraded) ∧ s.lswg.sending = 1) → ∃ t, exec .lswPacketInterval s = .next t
          ∧ t.lswg.air = s.lswg.air ++ [(1, (List.finRange 24).map (fun d => (s.lsw[d].cmd, s.lsw[d].cmdDuty)))] ∧ SameExcept [.lswg] s t)
        ∧ (s.mc.mode = .safeHold → s.pairx.handed = false → s.pairx.gaveUpAt = none → ∃ t, exec .lswPacketInterval s = .next t
          ∧ (∃ b, t.lswg.air = s.lswg.air ++ [(2, b)]) ∧ SameExcept [.lswg] s t))
    ∧ (s.mc.mode = .config ∨ s.mc.mode = .boot ∨ s.mc.mode = .standby ∨ s.mc.mode = .sleep → exec .lswPacketInterval s = .next s)

/-- A trip switches the channel off and waits its pause or latches; a retry opens a new inrush window unless a neighbour defers
it (R335, R336, R337, R338, R339, R340, R342, R19). A trip of a channel that is on counts trip k and leaves it off: with k below
OC_TRIES after a pause of min(10 ms x 2^(k-1), 1,280 ms), else with OC_LATCH and the latch counted; it is raised where the
Switch die is not held absent. A channel that is off does not trip. The over-current timeout trips a channel outside its inrush
window that is on and in limit, once OC_T has run out, or one that pulses and has been in limit for longer; else it does
nothing, as it does on the watchdog RC. At the end of the pause, at the end of a deferral, or once cooled, a retry that is due
with nothing else holding the channel switches it on with a new inrush window, but is deferred while an adjacent channel is
inside its own. OC_LATCH_CLEAR clears the latch, the count and the pause; CLAMP_LATCH_CLEAR is refused while the bucket stands
above a quarter of its budget. 10 s of the commanded state without a trip reset the count; a segment's end drops it from the
window, and time in limit counts from the window's end. -/
def Obligations.LoadTripsAndRetries : Prop :=
  ∀ (s : State) (c : Fin 24),
    let x := s.lsw[c]
    let others (t : State) : Prop := ∀ d : Fin 24, d ≠ c → t.lsw[d] = s.lsw[d]
    let k := min (x.tries + 1) 15
    let last := s.cf (.lsw c) 0x04C 20 4
    let tripped (t : State) (cause : Nat) : Prop := t.lsw[c].out = 0 ∧ t.lsw[c].tries = k ∧ t.lsw[c].trip = cause ∧ bit t.lsw[c].flags 0 = true
      ∧ (k < last → t.lsw[c].pause = some (t.tb + 160000 * min (10 * 2 ^ (k - 1)) 1280))
      ∧ (last ≤ k → bit t.lsw[c].flags 1 = true ∧ t.lswx[c].latches = min (s.lswx[c].latches + 1) 0xFFFF) ∧ others t
      ∧ (s.dieAbsent 5 = false → Raises s t (.lsw c) 0x5101 [b8 cause, b8 k])
    let clear := s.lswg.uv = false ∧ s.lswg.clkFailed = false ∧ bit x.flags 1 = false ∧ bit x.flags 2 = false ∧ x.gated = false ∧ s.domOn 7 = true
      ∧ x.out = 0 ∧ (s.lswState c).1 = 1
    let idle := s.lswHeld c = true ∧ outOf (s.lswState c).1 (s.lswState c).2 ≠ 0
    let near := ∃ d : Fin 24, (d.val + 1 = c.val ∨ d.val = c.val + 1) ∧ s.lsw[d].segs ≠ []
    let retried (t : State) : Prop := t.lsw[c].out = 1 ∧ t.lsw[c].pause = none ∧ t.lsw[c].due = false ∧ t.lsw[c].defer = false ∧ t.lsw[c].hot = false
      ∧ t.lsw[c].segs = segEnds t.tb (s.inrush c) ∧ others t
    let deferred (t : State) : Prop := t.lsw[c].out = 0 ∧ t.lsw[c].due = true ∧ t.lsw[c].defer = true ∧ others t
    let y := s.lswx[c]
    let toc := 16000 * s.cf (.lsw c) 0x04C 0 16
    let limits := x.segs = [] ∧ s.lswg.clkFailed = false ∧ ((x.out = 1 ∧ x.limiting = true) ∨ (x.out = 2 ∧ toc < y.limRun))
    (∀ cause i, (cause, i) ∈ [(1, Instr.lswFastTrip c), (3, .lswThermalTrip c)] →
      (x.out ≠ 0 → ∃ t, exec i s = .next t ∧ t.tb = s.tb ∧ tripped t cause) ∧ (x.out = 0 → exec i s = .next s))
    ∧ (limits → ∃ t, exec (.lswOcTimeout c) s = .next t ∧ tripped t 2 ∧ (x.out = 1 → y.limAt + toc < t.tb + y.limRun))
    ∧ (¬limits → exec (.lswOcTimeout c) s = .next s)
    ∧ (x.pause = none → exec (.lswRetry c) s = .next s)
    ∧ (∀ e, x.pause = some e → x.due = true → x.hot = false → clear → ∃ t, exec (.lswRetry c) s = .next t ∧ e ≤ t.tb
        ∧ (¬near → retried t) ∧ (near → deferred t ∧ t.lsw[c].pause = none))
    ∧ (x.defer = false → exec (.lswRetryDeferred c) s = .next s)
    ∧ (x.defer = true → x.pause = none → x.due = true → x.hot = false → clear → ∃ t, exec (.lswRetryDeferred c) s = .next t
        ∧ (¬near → retried t) ∧ (near → deferred t))
    ∧ (x.hot = false → exec (.lswChannelCooled c) s = .next s)
    ∧ (x.hot = true → x.pause = none → x.due = true → clear → ∃ t, exec (.lswChannelCooled c) s = .next t
        ∧ (¬near → retried t) ∧ (near → deferred t ∧ t.lsw[c].hot = false))
    ∧ (x.pause = none → x.due = false → bit x.flags 1 = false → ¬idle → ∃ t, exec (.lswTriesReset c) s = .next t ∧ t.lsw[c] = { x with tries := 0 }
        ∧ others t ∧ s.lswx[c].since + 1600000000 ≤ t.tb ∧ SameExcept [.tb, .lsw] s t)
    ∧ (x.pause.isSome = true ∨ x.due = true ∨ bit x.flags 1 = true ∨ idle → exec (.lswTriesReset c) s = .next s)
    ∧ (∀ e l, x.segs = e :: l → ∃ t, exec (.inrushSegmentEnd c) s = .next t ∧ t.lsw[c] = { x with segs := l } ∧ others t ∧ e.1 ≤ t.tb
        ∧ (l = [] → t.lswx[c].limRun = 0 ∧ t.lswx[c].limAt = t.tb) ∧ SameExcept [.tb, .lsw, .lswx] s t)
    ∧ (x.segs = [] → exec (.inrushSegmentEnd c) s = .next s)
    ∧ (s.takes (.lsw c) 0x064 true →
        (∃ t, exec (.ocLatchClear c) s = .next t ∧ bit t.lsw[c].flags 1 = false ∧ others t
          ∧ (bit x.flags 1 = true → t.lsw[c].tries = 0 ∧ t.lsw[c].pause = none ∧ t.lsw[c].due = false))
        ∧ (bit x.flags 2 = true → (clampRating c).1 < 4 * s.bucketNow c → ∃ t, exec (.clampLatchClear c) s = .next t
          ∧ bit t.lsw[c].flags 2 = true ∧ t.lsw[c].out = 0 ∧ t.lsw[c].tries = x.tries ∧ others t ∧ (t.pg (.lsw c)).errCode = 0x42)
        ∧ (4 * s.bucketNow c ≤ (clampRating c).1 → ∃ t, exec (.clampLatchClear c) s = .next t ∧ bit t.lsw[c].flags 2 = false
          ∧ t.lsw[c].tries = x.tries ∧ others t))

/-- Each slot freezes the inputs, runs the due tasks and publishes at their end; a slot that comes too early only counts a skip
(R366, R367, R370, R371, R373, R374, R375, R376, R379, R478). TIMETABLE_TICK goes to the next 1 ms tick. At a slot of a running
program in RUN or DEGRADED, its init task done, with no cycle in progress the cycle begins: FREEZE_TB, FREEZE_SEQ the last SEQ,
the main task due and the frozen image with cycle number and TB; else OVERRUN and SKIP_COUNT, the images untouched; at another
tick only time. TASKS_COMPLETE ends the init task while it runs, with a trap in it where a write of it meets a fault. With
writes that meet none it else empties the request queue, keeps an outcome of each request and, with no retained write
unfinished, ends the cycle; else it waits. In STANDBY no load changes. A retained write ends with its header complete. A timeout
aborts the due tasks, and a trap of a task that runs is recorded and abandons it; the error task's verdict 1, or its own trap,
stops the program. A waiting event record is used once, by a task whose writes meet no fault; one whose writes do is trapped. A
write of a task that does not run has no effect and is not judged. Without a cycle, a write, a record or a running program each
does nothing. -/
def Obligations.TimetableCycle : Prop :=
  ∀ (s : State) (outs banks : List (Nat × Nat × Byte)) (out bank : List (Nat × Byte)) (times : List (Nat × Nat)) (pcs : List (Nat × Word))
    (at_ task cause : Nat) (pc val : Word),
    let init := s.prgx.initRun.isSome && decide (s.prg.run = .running)
    let bad := (s.prg.image.sift ((writesOf outs banks).filter (fun e => s.taskRuns e.1))).2
    let alone := (s.prg.image.sift (writesOf (out.map (fun e => (task, e))) (bank.map (fun e => (task, e))))).2
    let trapped (t : State) (x : WriteTrap) : Prop := t.prgx.trapTask = x.task ∧ t.prgx.trapCause = x.cause
      ∧ t.prgx.trapVal = BitVec.ofNat 32 x.addr ∧ bit t.prg.flags 1 = true
    (∃ t, exec .timetableTick s = .next t ∧ t.tb % 160000 = 0 ∧ s.tb ≤ t.tb ∧ s.prg.tickAt < t.tb ∧ t.prg.tickAt = t.tb
        ∧ (∀ u, u % 160000 = 0 → s.tb ≤ u → s.prg.tickAt < u → t.tb ≤ u)
        ∧ (let slot : Prop := s.prg.run = .running ∧ s.prgx.initRun = none ∧ (s.mc.mode = .run ∨ s.mc.mode = .degraded) ∧ t.tb % s.mainPeriod = 0
          (slot → s.prg.busy = false → t.prg.inCycle = true ∧ t.prg.freezeTb = t.tb ∧ t.prg.freezeSeq = s.seq.next - 1 ∧ 0 ∈ t.prg.due
            ∧ t.prg.slots = s.prg.slots + 1 ∧ t.prg.input.length = 512 ∧ t.prg.input.getD 0 0 = lo32 s.prg.cycle
            ∧ t.prg.input.getD 4 0 = lo32 t.tb ∧ t.prg.input.getD 5 0 = hi32 t.tb ∧ t.prg.output = s.prg.output ∧ t.lsw = s.lsw)
          ∧ (slot → s.prg.busy = true → t.prgx.skips = min (s.prgx.skips + 1) 0xFFFF ∧ bit t.prg.flags 0 = true ∧ t.prg.input = s.prg.input
            ∧ t.prg.output = s.prg.output ∧ t.prg.inCycle = s.prg.inCycle ∧ t.lsw = s.lsw
            ∧ Raises s t .prg 0x7002 (leBytes 4 (s.prg.cycle % 2 ^ 32) ++ leBytes 2 t.prgx.skips))
          ∧ (¬slot → t.prg = { s.prg with tickAt := t.tb } ∧ SameExcept [.tb, .prg] s t)))
    ∧ (s.prg.inCycle = false ∨ s.prg.waitRet = true → (init = false → exec (.tasksComplete at_ outs banks times) s = .next s)
        ∧ ∀ stops, exec (.taskTimeout pcs stops) s = .next s)
    ∧ (init = true → bad = [] → ∃ t, exec (.tasksComplete at_ outs banks times) s = .next t ∧ at_ ≤ t.tb ∧ t.prgx.initRun = none
        ∧ t.prg.inCycle = s.prg.inCycle ∧ t.prgx.reqs = s.prgx.reqs ∧ t.lsw = s.lsw ∧ t.ax = s.ax)
    ∧ (∀ x, bad = [x] → (init = true → ∃ t, exec (.tasksComplete at_ outs banks times) s = .next t ∧ t.prgx.initRun = none ∧ trapped t x)
        ∧ (init = false → s.prg.run = .running → s.prg.inCycle = true → s.prg.waitRet = false →
          ∃ t, exec (.tasksComplete at_ outs banks times) s = .next t ∧ trapped t x))
    ∧ (init = false → s.prg.inCycle = true → s.prg.waitRet = false → bad = [] → ∃ t, exec (.tasksComplete at_ outs banks times) s = .next t ∧ at_ ≤ t.tb
        ∧ t.prgx.reqs = [] ∧ t.prgx.errNow = [] ∧ (s.mc.mode = .standby → t.lsw = s.lsw ∧ t.ax = s.ax)
        ∧ (s.mc.mode ≠ .standby → ∀ e ∈ s.prgx.reqs, ∃ o ∈ t.prgx.outcomes, o.1 = e.1)
        ∧ (s.prgx.retBusy = none → t.prg.inCycle = false ∧ t.prg.cycle = s.prg.cycle + 1)
        ∧ (s.prgx.retBusy.isSome = true → t.prg.inCycle = true ∧ t.prg.waitRet = true ∧ bit t.prg.flags 4 = true
            ∧ t.prgx.retLate = min (s.prgx.retLate + 1) 0xFFFF))
    ∧ (s.prgx.retBusy = none → exec (.retainWriteDone at_) s = .next s)
    ∧ (∀ b start, s.prgx.retBusy = some (b, start) → ∃ t, exec (.retainWriteDone at_) s = .next t ∧ at_ ≤ t.tb
        ∧ (s.prg.waitRet = false → t.prgx.retBusy = none ∧ t.prgx.retData = []
            ∧ (s.noGranary = false → s.memOk → t.mem.granary.read (retBase b + 16) = 1))
        ∧ (s.prg.waitRet = true → t.prg.waitRet = false ∧ t.prg.inCycle = false ∧ t.prg.cycle = s.prg.cycle + 1)
        ∧ SameExcept [.tb, .links, .seq, .mem, .prg, .prgx] s t)
    ∧ (s.prg.inCycle = true → s.prg.waitRet = false →
        (∀ stops, ∃ t, exec (.taskTimeout pcs stops) s = .next t ∧ s.prg.freezeTb + s.prg.image.taskLimit * s.mainPeriod ≤ t.tb
          ∧ (stops = true → t.prg.run = .stopped ∧ t.prg.inCycle = false) ∧ (stops = false → t.prg.run = s.prg.run)
          ∧ (∀ e ∈ pcs, e.1 ∈ s.prg.due → t.prgx.trapCause = 0x40 ∧ bit t.prg.flags 1 = true)))
    ∧ (s.prg.run ≠ .running → ∀ stops, exec (.programTrap task cause pc val stops) s = .next s)
    ∧ (s.prg.run = .running → cause < 0x10 ∨ (0x40 ≤ cause ∧ cause ≤ 0x42) → s.taskRuns (task % 16) = true → ∀ stops, ∃ t,
        exec (.programTrap task cause pc val stops) s = .next t ∧ t.prgx.trapTask = task % 16 ∧ t.prgx.trapCause = cause ∧ t.prgx.trapPc = pc
        ∧ t.prgx.trapVal = val ∧ t.prgx.traps = (if task % 16 = 15 then s.prgx.traps else min (s.prgx.traps + 1) 0xFFFF) ∧ bit t.prg.flags 1 = true
        ∧ task % 16 ∉ t.prg.due ∧ t.prg.run = (if stops ∨ task % 16 = 15 then .stopped else .running))
    ∧ (cause < 0x10 ∨ (0x40 ≤ cause ∧ cause ≤ 0x42) → s.taskRuns (task % 16) = false → ∀ stops, exec (.programTrap task cause pc val stops) s = .next s)
    ∧ (∀ e l, s.prg.run = .running → s.prgx.errNow = e :: l → 0x50 ≤ e.cause → ∃ t, exec (.programTrap task e.cause pc val false) s = .next t
        ∧ t.prgx.errNow = l ∧ t.prg = s.prg ∧ SameExcept [.prgx] s t)
    ∧ ((∀ e ∈ s.prgx.events, e.1 ≠ task) → exec (.eventTaskRelease task out bank at_) s = .next s)
    ∧ (∀ e, s.prgx.events.find? (fun x => x.1 = task) = some e → s.prg.run = .running → s.prg.waitRet = false →
        ∃ t, exec (.eventTaskRelease task out bank at_) s = .next t ∧ e.2.2.2 < t.tb
          ∧ (alone = [] → t.prgx.events = s.prgx.events.erase e ∧ t.prgx.reqs = s.prgx.reqs
            ∧ (s.prg.inCycle = true ∨ s.mc.mode = .standby → t.lsw = s.lsw))
          ∧ (∀ x ∈ alone, trapped t x))

/-- A phase 3 service only queues its request under a new handle; the other services answer at the call (R365, R369, R370, R390).
For a running program. ax_cmd, ax_profile, ptl_req, side_req, engine_ctl, can_send and rec_write append their request with the
next handle, answer that handle and change nothing outside the program's own state; with 256 requests queued they answer 0 and
queue nothing. req_status answers 0 for a queued handle, the kept outcome, or 2. stn_ack of a READY station answers 0 and is
kept for the freeze; of another it answers 1. can_recv answers 0 with nothing unread and then moves no reader. warn raises
PRG_WARN. tb_now answers TB. sem_take answers 1 and holds the semaphore, or 0 where it is taken; sem_give frees it. A program
that does not run changes nothing by any of them. -/
def Obligations.RuntimeServices : Prop :=
  ∀ (s : State) (a n : Fin 12) (p : Fin 8) (d : Fin 2) (k : Fin 4) (i m : Fin 16) (tgt : Int) (vel vmax tag code type sev : Nat)
    (ctl w0 w1 data h : Word) (pr : Vector Word 8) (cam : Bool) (l : List Byte),
    let requests : List (Instr × Request) := [
      (.axCmd a tgt vel vmax tag ctl, .axCmd a.val ⟨fld ctl 8 2, bit ctl 12, tag % 65536, sx 40 (tc 40 tgt), vel % 2 ^ 32, vmax % 2 ^ 32, false⟩ (fld ctl 0 5)),
      (.axProfile a pr, .axProfile a.val ⟨pr[0].toNat, pr[1].toNat, pr[2].toNat, pr[3].toNat, pr[4].toNat, pr[5].toNat, pr[6].toNat, pr[7].toNat⟩),
      (.ptlReq p code, .ptlReq p.val code), (.sideReq d code, .sideReq d.val code),
      (.engineCtl cam n code, .engineCtl (if cam then 16 + n.val % 4 else n.val) code),
      (.canSend k w0 w1 l, .canSend k.val w0 w1 l), (.recWrite type sev l, .recWrite type sev l)]
    let calls : List Instr := [.canRecv k, .reqStatus h, .stnAck i, .warn code data, .tbNow, .semTake m, .semGive m]
    (s.prg.run ≠ .running → (∀ e ∈ requests, exec e.1 s = .next s) ∧ ∀ j ∈ calls, exec j s = .next s)
    ∧ (s.prg.run = .running →
      (∀ e ∈ requests,
        (s.prgx.reqs.length < 256 → ∃ t, exec e.1 s = .next t ∧ t.prgx.reqs = s.prgx.reqs ++ [(s.prgx.handle, e.2)]
          ∧ t.prgx.a0 = BitVec.ofNat 32 s.prgx.handle ∧ t.prgx.handle ≠ s.prgx.handle ∧ t.prgx.outcomes = s.prgx.outcomes ∧ SameExcept [.prgx] s t)
        ∧ (256 ≤ s.prgx.reqs.length → ∃ t, exec e.1 s = .next t ∧ t.prgx.reqs = s.prgx.reqs ∧ t.prgx.a0 = 0 ∧ SameExcept [.prgx] s t))
      ∧ (∃ t, exec (.reqStatus h) s = .next t ∧ SameExcept [.prgx] s t
          ∧ ((∃ r, (h.toNat, r) ∈ s.prgx.reqs) → t.prgx.a0 = 0)
          ∧ ((∀ e ∈ s.prgx.reqs, e.1 ≠ h.toNat) → (∀ o ∈ s.prgx.outcomes, o.1 ≠ h.toNat) → t.prgx.a0 = 2)
          ∧ (∀ o, (∀ e ∈ s.prgx.reqs, e.1 ≠ h.toNat) → s.prgx.outcomes.find? (fun x => x.1 = h.toNat) = some o → t.prgx.a0 = BitVec.ofNat 32 o.2.1))
      ∧ (s.stn[i].st = .ready → ∃ t, exec (.stnAck i) s = .next t ∧ t.stn[i] = { s.stn[i] with acked := true } ∧ t.prgx.a0 = 0
          ∧ (∀ j : Fin 16, j ≠ i → t.stn[j] = s.stn[j]) ∧ SameExcept [.prgx, .stn] s t)
      ∧ (s.stn[i].st ≠ .ready → ∃ t, exec (.stnAck i) s = .next t ∧ t.prgx.a0 = 1 ∧ SameExcept [.prgx] s t)
      ∧ (s.can[k].ring = [] → ∃ t, exec (.canRecv k) s = .next t ∧ t.prgx.a0 = 0 ∧ SameExcept [.prgx] s t)
      ∧ (∀ f rest, s.can[k].ring = f :: rest → s.can[k].prgAt ≤ f.num → f.stn = false → f.num < s.can[k].nextNum → f.hasSeq = true →
          f.seq ≤ s.prg.freezeSeq → s.canMode k 12 = true → ∃ t, exec (.canRecv k) s = .next t ∧ t.prgx.a0 = 1
          ∧ (∃ g, t.prgx.recv = some g ∧ g.data = f.data ∧ g.w0 = f.w0) ∧ f.num < t.can[k].prgAt ∧ t.can[k].prgLost = false ∧ SameExcept [.prgx, .can] s t)
      ∧ (∃ t, exec (.warn code data) s = .next t ∧ t.prgx.a0 = 0 ∧ Raises s t .prg 0x7001 (leBytes 2 code ++ [0, 0] ++ leBytes 4 data.toNat)
          ∧ SameExcept [.seq, .links, .prgx] s t)
      ∧ (∃ t, exec .tbNow s = .next t ∧ t.prgx.a0 = lo32 s.tb ∧ t.prgx.a1 = hi32 s.tb ∧ SameExcept [.prgx] s t)
      ∧ (m.val ∉ s.prgx.sems → ∃ t, exec (.semTake m) s = .next t ∧ t.prgx.a0 = 1 ∧ t.prgx.sems = s.prgx.sems ++ [m.val] ∧ SameExcept [.prgx] s t)
      ∧ (m.val ∈ s.prgx.sems → ∃ t, exec (.semTake m) s = .next t ∧ t.prgx.a0 = 0 ∧ t.prgx.sems = s.prgx.sems ∧ SameExcept [.prgx] s t)
      ∧ (∃ t, exec (.semGive m) s = .next t ∧ t.prgx.a0 = 0 ∧ (∀ j, j ∈ t.prgx.sems ↔ j ∈ s.prgx.sems ∧ j ≠ m.val) ∧ SameExcept [.prgx] s t))

/-- A PRG command acts in the states that allow it and is otherwise refused with its code, the program's state untouched (R119,
R150, R361, R376, R377, R381, R382, R383, R395). Where the write reaches the page and Granary is present. VERIFY takes a closed
LOADING Siding to VERIFYING; SWITCH a READY one whose MIG_FROM is the running LAYOUT to SWITCH_PEND, in RUN or DEGRADED, and
with Guard's engine free its image is verified once more at once: the switch waits for the cycle, or the Siding is INVALID; WARM
and COLD restart a program that runs or has stopped: cycle 0, no output, and cold never warm; STOP stops a running one and drops
its requests, and sends no load state in STANDBY; DISCARD empties the Siding; ACTIVATE in CONFIG makes a READY Siding the active
slot, loaded. Otherwise 0x40, 0x41 or 0x42. A verification that ends in its turn on the engine gives READY with the image, or
INVALID with its flag. The switch runs only at the end of a cycle and changes slot and bank. LOAD_CTL opens an empty load, which
ends a switch that waits for the Siding, or reports LOAD_BUSY. -/
def Obligations.ProgramCommandsAndSiding : Prop :=
  ∀ (s : State) (at_ : Nat) (on : Bool),
    let p := s.prg
    let runs : Prop := s.mc.mode = .run ∨ s.mc.mode = .degraded
    let refused (i : Instr) (code : Nat) : Prop := ∃ t, exec i s = .next t ∧ (t.pg .prg).errCode = code ∧ SameExcept [.pages, .hif, .posted] s t
    (s.takes .prg 0x040 false → s.noGranary = false →
      (p.siding = .loading → p.loadOpen = false → ∃ t, exec .prgVerify s = .next t ∧ t.prg = { p with siding := .verifying }
          ∧ t.sec = { s.sec with engine := s.sec.engine ++ [.program] } ∧ SameExcept [.prg, .sec] s t)
      ∧ (p.siding ≠ .loading ∨ p.loadOpen = true → refused .prgVerify 0x41)
      ∧ (¬runs → refused .prgSwitch 0x40) ∧ (runs → p.siding ≠ .ready → refused .prgSwitch 0x41)
      ∧ (runs → p.siding = .ready → p.sidImage.migFrom ≠ p.image.layout → refused .prgSwitch 0x42)
      ∧ (runs → p.siding = .ready → p.sidImage.migFrom = p.image.layout → ∃ t, exec .prgSwitch s = .next t
          ∧ (s.sec.engine ≠ [] → t.prg = { p with siding := .switchPend } ∧ t.sec = { s.sec with engine := s.sec.engine ++ [.switch] }
            ∧ SameExcept [.prg, .sec] s t)
          ∧ (s.sec.engine = [] → s.prgReason (1 - p.slot) = 0 → t.prg.siding = .switchPend ∧ t.prg.switchWait = true ∧ t.prg.switchFrom = s.tb
            ∧ t.prg.image = p.image ∧ t.prg.sidImage = p.sidImage ∧ t.prg.inCycle = p.inCycle ∧ t.sec.engine = [])
          ∧ (s.sec.engine = [] → s.prgReason (1 - p.slot) ≠ 0 → t.prg.siding = .invalid ∧ bit t.prg.flags 6 = true ∧ t.prg.switchWait = p.switchWait
            ∧ t.prg.image = p.image ∧ t.sec.engine = []))
      ∧ (∀ i cold, (i, cold) ∈ [(Instr.prgWarm, false), (.prgCold, true)] →
          (runs → p.run = .running ∨ p.run = .stopped → ∃ t, exec i s = .next t ∧ t.prg.run = .running ∧ t.prg.cycle = 0 ∧ t.prg.inCycle = false
            ∧ t.prg.output = [] ∧ t.prgx.reqs = [] ∧ t.prg.slot = p.slot ∧ t.prg.bank = p.bank ∧ (cold = true → t.prg.lastWarm = false)
            ∧ t.ax = s.ax ∧ t.lsw = s.lsw)
          ∧ (¬runs ∨ (p.run ≠ .running ∧ p.run ≠ .stopped) → refused i 0x40))
      ∧ (p.run = .running → ∃ t, exec .prgStop s = .next t ∧ t.prg.run = .stopped ∧ t.prg.inCycle = false ∧ t.prgx.reqs = [] ∧ bit t.prg.flags 2 = true
          ∧ (s.mc.mode = .standby → t.lsw = s.lsw ∧ t.lswg = s.lswg)
          ∧ (∀ c : Fin 24, s.mc.mode ≠ .standby → s.prgOwns c = true → s.dieAbsent 5 = false → s.domOn 7 = true → t.lsw[c].cmd = (s.cfg.lswFs[c]).1))
      ∧ (p.run ≠ .running → refused .prgStop 0x40)
      ∧ (p.siding ≠ .switchPend → p.siding ≠ .verifying → ∃ t, exec .prgDiscard s = .next t ∧ t.prg = { p with siding := .empty, sidImage := {} } ∧ SameExcept [.prg] s t)
      ∧ (p.siding = .switchPend ∨ p.siding = .verifying → refused .prgDiscard 0x40)
      ∧ (p.run = .running ∨ p.run = .suspended ∨ ¬(runs ∨ s.mc.mode = .config) → refused .prgActivate 0x40)
      ∧ (p.run ≠ .running → p.run ≠ .suspended → (runs ∨ s.mc.mode = .config) →
          (p.siding ≠ .ready → refused .prgActivate 0x41)
          ∧ (p.siding = .ready → ∃ t, exec .prgActivate s = .next t ∧ t.prg.slot = 1 - p.slot ∧ t.prg.bank = 1 - p.bank ∧ t.prg.image = p.sidImage
              ∧ t.boot.prgOk = true ∧ t.prg.run = (if s.mc.mode = .config then .loaded else .running))))
    ∧ (s.takes .prg 0x040 false → s.noGranary = true → ∀ i ∈ [Instr.prgVerify, .prgSwitch, .prgWarm, .prgCold, .prgStop, .prgDiscard, .prgActivate], refused i 0x11)
    ∧ (p.siding ≠ .verifying ∨ s.sec.engine.head? ≠ some .program → exec .prgVerifyDone s = .next s)
    ∧ (p.siding = .verifying → s.sec.engine = [.program] → ∃ t, exec .prgVerifyDone s = .next t ∧
        (let slot := 1 - p.slot
        let ok := s.prgReason slot = 0 ∧ (p.run.still = true ∨ (s.imageOf slot).migFrom = p.image.layout)
        (ok → t.prg.siding = .ready ∧ t.prg.sidImage = s.imageOf slot) ∧ (¬ok → t.prg.siding = .invalid ∧ bit t.prg.flags 6 = true)
        ∧ t.sec.engine = []))
    ∧ (p.switchWait = false ∨ p.inCycle = true ∨ p.waitRet = true ∨ s.prgx.retBusy.isSome = true → exec (.prgSwitchExec at_) s = .next s)
    ∧ (p.switchWait = true → p.inCycle = false → p.waitRet = false → s.prgx.retBusy = none → ∃ t, exec (.prgSwitchExec at_) s = .next t ∧ at_ ≤ t.tb
        ∧ t.prg.slot = 1 - p.slot ∧ t.prg.bank = 1 - p.bank ∧ t.prg.image = p.sidImage ∧ t.prg.sidImage = p.image ∧ t.prg.switchWait = false
        ∧ bit t.prg.inFlags 3 = true ∧ bit t.prg.flags 5 = true ∧ t.prg.output = p.output ∧ t.prg.cycle = p.cycle)
    ∧ (s.takes .prg 0x044 false → s.noGranary = false →
        (∃ t, exec (.prgLoadOpen false) s = .next t ∧ t.prg = { p with loadOpen := false } ∧ SameExcept [.prg] s t)
        ∧ (s.sec.loadOpen = true ∨ s.sec.load = .verifying → refused (.prgLoadOpen true) 0x08)
        ∧ (s.sec.loadOpen = false → s.sec.load ≠ .verifying → p.loadOpen = false → ∃ t, exec (.prgLoadOpen true) s = .next t
            ∧ t.prg = { p with loadOpen := true, loadLen := 0, siding := .loading, sidImage := {}, switchWait := false, switchCycle := false }
            ∧ EngineOp.program ∉ t.sec.engine ∧ EngineOp.switch ∉ t.sec.engine
            ∧ (s.sec.engine.head? ≠ some .program → s.sec.engine.head? ≠ some .switch → SameExcept [.prg, .prgx, .sec] s t)))

/-- A station joins by a checked JOIN_REQ, advances by good exchanges in time, and is lost or absent after MISS_MAX misses
(R387, R389, R390, R391, R392). JOIN_REQ of an ABSENT or REFUSED station on its bus: with every check passed it is JOINING with
its version and no run counted, else REFUSED with the reason, flag and event; its JOIN_ACK waits for phase 3, or for the slot
that stands for it in CONFIG, and where neither comes it is queued where the FIFO has room (log 85). STN_IN gives ST_STATUS, 0
before protocol v2, and its flag. With the counter of an OUT sent and within REPLY_TMO, of the right length, counts a good
exchange, takes the inputs and ends the run of misses; the GOOD_N-th in a row of a JOINING station makes it READY, or PRESENT in
CONFIG; too late or with no such OUT it changes nothing more; another length sets a flag alone. STN_REPLY_TIMEOUT counts a miss,
and the MISS_MAX-th in a row makes a PRESENT station LOST and another ABSENT. In CONFIG every station that exchanges gets one
probe with a new counter. In another state each does nothing. -/
def Obligations.StationProtocol : Prop :=
  ∀ (s : State) (i : Fin 16) (data : List Byte) (ctr status at_ : Nat),
    let x := s.stn[i]
    let k := s.cfg.stn[i]
    let others (t : State) : Prop := ∀ j : Fin 16, j ≠ i → t.stn[j] = s.stn[j]
    let joins : Prop := (x.st = .absent ∨ x.st = .refused) ∧ s.mc.mode ≠ .standby
    let exchanges : Prop := x.st = .joining ∨ x.st = .ready ∨ x.st = .present
    let told := if x.version = 2 then status % 256 else 0
    let only (t : State) : Prop := t.stn[i] = { x with status := told, flags := t.stn[i].flags } ∧ others t
      ∧ (x.version = 2 → status % 2 = 1 → bit t.stn[i].flags 5 = true)
      ∧ (x.version ≠ 2 ∨ status % 2 = 0 → t.stn[i].flags = x.flags ∧ SameExcept [.tb, .stn] s t)
    (k.bus = none ∨ ¬joins → exec (.joinReq i data) s = .next s)
    ∧ (∀ (n : Fin 4) (r : Nat), k.bus = some n.val → joins → s.joinReason i data = r → ∃ t, exec (.joinReq i data) s = .next t ∧ others t
        ∧ t.stn[i].goodRun = 0 ∧ t.stn[i].missRun = 0 ∧ t.stn[i].flights = []
        ∧ (r = 0 → t.stn[i].st = .joining ∧ t.stn[i].version = (if bit (BitVec.ofNat 32 (data.getD 0 0).toNat) 1 then 2 else 1))
        ∧ (r ≠ 0 → t.stn[i].st = .refused ∧ t.stn[i].version = x.version ∧ bit t.stn[i].flags 2 = true ∧ Raises s t (.stn i) 0x7103 [b8 r])
        ∧ (s.stnPhase = true → t.can = s.can ∧ ∃ b, t.stn[i].ack = some b ∧ b.getD 1 0 = b8 r ∧ b.length = 8)
        ∧ (s.stnPhase = false → s.can[n].fifo.length < 32 → t.stn[i].ack = none
          ∧ ∃ f, t.can[n].fifo = s.can[n].fifo ++ [f] ∧ f.data.getD 1 0 = b8 r ∧ f.data.length = 8)
        ∧ (s.stnPhase = false → 32 ≤ s.can[n].fifo.length → t.can = s.can))
    ∧ (¬exchanges ∨ s.mc.mode = .standby → ∃ t, exec (.stnIn i ctr status data at_) s = .next t ∧ SameExcept [.tb] s t)
    ∧ (exchanges → s.mc.mode ≠ .standby → (∀ e ∈ x.flights, e.1 = ctr % 256 → e.2 = none) → ∃ t, exec (.stnIn i ctr status data at_) s = .next t
        ∧ only t)
    ∧ (∀ t₀, exchanges → s.mc.mode ≠ .standby → x.flights.find? (fun e => e.1 = ctr % 256) = some (ctr % 256, some t₀) →
        (t₀ + k.replyTmo * 16000 < at_ → ∃ t, exec (.stnIn i ctr status data at_) s = .next t ∧ only t)
        ∧ (at_ ≤ t₀ + k.replyTmo * 16000 → data.length ≠ frameLen k.inLen → ∃ t, exec (.stnIn i ctr status data at_) s = .next t
            ∧ t.stn[i] = { x with status := told, flags := t.stn[i].flags } ∧ bit t.stn[i].flags 3 = true ∧ others t)
        ∧ (at_ ≤ t₀ + k.replyTmo * 16000 → data.length = frameLen k.inLen → ∃ t, exec (.stnIn i ctr status data at_) s = .next t ∧ others t
            ∧ at_ ≤ t.tb ∧ t.stn[i].exch = min (x.exch + 1) 0xFFFFFFFF ∧ t.stn[i].missRun = 0 ∧ t.stn[i].goodRun = x.goodRun + 1
            ∧ t.stn[i].latest = data.take k.inLen ∧ t.stn[i].status = told ∧ (∀ e ∈ t.stn[i].flights, e.1 ≠ ctr % 256)
            ∧ (x.st ≠ .joining ∨ x.goodRun + 1 < k.goodN → t.stn[i].st = x.st)
            ∧ (x.st = .joining → k.goodN ≤ x.goodRun + 1 → t.stn[i].st = (if s.mc.mode = .config then .present else .ready) ∧ bit t.stn[i].flags 1 = true)))
    ∧ ((∀ e ∈ x.flights, e.2 = none) → exec (.stnReplyTimeout i) s = .next s)
    ∧ (∀ c t₀, x.flights.find? (fun e => e.2.isSome) = some (c, some t₀) → ∃ t, exec (.stnReplyTimeout i) s = .next t ∧ others t
        ∧ t₀ + k.replyTmo * 16000 ≤ t.tb ∧ t.stn[i].misses = min (x.misses + 1) 0xFFFF ∧ t.stn[i].missRun = min (x.missRun + 1) 255
        ∧ t.stn[i].goodRun = 0 ∧ bit t.stn[i].flags 4 = true
        ∧ (min (x.missRun + 1) 255 < k.missMax → t.stn[i].st = x.st)
        ∧ (k.missMax ≤ min (x.missRun + 1) 255 → (x.st = .present → t.stn[i].st = .lost ∧ bit t.stn[i].flags 0 = true ∧ t.stn[i].drops = min (x.drops + 1) 0xFFFF)
            ∧ (x.st = .joining ∨ x.st = .ready → t.stn[i].st = .absent)))
    ∧ (s.mc.mode ≠ .config ∨ s.boot.canStart = none → exec .stnConfigExchange s = .next s)
    ∧ (s.mc.mode = .config → s.boot.canStart.isSome = true → ∃ t, exec .stnConfigExchange s = .next t
        ∧ (exchanges → k.bus.isSome = true → t.stn[i].counter = (x.counter + 1) % 256) ∧ (¬exchanges → t.stn[i].counter = x.counter)
        ∧ t.stn[i].st = x.st ∧ s.tb < t.tb)

/-- Received frames fill the ring, sent frames leave the FIFO, errors move TEC and REC, and the fault state follows them (R399,
R400, R405, R406, R407, R411, R412, R414, R415, R416, R417). For a controller on the bus whose EN has not been written 0
meanwhile. A frame of another node that it takes is stored with its words, its bytes by the DLC and the next number, and raised;
with the ring full and a reader behind in lock mode it is dropped and counted. An FD frame to a classical controller is not
taken, and with PXHD it is a form error; off the bus only time passes. An error adds 8 to TEC as transmitter unless spared, 1 or
8 to REC as receiver, neither while listening only; the state is then bus-off from 256, error-passive from 128, else active. A
head in an attempt that completes leaves the FIFO, goes out once, counts, and lowers TEC. A failed attempt keeps the head,
removes it where its removal waits, or with TX_FAIL where ONE_SHOT held as it began; an arbitration is lost to a frame that is
then received. Recovery done gives an active controller with counters 0; a wake-up pattern in STANDBY sets WUP_SEEN. Otherwise
nothing. (The steps of TEC and REC are those of the standard that R414 names, as the model presumes them, log 35.) -/
def Obligations.CanBusEvents : Prop :=
  ∀ (s : State) (n : Fin 4) (w0 w1 : Word) (data : List Byte) (sof val : Nat) (kind : Fin 7) (tx more spare error : Bool),
    let c := s.can[n]
    let on : Prop := c.fc = .active ∨ c.fc = .passive
    let others (t : State) : Prop := ∀ m : Fin 4, m ≠ n → t.can[m] = s.can[m]
    let state (t : State) : FcState := if 256 ≤ t.can[n].tec then .busOff else if 128 ≤ t.can[n].tec ∨ 128 ≤ t.can[n].rxErr then .passive else .active
    let hears : Prop := on ∧ s.xcvr n ≠ 2
    let alien : Prop := bit w1 4 = true ∧ s.canMode n 1 = false
    let takes : Prop := hears ∧ ¬alien
    (¬hears → ∃ t, exec (.canFrameRx n w0 w1 data sof val) s = .next t ∧ SameExcept [.tb] s t)
    ∧ (hears → alien → ∃ t, exec (.canFrameRx n w0 w1 data sof val) s = .next t ∧ others t ∧ t.can[n].ring = c.ring ∧ t.can[n].nextNum = c.nextNum
        ∧ t.canc[n].rx = s.canc[n].rx ∧ (s.canMode n 8 = true → t.can[n].lec = 2 ∧ t.canc[n].form = min (s.canc[n].form + 1) 0xFF)
        ∧ (c.stopping = false → t.can[n].tec = c.tec ∧ (s.canMode n 8 = false ∨ s.canMode n 4 = true → t.can[n].rxErr = c.rxErr)
          ∧ (s.canMode n 8 = true → s.canMode n 4 = false → t.can[n].rxErr = min (c.rxErr + 1) 0xFF)))
    ∧ (takes → c.ring.length < 256 → ∃ t, exec (.canFrameRx n w0 w1 data sof val) s = .next t ∧ others t ∧ val ≤ t.tb
        ∧ (∃ f, t.can[n].ring = c.ring ++ [f] ∧ f.w0 = w0 ∧ f.data = data.take (dlcLen (bit w1 4) (bit w1 10) (fld w1 0 4)) ∧ f.num = c.nextNum
            ∧ f.val = stampOf val ∧ f.hasSeq = false ∧ RaisesFrom s t (evSource (.can n)) 0x6001 (leBytes 4 w0.toNat ++ leBytes 4 f.w1.toNat ++ padTo 4 f.data))
        ∧ t.can[n].nextNum = c.nextNum + 1 ∧ t.canc[n].rx = min (s.canc[n].rx + 1) 0xFFFFFFFF ∧ t.can[n].rxActive = false
        ∧ (c.stopping = false → t.can[n].tec = c.tec
          ∧ (c.rxErr ≤ 127 → s.canMode n 4 = false → t.can[n].rxErr = c.rxErr - 1)
          ∧ (127 < c.rxErr → s.canMode n 4 = false → 119 ≤ t.can[n].rxErr ∧ t.can[n].rxErr ≤ 127)))
    ∧ (∀ f l, takes → c.ring = f :: l → 256 ≤ c.ring.length → c.lockMode = true → s.canMode n 11 = true → c.hostAt ≤ f.num →
        ∃ t, exec (.canFrameRx n w0 w1 data sof val) s = .next t ∧ t.can[n].ring = c.ring ∧ t.canc[n].rxDrop = min (s.canc[n].rxDrop + 1) 0xFFFF ∧ others t)
    ∧ (kind.val = 0 ∨ ¬hears → exec (.canBusError n kind tx more spare) s = .next s)
    ∧ (kind.val ≠ 0 → hears → ∃ t, exec (.canBusError n kind tx more spare) s = .next t ∧ others t ∧ t.can[n].lec = kind.val
        ∧ (tx = false → t.can[n].rxActive = false) ∧ (c.stopping = true → c.txActive = false → tx = false → t.can[n].fc = .init)
        ∧ (s.canMode n 4 = true → c.stopping = false → t.can[n].tec = c.tec ∧ t.can[n].rxErr = c.rxErr ∧ t.can[n].fc = c.fc)
        ∧ (s.canMode n 4 = false → c.stopping = false → t.can[n].fc = state t
            ∧ (tx = true → spare = false → t.can[n].tec = c.tec + 8) ∧ (tx = true → t.can[n].rxErr = c.rxErr)
            ∧ (tx = false → t.can[n].tec = c.tec ∧ t.can[n].rxErr = min (c.rxErr + (if more then 8 else 1)) 255)))
    ∧ (c.fifo = [] ∨ c.txActive = false → exec (.canTxComplete n sof val) s = .next s)
    ∧ (∀ f l, c.fifo = f :: l → c.txActive = true → ∃ t, exec (.canTxComplete n sof val) s = .next t ∧ t.can[n].fifo = l ∧ val ≤ t.tb
        ∧ t.canc[n].tx = min (s.canc[n].tx + 1) 0xFFFFFFFF ∧ (c.stopping = false → t.can[n].tec = c.tec - 1) ∧ (c.stopping = true → t.can[n].fc = .init)
        ∧ (∃ w, .canFrame n.val f.w0 w f.data ∈ t.posted) ∧ others t)
    ∧ (c.txActive = false → exec (.canTxAttemptFail n error) s = .next s)
    ∧ (∀ f l, c.txActive = true → c.fifo = f :: l → ∃ t, exec (.canTxAttemptFail n error) s = .next t ∧ others t
        ∧ (error = true → c.stopping = true → t.can[n].fc = .init) ∧ t.can[n].rxActive = !error
        ∧ (c.aborting = false → c.dropping = false → c.oneShot = false → t.can[n].fifo = f :: l)
        ∧ (c.aborting = true ∨ c.dropping = true → t.can[n].fifo = l) ∧ (c.aborting = true → bit t.can[n].flags 7 = true)
        ∧ (c.oneShot = true → t.can[n].fifo = l ∧ bit t.can[n].flags 3 = true
            ∧ Raises s t (.can n) 0x6003 (leBytes 4 f.w0.toNat ++ [b8 (if error then 2 else 1)])))
    ∧ (c.fc = .busOff → c.recovering = true → ∃ t, exec (.canRecoveryDone n) s = .next t ∧ t.can[n].fc = .active ∧ t.can[n].tec = 0
        ∧ t.can[n].rxErr = 0 ∧ t.can[n].recovering = false ∧ bit t.can[n].flags 2 = true ∧ t.can[n].fifo = c.fifo ∧ others t)
    ∧ (c.fc ≠ .busOff ∨ c.recovering = false → exec (.canRecoveryDone n) s = .next s)
    ∧ (n.val < 2 → s.xcvr n = 2 → ∃ t, exec (.canWupDetect n) s = .next t ∧ bit t.can[n].flags 8 = true ∧ t.can[n].fifo = c.fifo ∧ t.can[n].ring = c.ring ∧ others t)
    ∧ (2 ≤ n.val ∨ s.xcvr n ≠ 2 → exec (.canWupDetect n) s = .next s)

/-- PUSH, POP, aborts, recovery, wake-up and EN of a CAN page act on its controller, or report why not and change nothing (R400,
R408, R409, R410, R411, R414, R417, R420). Where the write reaches the page; PUSH and POP also while it is locked. PUSH appends
the transmit window's frame with its DLC's bytes, or reports 0x40 on a full FIFO with TX_FULL and 0x41 on a frame it may not
send. POP drops the window's frame and the shadow becomes the window, or 0x43. ABORT_HEAD and TX_FLUSH remove the head, or every
frame, at once; a head in an attempt stays until the attempt's end. RECOVER of a bus-off controller starts the recovery, or
0x44. SEND_WUP puts the pattern out in NORMAL on CAN0 or CAN1, on an idle bus, or 0x45; a controller that listens only takes it
and drives nothing (log 85). EN 1 leaves INIT with the TIMING group committed; EN 0 enters it with counters 0, after a frame in
progress. A window read gives its word, or the captured one, and captures the further words of the wide field it begins; in lock
mode the last word advances the reader, another locks. -/
def Obligations.CanCommands : Prop :=
  ∀ (s : State) (n : Fin 4) (w : Fin 24) (on : Bool),
    let c := s.can[n]
    let others (t : State) : Prop := ∀ m : Fin 4, m ≠ n → t.can[m] = s.can[m]
    let refused (i : Instr) (code : Nat) : Prop := ∃ t, exec i s = .next t ∧ (t.pg (.can n)).errCode = code ∧ t.can[n].fifo = c.fifo
      ∧ t.can[n].window = c.window ∧ t.can[n].fc = c.fc ∧ t.can[n].recovering = c.recovering ∧ others t
    let tw0 := s.com (.can n) 0x200
    let tw1 := s.com (.can n) 0x204
    (s.takes (.can n) 0x054 true →
      (∀ code, s.pushRefusal n tw0 tw1 = some code → refused (.push n) code ∧ (code = 0x40 → ∃ t, exec (.push n) s = .next t ∧ bit t.can[n].flags 6 = true))
      ∧ (s.pushRefusal n tw0 tw1 = none → ∃ t, exec (.push n) s = .next t ∧ others t ∧ SameExcept [.can] s t
          ∧ ∃ f, t.can[n].fifo = c.fifo ++ [f] ∧ fld f.w0 0 29 = (if bit tw0 29 then fld tw0 0 29 else fld tw0 0 11)
            ∧ f.data.length = dlcLen (bit tw1 4) (bit tw1 10) (fld tw1 0 4) ∧ f.stn = none)
      ∧ (c.window = none → refused (.pop n) 0x43)
      ∧ (∀ f l, c.window = some (f, l) → ∃ t, exec (.pop n) s = .next t ∧ f.num < t.can[n].hostAt ∧ t.can[n].locked = false
          ∧ (∀ g, c.shadow = some g → t.can[n].window = some g) ∧ t.can[n].ring = c.ring ∧ others t ∧ SameExcept [.can] s t))
    ∧ (s.takes (.can n) 0x054 false →
      (c.fifo = [] → exec (.abortHead n) s = .next s ∧ exec (.txFlush n) s = .next s)
      ∧ (∀ f l, c.fifo = f :: l → c.txActive = false → (∃ t, exec (.abortHead n) s = .next t ∧ t.can[n].fifo = l ∧ others t)
          ∧ ∃ t, exec (.txFlush n) s = .next t ∧ t.can[n].fifo = [] ∧ others t)
      ∧ (∀ f l, c.fifo = f :: l → c.txActive = true → (∃ t, exec (.abortHead n) s = .next t ∧ t.can[n] = { c with aborting := true } ∧ others t)
          ∧ ∃ t, exec (.txFlush n) s = .next t ∧ t.can[n] = { c with aborting := true, fifo := [f] } ∧ others t)
      ∧ (c.fc = .busOff → c.recovering = false → ∃ t, exec (.recover n) s = .next t ∧ t.can[n] = { c with recovering := true } ∧ SameExcept [.can] s t)
      ∧ (c.fc ≠ .busOff ∨ c.recovering = true → refused (.recover n) 0x44)
      ∧ (let may : Prop := n.val < 2 ∧ s.xcvr n = 0 ∧ (c.fc = .active ∨ c.fc = .passive) ∧ c.txActive = false ∧ c.rxActive = false
        (may → s.canMode n 4 = false → ∃ t, exec (.sendWup n) s = .next t ∧ t.posted = s.posted ++ [.canWup n.val] ∧ SameExcept [.posted] s t)
        ∧ (may → s.canMode n 4 = true → exec (.sendWup n) s = .next s)
        ∧ (¬may → refused (.sendWup n) 0x45)))
    ∧ (s.takes (.can n) 0x00C false →
      (∃ t, exec (.canEnable n on) s = .next t ∧ (t.pg (.can n)).en = on ∧ others t
        ∧ (on = true → c.fc = .init → t.can[n].fc = (if c.offHeld then .busOff else .active))
        ∧ (on = true → t.can[n].stopping = false ∧ t.can[n].timing = [s.com (.can n) 0x040, s.com (.can n) 0x044, s.com (.can n) 0x048])
        ∧ (on = false → c.txActive = false → c.rxActive = false → c.fc ≠ .init → t.can[n].fc = .init ∧ t.can[n].tec = 0 ∧ t.can[n].rxErr = 0)
        ∧ (on = false → c.txActive = true ∨ c.rxActive = true → t.can[n].stopping = true ∧ t.can[n].fc = c.fc)
        ∧ t.can[n].fifo = c.fifo ∧ SameExcept [.can, .pages] s t))
    ∧ (s.busAlive = false → ∃ t, exec (.rxWindowRead n w) s = .next t ∧ t.hspi.rdata = [0] ∧ SameExcept [.hspi] s t)
    ∧ (s.busAlive = true → s.readErr (.can n) (0x100 + 4 * w.val) = none → (s.clkStopped (.can n) = true ∨ (s.pg (.can n)).queue = []) →
      ∃ t, exec (.rxWindowRead n w) s = .next t ∧ others t ∧ SameExcept [.hspi, .can, .pages] s t
        ∧ ((s.pg (.can n)).cap.get? (0x100 + 4 * w.val) = none → (s.pg (.can n)).snapHeld = false → t.hspi.rdata = [c.windowWord w.val])
        ∧ (∀ v, (s.pg (.can n)).cap.get? (0x100 + 4 * w.val) = some v → t.hspi.rdata = [v])
        ∧ ((s.pg (.can n)).cap.get? (0x100 + 4 * w.val) = none → ∀ k ∈ wideOf (.can n) (0x100 + 4 * w.val),
            (t.pg (.can n)).cap.get? k = some (s.blockWord (.can n) k))
        ∧ (c.lockMode = false ∨ c.window = none → t.can = s.can)
        ∧ (∀ f l, c.window = some (f, l) → c.lockMode = true →
            (w.val = 7 + ceilDiv (fld f.w1 16 7) 4 → f.num < t.can[n].hostAt ∧ t.can[n].locked = false)
            ∧ (w.val ≠ 7 + ceilDiv (fld f.w1 16 7) 4 → t.can[n] = { c with locked := true })))

/-- A queue starts empty, writes staged records where there is room, counts what it loses, and takes only a HEAD within its
records (R424, R432, R433, R434, R435, R436, R437, R438, R439, R440). Where the write reaches the page. EN 1 of a configured
queue with nothing staged in group 0 runs it with HEAD and TAIL 0 and nothing lost, else 0x40; EN 0 stops it, discards what it
has not written and keeps TAIL; its final message waits where the link is down. HEAD h is taken where (h − HEAD) mod SIZE is at
most (TAIL − HEAD) mod SIZE, else HEAD_INVALID with its flag; it then stands at the slot h names, h mod SIZE (log 83). With the
bus up and no lost run, the oldest staged event is written with all its records, TAIL moves past them and each record goes out
before the tail write-back; without room for all it opens a lost run and TAIL stays. An EVQ_OVERFLOW record closes a run once a
slot is free. COAL_TIME as it stood for that record, after an unsignalled record, sends the vector, or keeps it due while the
link is down. A queue that does not run takes no record. -/
def Obligations.EventQueues : Prop :=
  ∀ (s : State) (q : Fin 8) (w : Word),
    let x := s.evq[q]
    let n := s.evqSize q
    let others (t : State) : Prop := ∀ r : Fin 8, r ≠ q → t.evq[r] = s.evq[r]
    (s.takes (.evq q) 0x00C false →
      (x.running = false → bit (s.pg (.evq q)).stage 0 = false → x.configured = true → ∃ t, exec (.evqEnable q) s = .next t ∧ t.evq[q].running = true
        ∧ t.evq[q].head = 0 ∧ t.evq[q].tail = 0 ∧ t.evq[q].staged = [] ∧ t.evq[q].lost = none ∧ t.evq[q].started = false ∧ (t.pg (.evq q)).en = true ∧ others t
        ∧ SameExcept [.evq, .pages] s t)
      ∧ (x.running = false → bit (s.pg (.evq q)).stage 0 = true ∨ x.configured = false → ∃ t, exec (.evqEnable q) s = .next t
        ∧ (t.pg (.evq q)).errCode = 0x40 ∧ t.evq = s.evq)
      ∧ (x.running = true → exec (.evqEnable q) s = .next s)
      ∧ (x.running = true → ∃ t, exec (.evqDisable q) s = .next t ∧ t.evq[q].running = false ∧ t.evq[q].staged = [] ∧ t.evq[q].lost = none
        ∧ t.evq[q].tail = x.tail ∧ (t.pg (.evq q)).en = false ∧ others t
        ∧ (s.busUp = false → t.posted = s.posted ∧ t.evq[q].dueVec = (x.dueVec || decide (0 < x.unsig))))
      ∧ (x.running = false → exec (.evqDisable q) s = .next s))
    ∧ (s.takes (.evq q) 0x060 true →
      let h := fld w 0 16
      let past (a : Nat) : Int := ((a : Int) - x.head) % n
      (x.running = true → past h ≤ past x.tail → ∃ t, exec (.evqHead q w) s = .next t
        ∧ t.evq[q] = { x with head := h % n } ∧ others t ∧ SameExcept [.evq] s t)
      ∧ (x.running = false ∨ past x.tail < past h → ∃ t, exec (.evqHead q w) s = .next t
        ∧ (t.pg (.evq q)).errCode = 0x41 ∧ bit t.evq[q].flags 1 = true ∧ t.evq[q].head = x.head ∧ others t))
    ∧ (x.lost = none → (x.staged = [] ∨ x.running = false ∨ s.busUp = false) → exec (.evqRecordWrite q) s = .next s)
    ∧ (∀ g l, x.lost = none → x.staged = g :: l → x.running = true → s.busUp = true →
      let recs := s.evqRecs q g.ev g.seq x.ended
      (recs.length ≤ s.evqFree q → ∃ t, exec (.evqRecordWrite q) s = .next t ∧ t.evq[q].staged = l ∧ t.evq[q].lost = none ∧ t.evq[q].lastSeq = g.seq
        ∧ (x.tail < n → t.evq[q].tail = (x.tail + recs.length) % n) ∧ t.evq[q].head = x.head ∧ others t
        ∧ (∃ out, t.posted = s.posted ++ out ∧ recs.length + 1 ≤ out.length
            ∧ (∀ r₀ rest, recs = r₀ :: rest → out.head? = some (.hostWrite (s.addr64 (.evq q) 0x040 + x.tail * (if s.evqV1 q then 16 else 32)) r₀))
            ∧ out[recs.length]? = some (.hostWrite (s.addr64 (.evq q) 0x050) (leBytes 4 t.evq[q].tail ++ leBytes 4 x.lostCount))))
      ∧ (s.evqFree q < recs.length → ∃ t, exec (.evqRecordWrite q) s = .next t ∧ t.evq[q].staged = l ∧ t.evq[q].tail = x.tail
        ∧ t.evq[q].lostCount = min (x.lostCount + 1) 0xFFFFFFFF ∧ bit t.evq[q].flags 0 = true ∧ others t
        ∧ (∃ r, t.evq[q].lost = some r ∧ r.first = g.seq ∧ r.last = g.seq ∧ r.count = 1)))
    ∧ (x.lost = none ∨ x.running = false ∨ s.busUp = false ∨ s.evqFree q = 0 → exec (.evqOverflow q) s = .next s)
    ∧ (∀ r, x.lost = some r → r.behind = 0 → x.running = true → s.busUp = true → 0 < s.evqFree q → ∃ t, exec (.evqOverflow q) s = .next t
        ∧ t.evq[q].lost = none ∧ t.evq[q].lastSeq = r.first ∧ t.evq[q].ended = true ∧ t.evq[q].staged = x.staged ∧ others t)
    ∧ (x.unsigAt = none ∨ x.unsigTime = 0 ∨ x.running = false → exec (.evqCoalTimeout q) s = .next s)
    ∧ (∀ t₀, x.unsigAt = some t₀ → x.unsigTime ≠ 0 → x.running = true → ∃ t, exec (.evqCoalTimeout q) s = .next t
        ∧ t₀ + 160 * x.unsigTime ≤ t.tb ∧ others t
        ∧ (s.busUp = true → t.evq[q].unsig = 0 ∧ t.evq[q].unsigAt = none ∧ t.evq[q].dueVec = false)
        ∧ (s.busUp = false → t.evq[q] = { x with dueVec := true } ∧ t.posted = s.posted))

/-- Records go to the region in order where they fit, else the policy decides; a clear needs a token on a fresh nonce (R448,
R451, R453, R454, R457, R458, R459, R462). RECORD_WRITE takes the oldest staged record, unless none is staged or a CLEARED
record waits for its SEQ. One that fits is written at TAIL, or at 0 behind a VOID record where it would pass the end; TAIL and
LAST_SEQ follow, and no byte outside it, nor before TAIL where it passes the end, changes. Under STOP a record that leaves less
than the reserve makes the region FULL, and while FULL it is only counted as dropped; under OVERWRITE it takes the place of a
victim, or is dropped with none. A host write of a type 0x2000 to 0x2FFF up to 496 bytes and severity 13 waits for its event's
SEQ; else 0x40. NONCE places a nonce for LAST_SEQ, CLEAR asks Guard's engine for a verification; during one every other command
is 0x41, without Granary 0x11. A verification that ends in its turn consumes the nonce: accepted, no record at or below its
range counts any more; refused, or with Granary lost meanwhile, it is only reported. -/
def Obligations.CycleRecorder : Prop :=
  (∀ s : State,
    (s.recd.stage = [] ∨ s.recd.await.any (fun e => e.2.2.type = 0x0071) = true → exec .recordWrite s = .next s)
    ∧ (∀ x l, s.recd.stage = x :: l → s.recd.await.any (fun e => e.2.2.type = 0x0071) = false →
      let r := s.recd
      let n := x.size
      let wraps : Prop := recSize < r.tail + n
      let at_ := if wraps then 0 else r.tail
      let reserve : Prop := x.type = 0x0070 ∨ x.type = 0x0071
      let fits : Prop := r.need n ≤ r.free ∧ (r.policy = true ∨ reserve ∨ (r.full = false ∧ r.need n + 1024 ≤ r.free))
      (s.noGranary = true → ∃ t, exec .recordWrite s = .next t ∧ t.recd = { r with stage := l, drops := min (r.drops + 1) 0xFFFFFFFF } ∧ SameExcept [.recd] s t)
      ∧ (s.noGranary = false → s.memOk → fits → ∃ t, exec .recordWrite s = .next t ∧ t.recd.stage = l ∧ t.recd.tail = (at_ + n) % recSize
          ∧ t.recd.used = r.used + r.need n ∧ t.recd.lastSeq = x.seq ∧ t.recd.head = r.head ∧ t.mem.granary.readBytes at_ n = x.bytes
          ∧ t.recd.lastAt = some (at_, n)
          ∧ (∀ a, (a < at_ ∨ at_ + n ≤ a) → (¬wraps ∨ a < r.tail) → t.mem.granary.read a = s.mem.granary.read a)
          ∧ SameExcept [.recd, .mem, .links, .seq] s t)
      ∧ (s.noGranary = false → r.policy = false → ¬reserve → r.full = true → ∃ t, exec .recordWrite s = .next t
          ∧ t.recd = { r with stage := l, note := none, drops := min (r.drops + 1) 0xFFFFFFFF } ∧ SameExcept [.recd] s t)
      ∧ (s.noGranary = false → r.policy = false → ¬reserve → r.full = false → r.free < r.need n + 1024 → ∃ t, exec .recordWrite s = .next t
          ∧ t.recd.full = true ∧ bit t.recd.flags 0 = true ∧ t.recd.firstDrop = x.seq ∧ t.recd.drops = min (r.drops + 1) 0xFFFFFFFF ∧ t.recd.stage = l
          ∧ t.mem = s.mem ∧ Raises s t .recd 0x8003 (leBytes 4 r.free))
      ∧ (s.noGranary = false → r.policy = true → r.free < r.need n →
          let u := (s.modRec (fun r => { r with stage := l, note := none })).advanceHead
          u.recd.free < u.recd.need n →
          (u.victim n (x.sev % 16) = none → ∃ t, exec .recordWrite s = .next t ∧ t.recd = { u.recd with drops := min (r.drops + 1) 0xFFFFFFFF } ∧ t.mem = s.mem)
          ∧ (∀ v room, s.memOk → u.victim n (x.sev % 16) = some (v, room) → ∃ t, exec .recordWrite s = .next t ∧ t.mem.granary.readBytes v.1 n = x.bytes
            ∧ t.recd.ovw = min (r.ovw + 1) 0xFFFFFFFF ∧ t.recd.lastSeq = x.seq ∧ bit t.recd.flags 2 = true ∧ t.recd.tail = r.tail ∧ t.recd.stage = l
            ∧ t.recd.note = some (v.1, n)))
      ∧ (s.noGranary = false → r.policy = false → reserve → r.free < r.need n → ∃ t, exec .recordWrite s = .next t
          ∧ t.recd = { r with stage := l, note := none, drops := min (r.drops + 1) 0xFFFFFFFF } ∧ SameExcept [.recd] s t)))
  ∧ (∀ s : State,
    let w := s.com .recd 0x044
    let refused (i : Instr) (code : Nat) : Prop := ∃ t, exec i s = .next t ∧ (t.pg .recd).errCode = code ∧ t.recd = s.recd
    (s.takes .recd 0x040 true →
      (s.noGranary = false → s.recd.clearing = false → 0x2000 ≤ fld w 16 16 → fld w 16 16 ≤ 0x2FFF → fld w 12 4 ≤ 13 → fld w 0 9 ≤ 496 →
        ∃ t, exec .recWriteCmd s = .next t ∧ Raises s t .recd 0x8002 (leBytes 2 (fld w 16 16) ++ [b8 (fld w 12 4), 1])
          ∧ (∃ x, t.recd.await = s.recd.await ++ [(evSource .recd, 0x8002, x)] ∧ x.type = fld w 16 16 ∧ x.payload.length = fld w 0 9)
          ∧ t.recd.stage = s.recd.stage ∧ SameExcept [.recd, .seq, .links] s t)
      ∧ (s.noGranary = true → refused .recWriteCmd 0x11)
      ∧ (s.noGranary = false → s.recd.clearing = true → 0x2000 ≤ fld w 16 16 → fld w 16 16 ≤ 0x2FFF → fld w 12 4 ≤ 13 → fld w 0 9 ≤ 496 →
          refused .recWriteCmd 0x41)
      ∧ (s.noGranary = false → fld w 16 16 ≠ 0x0050 →
          fld w 16 16 < 0x2000 ∨ 0x2FFF < fld w 16 16 ∨ 13 < fld w 12 4 ∨ 496 < fld w 0 9 → refused .recWriteCmd 0x40)
      ∧ (∀ i ∈ [Instr.recNonce, .recClear], (s.noGranary = true → refused i 0x11) ∧ (s.noGranary = false → s.recd.clearing = true → refused i 0x41))
      ∧ (s.noGranary = false → s.recd.clearing = false →
        (∃ t, exec .recNonce s = .next t ∧ t.recd.nonceValid = true ∧ t.recd.nonceSeq = s.recd.lastSeq ∧ t.recd.nonce.length = 32
          ∧ t.recd.floor = s.recd.floor ∧ SameExcept [.recd, .fresh] s t)
        ∧ (∃ t, exec .recClear s = .next t ∧ t.recd = { s.recd with clearing := true }
          ∧ t.sec = { s.sec with engine := s.sec.engine ++ [.clear] } ∧ SameExcept [.recd, .sec] s t)))
    ∧ (s.recd.clearing = false ∨ s.sec.engine.head? ≠ some .clear → exec .recClearDone s = .next s)
    ∧ (s.recd.clearing = true → s.sec.engine.head? = some .clear →
      let tok := tokenBytes s.recd.token
      let why := s.tokenReason tok [1] s.recd.nonceValid s.recd.nonce true (some s.recd.nonceSeq)
      ∃ t, exec .recClearDone s = .next t ∧ t.recd.clearing = false ∧ t.recd.nonceValid = false
        ∧ (s.sec.engine.tail = [] → t.sec = { s.sec with engine := [] })
        ∧ (s.noGranary = true → t.recd.floor = s.recd.floor ∧ (s.sec.engine.tail = [] → t.mem = s.mem) ∧ (t.pg .recd).errCode = 0x11)
        ∧ (s.noGranary = false → why = 0 → t.recd.floor = tokNat tok 0x038 8 + 1 ∧ (∀ x ∈ t.liveRecords, tokNat tok 0x038 8 < x.2.2.2.2)
            ∧ t.recd.clears = min (s.recd.clears + 1) 0xFFFF ∧ bit t.recd.flags 3 = true ∧ t.recd.tail = s.recd.tail)
        ∧ (s.noGranary = false → why ≠ 0 → t.recd.floor = s.recd.floor ∧ t.recd.head = s.recd.head
            ∧ (s.sec.engine.tail = [] → t.mem = s.mem) ∧ (t.pg .recd).errCode = 0x42
            ∧ t.recd.refusals = min (s.recd.refusals + 1) 0xFFFF ∧ Raises s t .recd 0x8005 [b8 why])))

/-- Frames of the partner are taken only if good and in count; the pair is formed by matching HELLOs; a standby mirrors the active
module (R474, R475, R478, R479, R484). An unpaired module ignores the link. A frame with a bad CRC, or with a wrong count
while the link is UP or MISMATCH, is discarded and counted. A HELLO with a common version, the other role and the same seal
and configuration hash forms the pair at the highest common version; any other makes the link MISMATCH and the pair unformed.
STATUS gives the partner's mode and mirror state. In a formed pair, a module that is not active takes MOTION, with its TB
offset, QUEUE, IMAGE fragments, and under v2 LOADS and, in STANDBY, ENV, and no more; an active module or an unformed pair
takes none. HELLO goes out on its timer until the pair is formed and trains a link that is down; STATUS goes out on its own. -/
def Obligations.PairFrames : Prop :=
  ∀ (s : State) (good : Bool) (cnt versions serial layout mode stamp qcnt cycle frag : Nat) (second actO ok : Bool) (sealW stale : Word)
    (hash payload : List Byte) (a : Fin 12) (q : QueueMsg) (p : Fin 8) (leaf : Fin 2) (words : List Word),
    let hello : Instr := .hello good cnt versions second serial sealW hash layout mode
    let status : Instr := .status good cnt mode actO ok stale cycle
    let motion : Instr := .motion good cnt stamp payload
    let queue : Instr := .queue good cnt a qcnt q
    let image : Instr := .image good cnt cycle frag payload
    let loads : Instr := .loads good cnt payload
    let env : Instr := .env good cnt p leaf words
    let checked : Prop := s.pair.link = .up ∨ s.pair.link = .mismatch
    let counted (i : Instr) (next : Nat) : Prop := ∃ t, exec i s = .next t ∧ SameExcept [.pair] s t
      ∧ t.pair = { s.pair with crcErr := min (s.pair.crcErr + 1) 0xFFFF, rxCount := next % 2 ^ 32 }
    (s.cfg.paired = false → exec .pairHelloTimer s = .next s ∧ exec .pairStatusTimer s = .next s)
    ∧ (∀ i ∈ [hello, status, motion, queue, image, loads, env],
        (s.cfg.paired = false → exec i s = .next s)
        ∧ (s.cfg.paired = true → good = false → counted i (s.pair.rxCount + 1))
        ∧ (s.cfg.paired = true → good = true → checked → cnt ≠ s.pair.rxCount → counted i (cnt + 1)))
    ∧ (∀ i ∈ [motion, queue, image, loads, env], s.cfg.paired = true → good = true → (checked → cnt = s.pair.rxCount) →
        (s.pair.formed = false ∨ s.pair.actO = true → ∃ t, exec i s = .next t ∧ SameExcept [.pair] s t
          ∧ t.pair = { s.pair with rxCount := (cnt + 1) % 2 ^ 32, goodAt := s.tb }))
    ∧ (s.cfg.paired = true → good = true → (checked → cnt = s.pair.rxCount) →
        (let matches_ : Prop := (bit (BitVec.ofNat 32 versions) 1 = true ∨ bit (BitVec.ofNat 32 versions) 0 = true) ∧ second ≠ s.cfg.second
            ∧ s.grd.word = some sealW ∧ hash = s.pairHash
        (matches_ → s.pair.formed = false → ∃ t, exec hello s = .next t ∧ t.pair.formed = true ∧ t.pair.link = .up
            ∧ t.pair.version = (if bit (BitVec.ofNat 32 versions) 1 then 2 else 1))
          ∧ (¬matches_ → ∃ t, exec hello s = .next t ∧ t.pair.formed = false ∧ t.pair.link = .mismatch ∧ t.mc = s.mc ∧ t.pair.actO = s.pair.actO))
        ∧ (∃ t, exec status s = .next t ∧ t.pair.partnerMode = mode % 256 ∧ t.pair.partnerMirror = ok ∧ t.pair.statusAt = s.tb
          ∧ t.pair.formed = s.pair.formed ∧ t.pair.goodAt = s.tb)
        ∧ (s.pair.formed = true → s.pair.actO = false →
          (∃ t, exec motion s = .next t ∧ t.pair.motionAt = some s.tb ∧ t.pairx.stale = false
            ∧ t.pair.offs.length = min (s.pair.offs.length + 1) 16
            ∧ (∀ b : Fin 12, t.pairx.ax[b].pos = sx 64 (leAt payload (32 * b.val) 8) ∧ t.pairx.ax[b].queue = s.pairx.ax[b].queue)
            ∧ (s.mc.mode ≠ .standby → SameExcept [.pair, .pairx] s t) ∧ SameExcept [.pair, .pairx, .ptl] s t)
          ∧ (∃ t, exec queue s = .next t ∧ t.pairx.ax[a].queue = q ∧ t.pairx.ax[a].qcnt = some (qcnt % 256)
            ∧ (∀ b : Fin 12, b ≠ a → t.pairx.ax[b] = s.pairx.ax[b]) ∧ SameExcept [.pair, .pairx] s t)
          ∧ (∃ t, exec image s = .next t ∧ (s.mc.mode ≠ .standby → SameExcept [.pair, .pairx] s t))
          ∧ (∃ t, exec loads s = .next t ∧ t.pairx.loads = (if s.pair.version < 2 then s.pairx.loads else wordsOf 24 payload)
            ∧ SameExcept [.pair, .pairx] s t)
          ∧ (∃ t, exec env s = .next t ∧ (s.pair.version < 2 ∨ s.mc.mode ≠ .standby → t.env = s.env) ∧ SameExcept [.pair, .env] s t)))
    ∧ (s.cfg.paired = true →
        (s.pair.formed = true → exec .pairHelloTimer s = .next s)
        ∧ (s.pair.formed = false → ∃ t, exec .pairHelloTimer s = .next t ∧ t.posted.length = s.posted.length + 1 ∧ SameExcept [.pair, .posted] s t
            ∧ t.pair.txCount = (s.pair.txCount + 1) % 2 ^ 32 ∧ t.pair.link = (if s.pair.link = .down then .training else s.pair.link))
        ∧ (∃ t, exec .pairStatusTimer s = .next t ∧ t.pair = { s.pair with txCount := (s.pair.txCount + 1) % 2 ^ 32 } ∧ SameExcept [.pair, .posted] s t
            ∧ ∃ v c, t.posted = s.posted ++ [.pairMsg s.pair.version s.pair.txCount (stampOf s.tb) (.status s.mc.mode.code s.pair.actO s.mirrorOk v c)]
              ∧ ∀ k, s.prgx.lastRun = some k → c = k % 2 ^ 32))

/-- Control of a pair changes hands only through the interlock lines; a guarded fall lets a standby take over; YIELD needs a
ready partner (R471, R473, R476, R477, R482, R485, R486, R487, R480, R481). A formed link without a good frame is DOWN, counted
and reported, and no mode or line changes; a stale mirror likewise. The rise of PAIR_ACT_I holds off every bridge and ends a
guard; with the module settled active it is a CONFLICT, where a FIRST module keeps its mode and line and a SECOND module goes to
SAFE_HOLD with PAIR_GIVE_UP; within the 50 µs of an assertion FIRST keeps its line, and is in conflict at their end if the
partner's line is high still, and SECOND drops it. The fall begins a standby's guard. 5 µs after the fall and the module's own
rise the bridges are released. The guard's end, with the line still low, makes a standby active with cause PAIR and TOOK_OVER,
in RUN, or DEGRADED with a die absent, warm with the mirror in order and no PRG_DIFF, else cold, with COLD set; the gap is an
open value, when warm and in time 20 µs to 500 µs. The 50 µs of an assertion lead from CONFIG to RUN or DEGRADED; the end of the
election's wait asserts the line where R117 holds and RUN is asked for. Where a write reaches CTL of the PAIR page: YIELD of an
active module in RUN or DEGRADED with its partner ready puts it in SAFE_HOLD with cause PAIR_GIVE_UP, its line low and
PAIR_GIVE_UP raised; in any other case it is refused with 0x40. In SAFE_HOLD after a give-up whose loads are held: with the
partner's line risen within 2 ms, LOAD_OVERLAP after it the loads are handed over and ALL_OFF is sent; otherwise the fail-safe
states apply at 2 ms. -/
def Obligations.PairControl : Prop :=
  (∀ (s : State),
    let up : Prop := s.pair.link = .up ∨ s.pair.link = .mismatch
    let off (t : State) : Prop := ∀ a : Fin 12, t.watch[a].pairCut = true
    (¬(s.cfg.paired = true ∧ up) → exec .pairLinkLoss s = .next s)
    ∧ (s.cfg.paired = true → up → ∃ t, exec .pairLinkLoss s = .next t ∧ t.pair.link = .down ∧ t.pair.formed = false
        ∧ t.pair.losses = min (s.pair.losses + 1) 0xFFFF ∧ bit t.pair.flags 2 = true ∧ t.pair.actO = s.pair.actO ∧ t.pair.actI = s.pair.actI
        ∧ s.pair.goodAt + 480000 ≤ t.tb ∧ SameExcept [.tb, .links, .seq, .pages, .hif, .pair, .posted] s t)
    ∧ (∀ t₀, s.pair.motionAt = some t₀ → s.mc.mode = .standby → s.pairx.stale = false → ∃ t, exec .mirrorStale s = .next t
        ∧ t.pairx = { s.pairx with stale := true } ∧ bit t.pair.flags 4 = true ∧ t.pair.actO = s.pair.actO ∧ t₀ + 20000 < t.tb
        ∧ SameExcept [.tb, .links, .seq, .pages, .hif, .pair, .pairx, .posted] s t)
    ∧ (s.pair.motionAt = none ∨ s.mc.mode ≠ .standby ∨ s.pairx.stale = true → exec .mirrorStale s = .next s)
    ∧ (s.pair.actI = true → exec .pairActIRise s = .next s)
    ∧ (s.pair.actI = false → s.pair.actO = true → s.cfg.paired = true →
        (s.pairx.assertAt = none → s.cfg.second = false → ∃ t, exec .pairActIRise s = .next t ∧ off t ∧ t.mc = s.mc ∧ t.pair.actO = true
          ∧ t.pair.actI = true ∧ bit t.pair.flags 5 = true ∧ Raises s t .pair 0x9005 [0])
        ∧ (s.pairx.assertAt.isSome = true → s.cfg.second = false → ∃ t, exec .pairActIRise s = .next t ∧ off t ∧ t.mc = s.mc ∧ t.pair.actO = true
          ∧ t.pair.actI = true ∧ SameExcept [.pair, .pairx, .watch, .coil] s t)
        ∧ (s.pairx.assertAt.isSome = true → s.cfg.second = true → ∃ t, exec .pairActIRise s = .next t ∧ off t ∧ t.pair.actO = false
          ∧ t.pairx.assertAt = none)
        ∧ (s.pairx.assertAt = none → s.cfg.second = true → ∃ t, exec .pairActIRise s = .next t ∧ t.mc.mode = .safeHold ∧ t.mc.cause = 0x19
          ∧ t.pair.actO = false))
    ∧ (s.pair.actI = false → s.pair.actO = false → s.cfg.paired = false → ∃ t, exec .pairActIRise s = .next t ∧ off t ∧ t.pair.actI = true
        ∧ t.mc.mode = s.mc.mode)
    ∧ (s.pair.actI = false → exec .pairActIFall s = .next s)
    ∧ (s.pair.actI = true → s.mc.mode ≠ .config → ∃ t, exec .pairActIFall s = .next t ∧ t.pair.actI = false ∧ t.pair.actO = s.pair.actO
        ∧ t.mc.mode = s.mc.mode ∧ t.pairx.guardAt = (if s.mc.mode = .standby then some s.tb else none))
    ∧ (s.pair.actI = true ∨ (∀ a : Fin 12, s.watch[a].pairCut = false) → exec .pairGateRestore s = .next s)
    ∧ (∀ a : Fin 12, s.pair.actI = false → s.watch[a].pairCut = true → ∃ t, exec .pairGateRestore s = .next t
        ∧ (∀ b : Fin 12, t.watch[b].pairCut = false) ∧ s.pair.actIAt + 800 ≤ t.tb ∧ (s.pair.actO = true → s.pair.actOAt + 800 ≤ t.tb)
        ∧ SameExcept [.tb, .coil, .watch] s t)
    ∧ (s.pairx.guardAt = none ∨ s.mc.mode ≠ .standby ∨ s.pair.actI = true → exec .takeoverGuard s = .next s)
    ∧ (∀ t₀, s.pairx.guardAt = some t₀ → s.mc.mode = .standby → s.pair.actI = false →
        let g := s.to (t₀ + 3200)
        let warm := g.mirrorOk && !s.pair.prgDiff
        ∃ t, exec .takeoverGuard s = .next t ∧ t.mc.mode = (if s.degradedDue then .degraded else .run) ∧ t.pair.actO = true
        ∧ t₀ + 3200 ≤ t.tb ∧ t.pair.takeovers = min (s.pair.takeovers + 1) 0xFFFF ∧ t.pairx.guardAt = none
        ∧ (warm = true → s.tb ≤ t₀ + 3200 → 200 ≤ t.pair.gap ∧ t.pair.gap ≤ 5000) ∧ bit t.pair.flags 0 = true ∧ (warm = false → bit t.pair.flags 6 = true)
        ∧ Raises s t .pair 0x9002 ([if warm then 1 else 2, 0] ++ leBytes 2 t.pair.gap))
    ∧ (∀ t₀, s.pairx.assertAt = some t₀ → s.mc.mode = .config → s.pair.actO = true → s.pair.actI = false ∨ s.cfg.second = false →
        ∃ t, exec .electAssertWait s = .next t ∧ (s.pair.actI = true → bit t.pair.flags 5 = true ∧ Raises s t .pair 0x9005 [0])
        ∧ t.mc.mode = (if s.degradedDue then .degraded else .run) ∧ t.pairx.assertAt = none ∧ t.pair.actO = true ∧ t₀ + 8000 ≤ t.tb)
    ∧ (s.pairx.assertAt = none ∨ s.mc.mode ≠ .config ∨ s.pair.actO = false → exec .electAssertWait s = .next s)
    ∧ (s.cfg.paired = false ∨ s.mc.mode ≠ .config ∨ s.pair.actI = true ∨ s.electWait = none ∨ s.pairx.electAt = none ∨ s.mc.busy = true →
        exec .electTimeout s = .next s)
    ∧ (∀ k t₀, s.cfg.paired = true → s.mc.mode = .config → s.pair.actI = false → s.mc.busy = false → s.electWait = some k →
        s.pairx.electAt = some t₀ → ∃ t, exec .electTimeout s = .next t ∧ t.pair.actI = false
          ∧ (s.mayLeave = false ∨ (s.cfg.autoRun = false ∧ s.mc.asked = false) → t.mc.mode = .config ∧ t.pair.actO = s.pair.actO)
          ∧ (s.mayLeave = true → s.cfg.autoRun = true ∨ s.mc.asked = true → t.mc.mode = .config ∧ t.pair.actO = true ∧ t.pairx.assertAt = some t.tb)))
  ∧ (∀ (s : State),
    (s.takes .pair 0x040 false →
      let may : Prop := s.cfg.paired = true ∧ s.pair.actO = true ∧ (s.mc.mode = .run ∨ s.mc.mode = .degraded) ∧ s.partnerReady = true
      (may → ∃ t, exec .yield s = .next t ∧ t.mc.mode = .safeHold ∧ t.mc.cause = 0x19 ∧ t.pair.actO = false
          ∧ ∃ b, Raises s t .pair 0x9003 b)
      ∧ (¬may → ∃ t, exec .yield s = .next t ∧ (t.pg .pair).errCode = 0x40 ∧ t.mc = s.mc ∧ t.pair = s.pair))
    ∧ (s.mc.mode ≠ .safeHold ∨ s.pairx.handed = true ∨ s.pairx.gaveUpAt = none →
        exec .loadOverlapExpiry s = .next s ∧ exec .giveupLoadTimeout s = .next s)
    ∧ (∀ t₀, s.mc.mode = .safeHold → s.pairx.handed = false → s.pairx.gaveUpAt = some t₀ →
        let taken : Prop := s.pair.actI = true ∧ s.pair.actIAt ≤ t₀ + 320000
        let sends (t : State) (m : Nat) : Prop := s.dieAbsent 5 = false → s.domOn 7 = true → ∃ body, t.lswg.air = s.lswg.air ++ [(m, body)]
        (taken → exec .giveupLoadTimeout s = .next s ∧ ∃ t, exec .loadOverlapExpiry s = .next t ∧ t.pairx = { s.pairx with handed := true }
          ∧ s.pair.actIAt + 160000 * s.cfg.overlap ≤ t.tb ∧ sends t 3 ∧ SameExcept [.tb, .lsw, .lswg, .pairx] s t)
        ∧ (¬taken → exec .loadOverlapExpiry s = .next s ∧ ∃ t, exec .giveupLoadTimeout s = .next t ∧ t.pairx = { s.pairx with gaveUpAt := none }
          ∧ t₀ + 320000 ≤ t.tb ∧ sends t 2 ∧ SameExcept [.tb, .lsw, .lswg, .pairx] s t)))

/-- SEC takes one command at a time, each in its states alone: nonces, loading a copy, attestation, counters, provisioning and
the debug lock (R493, R499, R500, R501, R504, R505, R506, R507). Where the write reaches SEC; NONCE and ATTEST also under the
lock. With a command in progress every other is refused with 0x40 and changes nothing. NONCE makes 32 bytes valid. VERIFY of a
closed LOADING copy starts, else 0x41, or 0x11 without Granary; its end makes the copy READY or INVALID. ACTIVATE marks a READY
copy for the next boot. ATTEST starts; once Guard has gathered the report with ATT_NONCE its event is raised, with Guard not
held absent, and that event's SEQ completes the report, which then is ready, with its flag. VERIFY and ATTEST join the
operations of the engine. ADVANCE in CONFIG, RUN or DEGRADED raises each counter to its active image's ROLLBACK, lowers none,
and makes a READY copy below INVALID. INSTALL in provisioning installs the staged modulus in the first EMPTY slot. LOCK_DEBUG
blows the lock once a slot is ACTIVE. DISCARD empties the copy. LOAD_CTL opens and closes the copy of TARGET 1 or 2; it is
refused with 0x08 while a load is in the way. -/
def Obligations.SecCommands : Prop :=
  ∀ (s : State) (on : Bool) (target : Fin 4),
    let x := s.sec
    let refused (i : Instr) (code : Nat) : Prop := ∃ t, exec i s = .next t ∧ (t.pg .sec).errCode = code ∧ t.sec = s.sec ∧ t.fuses = s.fuses
    let active : Prop := ∃ k : Fin 4, s.fuses.slots[k] = .active
    (s.takes .sec 0x040 true →
      (x.busy.isSome = true → refused .secNonce 0x40 ∧ refused .attest 0x40)
      ∧ (x.busy = none → (∃ t, exec .secNonce s = .next t ∧ t.sec.nonceValid = true ∧ t.sec.nonce.length = 32 ∧ SameExcept [.sec, .fresh] s t)
        ∧ ∃ t, exec .attest s = .next t ∧ SameExcept [.sec] s t
          ∧ t.sec = { x with busy := some 4, attReady := false, report := [], engine := x.engine ++ [.attest] }))
    ∧ (s.takes .sec 0x040 false →
      (x.busy.isSome = true → ∀ i ∈ [Instr.secVerify, .secActivate, .advance, .install, .lockDebug, .secDiscard], refused i 0x40)
      ∧ (x.busy = none →
        (s.noGranary = true → refused .secVerify 0x11)
        ∧ (s.noGranary = false → x.load = .loading → x.loadOpen = false → ∃ t, exec .secVerify s = .next t
          ∧ t.sec = { x with busy := some 2, load := .verifying, engine := x.engine ++ [.verify] } ∧ SameExcept [.sec] s t)
        ∧ (s.noGranary = false → x.load ≠ .loading ∨ x.loadOpen = true → refused .secVerify 0x41)
        ∧ (x.load = .ready → ∃ t, exec .secActivate s = .next t ∧ SameExcept [.sec] s t
          ∧ t.sec = (if x.copyKind = 1 then { x with fwPend := true } else { x with cfgPend := true }))
        ∧ (x.load ≠ .ready → refused .secActivate 0x41)
        ∧ (let may : Prop := s.mc.mode = .config ∨ s.mc.mode = .run ∨ s.mc.mode = .degraded
          (¬may → refused .advance 0x41)
          ∧ (may → ∃ t, exec .advance s = .next t ∧ t.fuses.slots = s.fuses.slots ∧ t.fuses.debugLock = s.fuses.debugLock
            ∧ t.fuses.rb[0] = max s.fuses.rb[0] x.fwRb ∧ t.fuses.rb[1] = max s.fuses.rb[1] (if s.boot.cfgOk then x.cfgRb else 0)
            ∧ t.fuses.rb[2] = max s.fuses.rb[2] (if s.prg.run = .notLoaded then 0 else s.prg.image.rollback)
            ∧ bit t.sec.flags 2 = true ∧ Raises s t .sec 0xA004 [b8 t.fuses.rb[0], b8 t.fuses.rb[1], b8 t.fuses.rb[2]]
            ∧ (x.load = .ready → x.copyRb < (if x.copyKind = 1 then t.fuses.rb[0] else t.fuses.rb[1]) → t.sec.load = .invalid ∧ t.sec.refReason = 6)
            ∧ (s.prg.siding = .ready → s.prg.sidImage.rollback < t.fuses.rb[2] → t.prg.siding = .invalid)))
        ∧ (s.fuses.debugLock = true ∨ active ∨ (∀ k : Fin 4, s.fuses.slots[k] ≠ .empty) → refused .install 0x41)
        ∧ (∀ k : Fin 4, s.fuses.debugLock = false → ¬active → s.fuses.slots[k] = .empty → (∀ j : Fin 4, j < k → s.fuses.slots[j] ≠ .empty) →
          ∃ t, exec .install s = .next t ∧ t.fuses.slots[k] = .active ∧ t.fuses.moduli[k] = s.keyStage
            ∧ (∀ j : Fin 4, j ≠ k → t.fuses.slots[j] = s.fuses.slots[j] ∧ t.fuses.moduli[j] = s.fuses.moduli[j]) ∧ t.fuses.rb = s.fuses.rb
            ∧ bit t.sec.flags 1 = true ∧ Raises s t .sec 0xA003 [1, b8 (k.val + 1), 0])
        ∧ (¬active → refused .lockDebug 0x41)
        ∧ (active → ∃ t, exec .lockDebug s = .next t ∧ t.fuses = { s.fuses with debugLock := true }
          ∧ (s.fuses.debugLock = true → t = s) ∧ (s.fuses.debugLock = false → Raises s t .sec 0xA006 [b8 t.debugSta, 0]))
        ∧ (∃ t, exec .secDiscard s = .next t ∧ t.sec.load = .empty ∧ t.sec.loadOpen = x.loadOpen ∧ SameExcept [.sec] s t
          ∧ (x.copyKind = 1 → t.sec.fwPend = false ∧ t.sec.cfgPend = x.cfgPend) ∧ (x.copyKind ≠ 1 → t.sec.cfgPend = false ∧ t.sec.fwPend = x.fwPend))))
    ∧ (s.takes .sec 0x044 false →
      let busy : Prop := s.prg.loadOpen = true ∨ s.prg.siding = .verifying ∨ x.load = .verifying
      (on = false → ∃ t, exec (.secLoadOpen on target) s = .next t ∧ SameExcept [.sec] s t
        ∧ t.sec = { x with loadOpen := false, target := if x.loadOpen then x.target else target.val })
      ∧ (on = true → s.noGranary = true → refused (.secLoadOpen on target) 0x11)
      ∧ (on = true → s.noGranary = false → busy → refused (.secLoadOpen on target) 0x08)
      ∧ (on = true → s.noGranary = false → ¬busy → x.loadOpen = true → 1 ≤ x.target → x.target ≤ 2 → exec (.secLoadOpen on target) s = .next s)
      ∧ (on = true → s.noGranary = false → ¬busy → x.loadOpen = false →
        (target.val = 0 ∨ target.val = 3 → refused (.secLoadOpen on target) 0x07)
        ∧ (target.val = 1 ∨ target.val = 2 → ∃ t, exec (.secLoadOpen on target) s = .next t ∧ t.sec.loadOpen = true ∧ t.sec.target = target.val
          ∧ t.sec.copyKind = target.val ∧ t.sec.load = .loading ∧ t.sec.loadLen = 0 ∧ SameExcept [.sec] s t)))
    ∧ (x.busy ≠ some 2 ∨ x.engine.head? ≠ some .verify → exec .secVerifyDone s = .next s)
    ∧ (∀ l, x.busy = some 2 → x.engine = .verify :: l → ∃ t, exec .secVerifyDone s = .next t ∧ t.sec.busy = none ∧ (EngineOp.token ∉ l → t.fuses = s.fuses)
        ∧ t.sec.fwCopy = x.fwCopy ∧ t.sec.cfgCopy = x.cfgCopy ∧ (l = [] → t.sec.engine = [])
        ∧ (let reason := if x.copyKind = 1 then s.fwReason (1 - x.fwCopy) else s.cfgReason (1 - x.cfgCopy) s.grd.word
          t.sec.load = (if reason = 0 then .ready else .invalid))
        ∧ (l = [] → x.copyKind ≠ 1 → s.cfgReason (1 - x.cfgCopy) s.grd.word ≠ 0 → t.sec.refKind = 3
          ∧ t.sec.refReason = s.cfgReason (1 - x.cfgCopy) s.grd.word ∧ bit t.sec.flags 0 = true))
    ∧ (x.busy ≠ some 4 ∨ x.engine.head? ≠ some .attest ∨ x.attBody ≠ [] → exec .attestDone s = .next s)
    ∧ (x.busy = some 4 → x.engine.head? = some .attest → x.attBody = [] → ∃ t, exec .attestDone s = .next t
        ∧ t.sec = { x with attBody := t.sec.attBody } ∧ t.sec.attBody.length = 512 ∧ (t.sec.attBody.drop 16).take 32 = s.attNonce ∧ t.fuses = s.fuses
        ∧ (s.dieAbsent 1 = false → Raises s t .sec 0xA005 (s.attNonce.take 8)))
    ∧ (∀ q, x.attBody.length = 512 → let t := s.attSeq q
        t.sec.busy = none ∧ t.sec.attReady = true ∧ t.sec.attBody = [] ∧ bit t.sec.flags 3 = true ∧ (t.sec.report.drop 48).take 8 = leBytes 8 q
          ∧ (t.sec.report.take 512).take 48 = x.attBody.take 48 ∧ (t.sec.report.take 512).drop 56 = x.attBody.drop 56)

/-- A token takes effect only unrefused, acts on its own target alone, and spends the nonce either way (R493, R501, R502, R505,
R506, R508). Where the write reaches SEC, also under its lock, and the token in SEC.TOKEN is of the row's command; for any other
token the row does nothing. With a command in progress it is refused with 0x40; with the engine at work it waits for its turn,
as a command in progress, and is executed when the operation before it ends. With the engine free, a token with a reason of
Table 19-4 is refused with 0x42, LAST_REFUSE and its flag, and no fuse changes. An INSTALL token makes its EMPTY target ACTIVE
with the staged modulus, a REVOKE token makes its ACTIVE target REVOKED, and a DEBUG_OPEN token, in CONFIG or SAFE_HOLD, opens
the debug access; each is reported with its signer. No other slot changes. A token is never accepted without a valid nonce that
it carries, nor from a signer whose slot is not ACTIVE. -/
def Obligations.SecTokens : Prop :=
  ∀ (s : State),
    let tok := tokenBytes s.sec.token
    let k : Fin 4 := Fin.ofNat 4 (tokNat tok 0x030 1 - 1)
    let signer := tokNat tok 0x007 1
    (∀ i c, (i, c) ∈ [(Instr.tokenInstall, 2), (.tokenRevoke, 3), (.tokenDebugOpen, 4)] →
      (s.tokenCmd ≠ c → exec i s = .next s)
      ∧ (s.tokenCmd = c → s.takes .sec 0x040 true →
        (s.sec.busy.isSome = true → ∃ t, exec i s = .next t ∧ (t.pg .sec).errCode = 0x40 ∧ t.sec = s.sec ∧ t.fuses = s.fuses)
        ∧ (s.sec.busy = none → s.sec.engine ≠ [] → ∃ t, exec i s = .next t ∧ SameExcept [.sec] s t
          ∧ t.sec = { s.sec with busy := some 5, engine := s.sec.engine ++ [.token] })
        ∧ (s.sec.busy = none → s.sec.engine = [] → s.secTokenReason tok ≠ 0 → ∃ t, exec i s = .next t ∧ (t.pg .sec).errCode = 0x42 ∧ t.fuses = s.fuses
          ∧ t.sec.nonceValid = false ∧ t.sec.debugOpened = s.sec.debugOpened ∧ bit t.sec.flags 0 = true ∧ t.sec.refKind = 0x80 + c
          ∧ t.sec.refReason = s.secTokenReason tok)))
    ∧ (s.recd.clearing = true → s.sec.engine = [.clear, .token] → ∃ t, exec .recClearDone s = .next t ∧ t.sec.busy = none ∧ t.sec.nonceValid = false
        ∧ t.sec.engine = [])
    ∧ (s.takes .sec 0x040 true → s.sec.busy = none → s.sec.engine = [] → s.secTokenReason tok = 0 →
      (s.tokenCmd = 2 → s.fuses.slots[k] = .empty ∧ ∃ t, exec .tokenInstall s = .next t ∧ t.sec.nonceValid = false ∧ t.fuses.slots[k] = .active
        ∧ t.fuses.moduli[k] = s.keyStage ∧ (∀ j : Fin 4, j ≠ k → t.fuses.slots[j] = s.fuses.slots[j] ∧ t.fuses.moduli[j] = s.fuses.moduli[j])
        ∧ bit t.sec.flags 1 = true ∧ Raises s t .sec 0xA003 [1, b8 (k.val + 1), b8 signer])
      ∧ (s.tokenCmd = 3 → s.fuses.slots[k] = .active ∧ k.val + 1 ≠ signer ∧ ∃ t, exec .tokenRevoke s = .next t ∧ t.sec.nonceValid = false
        ∧ t.fuses.slots[k] = .revoked ∧ (∀ j : Fin 4, j ≠ k → t.fuses.slots[j] = s.fuses.slots[j]) ∧ t.fuses.moduli = s.fuses.moduli
        ∧ bit t.sec.flags 1 = true ∧ Raises s t .sec 0xA003 [2, b8 (k.val + 1), b8 signer])
      ∧ (s.tokenCmd = 4 → (s.mc.mode = .config ∨ s.mc.mode = .safeHold) ∧ ∃ t, exec .tokenDebugOpen s = .next t ∧ t.sec.nonceValid = false
        ∧ t.sec.debugOpened = true ∧ t.fuses = s.fuses ∧ bit t.sec.flags 4 = true ∧ Raises s t .sec 0xA006 [b8 t.debugSta, b8 signer]))
    ∧ (s.secTokenReason tok = 0 → s.sec.nonceValid = true ∧ (tok.drop 0x010).take 32 = s.sec.nonce ∧ 1 ≤ signer ∧ signer ≤ 4
        ∧ s.slotState signer = .active)
end

