-- ==== Sys2Proof/Laws/Effect.lean ====
section
/-! SUPPORT. How frames compose: the rules by which the effect of an operation is read off those of its parts. -/

namespace Sys2Proof.Machine

theorem SameExcept.refl (l : List Part) (s : State) : SameExcept l s s := by
  intro p _; cases p <;> rfl

theorem Part.same_trans {s t u : State} {p : Part} (h : p.same s t) (k : p.same t u) : p.same s u := by
  cases p <;> exact Eq.trans k h

theorem SameExcept.trans {l : List Part} {s t u : State} (h : SameExcept l s t) (k : SameExcept l t u) : SameExcept l s u :=
  fun p hp => Part.same_trans (h p hp) (k p hp)

theorem Part.mem_of_within {l m : List Part} (h : Part.within l m = true) {p : Part} (hp : p ∈ l) : p ∈ m := by
  have := List.all_eq_true.mp h p hp
  exact List.contains_iff_mem.mp this

theorem Part.within_refl (l : List Part) : Part.within l l = true :=
  List.all_eq_true.mpr (fun _ hp => List.contains_iff_mem.mpr hp)

theorem Part.within_trans {k l m : List Part} (h : Part.within k l = true) (w : Part.within l m = true) : Part.within k m = true :=
  List.all_eq_true.mpr (fun _ hp => List.contains_iff_mem.mpr (Part.mem_of_within w (Part.mem_of_within h hp)))

theorem SameExcept.mono {l m : List Part} {s t : State} (h : SameExcept l s t) (w : Part.within l m = true) : SameExcept m s t :=
  fun p hp => h p (fun hl => hp (Part.mem_of_within w hl))

theorem Part.mem_all (p : Part) : p ∈ Part.all := by cases p <;> decide

/-- Nothing is claimed of a change that may touch every part. -/
theorem SameExcept.all (s t : State) : SameExcept Part.all s t := fun p hp => absurd p.mem_all hp

theorem Lasts.refl (s : State) : Lasts s s :=
  ⟨rfl, id, id, fun _ => Nat.le_refl _, fun _ => Nat.le_refl _, fun _ h => h, id⟩

theorem Lasts.trans {s t u : State} (h : Lasts s t) (k : Lasts t u) : Lasts s u :=
  ⟨k.pending.trans h.pending, fun m => k.mem (h.mem m), fun q => k.seqOk (h.seqOk q),
   fun q => Nat.le_trans (h.seqUp q) (k.seqUp (h.seqOk q)), fun i => Nat.le_trans (h.rb i) (k.rb i),
   fun i r => k.revoked i (h.revoked i r), fun d => k.debugLock (h.debugLock d)⟩

/-- A change that leaves the queue, the memories, the SEQ counter and the fuses takes nothing back. -/
theorem Lasts.of_same {s t : State} (hp : t.pending = s.pending) (hm : t.mem.granary = s.mem.granary ∧ t.mem.sram = s.mem.sram ∧ t.mem.guard = s.mem.guard)
    (hq : t.seq.next = s.seq.next ∧ t.seq.limit = s.seq.limit) (hf : t.fuses = s.fuses) : Lasts s t := by
  refine ⟨hp, ?_, ?_, ?_, ?_, ?_, ?_⟩
  · intro h; simpa [State.memOk, hm.1, hm.2.1, hm.2.2] using h
  · intro h; simpa [State.seqOk, hq.1, hq.2] using h
  · intro _; exact Nat.le_of_eq hq.1.symm
  · intro k; exact Nat.le_of_eq (by rw [hf])
  · intro k h; rw [hf]; exact h
  · intro h; rw [hf]; exact h

theorem Effect.refl {l : List Part} (s : State) : Effect l s s := ⟨SameExcept.refl l s, Lasts.refl s, Nat.le_refl _⟩

theorem Effect.trans {l : List Part} {s t u : State} (h : Effect l s t) (k : Effect l t u) : Effect l s u :=
  ⟨h.same.trans k.same, h.lasts.trans k.lasts, Nat.le_trans h.tb k.tb⟩

theorem Effect.mono {l m : List Part} {s t : State} (h : Effect l s t) (w : Part.within l m = true) : Effect m s t :=
  ⟨h.same.mono w, h.lasts, h.tb⟩

/-- The last operation of several, after the effect of the others. -/
theorem Effect.step {l m : List Part} {s x t : State} (k : Effect m x t) (w : Part.within m l = true) (h : Effect l s x) : Effect l s t :=
  h.trans (k.mono w)

theorem Effect.ite {l : List Part} {s a b : State} {c : Prop} [Decidable c] (h : Effect l s a) (k : Effect l s b) :
    Effect l s (if c then a else b) := by split <;> assumption

theorem Effect.cond {l : List Part} {s a b : State} {c : Bool} (h : Effect l s a) (k : Effect l s b) :
    Effect l s (bif c then a else b) := by cases c <;> assumption

theorem Effect.dite {l : List Part} {s : State} {c : Prop} [Decidable c] {a : c → State} {b : ¬c → State}
    (h : ∀ x, Effect l s (a x)) (k : ∀ x, Effect l s (b x)) : Effect l s (if x : c then a x else b x) := by
  split
  · exact h _
  · exact k _

theorem Effect.foldl {α : Type} {l : List Part} {f : State → α → State} (hf : ∀ t a, Effect l t (f t a)) (xs : List α) {s t : State}
    (h : Effect l s t) : Effect l s (xs.foldl f t) := by
  induction xs generalizing t with
  | nil => exact h
  | cons x xs ih => exact ih (h.trans (hf t x))

theorem Effect.forAll {α : Type} {l : List Part} {f : α → State → State} (hf : ∀ a t, Effect l t (f a t)) {xs : List α} {s t : State}
    (h : Effect l s t) : Effect l s (Sys2Proof.Machine.forAll xs f t) :=
  Effect.foldl (fun t a => hf a t) xs h

section
variable {α : Sort _} {P : α → Prop} {c : Prop} [Decidable c]

/-- What both branches of a decision have, the decision has. -/
theorem ite_intro {a b : α} : P a → P b → P (if c then a else b) := fun h k => iteInduction (fun _ => h) (fun _ => k)

theorem dite_intro {a : c → α} {b : ¬c → α} : (∀ x, P (a x)) → (∀ x, P (b x)) → P (if x : c then a x else b x) :=
  fun h k => if x : c then by rw [dif_pos x]; exact h x else by rw [dif_neg x]; exact k x

end

/-- An operation that answers a value beside the state. -/
abbrev EffectSnd {α : Type} (l : List Part) (s : State) (r : α × State) : Prop := Effect l s r.2

/-- An operation that may answer no state. -/
def EffectOpt (l : List Part) (s : State) (o : Option State) : Prop := ∀ t, o = some t → Effect l s t

/-- The effect of a command where it answers a next state. -/
def EffectOut (l : List Part) (s : State) (o : Host.Outcome State Fault Refusal) : Prop := ∀ t, o = .next t → Effect l s t

theorem EffectSnd.step {α : Type} {l m : List Part} {s x : State} {r : α × State} (k : EffectSnd m x r) (w : Part.within m l = true)
    (h : Effect l s x) : EffectSnd l s r := h.trans (k.mono w)

theorem EffectSnd.mk {α : Type} {l : List Part} {s t : State} {a : α} (h : Effect l s t) : EffectSnd l s (a, t) := h

theorem EffectSnd.of_eq {α : Type} {l : List Part} {s t : State} {a : α} {r : α × State} (e : r = (a, t)) (h : EffectSnd l s r) :
    Effect l s t := by rw [e] at h; exact h

theorem EffectOpt.step {l m : List Part} {s x : State} {o : Option State} (k : EffectOpt m x o) (w : Part.within m l = true)
    (h : Effect l s x) : EffectOpt l s o := fun t e => h.trans ((k t e).mono w)

theorem EffectOpt.of_eq {l : List Part} {s t : State} {o : Option State} (e : o = some t) (h : EffectOpt l s o) : Effect l s t := h t e

theorem EffectOpt.none {l : List Part} {s : State} : EffectOpt l s none := fun _ e => nomatch e

theorem EffectOpt.some {l : List Part} {s t : State} (h : Effect l s t) : EffectOpt l s (some t) := fun _ e => by cases e; exact h

theorem EffectOut.step {l m : List Part} {s x : State} {o : Host.Outcome State Fault Refusal} (k : EffectOut m x o)
    (w : Part.within m l = true) (h : Effect l s x) : EffectOut l s o := fun t e => h.trans ((k t e).mono w)

theorem EffectOut.next {l : List Part} {s t : State} (h : Effect l s t) : EffectOut l s (.next t) := fun _ e => by cases e; exact h

theorem EffectOut.mono {l m : List Part} {s : State} {o : Host.Outcome State Fault Refusal} (k : EffectOut m s o)
    (w : Part.within m l = true) : EffectOut l s o := fun t e => (k t e).mono w

/-- A change of fields that are no part of what lasts. -/
theorem Effect.put {l : List Part} {s x t : State} (h : Effect l s x) (hs : SameExcept l x t) (hp : t.pending = x.pending)
    (hm : t.mem.granary = x.mem.granary ∧ t.mem.sram = x.mem.sram ∧ t.mem.guard = x.mem.guard)
    (hq : t.seq.next = x.seq.next ∧ t.seq.limit = x.seq.limit) (hf : t.fuses = x.fuses) (ht : t.tb = x.tb) :
    Effect l s t :=
  h.trans ⟨hs, Lasts.of_same hp hm hq hf, Nat.le_of_eq ht.symm⟩

/-- A fold that carries a value beside the state. -/
theorem Effect.foldlSnd {α β : Type} {l : List Part} {f : β × State → α → β × State} (hf : ∀ b t a, Effect l t (f (b, t) a).2)
    {xs : List α} {s : State} {r : β × State} (h : Effect l s r.2) : Effect l s (xs.foldl f r).2 := by
  induction xs generalizing r with
  | nil => exact h
  | cons x xs ih => exact ih (h.trans (hf r.1 r.2 x))

theorem Effect.getD {l : List Part} {s d : State} {o : Option State} (ho : ∀ t, o = some t → Effect l s t) (h : Effect l s d) :
    Effect l s (o.getD d) := by
  cases o with
  | none => exact h
  | some t => exact ho t rfl

end Sys2Proof.Machine
end

