-- ==== Sys2Proof/Laws/Memory.lean ====
section
/-! SUPPORT. The two memories: a read after a write, and that every memory operation keeps the canonical form (R30, R31; log 5). -/

namespace Sys2Proof.Machine

theorem Memory.wfFrom_mono {lo hi : Nat} (h : lo ≤ hi) : ∀ {m : Memory}, Memory.wfFrom hi m = true → Memory.wfFrom lo m = true
  | [], _ => rfl
  | (k, v) :: l, w => by
    simp only [Memory.wfFrom, Bool.and_eq_true, decide_eq_true_eq] at w ⊢
    exact ⟨⟨Nat.le_trans h w.1.1, w.1.2⟩, w.2⟩

/-- The byte written reads back (R30). -/
theorem Memory.read_write_same (a : Nat) (b : Byte) : ∀ {lo : Nat} {m : Memory}, Memory.wfFrom lo m = true →
    Memory.read (Memory.write m a b) a = b
  | _, [], _ => by
    by_cases h : b = Memory.blank
    · simp [Memory.write, Memory.read, h]
    · simp [Memory.write, Memory.read, h]
  | lo, (k, v) :: l, w => by
    simp only [Memory.wfFrom, Bool.and_eq_true, decide_eq_true_eq] at w
    have absent : ∀ {lo : Nat} {m : Memory}, Memory.wfFrom lo m = true → a < lo → Memory.read m a = Memory.blank := by
      intro lo m
      induction m generalizing lo with
      | nil => intro _ _; rfl
      | cons e m ih =>
        intro w h
        obtain ⟨k, v⟩ := e
        simp only [Memory.wfFrom, Bool.and_eq_true, decide_eq_true_eq] at w
        have : k ≠ a := by omega
        simp only [Memory.read, this, if_false]
        exact ih w.2 (by omega)
    unfold Memory.write
    by_cases h1 : a < k
    · simp only [h1, if_true]
      by_cases h : b = Memory.blank
      · simp only [h, if_true]
        have : k ≠ a := by omega
        simp only [Memory.read, this, if_false]
        exact absent w.2 (by omega)
      · simp [h, Memory.read]
    · simp only [h1, if_false]
      by_cases h2 : a = k
      · simp only [h2, if_true]
        by_cases h : b = Memory.blank
        · simp only [h, if_true]
          exact absent (lo := k + 1) w.2 (by omega) |> (h2 ▸ ·)
        · simp [h, Memory.read]
      · have : k ≠ a := fun e => h2 e.symm
        simp only [h2, if_false, Memory.read, this]
        exact Memory.read_write_same a b w.2

/-- A write leaves every other byte alone (R30). -/
theorem Memory.read_write_other {a c : Nat} (b : Byte) (h : c ≠ a) : ∀ {m : Memory}, Memory.read (Memory.write m a b) c = Memory.read m c
  | [] => by
    have hac : ¬a = c := fun e => h e.symm
    by_cases hb : b = Memory.blank
    · simp [Memory.write, hb]
    · simp [Memory.write, hb, Memory.read, hac]
  | (k, v) :: l => by
    have hac : ¬a = c := fun e => h e.symm
    unfold Memory.write
    by_cases h1 : a < k
    · by_cases hb : b = Memory.blank <;> simp [h1, hb, Memory.read, hac]
    · by_cases h2 : a = k
      · have hkc : ¬k = c := fun e => hac (h2.trans e)
        by_cases hb : b = Memory.blank <;> simp [h2, hb, Memory.read, hkc]
      · simp only [h1, h2, if_false, Memory.read]
        by_cases hk : k = c
        · simp [hk]
        · simp only [hk, if_false]
          exact Memory.read_write_other b h

theorem Memory.wfFrom_write (a : Nat) (b : Byte) : ∀ {lo : Nat} {m : Memory}, lo ≤ a → Memory.wfFrom lo m = true →
    Memory.wfFrom lo (Memory.write m a b) = true
  | lo, [], h, _ => by
    by_cases hb : b = Memory.blank
    · simp [Memory.write, hb, Memory.wfFrom]
    · simp [Memory.write, hb, Memory.wfFrom, h]
  | lo, (k, v) :: l, h, w => by
    have w0 := w
    simp only [Memory.wfFrom, Bool.and_eq_true, decide_eq_true_eq] at w
    unfold Memory.write
    by_cases h1 : a < k
    · by_cases hb : b = Memory.blank
      · simpa [h1, hb] using w0
      · simp only [h1, if_true, hb, if_false, Memory.wfFrom, Bool.and_eq_true, decide_eq_true_eq]
        exact ⟨⟨h, hb⟩, ⟨by omega, w.1.2⟩, w.2⟩
    · by_cases h2 : a = k
      · by_cases hb : b = Memory.blank
        · rw [if_neg h1, if_pos h2, if_pos hb]
          exact Memory.wfFrom_mono (by omega) w.2
        · subst h2
          simp only [Nat.lt_irrefl, if_false, if_true, hb, Memory.wfFrom, Bool.and_eq_true, decide_eq_true_eq]
          exact ⟨⟨h, hb⟩, w.2⟩
      · simp only [h1, h2, if_false, Memory.wfFrom, Bool.and_eq_true, decide_eq_true_eq]
        exact ⟨w.1, Memory.wfFrom_write a b (by omega) w.2⟩

theorem Memory.wf_write {m : Memory} (h : m.wf = true) (a : Nat) (b : Byte) : (m.write a b).wf = true :=
  Memory.wfFrom_write a b (Nat.zero_le _) h

theorem Memory.wf_writeBytes {m : Memory} (h : m.wf = true) (a : Nat) (l : List Byte) : (m.writeBytes a l).wf = true := by
  induction l generalizing m a with
  | nil => exact h
  | cons b l ih => exact ih (Memory.wf_write h a b) (a + 1)

theorem Memory.wf_place {m : Memory} (h : m.wf = true) (l : List Host.Cell) : (m.place l).wf = true := by
  unfold Memory.place
  induction l generalizing m with
  | nil => exact h
  | cons c l ih => exact ih (Memory.wf_write h c.1 c.2)

theorem Memory.wfFrom_filter (p : Host.Cell → Bool) : ∀ {lo : Nat} {m : Memory}, Memory.wfFrom lo m = true →
    Memory.wfFrom lo (m.filter p) = true
  | _, [], _ => rfl
  | lo, (k, v) :: l, w => by
    simp only [Memory.wfFrom, Bool.and_eq_true, decide_eq_true_eq] at w
    rw [List.filter_cons]
    split
    · simp only [Memory.wfFrom, Bool.and_eq_true, decide_eq_true_eq]
      exact ⟨w.1, Memory.wfFrom_filter p w.2⟩
    · exact Memory.wfFrom_mono (by omega) (Memory.wfFrom_filter p w.2)

theorem Memory.wf_erase {m : Memory} (h : m.wf = true) (a n : Nat) : (m.erase a n).wf = true := Memory.wfFrom_filter _ h

/-- A byte written by a list of bytes, at the place of byte `i` of them. -/
theorem Memory.read_writeBytes_other {a c : Nat} {l : List Byte} (h : c < a ∨ a + l.length ≤ c) : ∀ {m : Memory},
    Memory.read (Memory.writeBytes m a l) c = Memory.read m c := by
  induction l generalizing a with
  | nil => intro m; rfl
  | cons b l ih =>
    intro m
    simp only [List.length_cons] at h
    rw [Memory.writeBytes, ih (by omega), Memory.read_write_other b (by omega)]

/-- The memories after a change that keeps their canonical form, the queue, the SEQ counter and the fuses. -/
theorem Effect.putMem {l : List Part} {s x t : State} (h : Effect l s x) (hs : SameExcept l x t) (hp : t.pending = x.pending)
    (hm : x.memOk → t.memOk) (hq : t.seq = x.seq) (hf : t.fuses = x.fuses) (ht : t.tb = x.tb) : Effect l s t := by
  refine h.trans ⟨hs, ⟨hp, hm, ?_, ?_, ?_, ?_, ?_⟩, Nat.le_of_eq ht.symm⟩
  · intro k; simpa [State.seqOk, hq] using k
  · intro _; exact Nat.le_of_eq (by rw [hq])
  · intro k; exact Nat.le_of_eq (by rw [hf])
  · intro k r; rw [hf]; exact r
  · intro d; rw [hf]; exact d

end Sys2Proof.Machine
end

