-- ==== Sys2Proof/Laws/OpsEffect.lean ====
section
/-! SUPPORT. What each operation of Machine/Ops.lean can do: the parts of the state it may change, and what it never takes
back (`Effect`, Safety.lean). -/

namespace Sys2Proof.Machine

theorem State.granTouch_effect {s : State} : Effect [.mem] s (State.granTouch s) := by
  unfold State.granTouch
  extract_lets src_1
  refine Effect.put (x := s) ?_ (fun p hp => by cases p <;> first | exact absurd (by decide) hp | rfl) rfl ⟨rfl, rfl, rfl⟩ ⟨rfl, rfl⟩ rfl rfl
  exact Effect.refl _

theorem State.to_effect {t : Nat} {s : State} : Effect [.tb] s (State.to t s) :=
  ⟨fun p hp => by cases p <;> first | exact absurd (by decide) hp | rfl, Lasts.of_same rfl ⟨rfl, rfl, rfl⟩ ⟨rfl, rfl⟩ rfl, Nat.le_max_left _ _⟩

theorem State.post_effect {p : Posted} {s : State} : Effect [.posted] s (State.post p s) := by
  unfold State.post
  refine Effect.put (x := s) ?_ (fun p hp => by cases p <;> first | exact absurd (by decide) hp | rfl) rfl ⟨rfl, rfl, rfl⟩ ⟨rfl, rfl⟩ rfl rfl
  exact Effect.refl _

theorem State.modLink_effect {d : Fin 8} {f : Link → Link} {s : State} : Effect [.links] s (State.modLink d f s) := by
  unfold State.modLink
  refine Effect.put (x := s) ?_ (fun p hp => by cases p <;> first | exact absurd (by decide) hp | rfl) rfl ⟨rfl, rfl, rfl⟩ ⟨rfl, rfl⟩ rfl rfl
  exact Effect.refl _

theorem State.sendPacket_effect {d : Fin 8} {toDie : Bool} {kind : Nat} {stamp : Option Nat} {s : State} : Effect [.links, .posted] s (State.sendPacket d toDie kind stamp s) := by
  unfold State.sendPacket
  extract_lets l_1
  clear_value l_1
  refine ite_intro ?_ ?_
  · exact Effect.refl _
  · refine Effect.step State.post_effect (by decide) ?_
    refine Effect.step State.modLink_effect (by decide) ?_
    exact Effect.refl _

theorem State.raiseAt_effect {stamp : Nat} {die : Fin 8} {source : Nat} {code : Nat} {payload : List Byte} {more : List Byte} {s : State} : Effect [.links, .seq] s (State.raiseAt stamp die source code payload more s) := by
  unfold State.raiseAt
  extract_lets l_1 e_2 src_3
  clear_value l_1
  clear_value e_2
  refine ite_intro ?_ ?_
  · exact Effect.refl _
  · refine Effect.put (x := s) ?_ (fun p hp => by cases p <;> first | exact absurd (by decide) hp | rfl) rfl ⟨rfl, rfl, rfl⟩ ⟨rfl, rfl⟩ rfl rfl
    exact Effect.refl _

theorem State.raise_effect {die : Fin 8} {source : Nat} {code : Nat} {payload : List Byte} {s : State} : Effect [.links, .seq] s (State.raise die source code payload s) := by
  unfold State.raise
  refine Effect.step State.raiseAt_effect (by decide) ?_
  exact Effect.refl _

theorem State.draw_effect {s : State} : EffectSnd [.fresh] s (State.draw s) := by
  unfold State.draw
  refine EffectSnd.mk ?_
  refine Effect.put (x := s) ?_ (fun p hp => by cases p <;> first | exact absurd (by decide) hp | rfl) rfl ⟨rfl, rfl, rfl⟩ ⟨rfl, rfl⟩ rfl rfl
  exact Effect.refl _

end Sys2Proof.Machine
end

