-- ==== Sys2Proof/Laws/RegsEffect.lean ====
section
/-! SUPPORT. What each operation of Machine/Regs.lean can do: the parts of the state it may change, and what it never takes
back (`Effect`, Safety.lean). -/

namespace Sys2Proof.Machine

theorem State.modPg_effect {p : PageId} {f : Page → Page} {s : State} : Effect [.pages] s (State.modPg p f s) := by
  unfold State.modPg
  refine Effect.put (x := s) ?_ (fun p hp => by cases p <;> first | exact absurd (by decide) hp | rfl) rfl ⟨rfl, rfl, rfl⟩ ⟨rfl, rfl⟩ rfl rfl
  exact Effect.refl _

theorem State.setCom_effect {p : PageId} {o : Nat} {w : Word} {s : State} : Effect [.pages] s (State.setCom p o w s) := by
  unfold State.setCom
  refine Effect.step State.modPg_effect (by decide) ?_
  exact Effect.refl _

theorem State.vector_effect {v : Nat} {s : State} : Effect [.hif, .posted] s (State.vector v s) := by
  unfold State.vector
  extract_lets src_1
  refine ite_intro ?_ ?_
  · exact Effect.refl _
  · refine ite_intro ?_ ?_
    · refine ite_intro ?_ ?_
      · refine Effect.put (x := s) ?_ (fun p hp => by cases p <;> first | exact absurd (by decide) hp | rfl) rfl ⟨rfl, rfl, rfl⟩ ⟨rfl, rfl⟩ rfl rfl
        exact Effect.refl _
      · refine Effect.step State.post_effect (by decide) ?_
        exact Effect.refl _
    · refine ite_intro ?_ ?_
      · refine Effect.step State.post_effect (by decide) ?_
        exact Effect.refl _
      · exact Effect.refl _

theorem State.irq_effect {p : PageId} {mask : Word} {s : State} : Effect [.pages, .hif, .posted] s (State.irq p mask s) := by
  unfold State.irq
  extract_lets old_1 t_2
  clear_value old_1
  have ht_2 : Effect [.pages, .hif, .posted] s t_2 := by
    unfold t_2
    refine Effect.step State.modPg_effect (by decide) ?_
    exact Effect.refl _
  clear_value t_2
  refine ite_intro ?_ ?_
  · assumption
  · refine Effect.step State.vector_effect (by decide) ?_
    assumption

theorem State.err_effect {p : PageId} {code : Nat} {detail : Nat} {off : Nat} {s : State} : Effect [.pages, .hif, .posted] s (State.err p code detail off s) := by
  unfold State.err
  refine Effect.step State.irq_effect (by decide) ?_
  refine Effect.step State.modPg_effect (by decide) ?_
  exact Effect.refl _

theorem State.ev_effect {p : PageId} {code : Nat} {payload : List Byte} {s : State} : Effect [.links, .seq] s (State.ev p code payload s) := by
  unfold State.ev
  refine Effect.step State.raise_effect (by decide) ?_
  exact Effect.refl _

theorem State.clkDemand_effect {p : PageId} {s : State} : Effect [.clk] s (State.clkDemand p s) := by
  unfold State.clkDemand
  extract_lets src_1
  refine ite_intro ?_ ?_
  · refine Effect.put (x := s) ?_ (fun p hp => by cases p <;> first | exact absurd (by decide) hp | rfl) rfl ⟨rfl, rfl, rfl⟩ ⟨rfl, rfl⟩ rfl rfl
    exact Effect.refl _
  · exact Effect.refl _

theorem State.unlessLocked_effect {p : PageId} {o : Nat} {exempt : Bool} {k : State → State} {s : State} {l : List Part} (hw : Part.within [.pages, .hif, .posted] l = true) (hk : ∀ y0, Effect l y0 (k y0)) : Effect l s (State.unlessLocked p o exempt k s) := by
  unfold State.unlessLocked
  refine ite_intro ?_ ?_
  · refine Effect.step State.err_effect (Part.within_trans (by decide) hw) ?_
    exact Effect.refl _
  · exact hk _

theorem State.enqueueWrite_effect {p : PageId} {o : Nat} {w : Word} {s : State} : Effect [.pages, .clk, .hif, .posted] s (State.enqueueWrite p o w s) := by
  unfold State.enqueueWrite
  extract_lets src_1 src_2
  have hsrc_1 : Effect [.pages, .clk, .hif, .posted] s src_1 := by
    unfold src_1
    refine Effect.step State.err_effect (by decide) ?_
    exact Effect.refl _
  clear_value src_1
  refine ite_intro ?_ ?_
  · refine Effect.put (x := src_1) ?_ (fun p hp => by cases p <;> first | exact absurd (by decide) hp | rfl) rfl ⟨rfl, rfl, rfl⟩ ⟨rfl, rfl⟩ rfl rfl
    assumption
  · refine Effect.step State.clkDemand_effect (by decide) ?_
    refine Effect.step State.modPg_effect (by decide) ?_
    exact Effect.refl _

theorem State.gated_effect {p : PageId} {o : Nat} {x2 : Word} {exempt : Bool} {k : State → State} {s : State} {l : List Part} (hw : Part.within [.pages, .clk, .hif, .posted] l = true) (hk : ∀ y0, Effect l y0 (k y0)) : Effect l s (State.gated p o x2 exempt k s) := by
  unfold State.gated
  refine ite_intro ?_ ?_
  · exact Effect.refl _
  · split
    · rename_i z1 z2 z3 z4 z5
      refine Effect.step State.err_effect (Part.within_trans (by decide) hw) ?_
      exact Effect.refl _
    · rename_i z6 z7
      refine ite_intro ?_ ?_
      · refine Effect.step State.enqueueWrite_effect (Part.within_trans (by decide) hw) ?_
        exact Effect.refl _
      · refine Effect.trans ?_ (State.unlessLocked_effect (l := l) (Part.within_trans (by decide) hw) ?_)
        · exact Effect.refl _
        · intro x8
          exact hk _

theorem State.flagIrq_effect {p : PageId} {old : Word} {mask : Word} {s : State} : EffectSnd [.pages, .hif, .posted] s (State.flagIrq p old mask s) := by
  unfold State.flagIrq
  extract_lets new_1 rise_2
  clear_value new_1
  clear_value rise_2
  refine EffectSnd.mk ?_
  refine ite_intro ?_ ?_
  · exact Effect.refl _
  · refine Effect.step State.irq_effect (by decide) ?_
    exact Effect.refl _

theorem State.eccEvent_effect {k : Fin 3} {code : Nat} {w : Nat} {tail : List Byte} {s : State} : Effect [.links, .seq] s (State.eccEvent k code w tail s) := by
  unfold State.eccEvent
  refine Effect.step State.raise_effect (by decide) ?_
  exact Effect.refl _

theorem State.eccUncorr_effect {k : Fin 3} {w : Nat} {s : State} : Effect [.links, .seq, .mem] s (State.eccUncorr k w s) := by
  unfold State.eccUncorr
  extract_lets e_1 src_2
  clear_value e_1
  refine Effect.step State.eccEvent_effect (by decide) ?_
  refine Effect.put (x := s) ?_ (fun p hp => by cases p <;> first | exact absurd (by decide) hp | rfl) rfl ⟨rfl, rfl, rfl⟩ ⟨rfl, rfl⟩ rfl rfl
  exact Effect.refl _

theorem State.eccCorr_effect {k : Fin 3} {w : Nat} {s : State} : Effect [.mem] s (State.eccCorr k w s) := by
  unfold State.eccCorr
  extract_lets same_1 first_2 l_3 src_4
  clear_value same_1
  clear_value first_2
  clear_value l_3
  refine Effect.put (x := s) ?_ (fun p hp => by cases p <;> first | exact absurd (by decide) hp | rfl) rfl ⟨rfl, rfl, rfl⟩ ⟨rfl, rfl⟩ rfl rfl
  exact Effect.refl _

theorem State.readWords_effect {k : Fin 3} {a : Nat} {n : Nat} {s : State} : Effect [.links, .seq, .mem] s (State.readWords k a n s) := by
  unfold State.readWords
  refine Effect.forAll (fun a_1 t_2 => ?_) ?_
  · refine Effect.step State.eccUncorr_effect (by decide) ?_
    exact Effect.refl _
  · refine Effect.forAll (fun a_3 t_4 => ?_) ?_
    · refine Effect.step State.eccCorr_effect (by decide) ?_
      exact Effect.refl _
    · exact Effect.refl _

theorem State.granUse_effect {a : Nat} {n : Nat} {s : State} : Effect [.links, .seq, .mem] s (State.granUse a n s) := by
  unfold State.granUse
  refine ite_intro ?_ ?_
  · exact Effect.refl _
  · refine Effect.step State.readWords_effect (by decide) ?_
    refine Effect.step State.granTouch_effect (by decide) ?_
    exact Effect.refl _

theorem State.mergeRead_effect {k : Fin 3} {a : Nat} {n : Nat} {s : State} : Effect [.links, .seq, .mem] s (State.mergeRead k a n s) := by
  unfold State.mergeRead
  refine Effect.forAll (fun a_1 t_2 => ?_) ?_
  · refine Effect.step State.readWords_effect (by decide) ?_
    exact Effect.refl _
  · exact Effect.refl _

theorem State.granWrite_effect {a : Nat} {l : List Byte} {s : State} : Effect [.links, .seq, .mem] s (State.granWrite a l s) := by
  unfold State.granWrite
  refine Effect.putMem (State.mergeRead_effect.mono (by decide)) (fun p hp => by cases p <;> first | exact absurd (by decide) hp | rfl) rfl ?_ rfl rfl rfl
  exact fun h => ⟨Memory.wf_writeBytes h.1 a l, h.2⟩

theorem State.sramWrite_effect {a : Nat} {l : List Byte} {s : State} : Effect [.links, .seq, .mem] s (State.sramWrite a l s) := by
  unfold State.sramWrite
  refine Effect.putMem (State.mergeRead_effect.mono (by decide)) (fun p hp => by cases p <;> first | exact absurd (by decide) hp | rfl) rfl ?_ rfl rfl rfl
  exact fun h => ⟨h.1, Memory.wf_writeBytes h.2.1 a l, h.2.2⟩

theorem State.guardWrite_effect {a : Nat} {l : List Byte} {s : State} : Effect [.links, .seq, .mem] s (State.guardWrite a l s) := by
  unfold State.guardWrite
  refine Effect.putMem (State.mergeRead_effect.mono (by decide)) (fun p hp => by cases p <;> first | exact absurd (by decide) hp | rfl) rfl ?_ rfl rfl rfl
  exact fun h => ⟨h.1, h.2.1, Memory.wf_writeBytes h.2.2 a l⟩

theorem State.statAdd_effect {off : Nat} {n : Nat} {k : Nat} {s : State} : Effect [.links, .seq, .mem] s (State.statAdd off n k s) := by
  unfold State.statAdd
  extract_lets t_1
  have ht_1 : Effect [.links, .seq, .mem] s t_1 := by
    unfold t_1
    refine Effect.step State.granUse_effect (by decide) ?_
    exact Effect.refl _
  clear_value t_1
  refine ite_intro ?_ ?_
  · exact Effect.refl _
  · refine ite_intro ?_ ?_
    · refine Effect.step State.granWrite_effect (by decide) ?_
      assumption
    · assumption

theorem State.statAxis_effect {a : Fin 12} {k : Nat} {n : Nat} {s : State} : Effect [.links, .seq, .mem] s (State.statAxis a k n s) := by
  unfold State.statAxis
  refine Effect.step State.statAdd_effect (by decide) ?_
  exact Effect.refl _

theorem State.statPtl_effect {p : Fin 8} {k : Nat} {s : State} : Effect [.links, .seq, .mem] s (State.statPtl p k s) := by
  unfold State.statPtl
  refine Effect.step State.statAdd_effect (by decide) ?_
  exact Effect.refl _

theorem State.statVeh_effect {k : Nat} {n : Nat} {s : State} : Effect [.links, .seq, .mem] s (State.statVeh k n s) := by
  unfold State.statVeh
  refine Effect.step State.statAdd_effect (by decide) ?_
  exact Effect.refl _

end Sys2Proof.Machine
end

