-- ==== Sys2Proof/Laws/FlagsEffect.lean ====
section
/-! SUPPORT. What each operation of Machine/Flags.lean can do: the parts of the state it may change, and what it never takes
back (`Effect`, Safety.lean). -/

namespace Sys2Proof.Machine

theorem State.axFlag0_effect {i : Fin 12} {k : Nat} {s : State} : Effect [.pages, .ax, .hif, .posted] s (State.axFlag0 i k s) := by
  unfold State.axFlag0
  extract_lets r_1 src_2
  have hr_1 : EffectSnd [.pages, .ax, .hif, .posted] s r_1 := by
    unfold r_1
    refine EffectSnd.step State.flagIrq_effect (by decide) ?_
    exact Effect.refl _
  clear_value r_1
  have hsrc_2 : Effect [.pages, .ax, .hif, .posted] s src_2 := by
    unfold src_2
    assumption
  clear_value src_2
  refine Effect.put (x := src_2) ?_ (fun p hp => by cases p <;> first | exact absurd (by decide) hp | rfl) rfl ⟨rfl, rfl, rfl⟩ ⟨rfl, rfl⟩ rfl rfl
  assumption

theorem State.drvFlag_effect {i : Fin 12} {k : Nat} {s : State} : Effect [.pages, .coil, .hif, .posted] s (State.drvFlag i k s) := by
  unfold State.drvFlag
  extract_lets r_1 src_2
  have hr_1 : EffectSnd [.pages, .coil, .hif, .posted] s r_1 := by
    unfold r_1
    refine EffectSnd.step State.flagIrq_effect (by decide) ?_
    exact Effect.refl _
  clear_value r_1
  have hsrc_2 : Effect [.pages, .coil, .hif, .posted] s src_2 := by
    unfold src_2
    assumption
  clear_value src_2
  refine Effect.put (x := src_2) ?_ (fun p hp => by cases p <;> first | exact absurd (by decide) hp | rfl) rfl ⟨rfl, rfl, rfl⟩ ⟨rfl, rfl⟩ rfl rfl
  assumption

theorem State.fbFlag_effect {i : Fin 14} {k : Nat} {s : State} : Effect [.pages, .fb, .hif, .posted] s (State.fbFlag i k s) := by
  unfold State.fbFlag
  extract_lets r_1 src_2
  have hr_1 : EffectSnd [.pages, .fb, .hif, .posted] s r_1 := by
    unfold r_1
    refine EffectSnd.step State.flagIrq_effect (by decide) ?_
    exact Effect.refl _
  clear_value r_1
  have hsrc_2 : Effect [.pages, .fb, .hif, .posted] s src_2 := by
    unfold src_2
    assumption
  clear_value src_2
  refine Effect.put (x := src_2) ?_ (fun p hp => by cases p <;> first | exact absurd (by decide) hp | rfl) rfl ⟨rfl, rfl, rfl⟩ ⟨rfl, rfl⟩ rfl rfl
  assumption

theorem State.gearFlag_effect {i : Fin 12} {k : Nat} {s : State} : Effect [.pages, .gear, .hif, .posted] s (State.gearFlag i k s) := by
  unfold State.gearFlag
  extract_lets r_1 src_2
  have hr_1 : EffectSnd [.pages, .gear, .hif, .posted] s r_1 := by
    unfold r_1
    refine EffectSnd.step State.flagIrq_effect (by decide) ?_
    exact Effect.refl _
  clear_value r_1
  have hsrc_2 : Effect [.pages, .gear, .hif, .posted] s src_2 := by
    unfold src_2
    assumption
  clear_value src_2
  refine Effect.put (x := src_2) ?_ (fun p hp => by cases p <;> first | exact absurd (by decide) hp | rfl) rfl ⟨rfl, rfl, rfl⟩ ⟨rfl, rfl⟩ rfl rfl
  assumption

theorem State.camFlag_effect {i : Fin 4} {k : Nat} {s : State} : Effect [.pages, .cam, .hif, .posted] s (State.camFlag i k s) := by
  unfold State.camFlag
  extract_lets r_1 src_2
  have hr_1 : EffectSnd [.pages, .cam, .hif, .posted] s r_1 := by
    unfold r_1
    refine EffectSnd.step State.flagIrq_effect (by decide) ?_
    exact Effect.refl _
  clear_value r_1
  have hsrc_2 : Effect [.pages, .cam, .hif, .posted] s src_2 := by
    unfold src_2
    assumption
  clear_value src_2
  refine Effect.put (x := src_2) ?_ (fun p hp => by cases p <;> first | exact absurd (by decide) hp | rfl) rfl ⟨rfl, rfl, rfl⟩ ⟨rfl, rfl⟩ rfl rfl
  assumption

theorem State.ptlFlag_effect {i : Fin 8} {k : Nat} {s : State} : Effect [.pages, .ptl, .hif, .posted] s (State.ptlFlag i k s) := by
  unfold State.ptlFlag
  extract_lets r_1 src_2
  have hr_1 : EffectSnd [.pages, .ptl, .hif, .posted] s r_1 := by
    unfold r_1
    refine EffectSnd.step State.flagIrq_effect (by decide) ?_
    exact Effect.refl _
  clear_value r_1
  have hsrc_2 : Effect [.pages, .ptl, .hif, .posted] s src_2 := by
    unfold src_2
    assumption
  clear_value src_2
  refine Effect.put (x := src_2) ?_ (fun p hp => by cases p <;> first | exact absurd (by decide) hp | rfl) rfl ⟨rfl, rfl, rfl⟩ ⟨rfl, rfl⟩ rfl rfl
  assumption

theorem State.sideFlag_effect {i : Fin 2} {k : Nat} {s : State} : Effect [.pages, .side, .hif, .posted] s (State.sideFlag i k s) := by
  unfold State.sideFlag
  extract_lets r_1 src_2
  have hr_1 : EffectSnd [.pages, .side, .hif, .posted] s r_1 := by
    unfold r_1
    refine EffectSnd.step State.flagIrq_effect (by decide) ?_
    exact Effect.refl _
  clear_value r_1
  have hsrc_2 : Effect [.pages, .side, .hif, .posted] s src_2 := by
    unfold src_2
    assumption
  clear_value src_2
  refine Effect.put (x := src_2) ?_ (fun p hp => by cases p <;> first | exact absurd (by decide) hp | rfl) rfl ⟨rfl, rfl, rfl⟩ ⟨rfl, rfl⟩ rfl rfl
  assumption

theorem State.lswFlag_effect {i : Fin 24} {k : Nat} {s : State} : Effect [.pages, .lsw, .hif, .posted] s (State.lswFlag i k s) := by
  unfold State.lswFlag
  extract_lets r_1 src_2
  have hr_1 : EffectSnd [.pages, .lsw, .hif, .posted] s r_1 := by
    unfold r_1
    refine EffectSnd.step State.flagIrq_effect (by decide) ?_
    exact Effect.refl _
  clear_value r_1
  have hsrc_2 : Effect [.pages, .lsw, .hif, .posted] s src_2 := by
    unfold src_2
    assumption
  clear_value src_2
  refine Effect.put (x := src_2) ?_ (fun p hp => by cases p <;> first | exact absurd (by decide) hp | rfl) rfl ⟨rfl, rfl, rfl⟩ ⟨rfl, rfl⟩ rfl rfl
  assumption

theorem State.canFlag_effect {i : Fin 4} {k : Nat} {s : State} : Effect [.pages, .can, .hif, .posted] s (State.canFlag i k s) := by
  unfold State.canFlag
  extract_lets r_1 src_2
  have hr_1 : EffectSnd [.pages, .can, .hif, .posted] s r_1 := by
    unfold r_1
    refine EffectSnd.step State.flagIrq_effect (by decide) ?_
    exact Effect.refl _
  clear_value r_1
  have hsrc_2 : Effect [.pages, .can, .hif, .posted] s src_2 := by
    unfold src_2
    assumption
  clear_value src_2
  refine Effect.put (x := src_2) ?_ (fun p hp => by cases p <;> first | exact absurd (by decide) hp | rfl) rfl ⟨rfl, rfl, rfl⟩ ⟨rfl, rfl⟩ rfl rfl
  assumption

theorem State.stnFlag_effect {i : Fin 16} {k : Nat} {s : State} : Effect [.pages, .stn, .hif, .posted] s (State.stnFlag i k s) := by
  unfold State.stnFlag
  extract_lets r_1 src_2
  have hr_1 : EffectSnd [.pages, .stn, .hif, .posted] s r_1 := by
    unfold r_1
    refine EffectSnd.step State.flagIrq_effect (by decide) ?_
    exact Effect.refl _
  clear_value r_1
  have hsrc_2 : Effect [.pages, .stn, .hif, .posted] s src_2 := by
    unfold src_2
    assumption
  clear_value src_2
  refine Effect.put (x := src_2) ?_ (fun p hp => by cases p <;> first | exact absurd (by decide) hp | rfl) rfl ⟨rfl, rfl, rfl⟩ ⟨rfl, rfl⟩ rfl rfl
  assumption

theorem State.evqFlag_effect {i : Fin 8} {k : Nat} {s : State} : Effect [.pages, .evq, .hif, .posted] s (State.evqFlag i k s) := by
  unfold State.evqFlag
  extract_lets r_1 src_2
  have hr_1 : EffectSnd [.pages, .evq, .hif, .posted] s r_1 := by
    unfold r_1
    refine EffectSnd.step State.flagIrq_effect (by decide) ?_
    exact Effect.refl _
  clear_value r_1
  have hsrc_2 : Effect [.pages, .evq, .hif, .posted] s src_2 := by
    unfold src_2
    assumption
  clear_value src_2
  refine Effect.put (x := src_2) ?_ (fun p hp => by cases p <;> first | exact absurd (by decide) hp | rfl) rfl ⟨rfl, rfl, rfl⟩ ⟨rfl, rfl⟩ rfl rfl
  assumption

theorem State.lswgFlag_effect {k : Nat} {s : State} : Effect [.pages, .lswg, .hif, .posted] s (State.lswgFlag k s) := by
  unfold State.lswgFlag
  extract_lets r_1 src_2 src_3
  have hr_1 : EffectSnd [.pages, .lswg, .hif, .posted] s r_1 := by
    unfold r_1
    refine EffectSnd.step State.flagIrq_effect (by decide) ?_
    exact Effect.refl _
  clear_value r_1
  have hsrc_2 : Effect [.pages, .lswg, .hif, .posted] s src_2 := by
    unfold src_2
    assumption
  clear_value src_2
  refine Effect.put (x := src_2) ?_ (fun p hp => by cases p <;> first | exact absurd (by decide) hp | rfl) rfl ⟨rfl, rfl, rfl⟩ ⟨rfl, rfl⟩ rfl rfl
  assumption

theorem State.prgFlag_effect {k : Nat} {s : State} : Effect [.pages, .prg, .hif, .posted] s (State.prgFlag k s) := by
  unfold State.prgFlag
  extract_lets r_1 src_2 src_3
  have hr_1 : EffectSnd [.pages, .prg, .hif, .posted] s r_1 := by
    unfold r_1
    refine EffectSnd.step State.flagIrq_effect (by decide) ?_
    exact Effect.refl _
  clear_value r_1
  have hsrc_2 : Effect [.pages, .prg, .hif, .posted] s src_2 := by
    unfold src_2
    assumption
  clear_value src_2
  refine Effect.put (x := src_2) ?_ (fun p hp => by cases p <;> first | exact absurd (by decide) hp | rfl) rfl ⟨rfl, rfl, rfl⟩ ⟨rfl, rfl⟩ rfl rfl
  assumption

theorem State.recFlag_effect {k : Nat} {s : State} : Effect [.pages, .hif, .recd, .posted] s (State.recFlag k s) := by
  unfold State.recFlag
  extract_lets r_1 src_2 src_3
  have hr_1 : EffectSnd [.pages, .hif, .recd, .posted] s r_1 := by
    unfold r_1
    refine EffectSnd.step State.flagIrq_effect (by decide) ?_
    exact Effect.refl _
  clear_value r_1
  have hsrc_2 : Effect [.pages, .hif, .recd, .posted] s src_2 := by
    unfold src_2
    assumption
  clear_value src_2
  refine Effect.put (x := src_2) ?_ (fun p hp => by cases p <;> first | exact absurd (by decide) hp | rfl) rfl ⟨rfl, rfl, rfl⟩ ⟨rfl, rfl⟩ rfl rfl
  assumption

theorem State.pairFlag_effect {k : Nat} {s : State} : Effect [.pages, .hif, .pair, .posted] s (State.pairFlag k s) := by
  unfold State.pairFlag
  extract_lets r_1 src_2 src_3
  have hr_1 : EffectSnd [.pages, .hif, .pair, .posted] s r_1 := by
    unfold r_1
    refine EffectSnd.step State.flagIrq_effect (by decide) ?_
    exact Effect.refl _
  clear_value r_1
  have hsrc_2 : Effect [.pages, .hif, .pair, .posted] s src_2 := by
    unfold src_2
    assumption
  clear_value src_2
  refine Effect.put (x := src_2) ?_ (fun p hp => by cases p <;> first | exact absurd (by decide) hp | rfl) rfl ⟨rfl, rfl, rfl⟩ ⟨rfl, rfl⟩ rfl rfl
  assumption

theorem State.secFlag_effect {k : Nat} {s : State} : Effect [.pages, .hif, .sec, .posted] s (State.secFlag k s) := by
  unfold State.secFlag
  extract_lets r_1 src_2 src_3
  have hr_1 : EffectSnd [.pages, .hif, .sec, .posted] s r_1 := by
    unfold r_1
    refine EffectSnd.step State.flagIrq_effect (by decide) ?_
    exact Effect.refl _
  clear_value r_1
  have hsrc_2 : Effect [.pages, .hif, .sec, .posted] s src_2 := by
    unfold src_2
    assumption
  clear_value src_2
  refine Effect.put (x := src_2) ?_ (fun p hp => by cases p <;> first | exact absurd (by decide) hp | rfl) rfl ⟨rfl, rfl, rfl⟩ ⟨rfl, rfl⟩ rfl rfl
  assumption

end Sys2Proof.Machine
end

