-- ==== Sys2Proof/Laws/AxisEffect.lean ====
section
/-! SUPPORT. What each operation of Machine/Axis.lean can do: the parts of the state it may change, and what it never takes
back (`Effect`, Safety.lean). -/

namespace Sys2Proof.Machine

theorem State.modAx_effect {a : Fin 12} {f : Axis → Axis} {s : State} : Effect [.ax] s (State.modAx a f s) := by
  unfold State.modAx
  refine Effect.put (x := s) ?_ (fun p hp => by cases p <;> first | exact absurd (by decide) hp | rfl) rfl ⟨rfl, rfl, rfl⟩ ⟨rfl, rfl⟩ rfl rfl
  exact Effect.refl _

theorem State.modDrv_effect {a : Fin 12} {f : Drive → Drive} {s : State} : Effect [.drv] s (State.modDrv a f s) := by
  unfold State.modDrv
  refine Effect.put (x := s) ?_ (fun p hp => by cases p <;> first | exact absurd (by decide) hp | rfl) rfl ⟨rfl, rfl, rfl⟩ ⟨rfl, rfl⟩ rfl rfl
  exact Effect.refl _

theorem State.modCoil_effect {a : Fin 12} {f : Coils → Coils} {s : State} : Effect [.coil] s (State.modCoil a f s) := by
  unfold State.modCoil
  refine Effect.put (x := s) ?_ (fun p hp => by cases p <;> first | exact absurd (by decide) hp | rfl) rfl ⟨rfl, rfl, rfl⟩ ⟨rfl, rfl⟩ rfl rfl
  exact Effect.refl _

theorem State.modWatch_effect {a : Fin 12} {f : Watch → Watch} {s : State} : Effect [.watch] s (State.modWatch a f s) := by
  unfold State.modWatch
  refine Effect.put (x := s) ?_ (fun p hp => by cases p <;> first | exact absurd (by decide) hp | rfl) rfl ⟨rfl, rfl, rfl⟩ ⟨rfl, rfl⟩ rfl rfl
  exact Effect.refl _

theorem State.unlearn_effect {a : Fin 12} {s : State} : Effect [.ptlRun] s (State.unlearn a s) := by
  unfold State.unlearn
  split
  · rename_i z_1 z_2 z_3 z_4
    refine Effect.put (x := s) ?_ (fun p hp => by cases p <;> first | exact absurd (by decide) hp | rfl) rfl ⟨rfl, rfl, rfl⟩ ⟨rfl, rfl⟩ rfl rfl
    exact Effect.refl _
  · rename_i z_5 z_6
    exact Effect.refl _

theorem State.axFlag_effect {a : Fin 12} {k : Nat} {s : State} : Effect [.links, .seq, .pages, .ax, .ptlRun, .hif, .posted] s (State.axFlag a k s) := by
  unfold State.axFlag
  extract_lets x_1
  clear_value x_1
  refine Effect.step State.ev_effect (by decide) ?_
  refine Effect.step State.axFlag0_effect (by decide) ?_
  refine ite_intro ?_ ?_
  · refine Effect.step State.unlearn_effect (by decide) ?_
    exact Effect.refl _
  · exact Effect.refl _

theorem State.refill_effect {a : Fin 12} {s : State} : Effect [.ax] s (State.refill a s) := by
  unfold State.refill
  extract_lets x_1 f_2 last_3
  clear_value x_1
  clear_value f_2
  clear_value last_3
  refine ite_intro ?_ ?_
  · exact Effect.refl _
  · refine ite_intro ?_ ?_
    · refine Effect.step State.modAx_effect (by decide) ?_
      exact Effect.refl _
    · refine Effect.step State.modAx_effect (by decide) ?_
      exact Effect.refl _

theorem State.axEmpty_effect {a : Fin 12} {s : State} : Effect [.ax, .drv, .gear] s (State.axEmpty a s) := by
  unfold State.axEmpty
  extract_lets pos_1 t_2
  clear_value pos_1
  have ht_2 : Effect [.ax, .drv, .gear] s t_2 := by
    unfold t_2
    refine Effect.step State.modDrv_effect (by decide) ?_
    refine Effect.step State.modAx_effect (by decide) ?_
    exact Effect.refl _
  clear_value t_2
  refine Effect.put (x := t_2) ?_ (fun p hp => by cases p <;> first | exact absurd (by decide) hp | rfl) rfl ⟨rfl, rfl, rfl⟩ ⟨rfl, rfl⟩ rfl rfl
  assumption

theorem State.unwait_effect {a : Fin 12} {s : State} : Effect [.ax, .gear] s (State.unwait a s) := by
  unfold State.unwait
  extract_lets t_1
  have ht_1 : Effect [.ax, .gear] s t_1 := by
    unfold t_1
    refine Effect.step State.modAx_effect (by decide) ?_
    exact Effect.refl _
  clear_value t_1
  refine ite_intro ?_ ?_
  · exact Effect.refl _
  · refine Effect.put (x := t_1) ?_ (fun p hp => by cases p <;> first | exact absurd (by decide) hp | rfl) rfl ⟨rfl, rfl, rfl⟩ ⟨rfl, rfl⟩ rfl rfl
    assumption

theorem State.restCoil_effect {a : Fin 12} {s : State} : Effect [.coil, .watch] s (State.restCoil a s) := by
  unfold State.restCoil
  refine Effect.step State.modWatch_effect (by decide) ?_
  refine Effect.step State.modCoil_effect (by decide) ?_
  exact Effect.refl _

theorem State.standstill_effect {a : Fin 12} {s : State} : Effect [.drv, .coil, .watch] s (State.standstill a s) := by
  unfold State.standstill
  extract_lets pos_1 sp_2
  clear_value pos_1
  clear_value sp_2
  refine Effect.step State.restCoil_effect (by decide) ?_
  refine Effect.step State.modWatch_effect (by decide) ?_
  refine Effect.step State.modDrv_effect (by decide) ?_
  exact Effect.refl _

theorem State.endFollow_effect {a : Fin 12} {cause : FollowEnd} {s : State} : Effect [.links, .seq, .pages, .ax, .gear, .cam, .hif, .posted] s (State.endFollow a cause s) := by
  unfold State.endFollow
  split
  · rename_i z_1 z_2
    exact Effect.refl _
  · rename_i z_3 z_4 z_5
    extract_lets u_6 t_7
    have hu_6 : Effect [.links, .seq, .pages, .ax, .gear, .cam, .hif, .posted] s u_6 := by
      unfold u_6
      refine Effect.put (x := s) ?_ (fun p hp => by cases p <;> first | exact absurd (by decide) hp | rfl) rfl ⟨rfl, rfl, rfl⟩ ⟨rfl, rfl⟩ rfl rfl
      exact Effect.refl _
    clear_value u_6
    have ht_7 : Effect [.links, .seq, .pages, .ax, .gear, .cam, .hif, .posted] s t_7 := by
      unfold t_7
      refine dite_intro (fun w_8 => ?_) (fun w_8 => ?_)
      · extract_lets u_9
        have hu_9 : Effect [.links, .seq, .pages, .ax, .gear, .cam, .hif, .posted] s u_9 := by
          unfold u_9
          refine Effect.put (x := s) ?_ (fun p hp => by cases p <;> first | exact absurd (by decide) hp | rfl) rfl ⟨rfl, rfl, rfl⟩ ⟨rfl, rfl⟩ rfl rfl
          exact Effect.refl _
        clear_value u_9
        split
        · rename_i z_10 z_11 z_12
          refine Effect.step State.gearFlag_effect (by decide) ?_
          assumption
        · rename_i z_13 z_14
          assumption
      · split
        · rename_i z_15 z_16 z_17
          refine Effect.step State.camFlag_effect (by decide) ?_
          assumption
        · rename_i z_18 z_19
          assumption
    clear_value t_7
    refine Effect.step State.ev_effect (by decide) ?_
    refine Effect.step State.modAx_effect (by decide) ?_
    assumption

theorem State.passStop_effect {a : Fin 12} {m : Nat} {s : State} : Effect [.ax] s (State.passStop a m s) := by
  unfold State.passStop
  extract_lets c_1
  clear_value c_1
  refine ite_intro ?_ ?_
  · refine Effect.forAll (fun a_2 t_3 => ?_) ?_
    · refine Effect.step State.modAx_effect (by decide) ?_
      exact Effect.refl _
    · exact Effect.refl _
  · exact Effect.refl _

theorem State.halt_effect {a : Fin 12} {cause : HaltCause} {s : State} : Effect [.links, .seq, .mem, .pages, .ax, .drv, .coil, .watch, .gear, .cam, .ptlRun, .hif, .posted] s (State.halt a cause s) := by
  unfold State.halt
  extract_lets x_1 follow_2 n_3 s1_4 s2_5 pos_6 s3_7 s4_8
  clear_value x_1
  clear_value follow_2
  clear_value n_3
  have hs1_4 : Effect [.links, .seq, .mem, .pages, .ax, .drv, .coil, .watch, .gear, .cam, .ptlRun, .hif, .posted] s s1_4 := by
    unfold s1_4
    refine ite_intro ?_ ?_
    · refine Effect.step State.passStop_effect (by decide) ?_
      exact Effect.refl _
    · exact Effect.refl _
  clear_value s1_4
  have hs2_5 : Effect [.links, .seq, .mem, .pages, .ax, .drv, .coil, .watch, .gear, .cam, .ptlRun, .hif, .posted] s s2_5 := by
    unfold s2_5
    refine Effect.step State.standstill_effect (by decide) ?_
    refine Effect.step State.modAx_effect (by decide) ?_
    refine Effect.step State.endFollow_effect (by decide) ?_
    assumption
  clear_value s2_5
  clear_value pos_6
  have hs3_7 : Effect [.links, .seq, .mem, .pages, .ax, .drv, .coil, .watch, .gear, .cam, .ptlRun, .hif, .posted] s s3_7 := by
    unfold s3_7
    refine Effect.step State.modAx_effect (by decide) ?_
    assumption
  clear_value s3_7
  have hs4_8 : Effect [.links, .seq, .mem, .pages, .ax, .drv, .coil, .watch, .gear, .cam, .ptlRun, .hif, .posted] s s4_8 := by
    unfold s4_8
    refine Effect.put (x := s3_7) ?_ (fun p hp => by cases p <;> first | exact absurd (by decide) hp | rfl) rfl ⟨rfl, rfl, rfl⟩ ⟨rfl, rfl⟩ rfl rfl
    assumption
  clear_value s4_8
  refine ite_intro ?_ ?_
  · exact Effect.refl _
  · refine ite_intro ?_ ?_
    · refine Effect.step State.restCoil_effect (by decide) ?_
      refine Effect.step State.modAx_effect (by decide) ?_
      exact Effect.refl _
    · refine Effect.step State.axFlag_effect (by decide) ?_
      refine ite_intro ?_ ?_
      · refine Effect.step State.statAxis_effect (by decide) ?_
        assumption
      · assumption

theorem State.alignAxis_effect {a : Fin 12} {pos : Int} {now : Bool} {s : State} : Effect [.ax, .drv, .fb] s (State.alignAxis a pos now s) := by
  unfold State.alignAxis
  extract_lets c_1 t_2
  clear_value c_1
  have ht_2 : Effect [.ax, .drv, .fb] s t_2 := by
    unfold t_2
    refine ite_intro ?_ ?_
    · exact Effect.refl _
    · refine Effect.put (x := s) ?_ (fun p hp => by cases p <;> first | exact absurd (by decide) hp | rfl) rfl ⟨rfl, rfl, rfl⟩ ⟨rfl, rfl⟩ rfl rfl
      exact Effect.refl _
  clear_value t_2
  refine Effect.step State.modAx_effect (by decide) ?_
  refine Effect.step State.modDrv_effect (by decide) ?_
  assumption

theorem State.unhalt_effect {a : Fin 12} {cause : HaltCause} {s : State} : Effect [.links, .seq, .pages, .ax, .drv, .coil, .watch, .fb, .ptlRun, .hif, .posted] s (State.unhalt a cause s) := by
  unfold State.unhalt
  extract_lets x_1 rest_2 s1_3 s2_4
  clear_value x_1
  clear_value rest_2
  have hs1_3 : Effect [.links, .seq, .pages, .ax, .drv, .coil, .watch, .fb, .ptlRun, .hif, .posted] s s1_3 := by
    unfold s1_3
    refine Effect.step State.restCoil_effect (by decide) ?_
    refine Effect.step State.modAx_effect (by decide) ?_
    exact Effect.refl _
  clear_value s1_3
  have hs2_4 : Effect [.links, .seq, .pages, .ax, .drv, .coil, .watch, .fb, .ptlRun, .hif, .posted] s s2_4 := by
    unfold s2_4
    refine Effect.step State.modAx_effect (by decide) ?_
    assumption
  clear_value s2_4
  refine ite_intro ?_ ?_
  · exact Effect.refl _
  · refine ite_intro ?_ ?_
    · assumption
    · refine ite_intro ?_ ?_
      · refine Effect.step State.alignAxis_effect (by decide) ?_
        assumption
      · refine Effect.step State.axFlag_effect (by decide) ?_
        assumption

theorem State.haltDie_effect {d : Fin 8} {cause : HaltCause} {s : State} : Effect [.links, .seq, .mem, .pages, .ax, .drv, .coil, .watch, .gear, .cam, .ptlRun, .hif, .posted] s (State.haltDie d cause s) := by
  unfold State.haltDie
  refine Effect.forAll (fun a_1 t_2 => ?_) ?_
  · refine Effect.step State.halt_effect (by decide) ?_
    exact Effect.refl _
  · exact Effect.refl _

theorem State.unhaltDie_effect {d : Fin 8} {cause : HaltCause} {s : State} : Effect [.links, .seq, .pages, .ax, .drv, .coil, .watch, .fb, .ptlRun, .hif, .posted] s (State.unhaltDie d cause s) := by
  unfold State.unhaltDie
  refine Effect.forAll (fun a_1 t_2 => ?_) ?_
  · refine Effect.step State.unhalt_effect (by decide) ?_
    exact Effect.refl _
  · exact Effect.refl _

theorem State.accept_effect {a : Fin 12} {t : Taken} {s : State} : Effect [.ax] s (State.accept a t s) := by
  unfold State.accept
  refine Effect.step State.modAx_effect (by decide) ?_
  exact Effect.refl _

theorem State.axCommand_effect {wr : Writer} {a : Fin 12} {cmd : Nat} {m : Move} {handle : Nat} {s : State} : EffectSnd [.ax] s (State.axCommand wr a cmd m handle s) := by
  unfold State.axCommand
  extract_lets x_1 base_2 rel_3 m1_4 t_5
  clear_value x_1
  clear_value base_2
  clear_value m1_4
  clear_value t_5
  split
  · rename_i z_6 z_7 z_8
    refine EffectSnd.mk ?_
    exact Effect.refl _
  · rename_i z_9 z_10
    refine EffectSnd.mk ?_
    refine Effect.step State.accept_effect (by decide) ?_
    exact Effect.refl _

theorem State.moveCtl_effect {wr : Writer} {a : Fin 12} {w : Word} {s : State} : Effect [.pages, .ax, .hif, .posted] s (State.moveCtl wr a w s) := by
  unfold State.moveCtl
  extract_lets c_1 cmd_2
  clear_value c_1
  clear_value cmd_2
  split
  · rename_i z_3
    refine Effect.step State.err_effect (by decide) ?_
    exact Effect.refl _
  · rename_i z_4 z_5
    split
    · rename_i z_6 z_7 z_8 z_9
      refine Effect.step State.err_effect (by decide) ?_
      exact Effect.refl _
    · rename_i z_10 z_11 z_12
      refine EffectSnd.of_eq z_12 ?_
      refine EffectSnd.step State.axCommand_effect (by decide) ?_
      exact Effect.refl _

theorem State.takeDue_effect {a : Fin 12} {m : Nat} {s0 : State} : Effect [.links, .seq, .mem, .pages, .ax, .gear, .cam, .ptlRun, .prgx, .hif, .posted] s0 (State.takeDue a m s0) := by
  unfold State.takeDue
  extract_lets due0_1 ends_2 s_3 x_4 due_5 pr_6 b_7 grp_8 group_9 past_10 all_11 seg_12 front_13 held_14 base_15 k_16 old_17 new_18 ahead_19 queue_20 changed_21 counts_22 s1_23 s2_24 s3_25 s4_26
  clear_value due0_1
  clear_value ends_2
  have hs_3 : Effect [.links, .seq, .mem, .pages, .ax, .gear, .cam, .ptlRun, .prgx, .hif, .posted] s0 s_3 := by
    unfold s_3
    refine ite_intro ?_ ?_
    · refine Effect.step State.endFollow_effect (by decide) ?_
      exact Effect.refl _
    · exact Effect.refl _
  clear_value s_3
  clear_value x_4
  clear_value due_5
  clear_value pr_6
  clear_value b_7
  clear_value grp_8
  clear_value group_9
  clear_value past_10
  clear_value all_11
  clear_value seg_12
  clear_value front_13
  clear_value held_14
  clear_value base_15
  clear_value k_16
  clear_value old_17
  clear_value new_18
  clear_value ahead_19
  clear_value queue_20
  clear_value changed_21
  clear_value counts_22
  have hs1_23 : Effect [.links, .seq, .mem, .pages, .ax, .gear, .cam, .ptlRun, .prgx, .hif, .posted] s0 s1_23 := by
    unfold s1_23
    refine Effect.step State.modAx_effect (by decide) ?_
    assumption
  clear_value s1_23
  have hs2_24 : Effect [.links, .seq, .mem, .pages, .ax, .gear, .cam, .ptlRun, .prgx, .hif, .posted] s0 s2_24 := by
    unfold s2_24
    refine Effect.put (x := s1_23) ?_ (fun p hp => by cases p <;> first | exact absurd (by decide) hp | rfl) rfl ⟨rfl, rfl, rfl⟩ ⟨rfl, rfl⟩ rfl rfl
    assumption
  clear_value s2_24
  have hs3_25 : Effect [.links, .seq, .mem, .pages, .ax, .gear, .cam, .ptlRun, .prgx, .hif, .posted] s0 s3_25 := by
    unfold s3_25
    refine Effect.forAll (fun a_27 t_28 => ?_) ?_
    · refine Effect.step State.axFlag_effect (by decide) ?_
      exact Effect.refl _
    · refine Effect.step State.statAxis_effect (by decide) ?_
      refine Effect.step State.statAxis_effect (by decide) ?_
      assumption
  clear_value s3_25
  have hs4_26 : Effect [.links, .seq, .mem, .pages, .ax, .gear, .cam, .ptlRun, .prgx, .hif, .posted] s0 s4_26 := by
    unfold s4_26
    refine Effect.forAll (fun a_29 t_30 => ?_) ?_
    · extract_lets src_31
      refine ite_intro ?_ ?_
      · refine Effect.step State.err_effect (by decide) ?_
        exact Effect.refl _
      · refine Effect.put (x := t_30) ?_ (fun p hp => by cases p <;> first | exact absurd (by decide) hp | rfl) rfl ⟨rfl, rfl, rfl⟩ ⟨rfl, rfl⟩ rfl rfl
        exact Effect.refl _
    · assumption
  clear_value s4_26
  refine ite_intro ?_ ?_
  · assumption
  · refine ite_intro ?_ ?_
    · refine Effect.step State.modAx_effect (by decide) ?_
      assumption
    · refine ite_intro ?_ ?_
      · refine Effect.step State.passStop_effect (by decide) ?_
        assumption
      · assumption

theorem State.commitSetpoint_effect {n : Nat} {a : Fin 12} {s : State} : Effect [.ax, .drv] s (State.commitSetpoint n a s) := by
  unfold State.commitSetpoint
  extract_lets x_1 r_2
  clear_value x_1
  clear_value r_2
  refine Effect.step State.modDrv_effect (by decide) ?_
  refine Effect.step State.modAx_effect (by decide) ?_
  exact Effect.refl _

theorem State.movesDone_effect {a : Fin 12} {n : Nat} {s : State} : Effect [.links, .seq, .pages, .ax, .ptlRun, .hif, .posted] s (State.movesDone a n s) := by
  unfold State.movesDone
  refine Effect.forAll (fun a_1 t_2 => ?_) ?_
  · refine Effect.step State.modAx_effect (by decide) ?_
    refine Effect.step State.axFlag_effect (by decide) ?_
    exact Effect.refl _
  · exact Effect.refl _

theorem State.endPeriod_effect {a : Fin 12} {s : State} : Effect [.links, .seq, .mem, .pages, .ax, .watch, .ptlRun, .hif, .posted] s (State.endPeriod a s) := by
  unfold State.endPeriod
  extract_lets x_1
  clear_value x_1
  split
  · rename_i z_2 z_3
    exact Effect.refl _
  · rename_i z_4 z_5 z_6 z_7
    extract_lets run_8 s0_9 rest_10 s1_11 s2_12 s3_13 s4_14 came_15 idle_16 s5_17
    have hs0_9 : Effect [.links, .seq, .mem, .pages, .ax, .watch, .ptlRun, .hif, .posted] s s0_9 := by
      unfold s0_9
      refine Effect.step State.statAxis_effect (by decide) ?_
      refine Effect.step State.statAxis_effect (by decide) ?_
      refine Effect.step State.statAxis_effect (by decide) ?_
      exact Effect.refl _
    clear_value s0_9
    have hs1_11 : Effect [.links, .seq, .mem, .pages, .ax, .watch, .ptlRun, .hif, .posted] s s1_11 := by
      unfold s1_11
      refine Effect.step State.modAx_effect (by decide) ?_
      assumption
    clear_value s1_11
    have hs2_12 : Effect [.links, .seq, .mem, .pages, .ax, .watch, .ptlRun, .hif, .posted] s s2_12 := by
      unfold s2_12
      refine Effect.step State.modAx_effect (by decide) ?_
      refine Effect.step State.movesDone_effect (by decide) ?_
      assumption
    clear_value s2_12
    have hs3_13 : Effect [.links, .seq, .mem, .pages, .ax, .watch, .ptlRun, .hif, .posted] s s3_13 := by
      unfold s3_13
      refine ite_intro ?_ ?_
      · refine Effect.step State.axFlag_effect (by decide) ?_
        assumption
      · assumption
    clear_value s3_13
    have hs4_14 : Effect [.links, .seq, .mem, .pages, .ax, .watch, .ptlRun, .hif, .posted] s s4_14 := by
      unfold s4_14
      refine Effect.step State.movesDone_effect (by decide) ?_
      refine ite_intro ?_ ?_
      · refine Effect.step State.axFlag_effect (by decide) ?_
        assumption
      · assumption
    clear_value s4_14
    clear_value came_15
    clear_value idle_16
    have hs5_17 : Effect [.links, .seq, .mem, .pages, .ax, .watch, .ptlRun, .hif, .posted] s s5_17 := by
      unfold s5_17
      refine ite_intro ?_ ?_
      · refine Effect.step State.axFlag_effect (by decide) ?_
        assumption
      · assumption
    clear_value s5_17
    refine ite_intro ?_ ?_
    · refine Effect.step State.modAx_effect (by decide) ?_
      exact Effect.refl _
    · refine ite_intro ?_ ?_
      · refine Effect.step State.modWatch_effect (by decide) ?_
        assumption
      · assumption

theorem State.planBoundary_effect {n : Nat} {a : Fin 12} {s : State} : Effect [.ax, .drv] s (State.planBoundary n a s) := by
  unfold State.planBoundary
  refine ite_intro ?_ ?_
  · exact Effect.refl _
  · refine Effect.step State.commitSetpoint_effect (by decide) ?_
    refine Effect.step State.modAx_effect (by decide) ?_
    refine Effect.step State.refill_effect (by decide) ?_
    exact Effect.refl _

end Sys2Proof.Machine
end

