-- ==== Sys2Proof/Laws/Bits.lean ====
section
/-! SUPPORT. Bits of a word: what setting and clearing one leaves. -/

namespace Sys2Proof.Machine

/-- The bits of a power of two. -/
theorem bit_pow {k j : Nat} (h : j < 32) : (BitVec.ofNat 32 (2 ^ k)).getLsbD j = decide (j = k) := by
  rw [BitVec.getLsbD_ofNat, Nat.testBit_two_pow]
  simp [h, eq_comm]

/-- A bit that was set reads 1, and every other as before. -/
theorem bit_setBit {w : Word} {k j : Nat} (h : j < 32) : bit (setBit w k) j = (bit w j || decide (j = k)) := by
  unfold bit setBit
  rw [BitVec.getLsbD_or, bit_pow h]

/-- A bit that was cleared reads 0, and every other as before. -/
theorem bit_clrBit {w : Word} {k j : Nat} (h : j < 32) : bit (clrBit w k) j = (bit w j && !decide (j = k)) := by
  unfold bit clrBit
  rw [BitVec.getLsbD_and, BitVec.getLsbD_not, bit_pow h]
  simp [h]

/-- A bit put to a value. -/
theorem bit_putBit {w : Word} {k j : Nat} {v : Bool} (h : j < 32) : bit (putBit w k v) j = if j = k then v else bit w j := by
  unfold putBit
  cases v
  · rw [if_neg (by decide), bit_clrBit h]; by_cases e : j = k <;> simp [e]
  · rw [if_pos rfl, bit_setBit h]; by_cases e : j = k <;> simp [e]

end Sys2Proof.Machine
end

