-- ==== Sys2Proof/Laws/DriveEffect.lean ====
section
/-! SUPPORT. What each operation of Machine/Drive.lean can do: the parts of the state it may change, and what it never takes
back (`Effect`, Safety.lean). -/

namespace Sys2Proof.Machine

theorem State.tryLevel_effect {a : Fin 12} {p : Int} {s : State} : Effect [.coil, .watch] s (State.tryLevel a p s) := by
  unfold State.tryLevel
  extract_lets c_1
  clear_value c_1
  refine ite_intro ?_ ?_
  · refine Effect.step State.modWatch_effect (by decide) ?_
    refine Effect.step State.modCoil_effect (by decide) ?_
    exact Effect.refl _
  · exact Effect.refl _

theorem State.ran_effect {a : Fin 12} {r : Drive × Bool} {s : State} : Effect [.drv, .coil, .watch, .fb] s (State.ran a r s) := by
  unfold State.ran
  extract_lets d_1 at_2 s1_3 s2_4 s3_5
  clear_value d_1
  clear_value at_2
  have hs1_3 : Effect [.drv, .coil, .watch, .fb] s s1_3 := by
    unfold s1_3
    refine ite_intro ?_ ?_
    · refine Effect.put (x := s) ?_ (fun p hp => by cases p <;> first | exact absurd (by decide) hp | rfl) rfl ⟨rfl, rfl, rfl⟩ ⟨rfl, rfl⟩ rfl rfl
      exact Effect.refl _
    · exact Effect.refl _
  clear_value s1_3
  have hs2_4 : Effect [.drv, .coil, .watch, .fb] s s2_4 := by
    unfold s2_4
    refine Effect.step State.modDrv_effect (by decide) ?_
    assumption
  clear_value s2_4
  have hs3_5 : Effect [.drv, .coil, .watch, .fb] s s3_5 := by
    unfold s3_5
    refine ite_intro ?_ ?_
    · refine Effect.step State.tryLevel_effect (by decide) ?_
      assumption
    · assumption
  clear_value s3_5
  refine ite_intro ?_ ?_
  · refine Effect.step State.restCoil_effect (by decide) ?_
    assumption
  · assumption

theorem State.emitOne_effect {a : Fin 12} {s : State} : EffectOpt [.drv, .coil, .watch, .fb] s (State.emitOne a s) := by
  unfold State.emitOne
  extract_lets r_1
  clear_value r_1
  refine ite_intro ?_ ?_
  · refine EffectOpt.some ?_
    refine Effect.step State.ran_effect (by decide) ?_
    exact Effect.refl _
  · exact EffectOpt.none

theorem State.runTo_effect {a : Fin 12} {c : Nat} {f : Nat} {s : State} : Effect [.drv, .coil, .watch, .fb] s (State.runTo a c f s) := by
  induction f generalizing s with
  | zero => exact Effect.refl s
  | succ f ih =>
    unfold State.runTo
    exact ite_intro (Effect.refl s) (Effect.trans (State.ran_effect.mono (by decide)) ih)

theorem State.requestLevel_effect {a : Fin 12} {s : State} : Effect [.coil] s (State.requestLevel a s) := by
  unfold State.requestLevel
  extract_lets w_1 req_2
  clear_value w_1
  clear_value req_2
  refine Effect.step State.modCoil_effect (by decide) ?_
  exact Effect.refl _

theorem State.energise_effect {a : Fin 12} {c : Coil} {s : State} : Effect [.coil, .watch] s (State.energise a c s) := by
  unfold State.energise
  extract_lets off_1
  clear_value off_1
  refine Effect.step State.modWatch_effect (by decide) ?_
  refine Effect.step State.modCoil_effect (by decide) ?_
  exact Effect.refl _

theorem State.driveCoils_effect {a : Fin 12} {s : State} : Effect [.coil, .watch] s (State.driveCoils a s) := by
  unfold State.driveCoils
  extract_lets t_1
  have ht_1 : Effect [.coil, .watch] s t_1 := by
    unfold t_1
    refine Effect.step State.modWatch_effect (by decide) ?_
    exact Effect.refl _
  clear_value t_1
  refine ite_intro ?_ ?_
  · assumption
  · refine Effect.step State.modWatch_effect (by decide) ?_
    refine Effect.step State.energise_effect (by decide) ?_
    assumption

theorem State.restCoils_effect {a : Fin 12} {s : State} : Effect [.coil, .watch] s (State.restCoils a s) := by
  unfold State.restCoils
  extract_lets t_1
  have ht_1 : Effect [.coil, .watch] s t_1 := by
    unfold t_1
    refine Effect.step State.modWatch_effect (by decide) ?_
    exact Effect.refl _
  clear_value t_1
  refine ite_intro ?_ ?_
  · exact Effect.refl _
  · refine ite_intro ?_ ?_
    · refine Effect.step State.restCoil_effect (by decide) ?_
      exact Effect.refl _
    · refine ite_intro ?_ ?_
      · assumption
      · refine Effect.step State.energise_effect (by decide) ?_
        assumption

theorem State.stallIdle_effect {a : Fin 12} {s : State} : Effect [.watch] s (State.stallIdle a s) := by
  unfold State.stallIdle
  refine Effect.step State.modWatch_effect (by decide) ?_
  exact Effect.refl _

theorem State.ploughPeriodAt_effect {n : Nat} {a : Fin 12} {s0 : State} : Effect [.links, .seq, .mem, .pages, .ax, .drv, .coil, .watch, .fb, .gear, .cam, .ptlRun, .hif, .posted] s0 (State.ploughPeriodAt n a s0) := by
  unfold State.ploughPeriodAt
  extract_lets s3_1 s3a_2 limited_3 s4_4 s5_5 halted_6 l_7 s6_8 s7_9 sp_10
  have hs3_1 : Effect [.links, .seq, .mem, .pages, .ax, .drv, .coil, .watch, .fb, .gear, .cam, .ptlRun, .hif, .posted] s0 s3_1 := by
    unfold s3_1
    refine Effect.step State.runTo_effect (by decide) ?_
    exact Effect.refl _
  clear_value s3_1
  have hs3a_2 : Effect [.links, .seq, .mem, .pages, .ax, .drv, .coil, .watch, .fb, .gear, .cam, .ptlRun, .hif, .posted] s0 s3a_2 := by
    unfold s3a_2
    refine ite_intro ?_ ?_
    · refine Effect.put (x := s3_1) ?_ (fun p hp => by cases p <;> first | exact absurd (by decide) hp | rfl) rfl ⟨rfl, rfl, rfl⟩ ⟨rfl, rfl⟩ rfl rfl
      assumption
    · assumption
  clear_value s3a_2
  clear_value limited_3
  have hs4_4 : Effect [.links, .seq, .mem, .pages, .ax, .drv, .coil, .watch, .fb, .gear, .cam, .ptlRun, .hif, .posted] s0 s4_4 := by
    unfold s4_4
    refine ite_intro ?_ ?_
    · refine Effect.step State.modWatch_effect (by decide) ?_
      refine Effect.step State.modCoil_effect (by decide) ?_
      assumption
    · assumption
  clear_value s4_4
  have hs5_5 : Effect [.links, .seq, .mem, .pages, .ax, .drv, .coil, .watch, .fb, .gear, .cam, .ptlRun, .hif, .posted] s0 s5_5 := by
    unfold s5_5
    refine ite_intro ?_ ?_
    · refine Effect.step State.halt_effect (by decide) ?_
      refine Effect.step State.axFlag_effect (by decide) ?_
      assumption
    · assumption
  clear_value s5_5
  clear_value l_7
  have hs6_8 : Effect [.links, .seq, .mem, .pages, .ax, .drv, .coil, .watch, .fb, .gear, .cam, .ptlRun, .hif, .posted] s0 s6_8 := by
    unfold s6_8
    split
    · rename_i z_11 z_12 z_13 z_14
      refine ite_intro ?_ ?_
      · refine Effect.step State.modDrv_effect (by decide) ?_
        assumption
      · refine Effect.step State.modDrv_effect (by decide) ?_
        assumption
    · rename_i z_15 z_16
      refine Effect.step State.modDrv_effect (by decide) ?_
      assumption
  clear_value s6_8
  have hs7_9 : Effect [.links, .seq, .mem, .pages, .ax, .drv, .coil, .watch, .fb, .gear, .cam, .ptlRun, .hif, .posted] s0 s7_9 := by
    unfold s7_9
    refine Effect.step State.requestLevel_effect (by decide) ?_
    refine ite_intro ?_ ?_
    · refine Effect.step State.stallIdle_effect (by decide) ?_
      assumption
    · assumption
  clear_value s7_9
  clear_value sp_10
  refine ite_intro ?_ ?_
  · exact Effect.refl _
  · refine ite_intro ?_ ?_
    · assumption
    · refine ite_intro ?_ ?_
      · refine Effect.step State.driveCoils_effect (by decide) ?_
        assumption
      · refine ite_intro ?_ ?_
        · refine Effect.step State.restCoils_effect (by decide) ?_
          assumption
        · assumption

theorem State.ploughPeriod_effect {a : Fin 12} {s : State} : Effect [.links, .seq, .mem, .pages, .ax, .drv, .coil, .watch, .fb, .gear, .cam, .ptlRun, .hif, .posted] s (State.ploughPeriod a s) := by
  unfold State.ploughPeriod
  refine Effect.step State.ploughPeriodAt_effect (by decide) ?_
  exact Effect.refl _

theorem State.voltageUpdate_effect {a : Fin 12} {vmot : Nat} {atValley : Bool} {valley : Option (Int × Int)} {s0 : State} : Effect [.links, .seq, .pages, .coil, .ptlRun, .hif, .posted] s0 (State.voltageUpdate a vmot atValley valley s0) := by
  unfold State.voltageUpdate
  extract_lets s_1 c_2 i_3 d_4 rate_5 rph_6 lph_7 ke_8 e_9 ff_10 t_11 ud_12 uq_13 avail_14 mag2_15 limited_16 scale_17 k_18 ua_19 ub_20 v_21 s1_22 s2_23 due_24
  have hs_1 : Effect [.links, .seq, .pages, .coil, .ptlRun, .hif, .posted] s0 s_1 := by
    unfold s_1
    split
    · rename_i z_25 z_26 z_27
      refine ite_intro ?_ ?_
      · refine Effect.step State.modCoil_effect (by decide) ?_
        exact Effect.refl _
      · exact Effect.refl _
    · rename_i z_28
      exact Effect.refl _
  clear_value s_1
  clear_value c_2
  clear_value i_3
  clear_value d_4
  clear_value rate_5
  clear_value rph_6
  clear_value lph_7
  clear_value ke_8
  clear_value e_9
  clear_value ff_10
  clear_value t_11
  clear_value ud_12
  clear_value uq_13
  clear_value avail_14
  clear_value mag2_15
  clear_value limited_16
  clear_value scale_17
  clear_value k_18
  clear_value ua_19
  clear_value ub_20
  clear_value v_21
  have hs1_22 : Effect [.links, .seq, .pages, .coil, .ptlRun, .hif, .posted] s0 s1_22 := by
    unfold s1_22
    refine Effect.step State.modCoil_effect (by decide) ?_
    assumption
  clear_value s1_22
  have hs2_23 : Effect [.links, .seq, .pages, .coil, .ptlRun, .hif, .posted] s0 s2_23 := by
    unfold s2_23
    refine Effect.step State.drvFlag_effect (by decide) ?_
    refine Effect.step State.unlearn_effect (by decide) ?_
    assumption
  clear_value s2_23
  clear_value due_24
  refine ite_intro ?_ ?_
  · assumption
  · refine ite_intro ?_ ?_
    · assumption
    · refine ite_intro ?_ ?_
      · refine Effect.step State.ev_effect (by decide) ?_
        refine Effect.step State.modCoil_effect (by decide) ?_
        assumption
      · assumption

theorem State.standstillDie_effect {d : Fin 2} {s : State} : Effect [.drv, .coil, .watch] s (State.standstillDie d s) := by
  unfold State.standstillDie
  refine Effect.forAll (fun a_1 t_2 => ?_) ?_
  · refine Effect.step State.standstill_effect (by decide) ?_
    exact Effect.refl _
  · exact Effect.refl _

theorem State.standstillPwm_effect {t0 : Nat} {a : Fin 12} {s : State} : Effect [.tb, .links, .seq, .mem, .pages, .ax, .drv, .coil, .watch, .fb, .gear, .cam, .ptlRun, .hif, .posted] s (State.standstillPwm t0 a s) := by
  unfold State.standstillPwm
  extract_lets e_1 next_2 s1_3
  clear_value e_1
  clear_value next_2
  have hs1_3 : Effect [.tb, .links, .seq, .mem, .pages, .ax, .drv, .coil, .watch, .fb, .gear, .cam, .ptlRun, .hif, .posted] s s1_3 := by
    unfold s1_3
    refine ite_intro ?_ ?_
    · refine Effect.step State.ploughPeriodAt_effect (by decide) ?_
      exact Effect.refl _
    · exact Effect.refl _
  clear_value s1_3
  refine Effect.step State.standstill_effect (by decide) ?_
  refine Effect.step State.to_effect (by decide) ?_
  refine Effect.step State.runTo_effect (by decide) ?_
  assumption

theorem State.cutGate_effect {a : Fin 12} {s : State} : Effect [.links, .seq, .mem, .pages, .ax, .drv, .coil, .watch, .gear, .cam, .ptlRun, .hif, .posted] s (State.cutGate a s) := by
  unfold State.cutGate
  extract_lets moving_1 s1_2
  clear_value moving_1
  have hs1_2 : Effect [.links, .seq, .mem, .pages, .ax, .drv, .coil, .watch, .gear, .cam, .ptlRun, .hif, .posted] s s1_2 := by
    unfold s1_2
    refine Effect.step State.modCoil_effect (by decide) ?_
    exact Effect.refl _
  clear_value s1_2
  refine ite_intro ?_ ?_
  · refine Effect.step State.halt_effect (by decide) ?_
    assumption
  · assumption

theorem State.coilsOn_effect {a : Fin 12} {s : State} : Effect [.coil, .watch] s (State.coilsOn a s) := by
  unfold State.coilsOn
  refine ite_intro ?_ ?_
  · refine Effect.step State.restCoil_effect (by decide) ?_
    exact Effect.refl _
  · refine ite_intro ?_ ?_
    · refine Effect.step State.driveCoils_effect (by decide) ?_
      exact Effect.refl _
    · refine ite_intro ?_ ?_
      · refine Effect.step State.energise_effect (by decide) ?_
        exact Effect.refl _
      · refine Effect.step State.restCoil_effect (by decide) ?_
        exact Effect.refl _

theorem State.restoreGate_effect {a : Fin 12} {s : State} : Effect [.links, .seq, .pages, .ax, .drv, .coil, .watch, .fb, .ptlRun, .hif, .posted] s (State.restoreGate a s) := by
  unfold State.restoreGate
  refine ite_intro ?_ ?_
  · exact Effect.refl _
  · refine Effect.step State.coilsOn_effect (by decide) ?_
    refine Effect.step State.unhalt_effect (by decide) ?_
    refine Effect.step State.modCoil_effect (by decide) ?_
    exact Effect.refl _

theorem State.loadGateMap_effect {s : State} : Effect [.links, .seq, .mem, .pages, .ax, .drv, .coil, .watch, .fb, .gear, .cam, .ptlRun, .safe, .hif, .posted] s (State.loadGateMap s) := by
  unfold State.loadGateMap
  extract_lets src_1 t_2
  have ht_2 : Effect [.links, .seq, .mem, .pages, .ax, .drv, .coil, .watch, .fb, .gear, .cam, .ptlRun, .safe, .hif, .posted] s t_2 := by
    unfold t_2
    refine Effect.put (x := s) ?_ (fun p hp => by cases p <;> first | exact absurd (by decide) hp | rfl) rfl ⟨rfl, rfl, rfl⟩ ⟨rfl, rfl⟩ rfl rfl
    exact Effect.refl _
  clear_value t_2
  refine Effect.forAll (fun a_3 t_4 => ?_) ?_
  · refine ite_intro ?_ ?_
    · refine Effect.step State.restoreGate_effect (by decide) ?_
      exact Effect.refl _
    · refine Effect.step State.cutGate_effect (by decide) ?_
      exact Effect.refl _
  · assumption

theorem State.declareStall_effect {a : Fin 12} {byPos : Bool} {value : Int} {s : State} : Effect [.links, .seq, .mem, .pages, .ax, .drv, .coil, .watch, .gear, .cam, .ptlRun, .hif, .posted] s (State.declareStall a byPos value s) := by
  unfold State.declareStall
  extract_lets s1_1 s2_2
  have hs1_1 : Effect [.links, .seq, .mem, .pages, .ax, .drv, .coil, .watch, .gear, .cam, .ptlRun, .hif, .posted] s s1_1 := by
    unfold s1_1
    refine Effect.step State.ev_effect (by decide) ?_
    refine Effect.step State.modWatch_effect (by decide) ?_
    refine Effect.step State.drvFlag_effect (by decide) ?_
    refine Effect.step State.unlearn_effect (by decide) ?_
    exact Effect.refl _
  clear_value s1_1
  have hs2_2 : Effect [.links, .seq, .mem, .pages, .ax, .drv, .coil, .watch, .gear, .cam, .ptlRun, .hif, .posted] s s2_2 := by
    unfold s2_2
    refine Effect.step State.statAxis_effect (by decide) ?_
    refine ite_intro ?_ ?_
    · assumption
    · refine Effect.step State.axFlag_effect (by decide) ?_
      assumption
  clear_value s2_2
  split
  · rename_i z_3 z_4 z_5
    assumption
  · rename_i z_6 z_7
    refine ite_intro ?_ ?_
    · refine Effect.step State.halt_effect (by decide) ?_
      assumption
    · assumption

theorem State.stallStep_effect {a : Fin 12} {s : State} : Effect [.links, .seq, .mem, .pages, .ax, .drv, .coil, .watch, .gear, .cam, .ptlRun, .hif, .posted] s (State.stallStep a s) := by
  unfold State.stallStep
  extract_lets c_1 enc_2 w_3 n_4 byAngle_5 byPos_6 s1_7 s2_8
  clear_value c_1
  clear_value enc_2
  clear_value w_3
  clear_value n_4
  clear_value byAngle_5
  clear_value byPos_6
  have hs1_7 : Effect [.links, .seq, .mem, .pages, .ax, .drv, .coil, .watch, .gear, .cam, .ptlRun, .hif, .posted] s s1_7 := by
    unfold s1_7
    refine Effect.step State.modCoil_effect (by decide) ?_
    exact Effect.refl _
  clear_value s1_7
  have hs2_8 : Effect [.links, .seq, .mem, .pages, .ax, .drv, .coil, .watch, .gear, .cam, .ptlRun, .hif, .posted] s s2_8 := by
    unfold s2_8
    refine Effect.step State.modWatch_effect (by decide) ?_
    assumption
  clear_value s2_8
  refine ite_intro ?_ ?_
  · refine ite_intro ?_ ?_
    · refine Effect.step State.declareStall_effect (by decide) ?_
      assumption
    · assumption
  · refine Effect.step State.stallIdle_effect (by decide) ?_
    assumption

theorem State.estimate_effect {a : Fin 12} {u : Int × Int} {i : Int × Int} {e : Int × Int} {s : State} : Effect [.links, .seq, .mem, .pages, .ax, .drv, .coil, .watch, .gear, .cam, .ptlIn, .ptlRun, .hif, .posted] s (State.estimate a u i e s) := by
  unfold State.estimate
  extract_lets c_1 rph_2 lph_3 w_4 em_5 v_6 nf_7 emf_8 sum_9 cnt_10 driven_11 rate_12 valid_13 sgn_14 raw_15 delta_16 mag_17 torque_18 eEst_19 s1_20 s2_21
  clear_value c_1
  clear_value rph_2
  clear_value lph_3
  clear_value w_4
  clear_value em_5
  clear_value v_6
  clear_value nf_7
  clear_value emf_8
  clear_value sum_9
  clear_value cnt_10
  clear_value driven_11
  clear_value rate_12
  clear_value valid_13
  clear_value sgn_14
  clear_value raw_15
  clear_value delta_16
  clear_value mag_17
  clear_value torque_18
  clear_value eEst_19
  have hs1_20 : Effect [.links, .seq, .mem, .pages, .ax, .drv, .coil, .watch, .gear, .cam, .ptlIn, .ptlRun, .hif, .posted] s s1_20 := by
    unfold s1_20
    refine Effect.step State.modCoil_effect (by decide) ?_
    refine Effect.step State.modWatch_effect (by decide) ?_
    exact Effect.refl _
  clear_value s1_20
  have hs2_21 : Effect [.links, .seq, .mem, .pages, .ax, .drv, .coil, .watch, .gear, .cam, .ptlIn, .ptlRun, .hif, .posted] s s2_21 := by
    unfold s2_21
    split
    · rename_i z_22 z_23 z_24 z_25
      refine dite_intro (fun w_26 => ?_) (fun w_26 => ?_)
      · refine Effect.put (x := s1_20) ?_ (fun p hp => by cases p <;> first | exact absurd (by decide) hp | rfl) rfl ⟨rfl, rfl, rfl⟩ ⟨rfl, rfl⟩ rfl rfl
        assumption
      · assumption
    · rename_i z_27 z_28
      assumption
  clear_value s2_21
  refine ite_intro ?_ ?_
  · exact Effect.refl _
  · refine Effect.step State.stallStep_effect (by decide) ?_
    assumption

theorem State.endStallHalt_effect {n : Nat} {a : Fin 12} {s : State} : Effect [.links, .seq, .pages, .ax, .drv, .coil, .watch, .fb, .ptlRun, .hif, .posted] s (State.endStallHalt n a s) := by
  unfold State.endStallHalt
  refine ite_intro ?_ ?_
  · refine ite_intro ?_ ?_
    · refine ite_intro ?_ ?_
      · refine Effect.step State.unhalt_effect (by decide) ?_
        exact Effect.refl _
      · exact Effect.refl _
    · refine ite_intro ?_ ?_
      · refine Effect.step State.unhalt_effect (by decide) ?_
        exact Effect.refl _
      · exact Effect.refl _
  · exact Effect.refl _

theorem State.bridgeFault_effect {a : Fin 12} {k : Nat} {s : State} : Effect [.links, .seq, .mem, .pages, .ax, .drv, .coil, .watch, .gear, .cam, .ptlRun, .hif, .posted] s (State.bridgeFault a k s) := by
  unfold State.bridgeFault
  extract_lets s1_1 s2_2
  have hs1_1 : Effect [.links, .seq, .mem, .pages, .ax, .drv, .coil, .watch, .gear, .cam, .ptlRun, .hif, .posted] s s1_1 := by
    unfold s1_1
    refine Effect.step State.drvFlag_effect (by decide) ?_
    exact Effect.refl _
  clear_value s1_1
  have hs2_2 : Effect [.links, .seq, .mem, .pages, .ax, .drv, .coil, .watch, .gear, .cam, .ptlRun, .hif, .posted] s s2_2 := by
    unfold s2_2
    refine Effect.step State.restCoil_effect (by decide) ?_
    refine Effect.step State.halt_effect (by decide) ?_
    assumption
  clear_value s2_2
  refine Effect.step State.ev_effect (by decide) ?_
  assumption

theorem State.drvFlagsWrite_effect {a : Fin 12} {w : Word} {s : State} : Effect [.links, .seq, .pages, .ax, .drv, .coil, .watch, .fb, .ptlRun, .hif, .posted] s (State.drvFlagsWrite a w s) := by
  unfold State.drvFlagsWrite
  extract_lets c_1 oc_2 gd_3 w1_4 w2_5 had_6 s1_7 s2_8
  clear_value c_1
  clear_value oc_2
  clear_value gd_3
  clear_value w1_4
  clear_value w2_5
  clear_value had_6
  have hs1_7 : Effect [.links, .seq, .pages, .ax, .drv, .coil, .watch, .fb, .ptlRun, .hif, .posted] s s1_7 := by
    unfold s1_7
    refine Effect.step State.modCoil_effect (by decide) ?_
    exact Effect.refl _
  clear_value s1_7
  have hs2_8 : Effect [.links, .seq, .pages, .ax, .drv, .coil, .watch, .fb, .ptlRun, .hif, .posted] s s2_8 := by
    unfold s2_8
    refine ite_intro ?_ ?_
    · refine Effect.step State.unhalt_effect (by decide) ?_
      assumption
    · assumption
  clear_value s2_8
  refine ite_intro ?_ ?_
  · refine Effect.step State.err_effect (by decide) ?_
    assumption
  · assumption

end Sys2Proof.Machine
end

