-- ==== Sys2Proof/Laws/CoordEffect.lean ====
section
/-! SUPPORT. What each operation of Machine/Coord.lean can do: the parts of the state it may change, and what it never takes
back (`Effect`, Safety.lean). -/

namespace Sys2Proof.Machine

theorem State.applyRatio_effect {a : Fin 12} {s : State} : Effect [.gear] s (State.applyRatio a s) := by
  unfold State.applyRatio
  extract_lets g_1
  clear_value g_1
  split
  · rename_i z_2 z_3 z_4 z_5 z_6 z_7 z_8 z_9
    extract_lets m_10
    clear_value m_10
    split
    · rename_i z_11 z_12
      exact Effect.refl _
    · rename_i z_13 z_14 z_15
      refine Effect.put (x := s) ?_ (fun p hp => by cases p <;> first | exact absurd (by decide) hp | rfl) rfl ⟨rfl, rfl, rfl⟩ ⟨rfl, rfl⟩ rfl rfl
      exact Effect.refl _
  · rename_i z_16 z_17 z_18
    exact Effect.refl _

theorem State.modGear_effect {a : Fin 12} {f : Gear → Gear} {s : State} : Effect [.gear] s (State.modGear a f s) := by
  unfold State.modGear
  refine Effect.put (x := s) ?_ (fun p hp => by cases p <;> first | exact absurd (by decide) hp | rfl) rfl ⟨rfl, rfl, rfl⟩ ⟨rfl, rfl⟩ rfl rfl
  exact Effect.refl _

theorem State.modCam_effect {c : Fin 4} {f : Cam → Cam} {s : State} : Effect [.cam] s (State.modCam c f s) := by
  unfold State.modCam
  refine Effect.put (x := s) ?_ (fun p hp => by cases p <;> first | exact absurd (by decide) hp | rfl) rfl ⟨rfl, rfl, rfl⟩ ⟨rfl, rfl⟩ rfl rfl
  exact Effect.refl _

theorem State.cross_effect {a : Fin 12} {t : Nat} {s0 : State} : Effect [.links, .seq, .pages, .gear, .hif, .posted] s0 (State.cross a t s0) := by
  unfold State.cross
  extract_lets s_1
  have hs_1 : Effect [.links, .seq, .pages, .gear, .hif, .posted] s0 s_1 := by
    unfold s_1
    split
    · rename_i z_2 z_3 z_4 z_5 z_6
      refine ite_intro ?_ ?_
      · exact Effect.refl _
      · refine Effect.step State.applyRatio_effect (by decide) ?_
        exact Effect.refl _
    · rename_i z_7 z_8
      exact Effect.refl _
  clear_value s_1
  split
  · rename_i z_9 z_10
    assumption
  · rename_i z_11 z_12 z_13 z_14 z_15 z_16
    extract_lets s1_17
    have hs1_17 : Effect [.links, .seq, .pages, .gear, .hif, .posted] s0 s1_17 := by
      unfold s1_17
      refine Effect.step State.modGear_effect (by decide) ?_
      assumption
    clear_value s1_17
    refine Effect.step State.ev_effect (by decide) ?_
    refine Effect.step State.gearFlag_effect (by decide) ?_
    assumption

theorem State.crossings_effect {c : Fin 14} {old : Int} {new : Int} {t : Nat} {s : State} : Effect [.links, .seq, .pages, .gear, .hif, .posted] s (State.crossings c old new t s) := by
  unfold State.crossings
  refine Effect.forAll (fun a_1 t_2 => ?_) ?_
  · refine Effect.step State.cross_effect (by decide) ?_
    exact Effect.refl _
  · exact Effect.refl _

theorem State.sampleEngines_effect {c : Fin 14} {m : Int} {s : State} : Effect [.gear, .cam] s (State.sampleEngines c m s) := by
  unfold State.sampleEngines
  extract_lets s1_1
  have hs1_1 : Effect [.gear, .cam] s s1_1 := by
    unfold s1_1
    refine Effect.forAll (fun a_2 t_3 => ?_) ?_
    · refine Effect.step State.applyRatio_effect (by decide) ?_
      refine Effect.step State.modGear_effect (by decide) ?_
      exact Effect.refl _
    · exact Effect.refl _
  clear_value s1_1
  refine Effect.forAll (fun a_4 t_5 => ?_) ?_
  · extract_lets y_6
    clear_value y_6
    refine Effect.step State.modCam_effect (by decide) ?_
    exact Effect.refl _
  · assumption

theorem State.follow_effect {a : Fin 12} {e : Nat} {s : State} : Effect [.ax] s (State.follow a e s) := by
  unfold State.follow
  refine Effect.step State.modAx_effect (by decide) ?_
  exact Effect.refl _

theorem State.gearEngage_effect {wr : Writer} {a : Fin 12} {s : State} : EffectSnd [.ax, .gear] s (State.gearEngage wr a s) := by
  unfold State.gearEngage
  extract_lets r_1
  clear_value r_1
  split
  · rename_i z_2 z_3 z_4
    refine EffectSnd.mk ?_
    exact Effect.refl _
  · rename_i z_5 z_6
    refine EffectSnd.mk ?_
    refine Effect.step State.follow_effect (by decide) ?_
    refine Effect.step State.modGear_effect (by decide) ?_
    exact Effect.refl _

theorem State.camEngage_effect {wr : Writer} {c : Fin 4} {s : State} : EffectSnd [.ax, .cam] s (State.camEngage wr c s) := by
  unfold State.camEngage
  extract_lets a_1 r_2
  clear_value r_2
  split
  · rename_i z_3 z_4 z_5
    refine EffectSnd.mk ?_
    exact Effect.refl _
  · rename_i z_6 z_7
    refine EffectSnd.mk ?_
    refine Effect.step State.follow_effect (by decide) ?_
    refine Effect.step State.modCam_effect (by decide) ?_
    exact Effect.refl _

theorem State.gearArm_effect {a : Fin 12} {s : State} : EffectSnd [.gear] s (State.gearArm a s) := by
  unfold State.gearArm
  extract_lets p_1
  clear_value p_1
  refine ite_intro ?_ ?_
  · refine EffectSnd.mk ?_
    exact Effect.refl _
  · refine EffectSnd.mk ?_
    refine Effect.step State.modGear_effect (by decide) ?_
    exact Effect.refl _

theorem State.disengage_effect {a : Fin 12} {e : Nat} {s : State} : Effect [.ax] s (State.disengage a e s) := by
  unfold State.disengage
  refine ite_intro ?_ ?_
  · refine Effect.step State.accept_effect (by decide) ?_
    exact Effect.refl _
  · exact Effect.refl _

theorem State.engineCommand_effect {wr : Writer} {e : Nat} {ctl : Nat} {s : State} : EffectSnd [.ax, .gear, .cam] s (State.engineCommand wr e ctl s) := by
  unfold State.engineCommand
  extract_lets c_1
  clear_value c_1
  refine dite_intro (fun w_2 => ?_) (fun w_2 => ?_)
  · extract_lets a_3
    clear_value a_3
    split
    · rename_i z_4 z_5
      refine EffectSnd.step State.gearEngage_effect (by decide) ?_
      exact Effect.refl _
    · rename_i z_6 z_7
      refine EffectSnd.mk ?_
      refine Effect.step State.disengage_effect (by decide) ?_
      refine Effect.step State.modGear_effect (by decide) ?_
      exact Effect.refl _
    · rename_i z_8 z_9
      refine EffectSnd.step State.gearArm_effect (by decide) ?_
      exact Effect.refl _
    · rename_i z_10 z_11
      refine EffectSnd.mk ?_
      refine Effect.step State.modGear_effect (by decide) ?_
      exact Effect.refl _
    · rename_i z_12 z_13 z_14 z_15 z_16
      refine EffectSnd.mk ?_
      exact Effect.refl _
  · split
    · rename_i z_17 z_18
      refine EffectSnd.step State.camEngage_effect (by decide) ?_
      exact Effect.refl _
    · rename_i z_19 z_20
      refine EffectSnd.mk ?_
      refine Effect.step State.disengage_effect (by decide) ?_
      exact Effect.refl _
    · rename_i z_21 z_22 z_23
      refine EffectSnd.mk ?_
      exact Effect.refl _

theorem State.engineCtl_effect {wr : Writer} {e : Nat} {w : Word} {s : State} : Effect [.pages, .ax, .gear, .cam, .hif, .posted] s (State.engineCtl wr e w s) := by
  unfold State.engineCtl
  split
  · rename_i z_1 z_2 z_3 z_4
    refine Effect.step State.err_effect (by decide) ?_
    refine EffectSnd.of_eq z_4 ?_
    refine EffectSnd.step State.engineCommand_effect (by decide) ?_
    exact Effect.refl _
  · rename_i z_5 z_6 z_7
    refine EffectSnd.of_eq z_7 ?_
    refine EffectSnd.step State.engineCommand_effect (by decide) ?_
    exact Effect.refl _

theorem State.masterLost_effect {c : Fin 14} {s : State} : Effect [.ax] s (State.masterLost c s) := by
  unfold State.masterLost
  refine Effect.forAll (fun a_1 t_2 => ?_) ?_
  · split
    · rename_i z_3 z_4 z_5
      extract_lets src_6
      refine ite_intro ?_ ?_
      · refine Effect.step State.accept_effect (by decide) ?_
        exact Effect.refl _
      · exact Effect.refl _
    · rename_i z_7 z_8
      exact Effect.refl _
  · exact Effect.refl _

theorem State.engineStep_effect {n : Nat} {a : Fin 12} {s0 : State} : Effect [.links, .seq, .mem, .pages, .ax, .gear, .cam, .ptlRun, .prgx, .hif, .posted] s0 (State.engineStep n a s0) := by
  unfold State.engineStep
  dsimp only
  split
  · rename_i z_1 z_2
    exact Effect.refl _
  · rename_i z_3 z_4 z_5
    refine ite_intro ?_ ?_
    · refine Effect.step State.takeDue_effect (by decide) ?_
      refine Effect.step State.modAx_effect (by decide) ?_
      refine dite_intro (fun w_6 => ?_) (fun w_6 => ?_)
      · refine Effect.step State.applyRatio_effect (by decide) ?_
        exact Effect.refl _
      · exact Effect.refl _
    · refine ite_intro ?_ ?_
      · refine Effect.step State.takeDue_effect (by decide) ?_
        refine Effect.step State.modAx_effect (by decide) ?_
        refine dite_intro (fun w_7 => ?_) (fun w_7 => ?_)
        · refine Effect.step State.applyRatio_effect (by decide) ?_
          exact Effect.refl _
        · exact Effect.refl _
      · refine dite_intro (fun w_8 => ?_) (fun w_8 => ?_)
        · refine Effect.step State.modGear_effect (by decide) ?_
          refine Effect.step State.modAx_effect (by decide) ?_
          refine dite_intro (fun w_9 => ?_) (fun w_9 => ?_)
          · refine Effect.step State.applyRatio_effect (by decide) ?_
            exact Effect.refl _
          · exact Effect.refl _
        · refine Effect.step State.modCam_effect (by decide) ?_
          refine Effect.step State.modAx_effect (by decide) ?_
          refine dite_intro (fun w_10 => ?_) (fun w_10 => ?_)
          · refine Effect.step State.applyRatio_effect (by decide) ?_
            exact Effect.refl _
          · exact Effect.refl _

theorem State.groupTest_effect {m : Nat} {grp : Fin 4} {s : State} : Effect [.links, .seq, .pages, .ax, .gear, .hif, .posted] s (State.groupTest m grp s) := by
  unfold State.groupTest
  extract_lets l_1 tb_2 t_3
  clear_value l_1
  clear_value tb_2
  have ht_3 : Effect [.links, .seq, .pages, .ax, .gear, .hif, .posted] s t_3 := by
    unfold t_3
    refine Effect.forAll (fun a_4 t_5 => ?_) ?_
    · extract_lets x_6 p_7 pr_8 b_9 plan_10
      clear_value x_6
      clear_value p_7
      clear_value pr_8
      clear_value b_9
      clear_value plan_10
      refine Effect.step State.gearFlag_effect (by decide) ?_
      refine Effect.step State.modGear_effect (by decide) ?_
      refine Effect.step State.modAx_effect (by decide) ?_
      exact Effect.refl _
    · exact Effect.refl _
  clear_value t_3
  split
  · rename_i z_11
    exact Effect.refl _
  · rename_i z_12 z_13 z_14
    refine ite_intro ?_ ?_
    · refine Effect.step State.ev_effect (by decide) ?_
      assumption
    · exact Effect.refl _

theorem State.takePassed_effect {n : Nat} {s : State} : Effect [.links, .seq, .mem, .pages, .ax, .gear, .cam, .ptlRun, .prgx, .hif, .posted] s (State.takePassed n s) := by
  unfold State.takePassed
  refine Effect.forAll (fun a_1 t_2 => ?_) ?_
  · refine ite_intro ?_ ?_
    · refine Effect.step State.takeDue_effect (by decide) ?_
      exact Effect.refl _
    · exact Effect.refl _
  · exact Effect.refl _

theorem State.boundaryAt_effect {n : Nat} {s0 : State} : Effect [.links, .seq, .mem, .pages, .ax, .drv, .coil, .watch, .fb, .gear, .cam, .ptlRun, .prgx, .hif, .posted] s0 (State.boundaryAt n s0) := by
  unfold State.boundaryAt
  extract_lets axes_1 s1_2 s2_3 s3_4 s4_5 s5_6
  clear_value axes_1
  have hs1_2 : Effect [.links, .seq, .mem, .pages, .ax, .drv, .coil, .watch, .fb, .gear, .cam, .ptlRun, .prgx, .hif, .posted] s0 s1_2 := by
    unfold s1_2
    refine Effect.step State.takePassed_effect (by decide) ?_
    refine Effect.forAll (fun a_7 t_8 => ?_) ?_
    · refine Effect.step State.takeDue_effect (by decide) ?_
      exact Effect.refl _
    · exact Effect.refl _
  clear_value s1_2
  have hs2_3 : Effect [.links, .seq, .mem, .pages, .ax, .drv, .coil, .watch, .fb, .gear, .cam, .ptlRun, .prgx, .hif, .posted] s0 s2_3 := by
    unfold s2_3
    refine Effect.forAll (fun a_9 t_10 => ?_) ?_
    · refine Effect.step State.groupTest_effect (by decide) ?_
      exact Effect.refl _
    · assumption
  clear_value s2_3
  have hs3_4 : Effect [.links, .seq, .mem, .pages, .ax, .drv, .coil, .watch, .fb, .gear, .cam, .ptlRun, .prgx, .hif, .posted] s0 s3_4 := by
    unfold s3_4
    refine Effect.step State.takePassed_effect (by decide) ?_
    refine Effect.forAll (fun a_11 t_12 => ?_) ?_
    · refine Effect.step State.engineStep_effect (by decide) ?_
      exact Effect.refl _
    · assumption
  clear_value s3_4
  have hs4_5 : Effect [.links, .seq, .mem, .pages, .ax, .drv, .coil, .watch, .fb, .gear, .cam, .ptlRun, .prgx, .hif, .posted] s0 s4_5 := by
    unfold s4_5
    refine Effect.forAll (fun a_13 t_14 => ?_) ?_
    · refine Effect.step State.endPeriod_effect (by decide) ?_
      exact Effect.refl _
    · assumption
  clear_value s4_5
  have hs5_6 : Effect [.links, .seq, .mem, .pages, .ax, .drv, .coil, .watch, .fb, .gear, .cam, .ptlRun, .prgx, .hif, .posted] s0 s5_6 := by
    unfold s5_6
    refine Effect.forAll (fun a_15 t_16 => ?_) ?_
    · refine Effect.step State.endStallHalt_effect (by decide) ?_
      exact Effect.refl _
    · assumption
  clear_value s5_6
  refine Effect.forAll (fun a_17 t_18 => ?_) ?_
  · refine ite_intro ?_ ?_
    · refine Effect.step State.commitSetpoint_effect (by decide) ?_
      exact Effect.refl _
    · refine Effect.step State.planBoundary_effect (by decide) ?_
      exact Effect.refl _
  · assumption

theorem State.refSample_effect {n : Nat} {s : State} : Effect [.ptlRun] s (State.refSample n s) := by
  unfold State.refSample
  refine Effect.forAll (fun a_1 t_2 => ?_) ?_
  · extract_lets at_3
    clear_value at_3
    refine ite_intro ?_ ?_
    · refine Effect.put (x := t_2) ?_ (fun p hp => by cases p <;> first | exact absurd (by decide) hp | rfl) rfl ⟨rfl, rfl, rfl⟩ ⟨rfl, rfl⟩ rfl rfl
      exact Effect.refl _
    · exact Effect.refl _
  · exact Effect.refl _

theorem State.hostMove_effect {a : Fin 12} {bits : Nat} {kind : Nat} {neg : Bool} {s : State} : Effect [.pages, .clk, .ax, .hif, .posted] s (State.hostMove a bits kind neg s) := by
  unfold State.hostMove
  extract_lets w_1
  clear_value w_1
  refine Effect.trans ?_ (State.gated_effect (l := [.pages, .clk, .ax, .hif, .posted]) (by decide) ?_)
  · exact Effect.refl _
  · intro x2
    refine Effect.step State.moveCtl_effect (by decide) ?_
    exact Effect.refl _

theorem State.hostEngine_effect {e : Nat} {bits : Nat} {s : State} : Effect [.pages, .clk, .ax, .gear, .cam, .hif, .posted] s (State.hostEngine e bits s) := by
  unfold State.hostEngine
  refine Effect.trans ?_ (State.gated_effect (l := [.pages, .clk, .ax, .gear, .cam, .hif, .posted]) (by decide) ?_)
  · exact Effect.refl _
  · intro x1
    refine Effect.step State.engineCtl_effect (by decide) ?_
    exact Effect.refl _

end Sys2Proof.Machine
end

