-- ==== Sys2Proof/Laws/FeedbackEffect.lean ====
section
/-! SUPPORT. What each operation of Machine/Feedback.lean can do: the parts of the state it may change, and what it never takes
back (`Effect`, Safety.lean). -/

namespace Sys2Proof.Machine

theorem State.modFb_effect {c : Fin 14} {f : Fb → Fb} {s : State} : Effect [.fb] s (State.modFb c f s) := by
  unfold State.modFb
  refine Effect.put (x := s) ?_ (fun p hp => by cases p <;> first | exact absurd (by decide) hp | rfl) rfl ⟨rfl, rfl, rfl⟩ ⟨rfl, rfl⟩ rfl rfl
  exact Effect.refl _

theorem State.modFbx_effect {c : Fin 14} {f : FbAux → FbAux} {s : State} : Effect [.fbx] s (State.modFbx c f s) := by
  unfold State.modFbx
  refine Effect.put (x := s) ?_ (fun p hp => by cases p <;> first | exact absurd (by decide) hp | rfl) rfl ⟨rfl, rfl, rfl⟩ ⟨rfl, rfl⟩ rfl rfl
  exact Effect.refl _

theorem State.unlearnFb_effect {c : Fin 14} {s : State} : Effect [.ptlRun] s (State.unlearnFb c s) := by
  unfold State.unlearnFb
  split
  · rename_i z_1 z_2 z_3
    refine Effect.step State.unlearn_effect (by decide) ?_
    exact Effect.refl _
  · rename_i z_4 z_5
    exact Effect.refl _

theorem State.encDeclare_effect {c : Fin 14} {cause : Nat} {s : State} : Effect [.links, .seq, .mem, .pages, .ax, .fb, .ptlRun, .hif, .posted] s (State.encDeclare c cause s) := by
  unfold State.encDeclare
  extract_lets s1_1 s2_2 s3_3
  have hs1_1 : Effect [.links, .seq, .mem, .pages, .ax, .fb, .ptlRun, .hif, .posted] s s1_1 := by
    unfold s1_1
    refine Effect.step State.modFb_effect (by decide) ?_
    refine Effect.step State.fbFlag_effect (by decide) ?_
    refine Effect.step State.unlearnFb_effect (by decide) ?_
    exact Effect.refl _
  clear_value s1_1
  have hs2_2 : Effect [.links, .seq, .mem, .pages, .ax, .fb, .ptlRun, .hif, .posted] s s2_2 := by
    unfold s2_2
    refine Effect.step State.raise_effect (by decide) ?_
    assumption
  clear_value s2_2
  have hs3_3 : Effect [.links, .seq, .mem, .pages, .ax, .fb, .ptlRun, .hif, .posted] s s3_3 := by
    unfold s3_3
    split
    · rename_i z_4 z_5 z_6
      refine Effect.step State.statAxis_effect (by decide) ?_
      assumption
    · rename_i z_7 z_8
      assumption
  clear_value s3_3
  refine ite_intro ?_ ?_
  · exact Effect.refl _
  · refine Effect.step State.masterLost_effect (by decide) ?_
    assumption

theorem State.quadStep_effect {c : Fin 14} {d : Int} {t : Nat} {s : State} : Effect [.links, .seq, .pages, .fb, .gear, .hif, .posted] s (State.quadStep c d t s) := by
  unfold State.quadStep
  extract_lets f_1 hyst_2 s1_3
  clear_value f_1
  have hs1_3 : Effect [.links, .seq, .pages, .fb, .gear, .hif, .posted] s s1_3 := by
    unfold s1_3
    refine Effect.step State.modFb_effect (by decide) ?_
    exact Effect.refl _
  clear_value s1_3
  refine ite_intro ?_ ?_
  · refine Effect.step State.crossings_effect (by decide) ?_
    assumption
  · assumption

theorem State.quadIllegal_effect {c : Fin 14} {s : State} : Effect [.links, .seq, .mem, .pages, .ax, .fb, .ptlRun, .hif, .posted] s (State.quadIllegal c s) := by
  unfold State.quadIllegal
  extract_lets n_1 s1_2
  clear_value n_1
  have hs1_2 : Effect [.links, .seq, .mem, .pages, .ax, .fb, .ptlRun, .hif, .posted] s s1_2 := by
    unfold s1_2
    refine Effect.step State.fbFlag_effect (by decide) ?_
    refine Effect.step State.modFb_effect (by decide) ?_
    refine Effect.step State.unlearnFb_effect (by decide) ?_
    exact Effect.refl _
  clear_value s1_2
  refine ite_intro ?_ ?_
  · refine Effect.step State.encDeclare_effect (by decide) ?_
    assumption
  · assumption

theorem State.ssiGood_effect {c : Fin 14} {p : Int} {change : Int} {latch : Nat} {s : State} : Effect [.links, .seq, .pages, .ax, .drv, .fb, .fbx, .gear, .hif, .posted] s (State.ssiGood c p change latch s) := by
  unfold State.ssiGood
  extract_lets pg_1 x_2 ofs_3 old_4 d_5 hyst_6 s1_7 s2_8 s3_9 s4_10
  clear_value pg_1
  clear_value x_2
  clear_value ofs_3
  clear_value old_4
  clear_value d_5
  have hs1_7 : Effect [.links, .seq, .pages, .ax, .drv, .fb, .fbx, .gear, .hif, .posted] s s1_7 := by
    unfold s1_7
    split
    · rename_i z_11 z_12
      refine Effect.step State.modFb_effect (by decide) ?_
      exact Effect.refl _
    · rename_i z_13 z_14 z_15
      refine ite_intro ?_ ?_
      · refine Effect.step State.modFb_effect (by decide) ?_
        exact Effect.refl _
      · refine Effect.step State.modFb_effect (by decide) ?_
        exact Effect.refl _
  clear_value s1_7
  have hs2_8 : Effect [.links, .seq, .pages, .ax, .drv, .fb, .fbx, .gear, .hif, .posted] s s2_8 := by
    unfold s2_8
    refine Effect.step State.modFb_effect (by decide) ?_
    assumption
  clear_value s2_8
  have hs3_9 : Effect [.links, .seq, .pages, .ax, .drv, .fb, .fbx, .gear, .hif, .posted] s s3_9 := by
    unfold s3_9
    refine Effect.step State.modFbx_effect (by decide) ?_
    assumption
  clear_value s3_9
  have hs4_10 : Effect [.links, .seq, .pages, .ax, .drv, .fb, .fbx, .gear, .hif, .posted] s s4_10 := by
    unfold s4_10
    split
    · rename_i z_16 z_17 z_18
      refine ite_intro ?_ ?_
      · refine Effect.step State.crossings_effect (by decide) ?_
        assumption
      · assumption
    · rename_i z_19 z_20
      assumption
  clear_value s4_10
  split
  · rename_i z_21 z_22 z_23
    refine ite_intro ?_ ?_
    · refine Effect.step State.alignAxis_effect (by decide) ?_
      assumption
    · assumption
  · rename_i z_24 z_25
    assumption

theorem State.ssiBad_effect {c : Fin 14} {latch : Nat} {s : State} : Effect [.links, .seq, .mem, .pages, .ax, .fb, .fbx, .ptlRun, .hif, .posted] s (State.ssiBad c latch s) := by
  unfold State.ssiBad
  extract_lets s1_1
  have hs1_1 : Effect [.links, .seq, .mem, .pages, .ax, .fb, .fbx, .ptlRun, .hif, .posted] s s1_1 := by
    unfold s1_1
    refine Effect.step State.fbFlag_effect (by decide) ?_
    refine Effect.step State.modFbx_effect (by decide) ?_
    exact Effect.refl _
  clear_value s1_1
  refine ite_intro ?_ ?_
  · refine Effect.step State.encDeclare_effect (by decide) ?_
    assumption
  · assumption

theorem State.vencDeclare_effect {c : Fin 14} {s : State} : Effect [.links, .seq, .mem, .pages, .ax, .fb, .ptlRun, .hif, .posted] s (State.vencDeclare c s) := by
  unfold State.vencDeclare
  refine ite_intro ?_ ?_
  · refine Effect.step State.encDeclare_effect (by decide) ?_
    exact Effect.refl _
  · exact Effect.refl _

theorem State.stallStill_effect {c : Fin 14} {s : State} : Effect [.links, .seq, .pages, .ax, .drv, .coil, .watch, .fb, .ptlRun, .hif, .posted] s (State.stallStill c s) := by
  unfold State.stallStill
  split
  · rename_i z_1 z_2 z_3
    refine ite_intro ?_ ?_
    · refine Effect.step State.unhalt_effect (by decide) ?_
      exact Effect.refl _
    · exact Effect.refl _
  · rename_i z_4 z_5
    exact Effect.refl _

theorem State.fbFlagsWrite_effect {c : Fin 14} {w : Word} {s : State} : Effect [.links, .seq, .pages, .ax, .drv, .coil, .watch, .fb, .fbx, .ptlRun, .hif, .posted] s (State.fbFlagsWrite c w s) := by
  unfold State.fbFlagsWrite
  extract_lets f_1 low_2 w1_3 s1_4
  clear_value f_1
  clear_value low_2
  clear_value w1_3
  have hs1_4 : Effect [.links, .seq, .pages, .ax, .drv, .coil, .watch, .fb, .fbx, .ptlRun, .hif, .posted] s s1_4 := by
    unfold s1_4
    refine Effect.step State.modFb_effect (by decide) ?_
    exact Effect.refl _
  clear_value s1_4
  refine ite_intro ?_ ?_
  · refine Effect.step State.err_effect (by decide) ?_
    assumption
  · refine ite_intro ?_ ?_
    · refine Effect.step State.stallStill_effect (by decide) ?_
      refine Effect.step State.modFbx_effect (by decide) ?_
      refine Effect.step State.modFb_effect (by decide) ?_
      assumption
    · assumption

theorem State.presetTo_effect {c : Fin 14} {v : Int} {s : State} : Effect [.links, .seq, .pages, .ax, .drv, .coil, .watch, .fb, .ptlRun, .hif, .posted] s (State.presetTo c v s) := by
  unfold State.presetTo
  extract_lets s1_1
  have hs1_1 : Effect [.links, .seq, .pages, .ax, .drv, .coil, .watch, .fb, .ptlRun, .hif, .posted] s s1_1 := by
    unfold s1_1
    refine Effect.step State.modFb_effect (by decide) ?_
    exact Effect.refl _
  clear_value s1_1
  split
  · rename_i z_2 z_3 z_4
    refine Effect.step State.modAx_effect (by decide) ?_
    refine Effect.step State.alignAxis_effect (by decide) ?_
    refine Effect.step State.stallStill_effect (by decide) ?_
    assumption
  · rename_i z_5 z_6
    assumption

theorem State.presetWrite_effect {c : Fin 14} {w : Word} {s : State} : Effect [.links, .seq, .pages, .ax, .drv, .coil, .watch, .fb, .ptlRun, .hif, .posted] s (State.presetWrite c w s) := by
  unfold State.presetWrite
  extract_lets p_1 idle_2
  clear_value p_1
  clear_value idle_2
  refine ite_intro ?_ ?_
  · exact Effect.refl _
  · refine ite_intro ?_ ?_
    · refine Effect.step State.err_effect (by decide) ?_
      exact Effect.refl _
    · refine ite_intro ?_ ?_
      · refine Effect.step State.err_effect (by decide) ?_
        exact Effect.refl _
      · refine Effect.step State.presetTo_effect (by decide) ?_
        exact Effect.refl _

theorem State.fbRestart_effect {c : Fin 14} {s0 : State} : Effect [.links, .seq, .mem, .pages, .ax, .drv, .coil, .watch, .fb, .fbx, .ptlRun, .hif, .posted] s0 (State.fbRestart c s0) := by
  unfold State.fbRestart
  extract_lets s_1 s1_2
  have hs_1 : Effect [.links, .seq, .mem, .pages, .ax, .drv, .coil, .watch, .fb, .fbx, .ptlRun, .hif, .posted] s0 s_1 := by
    unfold s_1
    refine Effect.step State.vencDeclare_effect (by decide) ?_
    exact Effect.refl _
  clear_value s_1
  have hs1_2 : Effect [.links, .seq, .mem, .pages, .ax, .drv, .coil, .watch, .fb, .fbx, .ptlRun, .hif, .posted] s0 s1_2 := by
    unfold s1_2
    refine Effect.step State.modFbx_effect (by decide) ?_
    refine Effect.step State.modFb_effect (by decide) ?_
    assumption
  clear_value s1_2
  split
  · rename_i z_3 z_4 z_5 z_6 z_7
    extract_lets v_8 s2_9
    clear_value v_8
    have hs2_9 : Effect [.links, .seq, .mem, .pages, .ax, .drv, .coil, .watch, .fb, .fbx, .ptlRun, .hif, .posted] s0 s2_9 := by
      unfold s2_9
      refine Effect.step State.stallStill_effect (by decide) ?_
      refine Effect.step State.modFb_effect (by decide) ?_
      assumption
    clear_value s2_9
    refine Effect.step State.alignAxis_effect (by decide) ?_
    assumption
  · rename_i z_10 z_11 z_12
    refine Effect.step State.masterLost_effect (by decide) ?_
    assumption
  · rename_i z_13 z_14 z_15 z_16
    refine Effect.step State.stallStill_effect (by decide) ?_
    assumption

theorem State.modPrb_effect {c : Fin 14} {k : Fin 4} {f : Probe → Probe} {s : State} : Effect [.fbx] s (State.modPrb c k f s) := by
  unfold State.modPrb
  refine Effect.step State.modFbx_effect (by decide) ?_
  exact Effect.refl _

theorem State.probeSeen_effect {k : Fin 4} {rising : Bool} {te : Nat} {c : Fin 14} {s : State} : Effect [.pages, .fb, .fbx, .hif, .posted] s (State.probeSeen k rising te c s) := by
  unfold State.probeSeen
  extract_lets cfg_1 p_2 s1_3
  clear_value cfg_1
  clear_value p_2
  have hs1_3 : Effect [.pages, .fb, .fbx, .hif, .posted] s s1_3 := by
    unfold s1_3
    refine Effect.step State.modPrb_effect (by decide) ?_
    exact Effect.refl _
  clear_value s1_3
  refine ite_intro ?_ ?_
  · exact Effect.refl _
  · refine ite_intro ?_ ?_
    · assumption
    · refine ite_intro ?_ ?_
      · refine Effect.step State.fbFlag_effect (by decide) ?_
        assumption
      · refine Effect.step State.modPrb_effect (by decide) ?_
        assumption

theorem State.probeStore_effect {c : Fin 14} {k : Fin 4} {pos : Int} {te : Nat} {s : State} : Effect [.links, .seq, .pages, .fb, .fbx, .hif, .posted] s (State.probeStore c k pos te s) := by
  unfold State.probeStore
  extract_lets s1_1 s2_2
  have hs1_1 : Effect [.links, .seq, .pages, .fb, .fbx, .hif, .posted] s s1_1 := by
    unfold s1_1
    refine ite_intro ?_ ?_
    · refine Effect.step State.fbFlag_effect (by decide) ?_
      exact Effect.refl _
    · exact Effect.refl _
  clear_value s1_1
  have hs2_2 : Effect [.links, .seq, .pages, .fb, .fbx, .hif, .posted] s s2_2 := by
    unfold s2_2
    refine Effect.step State.fbFlag_effect (by decide) ?_
    refine Effect.step State.modPrb_effect (by decide) ?_
    assumption
  clear_value s2_2
  refine Effect.step State.ev_effect (by decide) ?_
  assumption

end Sys2Proof.Machine
end

