-- ==== Sys2Proof/Laws/PairTxEffect.lean ====
section
/-! SUPPORT. What each operation of Machine/PairTx.lean can do: the parts of the state it may change, and what it never takes
back (`Effect`, Safety.lean). -/

namespace Sys2Proof.Machine

theorem State.pairCount_effect {s : State} : Effect [.pair] s (State.pairCount s) := by
  unfold State.pairCount
  extract_lets src_1
  refine Effect.put (x := s) ?_ (fun p hp => by cases p <;> first | exact absurd (by decide) hp | rfl) rfl ⟨rfl, rfl, rfl⟩ ⟨rfl, rfl⟩ rfl rfl
  exact Effect.refl _

theorem State.pairSend_effect {kind : Nat} {payload : List Byte} {s : State} : Effect [.pair, .posted] s (State.pairSend kind payload s) := by
  unfold State.pairSend
  refine Effect.step State.pairCount_effect (by decide) ?_
  refine Effect.step State.post_effect (by decide) ?_
  exact Effect.refl _

theorem State.pairMsg_effect {m : PairMsg} {s : State} : Effect [.pair, .posted] s (State.pairMsg m s) := by
  unfold State.pairMsg
  refine Effect.step State.pairCount_effect (by decide) ?_
  refine Effect.step State.post_effect (by decide) ?_
  exact Effect.refl _

theorem State.sendHello_effect {s : State} : Effect [.pair, .posted] s (State.sendHello s) := by
  unfold State.sendHello
  refine Effect.step State.pairMsg_effect (by decide) ?_
  exact Effect.refl _

theorem State.helloChange_effect {s : State} : Effect [.pair, .posted] s (State.helloChange s) := by
  unfold State.helloChange
  extract_lets src_1
  refine ite_intro ?_ ?_
  · refine Effect.step State.sendHello_effect (by decide) ?_
    refine Effect.put (x := s) ?_ (fun p hp => by cases p <;> first | exact absurd (by decide) hp | rfl) rfl ⟨rfl, rfl, rfl⟩ ⟨rfl, rfl⟩ rfl rfl
    exact Effect.refl _
  · exact Effect.refl _

theorem State.sendQueue_effect {a : Fin 12} {s : State} : Effect [.pair, .posted] s (State.sendQueue a s) := by
  unfold State.sendQueue
  refine Effect.step State.pairMsg_effect (by decide) ?_
  exact Effect.refl _

theorem State.queueChange_effect {a : Fin 12} {s : State} : Effect [.pair, .pairx, .posted] s (State.queueChange a s) := by
  unfold State.queueChange
  extract_lets q_1 old_2 src_3
  clear_value q_1
  clear_value old_2
  refine ite_intro ?_ ?_
  · exact Effect.refl _
  · refine Effect.step State.sendQueue_effect (by decide) ?_
    refine Effect.put (x := s) ?_ (fun p hp => by cases p <;> first | exact absurd (by decide) hp | rfl) rfl ⟨rfl, rfl, rfl⟩ ⟨rfl, rfl⟩ rfl rfl
    exact Effect.refl _

theorem State.sendMotion_effect {s : State} : Effect [.pair, .pairx, .posted] s (State.sendMotion s) := by
  unfold State.sendMotion
  extract_lets t_1
  have ht_1 : Effect [.pair, .pairx, .posted] s t_1 := by
    unfold t_1
    refine Effect.forAll (fun a_2 t_3 => ?_) ?_
    · refine Effect.step State.queueChange_effect (by decide) ?_
      exact Effect.refl _
    · exact Effect.refl _
  clear_value t_1
  refine ite_intro ?_ ?_
  · exact Effect.refl _
  · refine Effect.step State.pairSend_effect (by decide) ?_
    assumption

theorem State.sendImage_effect {s : State} : Effect [.pair, .posted] s (State.sendImage s) := by
  unfold State.sendImage
  extract_lets l_1 frag_2
  clear_value l_1
  have hfrag_2 : ∀ y0 y1, Effect [.pair, .posted] y1 (frag_2 y0 y1) := by
    intro y3 y4
    unfold frag_2
    refine Effect.step State.pairSend_effect (by decide) ?_
    exact Effect.refl _
  clear_value frag_2
  refine ite_intro ?_ ?_
  · exact Effect.refl _
  · refine Effect.trans ?_ (hfrag_2 _ _)
    exact hfrag_2 _ _

theorem State.sendLoads_effect {s : State} : Effect [.pair, .posted] s (State.sendLoads s) := by
  unfold State.sendLoads
  refine ite_intro ?_ ?_
  · exact Effect.refl _
  · refine Effect.step State.pairSend_effect (by decide) ?_
    exact Effect.refl _

theorem State.sendEnv_effect {p : Fin 8} {leaf : Nat} {words : List Word} {s : State} : Effect [.pair, .posted] s (State.sendEnv p leaf words s) := by
  unfold State.sendEnv
  refine ite_intro ?_ ?_
  · exact Effect.refl _
  · refine Effect.step State.pairSend_effect (by decide) ?_
    exact Effect.refl _

end Sys2Proof.Machine
end

