-- ==== Sys2Proof/Laws/LoadsEffect.lean ====
section
/-! SUPPORT. What each operation of Machine/Loads.lean can do: the parts of the state it may change, and what it never takes
back (`Effect`, Safety.lean). -/

namespace Sys2Proof.Machine

theorem State.modLsw_effect {c : Fin 24} {f : Lsw → Lsw} {s : State} : Effect [.lsw] s (State.modLsw c f s) := by
  unfold State.modLsw
  refine Effect.put (x := s) ?_ (fun p hp => by cases p <;> first | exact absurd (by decide) hp | rfl) rfl ⟨rfl, rfl, rfl⟩ ⟨rfl, rfl⟩ rfl rfl
  exact Effect.refl _

theorem State.modLswx_effect {c : Fin 24} {f : LswAux → LswAux} {s : State} : Effect [.lswx] s (State.modLswx c f s) := by
  unfold State.modLswx
  refine Effect.put (x := s) ?_ (fun p hp => by cases p <;> first | exact absurd (by decide) hp | rfl) rfl ⟨rfl, rfl, rfl⟩ ⟨rfl, rfl⟩ rfl rfl
  exact Effect.refl _

theorem State.takePhase_effect {c : Fin 24} {s : State} : Effect [.lsw, .lswx] s (State.takePhase c s) := by
  unfold State.takePhase
  refine Effect.step State.modLsw_effect (by decide) ?_
  refine Effect.step State.modLswx_effect (by decide) ?_
  exact Effect.refl _

theorem State.setOut_effect {c : Fin 24} {target : Nat} {s : State} : Effect [.lsw, .lswx] s (State.setOut c target s) := by
  unfold State.setOut
  extract_lets x_1
  clear_value x_1
  refine ite_intro ?_ ?_
  · exact Effect.refl _
  · refine ite_intro ?_ ?_
    · refine Effect.step State.modLswx_effect (by decide) ?_
      refine Effect.step State.modLsw_effect (by decide) ?_
      exact Effect.refl _
    · refine ite_intro ?_ ?_
      · refine Effect.step State.modLswx_effect (by decide) ?_
        refine Effect.step State.modLsw_effect (by decide) ?_
        exact Effect.refl _
      · refine Effect.step State.modLsw_effect (by decide) ?_
        exact Effect.refl _

theorem State.settle_effect {c : Fin 24} {s0 : State} : Effect [.pages, .lsw, .lswx, .hif, .posted] s0 (State.settle c s0) := by
  unfold State.settle
  extract_lets want_1 s1_2 x1_3 s_4 held_5 run_6 ran_7 duty_8 s2_9
  clear_value want_1
  have hs1_2 : Effect [.pages, .lsw, .lswx, .hif, .posted] s0 s1_2 := by
    unfold s1_2
    refine ite_intro ?_ ?_
    · refine Effect.step State.modLsw_effect (by decide) ?_
      exact Effect.refl _
    · exact Effect.refl _
  clear_value s1_2
  clear_value x1_3
  have hs_4 : Effect [.pages, .lsw, .lswx, .hif, .posted] s0 s_4 := by
    unfold s_4
    refine ite_intro ?_ ?_
    · refine Effect.step State.lswFlag_effect (by decide) ?_
      refine Effect.step State.modLsw_effect (by decide) ?_
      assumption
    · assumption
  clear_value s_4
  clear_value held_5
  clear_value run_6
  clear_value ran_7
  clear_value duty_8
  have hs2_9 : Effect [.pages, .lsw, .lswx, .hif, .posted] s0 s2_9 := by
    unfold s2_9
    refine Effect.step State.setOut_effect (by decide) ?_
    refine Effect.step State.modLswx_effect (by decide) ?_
    refine Effect.step State.modLsw_effect (by decide) ?_
    assumption
  clear_value s2_9
  refine ite_intro ?_ ?_
  · refine Effect.step State.takePhase_effect (by decide) ?_
    assumption
  · assumption

theorem State.settleAll_effect {s : State} : Effect [.pages, .lsw, .lswx, .hif, .posted] s (State.settleAll s) := by
  unfold State.settleAll
  refine Effect.forAll (fun a_1 t_2 => ?_) ?_
  · refine Effect.step State.settle_effect (by decide) ?_
    exact Effect.refl _
  · exact Effect.refl _

theorem State.retry_effect {c : Fin 24} {s : State} : Effect [.pages, .lsw, .lswx, .hif, .posted] s (State.retry c s) := by
  unfold State.retry
  extract_lets x_1
  clear_value x_1
  refine ite_intro ?_ ?_
  · exact Effect.refl _
  · refine ite_intro ?_ ?_
    · refine Effect.step State.modLsw_effect (by decide) ?_
      exact Effect.refl _
    · refine Effect.step State.settle_effect (by decide) ?_
      refine Effect.step State.modLsw_effect (by decide) ?_
      exact Effect.refl _

theorem State.lswTrip_effect {c : Fin 24} {cause : Nat} {s : State} : Effect [.links, .seq, .pages, .lsw, .lswx, .hif, .posted] s (State.lswTrip c cause s) := by
  unfold State.lswTrip
  extract_lets s1_1 k_2 s2_3
  have hs1_1 : Effect [.links, .seq, .pages, .lsw, .lswx, .hif, .posted] s s1_1 := by
    unfold s1_1
    refine Effect.step State.lswFlag_effect (by decide) ?_
    refine Effect.step State.modLswx_effect (by decide) ?_
    refine Effect.step State.modLsw_effect (by decide) ?_
    exact Effect.refl _
  clear_value s1_1
  clear_value k_2
  have hs2_3 : Effect [.links, .seq, .pages, .lsw, .lswx, .hif, .posted] s s2_3 := by
    unfold s2_3
    refine Effect.step State.ev_effect (by decide) ?_
    assumption
  clear_value s2_3
  refine ite_intro ?_ ?_
  · exact Effect.refl _
  · refine ite_intro ?_ ?_
    · refine Effect.step State.settle_effect (by decide) ?_
      refine Effect.step State.ev_effect (by decide) ?_
      refine Effect.step State.modLswx_effect (by decide) ?_
      refine Effect.step State.lswFlag_effect (by decide) ?_
      assumption
    · refine Effect.step State.settle_effect (by decide) ?_
      refine Effect.step State.modLsw_effect (by decide) ?_
      assumption

theorem State.clampAdd_effect {c : Fin 24} {uj : Nat} {s : State} : Effect [.links, .seq, .pages, .lsw, .lswx, .hif, .posted] s (State.clampAdd c uj s) := by
  unfold State.clampAdd
  extract_lets b_1 s1_2
  clear_value b_1
  have hs1_2 : Effect [.links, .seq, .pages, .lsw, .lswx, .hif, .posted] s s1_2 := by
    unfold s1_2
    refine Effect.step State.modLswx_effect (by decide) ?_
    exact Effect.refl _
  clear_value s1_2
  refine ite_intro ?_ ?_
  · refine Effect.step State.settle_effect (by decide) ?_
    refine Effect.step State.ev_effect (by decide) ?_
    refine Effect.step State.lswFlag_effect (by decide) ?_
    assumption
  · assumption

theorem State.lswFlagsWrite_effect {c : Fin 24} {w : Word} {s : State} : Effect [.pages, .lsw, .lswx, .hif, .posted] s (State.lswFlagsWrite c w s) := by
  unfold State.lswFlagsWrite
  extract_lets f_1 stays_2 s0_3 s1_4 s2_5
  clear_value f_1
  clear_value stays_2
  have hs0_3 : Effect [.pages, .lsw, .lswx, .hif, .posted] s s0_3 := by
    unfold s0_3
    refine ite_intro ?_ ?_
    · refine Effect.step State.err_effect (by decide) ?_
      exact Effect.refl _
    · exact Effect.refl _
  clear_value s0_3
  have hs1_4 : Effect [.pages, .lsw, .lswx, .hif, .posted] s s1_4 := by
    unfold s1_4
    refine Effect.step State.modLsw_effect (by decide) ?_
    assumption
  clear_value s1_4
  have hs2_5 : Effect [.pages, .lsw, .lswx, .hif, .posted] s s2_5 := by
    unfold s2_5
    refine ite_intro ?_ ?_
    · refine Effect.step State.modLsw_effect (by decide) ?_
      assumption
    · assumption
  clear_value s2_5
  refine Effect.step State.settle_effect (by decide) ?_
  assumption

theorem State.olWrite_effect {c : Fin 24} {w : Word} {s : State} : Effect [.lsw, .lswx] s (State.olWrite c w s) := by
  unfold State.olWrite
  refine ite_intro ?_ ?_
  · refine Effect.step State.modLswx_effect (by decide) ?_
    exact Effect.refl _
  · refine Effect.step State.modLsw_effect (by decide) ?_
    exact Effect.refl _

theorem State.lswSample_effect {c : Fin 24} {e : Nat × Nat × Int} {s : State} : Effect [.links, .seq, .pages, .lsw, .lswx, .hif, .posted] s (State.lswSample c e s) := by
  unfold State.lswSample
  extract_lets s1_1
  have hs1_1 : Effect [.links, .seq, .pages, .lsw, .lswx, .hif, .posted] s s1_1 := by
    unfold s1_1
    refine Effect.step State.modLswx_effect (by decide) ?_
    exact Effect.refl _
  clear_value s1_1
  refine ite_intro ?_ ?_
  · refine Effect.step State.modLsw_effect (by decide) ?_
    assumption
  · refine ite_intro ?_ ?_
    · refine Effect.step State.lswTrip_effect (by decide) ?_
      assumption
    · refine ite_intro ?_ ?_
      · refine Effect.step State.modLswx_effect (by decide) ?_
        refine Effect.step State.modLsw_effect (by decide) ?_
        assumption
      · refine Effect.step State.modLswx_effect (by decide) ?_
        refine Effect.step State.modLsw_effect (by decide) ?_
        assumption

theorem State.lswSamples_effect {c : Fin 24} {l : List (Nat × Int)} {s : State} : Effect [.links, .seq, .pages, .lsw, .lswx, .hif, .posted] s (State.lswSamples c l s) := by
  unfold State.lswSamples
  extract_lets n_1 at_2 s1_3 w_4 d_5
  clear_value n_1
  clear_value at_2
  have hs1_3 : Effect [.links, .seq, .pages, .lsw, .lswx, .hif, .posted] s s1_3 := by
    unfold s1_3
    refine Effect.foldl (fun t_7 a_6 => ?_) _ ?_
    · refine Effect.step State.lswSample_effect (by decide) ?_
      exact Effect.refl _
    · exact Effect.refl _
  clear_value s1_3
  clear_value w_4
  clear_value d_5
  refine Effect.step State.modLswx_effect (by decide) ?_
  refine Effect.step State.modLsw_effect (by decide) ?_
  assumption

theorem State.gateLsw_effect {p : Nat} {s : State} : Effect [.pages, .lsw, .lswx, .hif, .posted] s (State.gateLsw p s) := by
  unfold State.gateLsw
  refine Effect.forAll (fun a_1 t_2 => ?_) ?_
  · extract_lets hold_3
    clear_value hold_3
    refine dite_intro (fun w_4 => ?_) (fun w_4 => ?_)
    · extract_lets c_5
      clear_value c_5
      refine Effect.step State.settle_effect (by decide) ?_
      refine Effect.step State.modLsw_effect (by decide) ?_
      exact Effect.refl _
    · exact Effect.refl _
  · exact Effect.refl _

theorem State.selectSense_effect {s : State} : Effect [.lswg] s (State.selectSense s) := by
  unfold State.selectSense
  extract_lets w_1 src_2
  clear_value w_1
  refine Effect.put (x := s) ?_ (fun p hp => by cases p <;> first | exact absurd (by decide) hp | rfl) rfl ⟨rfl, rfl, rfl⟩ ⟨rfl, rfl⟩ rfl rfl
  exact Effect.refl _

theorem State.lswUv_effect {on : Bool} {s : State} : Effect [.pages, .lsw, .lswx, .lswg, .hif, .posted] s (State.lswUv on s) := by
  unfold State.lswUv
  extract_lets src_1 s1_2 s1_3
  have hs1_2 : Effect [.pages, .lsw, .lswx, .lswg, .hif, .posted] s s1_2 := by
    unfold s1_2
    refine Effect.step State.lswgFlag_effect (by decide) ?_
    refine Effect.put (x := s) ?_ (fun p hp => by cases p <;> first | exact absurd (by decide) hp | rfl) rfl ⟨rfl, rfl, rfl⟩ ⟨rfl, rfl⟩ rfl rfl
    exact Effect.refl _
  clear_value s1_2
  have hs1_3 : Effect [.pages, .lsw, .lswx, .lswg, .hif, .posted] s s1_3 := by
    unfold s1_3
    refine Effect.step State.settleAll_effect (by decide) ?_
    refine Effect.put (x := s) ?_ (fun p hp => by cases p <;> first | exact absurd (by decide) hp | rfl) rfl ⟨rfl, rfl, rfl⟩ ⟨rfl, rfl⟩ rfl rfl
    exact Effect.refl _
  clear_value s1_3
  refine ite_intro ?_ ?_
  · refine Effect.forAll (fun a_4 t_5 => ?_) ?_
    · refine Effect.step State.modLsw_effect (by decide) ?_
      exact Effect.refl _
    · refine Effect.step State.settleAll_effect (by decide) ?_
      assumption
  · refine Effect.forAll (fun a_6 t_7 => ?_) ?_
    · refine Effect.step State.retry_effect (by decide) ?_
      refine Effect.step State.modLswx_effect (by decide) ?_
      exact Effect.refl _
    · assumption

theorem State.lswSend_effect {mode : Nat} {s : State} : Effect [.lsw, .lswg] s (State.lswSend mode s) := by
  unfold State.lswSend
  extract_lets body_1 src_2 s1_3
  clear_value body_1
  have hs1_3 : Effect [.lsw, .lswg] s s1_3 := by
    unfold s1_3
    refine Effect.put (x := s) ?_ (fun p hp => by cases p <;> first | exact absurd (by decide) hp | rfl) rfl ⟨rfl, rfl, rfl⟩ ⟨rfl, rfl⟩ rfl rfl
    exact Effect.refl _
  clear_value s1_3
  refine ite_intro ?_ ?_
  · exact Effect.refl _
  · refine ite_intro ?_ ?_
    · refine Effect.forAll (fun a_4 t_5 => ?_) ?_
      · refine Effect.step State.modLsw_effect (by decide) ?_
        exact Effect.refl _
      · assumption
    · assumption

theorem State.lswPop_effect {s : State} : Effect [.lswg] s (State.lswPop s) := by
  unfold State.lswPop
  extract_lets src_1
  refine Effect.put (x := s) ?_ (fun p hp => by cases p <;> first | exact absurd (by decide) hp | rfl) rfl ⟨rfl, rfl, rfl⟩ ⟨rfl, rfl⟩ rfl rfl
  exact Effect.refl _

theorem State.wdtTo_effect {w : WdtState} {s : State} : Effect [.lswg] s (State.wdtTo w s) := by
  unfold State.wdtTo
  extract_lets src_1
  refine Effect.put (x := s) ?_ (fun p hp => by cases p <;> first | exact absurd (by decide) hp | rfl) rfl ⟨rfl, rfl, rfl⟩ ⟨rfl, rfl⟩ rfl rfl
  exact Effect.refl _

theorem State.lswFailsafe_effect {cause : Nat} {s : State} : Effect [.links, .seq, .pages, .lswg, .hif, .posted] s (State.lswFailsafe cause s) := by
  unfold State.lswFailsafe
  refine Effect.step State.ev_effect (by decide) ?_
  refine Effect.step State.lswgFlag_effect (by decide) ?_
  exact Effect.refl _

theorem State.wdtExpired_effect {s : State} : Effect [.links, .seq, .pages, .lswg, .hif, .posted] s (State.wdtExpired s) := by
  unfold State.wdtExpired
  extract_lets src_1
  refine Effect.step State.ev_effect (by decide) ?_
  refine Effect.step State.lswgFlag_effect (by decide) ?_
  refine Effect.put (x := s) ?_ (fun p hp => by cases p <;> first | exact absurd (by decide) hp | rfl) rfl ⟨rfl, rfl, rfl⟩ ⟨rfl, rfl⟩ rfl rfl
  exact Effect.refl _

theorem State.failWdt_effect {s : State} : Effect [.links, .seq, .pages, .lsw, .lswx, .lswg, .hif, .posted] s (State.failWdt s) := by
  unfold State.failWdt
  extract_lets src_1
  refine Effect.step State.settleAll_effect (by decide) ?_
  refine Effect.step State.lswFailsafe_effect (by decide) ?_
  refine Effect.put (x := s) ?_ (fun p hp => by cases p <;> first | exact absurd (by decide) hp | rfl) rfl ⟨rfl, rfl, rfl⟩ ⟨rfl, rfl⟩ rfl rfl
  exact Effect.refl _

theorem State.holdWdt_effect {s : State} : Effect [.links, .seq, .pages, .lsw, .lswx, .lswg, .hif, .posted] s (State.holdWdt s) := by
  unfold State.holdWdt
  extract_lets src_1 s1_2
  have hs1_2 : Effect [.links, .seq, .pages, .lsw, .lswx, .lswg, .hif, .posted] s s1_2 := by
    unfold s1_2
    refine Effect.put (x := s) ?_ (fun p hp => by cases p <;> first | exact absurd (by decide) hp | rfl) rfl ⟨rfl, rfl, rfl⟩ ⟨rfl, rfl⟩ rfl rfl
    exact Effect.refl _
  clear_value s1_2
  refine ite_intro ?_ ?_
  · refine Effect.step State.failWdt_effect (by decide) ?_
    refine Effect.step State.wdtExpired_effect (by decide) ?_
    assumption
  · refine Effect.step State.wdtExpired_effect (by decide) ?_
    assumption

theorem State.wdtEnd_effect {s : State} : Effect [.tb] s (State.wdtEnd s) := by
  unfold State.wdtEnd
  refine Effect.step State.to_effect (by decide) ?_
  exact Effect.refl _

theorem State.lswSet_effect {c : Fin 24} {st : Nat} {duty : Nat} {s : State} : Effect [.lsw] s (State.lswSet c st duty s) := by
  unfold State.lswSet
  refine Effect.step State.modLsw_effect (by decide) ?_
  exact Effect.refl _

theorem State.lswDeliver_effect {s : State} : Effect [.lsw, .lswg, .pair, .posted] s (State.lswDeliver s) := by
  unfold State.lswDeliver
  refine Effect.step State.sendLoads_effect (by decide) ?_
  refine Effect.step State.lswSend_effect (by decide) ?_
  exact Effect.refl _

theorem State.lswCmdWrite_effect {wr : Writer} {c : Fin 24} {w : Word} {s : State} : Effect [.pages, .lsw, .lswg, .hif, .pair, .posted] s (State.lswCmdWrite wr c w s) := by
  unfold State.lswCmdWrite
  split
  · rename_i z_1 z_2 z_3
    refine Effect.step State.err_effect (by decide) ?_
    exact Effect.refl _
  · rename_i z_4 z_5
    refine ite_intro ?_ ?_
    · refine Effect.step State.err_effect (by decide) ?_
      exact Effect.refl _
    · refine Effect.step State.lswDeliver_effect (by decide) ?_
      refine Effect.step State.lswSet_effect (by decide) ?_
      exact Effect.refl _

theorem State.lswDutyWrite_effect {wr : Writer} {c : Fin 24} {w : Word} {s : State} : Effect [.pages, .lsw, .lswg, .hif, .pair, .posted] s (State.lswDutyWrite wr c w s) := by
  unfold State.lswDutyWrite
  split
  · rename_i z_1 z_2 z_3
    refine Effect.step State.err_effect (by decide) ?_
    exact Effect.refl _
  · rename_i z_4 z_5
    refine Effect.step State.lswDeliver_effect (by decide) ?_
    refine Effect.step State.lswSet_effect (by decide) ?_
    exact Effect.refl _

end Sys2Proof.Machine
end

