-- ==== Sys2Proof/Laws/CanEffect.lean ====
section
/-! SUPPORT. What each operation of Machine/Can.lean can do: the parts of the state it may change, and what it never takes
back (`Effect`, Safety.lean). -/

namespace Sys2Proof.Machine

theorem State.modCan_effect {n : Fin 4} {f : Can → Can} {s : State} : Effect [.can] s (State.modCan n f s) := by
  unfold State.modCan
  refine Effect.put (x := s) ?_ (fun p hp => by cases p <;> first | exact absurd (by decide) hp | rfl) rfl ⟨rfl, rfl, rfl⟩ ⟨rfl, rfl⟩ rfl rfl
  exact Effect.refl _

theorem State.modCanc_effect {n : Fin 4} {f : CanCnt → CanCnt} {s : State} : Effect [.canc] s (State.modCanc n f s) := by
  unfold State.modCanc
  refine Effect.put (x := s) ?_ (fun p hp => by cases p <;> first | exact absurd (by decide) hp | rfl) rfl ⟨rfl, rfl, rfl⟩ ⟨rfl, rfl⟩ rfl rfl
  exact Effect.refl _

theorem State.canAttempt_effect {n : Fin 4} {s : State} : Effect [.can] s (State.canAttempt n s) := by
  unfold State.canAttempt
  refine ite_intro ?_ ?_
  · refine Effect.step State.modCan_effect (by decide) ?_
    exact Effect.refl _
  · exact Effect.refl _

theorem State.canStore_effect {n : Fin 4} {w0 : Word} {w1 : Word} {data : List Byte} {own : Bool} {sof : Nat} {val : Nat} {s : State} : Effect [.links, .seq, .pages, .can, .canc, .hif, .posted] s (State.canStore n w0 w1 data own sof val s) := by
  unfold State.canStore
  extract_lets c_1 host_2 prg_3 full_4 unread_5 s1_6 len_7
  clear_value c_1
  clear_value host_2
  clear_value prg_3
  clear_value full_4
  clear_value unread_5
  have hs1_6 : Effect [.links, .seq, .pages, .can, .canc, .hif, .posted] s s1_6 := by
    unfold s1_6
    refine Effect.step State.modCanc_effect (by decide) ?_
    exact Effect.refl _
  clear_value s1_6
  clear_value len_7
  refine ite_intro ?_ ?_
  · refine ite_intro ?_ ?_
    · assumption
    · refine Effect.step State.canFlag_effect (by decide) ?_
      refine Effect.step State.modCan_effect (by decide) ?_
      assumption
  · split
    · rename_i z_8 z_9 z_10 z_11 z_12
      extract_lets f_13 c2_14 s1_15 s2_16
      clear_value f_13
      clear_value c2_14
      have hs1_15 : Effect [.links, .seq, .pages, .can, .canc, .hif, .posted] s s1_15 := by
        unfold s1_15
        refine Effect.step State.modCanc_effect (by decide) ?_
        refine Effect.step State.modCan_effect (by decide) ?_
        exact Effect.refl _
      clear_value s1_15
      have hs2_16 : Effect [.links, .seq, .pages, .can, .canc, .hif, .posted] s s2_16 := by
        unfold s2_16
        refine ite_intro ?_ ?_
        · refine Effect.step State.canFlag_effect (by decide) ?_
          assumption
        · assumption
      clear_value s2_16
      refine Effect.step State.raiseAt_effect (by decide) ?_
      assumption

theorem State.windowRead_effect {n : Fin 4} {w : Nat} {s : State} : Effect [.can] s (State.windowRead n w s) := by
  unfold State.windowRead
  extract_lets c_1
  clear_value c_1
  split
  · rename_i z_2 z_3
    exact Effect.refl _
  · rename_i z_4 z_5 z_6 z_7
    extract_lets last_8
    clear_value last_8
    refine ite_intro ?_ ?_
    · exact Effect.refl _
    · refine ite_intro ?_ ?_
      · refine Effect.step State.modCan_effect (by decide) ?_
        exact Effect.refl _
      · refine Effect.step State.modCan_effect (by decide) ?_
        exact Effect.refl _

theorem State.canConfine_effect {n : Fin 4} {s : State} : Effect [.links, .seq, .pages, .can, .canc, .hif, .posted] s (State.canConfine n s) := by
  unfold State.canConfine
  extract_lets c_1 to_2 s1_3 s2_4
  clear_value c_1
  clear_value to_2
  have hs1_3 : Effect [.links, .seq, .pages, .can, .canc, .hif, .posted] s s1_3 := by
    unfold s1_3
    refine Effect.step State.modCan_effect (by decide) ?_
    exact Effect.refl _
  clear_value s1_3
  have hs2_4 : Effect [.links, .seq, .pages, .can, .canc, .hif, .posted] s s2_4 := by
    unfold s2_4
    split
    · rename_i z_5
      refine Effect.step State.canFlag_effect (by decide) ?_
      assumption
    · rename_i z_6
      refine Effect.step State.modCanc_effect (by decide) ?_
      refine Effect.step State.canFlag_effect (by decide) ?_
      assumption
    · rename_i z_7
      assumption
    · rename_i z_8
      assumption
  clear_value s2_4
  refine ite_intro ?_ ?_
  · exact Effect.refl _
  · refine ite_intro ?_ ?_
    · exact Effect.refl _
    · refine Effect.step State.ev_effect (by decide) ?_
      assumption

theorem State.modFlight_effect {i : Nat} {ctr : Nat} {f : Nat × Option Nat → Option (Nat × Option Nat)} {s : State} : Effect [.stn] s (State.modFlight i ctr f s) := by
  unfold State.modFlight
  refine dite_intro (fun w_1 => ?_) (fun w_1 => ?_)
  · refine Effect.put (x := s) ?_ (fun p hp => by cases p <;> first | exact absurd (by decide) hp | rfl) rfl ⟨rfl, rfl, rfl⟩ ⟨rfl, rfl⟩ rfl rfl
    exact Effect.refl _
  · exact Effect.refl _

theorem State.stnUnsent_effect {f : TxFrame} {s : State} : Effect [.stn] s (State.stnUnsent f s) := by
  unfold State.stnUnsent
  split
  · rename_i z_1 z_2 z_3
    refine Effect.step State.modFlight_effect (by decide) ?_
    exact Effect.refl _
  · rename_i z_4 z_5
    exact Effect.refl _

theorem State.canInit_effect {n : Fin 4} {s : State} : Effect [.can] s (State.canInit n s) := by
  unfold State.canInit
  refine Effect.step State.modCan_effect (by decide) ?_
  exact Effect.refl _

theorem State.canAfter_effect {n : Fin 4} {s : State} : Effect [.can] s (State.canAfter n s) := by
  unfold State.canAfter
  refine ite_intro ?_ ?_
  · refine Effect.step State.canInit_effect (by decide) ?_
    exact Effect.refl _
  · refine Effect.step State.canAttempt_effect (by decide) ?_
    exact Effect.refl _

theorem State.txFailed_effect {n : Fin 4} {f : TxFrame} {cause : Nat} {s : State} : Effect [.links, .seq, .pages, .can, .canc, .hif, .posted] s (State.txFailed n f cause s) := by
  unfold State.txFailed
  refine Effect.step State.ev_effect (by decide) ?_
  refine Effect.step State.modCanc_effect (by decide) ?_
  refine Effect.step State.canFlag_effect (by decide) ?_
  exact Effect.refl _

theorem State.canAfterRx_effect {n : Fin 4} {s : State} : Effect [.can] s (State.canAfterRx n s) := by
  unfold State.canAfterRx
  refine ite_intro ?_ ?_
  · exact Effect.refl _
  · refine Effect.step State.canAfter_effect (by decide) ?_
    exact Effect.refl _

theorem State.attemptFail_effect {n : Fin 4} {cause : Nat} {s : State} : Effect [.links, .seq, .pages, .can, .canc, .stn, .hif, .posted] s (State.attemptFail n cause s) := by
  unfold State.attemptFail
  extract_lets c_1 s1_2
  clear_value c_1
  have hs1_2 : Effect [.links, .seq, .pages, .can, .canc, .stn, .hif, .posted] s s1_2 := by
    unfold s1_2
    refine Effect.step State.modCan_effect (by decide) ?_
    exact Effect.refl _
  clear_value s1_2
  split
  · rename_i z_3 z_4
    exact Effect.refl _
  · rename_i z_5 z_6 z_7 z_8
    extract_lets s2_9 s3_10
    have hs2_9 : Effect [.links, .seq, .pages, .can, .canc, .stn, .hif, .posted] s s2_9 := by
      unfold s2_9
      refine Effect.step State.stnUnsent_effect (by decide) ?_
      refine Effect.step State.modCan_effect (by decide) ?_
      assumption
    clear_value s2_9
    have hs3_10 : Effect [.links, .seq, .pages, .can, .canc, .stn, .hif, .posted] s s3_10 := by
      unfold s3_10
      refine ite_intro ?_ ?_
      · refine Effect.step State.canFlag_effect (by decide) ?_
        assumption
      · assumption
    clear_value s3_10
    refine ite_intro ?_ ?_
    · exact Effect.refl _
    · refine ite_intro ?_ ?_
      · assumption
      · refine ite_intro ?_ ?_
        · refine Effect.step State.txFailed_effect (by decide) ?_
          assumption
        · assumption

theorem State.canError_effect {n : Fin 4} {kind : Nat} {tx : Bool} {more : Bool} {spare : Bool} {s : State} : Effect [.links, .seq, .pages, .can, .canc, .stn, .hif, .posted] s (State.canError n kind tx more spare s) := by
  unfold State.canError
  extract_lets c_1 s1_2 spared_3 s2_4 off_5
  clear_value c_1
  have hs1_2 : Effect [.links, .seq, .pages, .can, .canc, .stn, .hif, .posted] s s1_2 := by
    unfold s1_2
    refine Effect.step State.modCanc_effect (by decide) ?_
    refine Effect.step State.modCan_effect (by decide) ?_
    exact Effect.refl _
  clear_value s1_2
  clear_value spared_3
  have hs2_4 : Effect [.links, .seq, .pages, .can, .canc, .stn, .hif, .posted] s s2_4 := by
    unfold s2_4
    refine Effect.step State.modCan_effect (by decide) ?_
    assumption
  clear_value s2_4
  clear_value off_5
  refine ite_intro ?_ ?_
  · exact Effect.refl _
  · refine ite_intro ?_ ?_
    · refine Effect.step State.canAfterRx_effect (by decide) ?_
      assumption
    · refine Effect.step State.canAfterRx_effect (by decide) ?_
      refine Effect.step State.canConfine_effect (by decide) ?_
      refine ite_intro ?_ ?_
      · refine Effect.step State.attemptFail_effect (by decide) ?_
        assumption
      · assumption

theorem State.canReceive_effect {n : Fin 4} {w0 : Word} {w1 : Word} {data : List Byte} {sof : Nat} {s : State} : Effect [.links, .seq, .pages, .can, .canc, .hif, .posted, .fresh] s (State.canReceive n w0 w1 data sof s) := by
  unfold State.canReceive
  extract_lets d_1 t_2
  have hd_1 : EffectSnd [.links, .seq, .pages, .can, .canc, .hif, .posted, .fresh] s d_1 := by
    unfold d_1
    refine EffectSnd.step State.draw_effect (by decide) ?_
    exact Effect.refl _
  clear_value d_1
  have ht_2 : Effect [.links, .seq, .pages, .can, .canc, .hif, .posted, .fresh] s t_2 := by
    unfold t_2
    refine ite_intro ?_ ?_
    · exact Effect.refl _
    · refine ite_intro ?_ ?_
      · refine Effect.step State.modCan_effect (by decide) ?_
        assumption
      · refine Effect.step State.modCan_effect (by decide) ?_
        exact Effect.refl _
  clear_value t_2
  refine Effect.step State.canConfine_effect (by decide) ?_
  refine Effect.step State.canStore_effect (by decide) ?_
  assumption

theorem State.canTiming_effect {n : Fin 4} {s : State} : Effect [.can] s (State.canTiming n s) := by
  unfold State.canTiming
  extract_lets p_1
  clear_value p_1
  refine Effect.step State.modCan_effect (by decide) ?_
  exact Effect.refl _

theorem State.canStart_effect {n : Fin 4} {s : State} : Effect [.can] s (State.canStart n s) := by
  unfold State.canStart
  refine Effect.step State.canAttempt_effect (by decide) ?_
  refine Effect.step State.canTiming_effect (by decide) ?_
  refine Effect.step State.modCan_effect (by decide) ?_
  exact Effect.refl _

theorem State.canEnable_effect {n : Fin 4} {on : Bool} {s : State} : Effect [.pages, .can] s (State.canEnable n on s) := by
  unfold State.canEnable
  extract_lets s1_1
  have hs1_1 : Effect [.pages, .can] s s1_1 := by
    unfold s1_1
    refine Effect.step State.modPg_effect (by decide) ?_
    exact Effect.refl _
  clear_value s1_1
  refine ite_intro ?_ ?_
  · refine ite_intro ?_ ?_
    · refine Effect.step State.canStart_effect (by decide) ?_
      assumption
    · refine Effect.step State.canTiming_effect (by decide) ?_
      assumption
  · refine ite_intro ?_ ?_
    · refine Effect.step State.modCan_effect (by decide) ?_
      assumption
    · refine ite_intro ?_ ?_
      · assumption
      · refine Effect.step State.canInit_effect (by decide) ?_
        assumption

theorem State.canModeCommit_effect {n : Fin 4} {old : Word} {s : State} : Effect [.can] s (State.canModeCommit n old s) := by
  unfold State.canModeCommit
  extract_lets new_1 s1_2
  clear_value new_1
  have hs1_2 : Effect [.can] s s1_2 := by
    unfold s1_2
    refine Effect.step State.modCan_effect (by decide) ?_
    exact Effect.refl _
  clear_value s1_2
  refine Effect.step State.canAttempt_effect (by decide) ?_
  refine Effect.step State.modCan_effect (by decide) ?_
  assumption

theorem State.canXcvr_effect {n : Fin 4} {w : Word} {s : State} : Effect [.pages, .can, .stn, .hif, .posted] s (State.canXcvr n w s) := by
  unfold State.canXcvr
  extract_lets s1_1 c_2 s3_3 s2_4
  have hs1_1 : Effect [.pages, .can, .stn, .hif, .posted] s s1_1 := by
    unfold s1_1
    refine Effect.step State.setCom_effect (by decide) ?_
    exact Effect.refl _
  clear_value s1_1
  clear_value c_2
  have hs3_3 : Effect [.pages, .can, .stn, .hif, .posted] s s3_3 := by
    unfold s3_3
    refine Effect.step State.modCan_effect (by decide) ?_
    assumption
  clear_value s3_3
  have hs2_4 : Effect [.pages, .can, .stn, .hif, .posted] s s2_4 := by
    unfold s2_4
    refine ite_intro ?_ ?_
    · assumption
    · split
      · rename_i z_5 z_6 z_7 z_8
        extract_lets s4_9
        have hs4_9 : Effect [.pages, .can, .stn, .hif, .posted] s s4_9 := by
          unfold s4_9
          refine Effect.step State.stnUnsent_effect (by decide) ?_
          refine Effect.step State.modCan_effect (by decide) ?_
          assumption
        clear_value s4_9
        refine ite_intro ?_ ?_
        · assumption
        · refine ite_intro ?_ ?_
          · assumption
          · refine ite_intro ?_ ?_
            · refine Effect.step State.canFlag_effect (by decide) ?_
              assumption
            · assumption
      · rename_i z_10 z_11
        assumption
  clear_value s2_4
  refine Effect.step State.canAfterRx_effect (by decide) ?_
  refine ite_intro ?_ ?_
  · refine Effect.step State.modCan_effect (by decide) ?_
    assumption
  · assumption

theorem State.canQueue_effect {n : Fin 4} {w0 : Word} {w1 : Word} {data : List Byte} {stn : Option Nat} {s : State} : Effect [.can] s (State.canQueue n w0 w1 data stn s) := by
  unfold State.canQueue
  extract_lets len_1 id_2 f_3
  clear_value len_1
  clear_value id_2
  clear_value f_3
  refine Effect.step State.canAttempt_effect (by decide) ?_
  refine Effect.step State.modCan_effect (by decide) ?_
  exact Effect.refl _

theorem State.canPush_effect {n : Fin 4} {w0 : Word} {w1 : Word} {data : List Byte} {s : State} : EffectSnd [.pages, .can, .hif, .posted] s (State.canPush n w0 w1 data s) := by
  unfold State.canPush
  split
  · rename_i z_1 z_2
    refine EffectSnd.mk ?_
    refine Effect.step State.canFlag_effect (by decide) ?_
    exact Effect.refl _
  · rename_i z_3 z_4 z_5 z_6
    refine EffectSnd.mk ?_
    exact Effect.refl _
  · rename_i z_7 z_8
    refine EffectSnd.mk ?_
    refine Effect.step State.canQueue_effect (by decide) ?_
    exact Effect.refl _

theorem State.canAbort_effect {n : Fin 4} {all : Bool} {s : State} : Effect [.can, .stn] s (State.canAbort n all s) := by
  unfold State.canAbort
  extract_lets c_1
  clear_value c_1
  split
  · rename_i z_2 z_3
    exact Effect.refl _
  · rename_i z_4 z_5 z_6 z_7
    extract_lets s1_8 gone_9
    have hs1_8 : Effect [.can, .stn] s s1_8 := by
      unfold s1_8
      refine ite_intro ?_ ?_
      · refine Effect.forAll (fun a_10 t_11 => ?_) ?_
        · refine Effect.step State.stnUnsent_effect (by decide) ?_
          exact Effect.refl _
        · exact Effect.refl _
      · exact Effect.refl _
    clear_value s1_8
    clear_value gone_9
    refine ite_intro ?_ ?_
    · refine Effect.step State.modCan_effect (by decide) ?_
      assumption
    · refine Effect.step State.canAttempt_effect (by decide) ?_
      refine Effect.step State.modCan_effect (by decide) ?_
      refine Effect.forAll (fun a_12 t_13 => ?_) ?_
      · refine Effect.step State.stnUnsent_effect (by decide) ?_
        exact Effect.refl _
      · exact Effect.refl _

theorem State.canCtl_effect {n : Fin 4} {w : Word} {s : State} : Effect [.pages, .can, .stn, .hif, .posted] s (State.canCtl n w s) := by
  unfold State.canCtl
  extract_lets p_1 c_2 tx_3 data_4
  clear_value p_1
  clear_value c_2
  clear_value tx_3
  clear_value data_4
  split
  · rename_i z_5 z_6
    split
    · rename_i z_7 z_8 z_9 z_10
      refine Effect.step State.err_effect (by decide) ?_
      refine EffectSnd.of_eq z_10 ?_
      refine EffectSnd.step State.canPush_effect (by decide) ?_
      exact Effect.refl _
    · rename_i z_11 z_12 z_13
      refine EffectSnd.of_eq z_13 ?_
      refine EffectSnd.step State.canPush_effect (by decide) ?_
      exact Effect.refl _
  · rename_i z_14 z_15
    refine ite_intro ?_ ?_
    · refine Effect.step State.err_effect (by decide) ?_
      exact Effect.refl _
    · refine Effect.step State.modCan_effect (by decide) ?_
      exact Effect.refl _
  · rename_i z_16 z_17
    refine Effect.step State.canAbort_effect (by decide) ?_
    exact Effect.refl _
  · rename_i z_18 z_19
    refine Effect.step State.canAbort_effect (by decide) ?_
    exact Effect.refl _
  · rename_i z_20 z_21
    refine ite_intro ?_ ?_
    · refine Effect.step State.err_effect (by decide) ?_
      exact Effect.refl _
    · refine Effect.step State.modCan_effect (by decide) ?_
      exact Effect.refl _
  · rename_i z_22 z_23
    refine ite_intro ?_ ?_
    · refine Effect.step State.err_effect (by decide) ?_
      exact Effect.refl _
    · refine ite_intro ?_ ?_
      · exact Effect.refl _
      · refine Effect.step State.post_effect (by decide) ?_
        exact Effect.refl _
  · rename_i z_24 z_25 z_26 z_27 z_28 z_29 z_30
    refine Effect.step State.err_effect (by decide) ?_
    exact Effect.refl _

theorem State.hostCan_effect {n : Fin 4} {bits : Nat} {s : State} : Effect [.pages, .clk, .can, .stn, .hif, .posted] s (State.hostCan n bits s) := by
  unfold State.hostCan
  extract_lets w_1
  clear_value w_1
  refine Effect.trans ?_ (State.gated_effect (l := [.pages, .clk, .can, .stn, .hif, .posted]) (by decide) ?_)
  · exact Effect.refl _
  · intro x2
    refine Effect.step State.canCtl_effect (by decide) ?_
    exact Effect.refl _

end Sys2Proof.Machine
end

