-- ==== Sys2Proof/Laws/ImageEffect.lean ====
section
/-! SUPPORT. What each operation of Machine/Image.lean can do: the parts of the state it may change, and what it never takes
back (`Effect`, Safety.lean). -/

namespace Sys2Proof.Machine

theorem State.imgEvent_effect {kind : Nat} {base : Nat} {reason : Nat} {s0 : State} : Effect [.links, .seq, .mem] s0 (State.imgEvent kind base reason s0) := by
  unfold State.imgEvent
  extract_lets s_1
  have hs_1 : Effect [.links, .seq, .mem] s0 s_1 := by
    unfold s_1
    refine Effect.step State.granUse_effect (by decide) ?_
    exact Effect.refl _
  clear_value s_1
  refine ite_intro ?_ ?_
  · refine Effect.step State.ev_effect (by decide) ?_
    assumption
  · refine Effect.step State.ev_effect (by decide) ?_
    assumption

theorem State.readSections_effect {slot : Nat} {im : Image} {s : State} : Effect [.links, .seq, .mem, .fresh] s (State.readSections slot im s) := by
  unfold State.readSections
  refine EffectSnd.step State.draw_effect (by decide) ?_
  refine Effect.forAll (fun a_1 t_2 => ?_) ?_
  · refine ite_intro ?_ ?_
    · refine Effect.step State.granUse_effect (by decide) ?_
      exact Effect.refl _
    · exact Effect.refl _
  · exact Effect.refl _

theorem State.loadBank_effect {slot bank : Nat} {im : Image} {s : State} : Effect [.links, .seq, .mem, .fresh] s (State.loadBank slot bank im s) := by
  have sect : ∀ (u : State) (b : Nat) (l : List (Nat × Nat × Nat × Nat)) (m : Memory), m.wf = true →
      (l.foldl (u.loadSection slot b) m).wf = true := by
    intro u b l
    induction l with
    | nil => exact fun _ h => h
    | cons e l ih =>
      intro m h
      refine ih _ ?_
      unfold State.loadSection
      dsimp only
      repeat' split
      · exact h
      · exact Memory.wf_erase h _ _
      · exact Memory.wf_place (Memory.wf_erase h _ _) _
      · exact Memory.wf_writeBytes (Memory.wf_erase h _ _) _ _
  unfold State.loadBank
  refine Effect.putMem (State.readSections_effect.mono (by decide)) (fun p hp => by cases p <;> first | exact absurd (by decide) hp | rfl) rfl ?_ rfl rfl rfl
  exact fun h => ⟨h.1, sect _ _ _ _ (Memory.wf_erase h.2.1 _ _), h.2.2⟩

end Sys2Proof.Machine
end

