-- ==== Sys2Proof/Laws/RecorderEffect.lean ====
section
/-! SUPPORT. What each operation of Machine/Recorder.lean can do: the parts of the state it may change, and what it never takes
back (`Effect`, Safety.lean). -/

namespace Sys2Proof.Machine

theorem State.modRec_effect {f : Recorder → Recorder} {s : State} : Effect [.recd] s (State.modRec f s) := by
  unfold State.modRec
  refine Effect.put (x := s) ?_ (fun p hp => by cases p <;> first | exact absurd (by decide) hp | rfl) rfl ⟨rfl, rfl, rfl⟩ ⟨rfl, rfl⟩ rfl rfl
  exact Effect.refl _

theorem State.recDrop_effect {s : State} : Effect [.recd] s (State.recDrop s) := by
  unfold State.recDrop
  refine Effect.step State.modRec_effect (by decide) ?_
  exact Effect.refl _

theorem State.stageRec_effect {x : Rec0} {s : State} : Effect [.pages, .hif, .recd, .posted] s (State.stageRec x s) := by
  unfold State.stageRec
  refine ite_intro ?_ ?_
  · refine Effect.step State.recDrop_effect (by decide) ?_
    exact Effect.refl _
  · refine ite_intro ?_ ?_
    · refine Effect.step State.recFlag_effect (by decide) ?_
      refine Effect.step State.recDrop_effect (by decide) ?_
      exact Effect.refl _
    · refine Effect.step State.modRec_effect (by decide) ?_
      exact Effect.refl _

theorem State.awaitRec_effect {source : Nat} {code : Nat} {type : Nat} {sev : Nat} {user : Bool} {payload : List Byte} {s : State} : Effect [.recd] s (State.awaitRec source code type sev user payload s) := by
  unfold State.awaitRec
  refine Effect.step State.modRec_effect (by decide) ?_
  exact Effect.refl _

theorem State.takeSeq_effect {s : State} : EffectSnd [.mem, .clk, .seq] s (State.takeSeq s) := by
  unfold State.takeSeq
  extract_lets t q
  have ht : Effect [.mem, .clk, .seq] s t := ite_intro (State.granTouch_effect.mono (by decide)) (Effect.refl _)
  clear_value t
  refine Effect.trans ht ⟨fun p hp => by cases p <;> first | exact absurd (by decide) hp | rfl,
    ⟨rfl, fun h => h, ?_, fun _ => Nat.le_add_right _ _, fun _ => Nat.le_refl _, fun _ h => h, fun h => h⟩, Nat.le_refl _⟩
  intro h
  unfold State.seqOk at h ⊢
  dsimp only [q]
  split <;> omega

theorem State.ownRec_effect {type : Nat} {sev : Nat} {payload : List Byte} {s : State} : Effect [.seq, .mem, .pages, .clk, .hif, .recd, .posted] s (State.ownRec type sev payload s) := by
  unfold State.ownRec
  extract_lets r_1
  have hr_1 : EffectSnd [.seq, .mem, .pages, .clk, .hif, .recd, .posted] s r_1 := by
    unfold r_1
    refine EffectSnd.step State.takeSeq_effect (by decide) ?_
    exact Effect.refl _
  clear_value r_1
  refine Effect.step State.stageRec_effect (by decide) ?_
  assumption

theorem State.advanceHead_effect {s : State} : Effect [.recd] s (State.advanceHead s) := by
  unfold State.advanceHead
  extract_lets n_1
  clear_value n_1
  refine Effect.step State.modRec_effect (by decide) ?_
  exact Effect.refl _

theorem State.recAppend_effect {x : Rec0} {s : State} : Effect [.links, .seq, .mem, .recd] s (State.recAppend x s) := by
  unfold State.recAppend
  extract_lets r_1 n_2 wrap_3 s1_4 at_5
  clear_value r_1
  clear_value n_2
  clear_value wrap_3
  have hs1_4 : Effect [.links, .seq, .mem, .recd] s s1_4 := by
    unfold s1_4
    refine ite_intro ?_ ?_
    · refine Effect.step State.granWrite_effect (by decide) ?_
      exact Effect.refl _
    · exact Effect.refl _
  clear_value s1_4
  clear_value at_5
  refine Effect.step State.modRec_effect (by decide) ?_
  refine Effect.step State.granWrite_effect (by decide) ?_
  assumption

theorem State.recFull_effect {seq : Nat} {s : State} : Effect [.links, .seq, .pages, .hif, .recd, .posted] s (State.recFull seq s) := by
  unfold State.recFull
  extract_lets s1_1
  have hs1_1 : Effect [.links, .seq, .pages, .hif, .recd, .posted] s s1_1 := by
    unfold s1_1
    refine Effect.step State.recDrop_effect (by decide) ?_
    refine Effect.step State.recFlag_effect (by decide) ?_
    refine Effect.step State.modRec_effect (by decide) ?_
    exact Effect.refl _
  clear_value s1_1
  refine Effect.step State.ev_effect (by decide) ?_
  refine Effect.step State.awaitRec_effect (by decide) ?_
  assumption

theorem State.recStore_effect {x : Rec0} {s : State} : Effect [.links, .seq, .mem, .pages, .hif, .recd, .posted] s (State.recStore x s) := by
  unfold State.recStore
  extract_lets n_1 reserve_2 s1_3
  clear_value n_1
  clear_value reserve_2
  have hs1_3 : Effect [.links, .seq, .mem, .pages, .hif, .recd, .posted] s s1_3 := by
    unfold s1_3
    refine ite_intro ?_ ?_
    · exact Effect.refl _
    · refine Effect.step State.advanceHead_effect (by decide) ?_
      exact Effect.refl _
  clear_value s1_3
  refine ite_intro ?_ ?_
  · refine ite_intro ?_ ?_
    · refine ite_intro ?_ ?_
      · refine Effect.step State.recAppend_effect (by decide) ?_
        exact Effect.refl _
      · refine Effect.step State.recDrop_effect (by decide) ?_
        exact Effect.refl _
    · refine ite_intro ?_ ?_
      · refine Effect.step State.recDrop_effect (by decide) ?_
        exact Effect.refl _
      · refine ite_intro ?_ ?_
        · refine Effect.step State.recAppend_effect (by decide) ?_
          exact Effect.refl _
        · refine Effect.step State.recFull_effect (by decide) ?_
          exact Effect.refl _
  · refine ite_intro ?_ ?_
    · refine Effect.step State.recAppend_effect (by decide) ?_
      assumption
    · split
      · rename_i z_4 z_5 z_6 z_7
        extract_lets s2_8 s3_9
        have hs2_8 : Effect [.links, .seq, .mem, .pages, .hif, .recd, .posted] s s2_8 := by
          unfold s2_8
          refine Effect.step State.granWrite_effect (by decide) ?_
          assumption
        clear_value s2_8
        have hs3_9 : Effect [.links, .seq, .mem, .pages, .hif, .recd, .posted] s s3_9 := by
          unfold s3_9
          refine ite_intro ?_ ?_
          · refine Effect.step State.granWrite_effect (by decide) ?_
            assumption
          · assumption
        clear_value s3_9
        refine Effect.step State.recFlag_effect (by decide) ?_
        refine Effect.step State.modRec_effect (by decide) ?_
        assumption
      · rename_i z_10 z_11
        refine Effect.step State.recDrop_effect (by decide) ?_
        assumption

theorem State.recWriteNext_effect {s : State} : Effect [.links, .seq, .mem, .pages, .hif, .recd, .posted] s (State.recWriteNext s) := by
  unfold State.recWriteNext
  split
  · rename_i z_1 z_2
    exact Effect.refl _
  · rename_i z_3 z_4 z_5 z_6
    extract_lets t_7
    have ht_7 : Effect [.links, .seq, .mem, .pages, .hif, .recd, .posted] s t_7 := by
      unfold t_7
      refine Effect.step State.modRec_effect (by decide) ?_
      exact Effect.refl _
    clear_value t_7
    refine ite_intro ?_ ?_
    · exact Effect.refl _
    · refine ite_intro ?_ ?_
      · refine Effect.step State.recDrop_effect (by decide) ?_
        assumption
      · refine Effect.step State.recStore_effect (by decide) ?_
        assumption

theorem State.recCommit_effect {s : State} : Effect [.links, .seq, .pages, .hif, .recd, .posted] s (State.recCommit s) := by
  unfold State.recCommit
  extract_lets native_1 s1_2 s2_3
  have hs1_2 : Effect [.links, .seq, .pages, .hif, .recd, .posted] s s1_2 := by
    unfold s1_2
    refine Effect.step State.modRec_effect (by decide) ?_
    exact Effect.refl _
  clear_value s1_2
  have hs2_3 : Effect [.links, .seq, .pages, .hif, .recd, .posted] s s2_3 := by
    unfold s2_3
    refine Effect.step State.recFlag_effect (by decide) ?_
    refine Effect.step State.modRec_effect (by decide) ?_
    assumption
  clear_value s2_3
  refine ite_intro ?_ ?_
  · refine Effect.step State.modRec_effect (by decide) ?_
    assumption
  · refine ite_intro ?_ ?_
    · refine ite_intro ?_ ?_
      · refine Effect.step State.recFlag_effect (by decide) ?_
        refine Effect.step State.modRec_effect (by decide) ?_
        assumption
      · refine Effect.step State.ev_effect (by decide) ?_
        refine Effect.step State.awaitRec_effect (by decide) ?_
        assumption
    · assumption

theorem State.recCheck_effect {at_ : Option (Nat × Nat)} {s0 : State} : Effect [.links, .seq, .mem, .pages, .hif, .recd, .posted] s0 (State.recCheck at_ s0) := by
  unfold State.recCheck
  split
  · rename_i z_1
    exact Effect.refl _
  · rename_i z_2 z_3 z_4
    extract_lets s_5 raw_6 want_7
    have hs_5 : Effect [.links, .seq, .mem, .pages, .hif, .recd, .posted] s0 s_5 := by
      unfold s_5
      refine Effect.step State.granUse_effect (by decide) ?_
      exact Effect.refl _
    clear_value s_5
    clear_value raw_6
    clear_value want_7
    refine ite_intro ?_ ?_
    · exact Effect.refl _
    · refine ite_intro ?_ ?_
      · assumption
      · refine Effect.step State.recFlag_effect (by decide) ?_
        refine Effect.step State.granWrite_effect (by decide) ?_
        assumption

theorem State.recResume_effect {s : State} : Effect [.links, .seq, .mem, .pages, .hif, .recd, .posted] s (State.recResume s) := by
  unfold State.recResume
  extract_lets s0_1
  have hs0_1 : Effect [.links, .seq, .mem, .pages, .hif, .recd, .posted] s s0_1 := by
    unfold s0_1
    refine Effect.step State.modRec_effect (by decide) ?_
    exact Effect.refl _
  clear_value s0_1
  refine ite_intro ?_ ?_
  · assumption
  · refine Effect.step State.modRec_effect (by decide) ?_
    refine Effect.step State.recCheck_effect (by decide) ?_
    refine Effect.step State.recCheck_effect (by decide) ?_
    assumption

theorem State.statBin_effect {block : Nat} {off : Nat} {bin : Nat} {s : State} : Effect [.links, .seq, .mem] s (State.statBin block off bin s) := by
  unfold State.statBin
  refine Effect.step State.statAdd_effect (by decide) ?_
  exact Effect.refl _

theorem State.statExtreme_effect {block : Nat} {k : Nat} {v : Nat} {seq : Nat} {least : Bool} {first : Bool} {s0 : State} : Effect [.links, .seq, .mem] s0 (State.statExtreme block k v seq least first s0) := by
  unfold State.statExtreme
  extract_lets a_1 old_2 s_3
  clear_value a_1
  clear_value old_2
  have hs_3 : Effect [.links, .seq, .mem] s0 s_3 := by
    unfold s_3
    refine Effect.step State.granUse_effect (by decide) ?_
    exact Effect.refl _
  clear_value s_3
  refine ite_intro ?_ ?_
  · assumption
  · refine Effect.step State.granWrite_effect (by decide) ?_
    refine Effect.step State.granWrite_effect (by decide) ?_
    assumption

theorem State.statDone_effect {block : Nat} {seq : Nat} {s : State} : Effect [.links, .seq, .mem, .stat] s (State.statDone block seq s) := by
  unfold State.statDone
  extract_lets t_1 src_2
  have ht_1 : Effect [.links, .seq, .mem, .stat] s t_1 := by
    unfold t_1
    refine Effect.step State.granWrite_effect (by decide) ?_
    exact Effect.refl _
  clear_value t_1
  refine ite_intro ?_ ?_
  · exact Effect.refl _
  · refine Effect.put (x := t_1) ?_ (fun p hp => by cases p <;> first | exact absurd (by decide) hp | rfl) rfl ⟨rfl, rfl, rfl⟩ ⟨rfl, rfl⟩ rfl rfl
    assumption

theorem State.statClose_effect {block : Nat} {time : Nat} {force : Nat} {vlog : Option Nat} {seq : Nat} {s : State} : Effect [.links, .seq, .mem, .stat] s (State.statClose block time force vlog seq s) := by
  unfold State.statClose
  extract_lets first_1 s1_2 s2_3 s3_4
  have hs1_2 : Effect [.links, .seq, .mem, .stat] s s1_2 := by
    unfold s1_2
    refine Effect.step State.statBin_effect (by decide) ?_
    refine Effect.step State.statBin_effect (by decide) ?_
    exact Effect.refl _
  clear_value s1_2
  have hs2_3 : Effect [.links, .seq, .mem, .stat] s s2_3 := by
    unfold s2_3
    refine Effect.step State.statExtreme_effect (by decide) ?_
    refine Effect.step State.statExtreme_effect (by decide) ?_
    refine Effect.step State.statExtreme_effect (by decide) ?_
    assumption
  clear_value s2_3
  have hs3_4 : Effect [.links, .seq, .mem, .stat] s s3_4 := by
    unfold s3_4
    split
    · rename_i z_5 z_6
      refine Effect.step State.statExtreme_effect (by decide) ?_
      assumption
    · rename_i z_7
      assumption
  clear_value s3_4
  refine Effect.step State.statDone_effect (by decide) ?_
  assumption

theorem State.statOpen_effect {block : Nat} {time : Nat} {seq : Nat} {s : State} : Effect [.links, .seq, .mem, .stat] s (State.statOpen block time seq s) := by
  unfold State.statOpen
  extract_lets first_1 s1_2
  have hs1_2 : Effect [.links, .seq, .mem, .stat] s s1_2 := by
    unfold s1_2
    refine Effect.step State.statBin_effect (by decide) ?_
    exact Effect.refl _
  clear_value s1_2
  refine Effect.step State.statDone_effect (by decide) ?_
  refine Effect.step State.statExtreme_effect (by decide) ?_
  refine Effect.step State.statExtreme_effect (by decide) ?_
  assumption

theorem State.statPtlClose_effect {p : Fin 8} {seq : Nat} {s : State} : Effect [.links, .seq, .mem, .stat] s (State.statPtlClose p seq s) := by
  unfold State.statPtlClose
  extract_lets c_1 force_2 s1_3
  clear_value c_1
  clear_value force_2
  have hs1_3 : Effect [.links, .seq, .mem, .stat] s s1_3 := by
    unfold s1_3
    refine Effect.step State.statClose_effect (by decide) ?_
    exact Effect.refl _
  clear_value s1_3
  refine Effect.forAll (fun a_4 t_5 => ?_) ?_
  · split
    · rename_i z_6 z_7 z_8
      refine Effect.step State.statClose_effect (by decide) ?_
      exact Effect.refl _
  · assumption

theorem State.statPtlOpen_effect {p : Fin 8} {seq : Nat} {s : State} : Effect [.links, .seq, .mem, .stat] s (State.statPtlOpen p seq s) := by
  unfold State.statPtlOpen
  extract_lets c_1
  clear_value c_1
  refine Effect.forAll (fun a_2 t_3 => ?_) ?_
  · split
    · rename_i z_4 z_5 z_6
      refine Effect.step State.statOpen_effect (by decide) ?_
      exact Effect.refl _
  · refine Effect.step State.statOpen_effect (by decide) ?_
    exact Effect.refl _

theorem State.statSetup_effect {s : State} : Effect [.links, .seq, .mem] s (State.statSetup s) := by
  unfold State.statSetup
  refine ite_intro ?_ ?_
  · exact Effect.refl _
  · refine Effect.step State.granWrite_effect (by decide) ?_
    exact Effect.refl _

theorem State.statClear_effect {s : State} : Effect [.links, .seq, .mem, .pages, .hif, .stat, .posted] s (State.statClear s) := by
  unfold State.statClear
  extract_lets n src head g torn soft src2 s1 s2
  have hg : s.memOk → g.wf = true := by
    intro h
    have h0 : (s.mem.granary.erase statBase 0x200000).wf = true := Memory.wf_erase h.1 statBase 0x200000
    unfold g
    generalize s.mem.granary.erase statBase 0x200000 = m at h0
    generalize statBlocks = l
    clear_value n src head torn soft src2
    induction l generalizing m with
    | nil => exact h0
    | cons b l ih => exact ih _ (Memory.wf_writeBytes h0 _ _)
  clear_value g torn soft head
  have h1 : Effect [.links, .seq, .mem, .pages, .hif, .stat, .posted] s s1 := by
    unfold s1
    refine Effect.putMem (Effect.refl s) (fun p hp => by cases p <;> first | exact absurd (by decide) hp | rfl) rfl ?_ rfl rfl rfl
    intro h
    refine And.intro ?_ h.2
    show (g.writeBytes statBase head).wf = true
    exact Memory.wf_writeBytes (hg h) _ _
  clear_value s1
  have h2 : Effect [.links, .seq, .mem, .pages, .hif, .stat, .posted] s s2 := by
    unfold s2
    refine ite_intro h1 ?_
    exact Effect.step State.irq_effect (by decide) h1
  clear_value s2
  exact Effect.step State.ev_effect (by decide) h2

theorem State.engineAsk_effect {o : EngineOp} {s : State} : Effect [.sec] s (State.engineAsk o s) := by
  unfold State.engineAsk
  extract_lets src_1
  refine Effect.put (x := s) ?_ (fun p hp => by cases p <;> first | exact absurd (by decide) hp | rfl) rfl ⟨rfl, rfl, rfl⟩ ⟨rfl, rfl⟩ rfl rfl
  exact Effect.refl _

theorem State.userRec_effect {host : Bool} {type : Nat} {sev : Nat} {data : List Byte} {s : State} : EffectSnd [.links, .seq, .recd] s (State.userRec host type sev data s) := by
  unfold State.userRec
  extract_lets anchor_1 lo_2 body_3
  clear_value anchor_1
  clear_value lo_2
  clear_value body_3
  refine ite_intro ?_ ?_
  · refine EffectSnd.mk ?_
    exact Effect.refl _
  · refine ite_intro ?_ ?_
    · refine EffectSnd.mk ?_
      exact Effect.refl _
    · refine ite_intro ?_ ?_
      · refine EffectSnd.mk ?_
        exact Effect.refl _
      · refine ite_intro ?_ ?_
        · refine EffectSnd.mk ?_
          refine Effect.step State.ev_effect (by decide) ?_
          refine Effect.step State.awaitRec_effect (by decide) ?_
          exact Effect.refl _
        · refine EffectSnd.mk ?_
          refine Effect.step State.ev_effect (by decide) ?_
          refine Effect.step State.awaitRec_effect (by decide) ?_
          exact Effect.refl _

theorem State.recWriteCtl_effect {s : State} : EffectSnd [.links, .seq, .recd] s (State.recWriteCtl s) := by
  unfold State.recWriteCtl
  extract_lets w_1 data_2 len_3
  clear_value w_1
  clear_value data_2
  clear_value len_3
  refine ite_intro ?_ ?_
  · refine EffectSnd.mk ?_
    exact Effect.refl _
  · refine EffectSnd.step State.userRec_effect (by decide) ?_
    exact Effect.refl _

theorem State.recNonceCtl_effect {s : State} : Effect [.recd, .fresh] s (State.recNonceCtl s) := by
  unfold State.recNonceCtl
  extract_lets d_1
  have hd_1 : EffectSnd [.recd, .fresh] s d_1 := by
    unfold d_1
    refine EffectSnd.step State.draw_effect (by decide) ?_
    exact Effect.refl _
  clear_value d_1
  refine Effect.step State.modRec_effect (by decide) ?_
  assumption

theorem State.recCtl_effect {w : Word} {s : State} : Effect [.links, .seq, .pages, .hif, .recd, .sec, .posted, .fresh] s (State.recCtl w s) := by
  unfold State.recCtl
  refine ite_intro ?_ ?_
  · refine Effect.step State.err_effect (by decide) ?_
    exact Effect.refl _
  · split
    · rename_i z_1 z_2
      split
      · rename_i z_3 z_4 z_5 z_6
        refine Effect.step State.err_effect (by decide) ?_
        refine EffectSnd.of_eq z_6 ?_
        refine EffectSnd.step State.recWriteCtl_effect (by decide) ?_
        exact Effect.refl _
      · rename_i z_7 z_8 z_9
        refine EffectSnd.of_eq z_9 ?_
        refine EffectSnd.step State.recWriteCtl_effect (by decide) ?_
        exact Effect.refl _
    · rename_i z_10 z_11
      refine ite_intro ?_ ?_
      · refine Effect.step State.err_effect (by decide) ?_
        exact Effect.refl _
      · refine Effect.step State.recNonceCtl_effect (by decide) ?_
        exact Effect.refl _
    · rename_i z_12 z_13
      refine ite_intro ?_ ?_
      · refine Effect.step State.err_effect (by decide) ?_
        exact Effect.refl _
      · refine Effect.step State.engineAsk_effect (by decide) ?_
        refine Effect.step State.modRec_effect (by decide) ?_
        exact Effect.refl _
    · rename_i z_14 z_15 z_16 z_17
      refine Effect.step State.err_effect (by decide) ?_
      exact Effect.refl _

theorem State.recClear_effect {range : Nat} {slot : Nat} {stats : Bool} {s : State} : Effect [.links, .seq, .mem, .pages, .hif, .recd, .stat, .posted] s (State.recClear range slot stats s) := by
  unfold State.recClear
  extract_lets first_1 old_2 drops_3 s1_4 gone_5 s2_6 s3_7 modulus_8 payload_9
  clear_value first_1
  clear_value old_2
  clear_value drops_3
  have hs1_4 : Effect [.links, .seq, .mem, .pages, .hif, .recd, .stat, .posted] s s1_4 := by
    unfold s1_4
    refine Effect.step State.advanceHead_effect (by decide) ?_
    refine Effect.step State.modRec_effect (by decide) ?_
    refine Effect.step State.granTouch_effect (by decide) ?_
    exact Effect.refl _
  clear_value s1_4
  clear_value gone_5
  have hs2_6 : Effect [.links, .seq, .mem, .pages, .hif, .recd, .stat, .posted] s s2_6 := by
    unfold s2_6
    refine Effect.step State.recFlag_effect (by decide) ?_
    refine Effect.step State.modRec_effect (by decide) ?_
    assumption
  clear_value s2_6
  have hs3_7 : Effect [.links, .seq, .mem, .pages, .hif, .recd, .stat, .posted] s s3_7 := by
    unfold s3_7
    refine ite_intro ?_ ?_
    · refine Effect.step State.statClear_effect (by decide) ?_
      assumption
    · assumption
  clear_value s3_7
  clear_value modulus_8
  clear_value payload_9
  refine Effect.step State.ev_effect (by decide) ?_
  refine Effect.step State.awaitRec_effect (by decide) ?_
  assumption

theorem State.hostRec_effect {cmd : Nat} {s : State} : Effect [.links, .seq, .pages, .clk, .hif, .recd, .sec, .posted, .fresh] s (State.hostRec cmd s) := by
  unfold State.hostRec
  refine Effect.trans ?_ (State.gated_effect (l := [.links, .seq, .pages, .clk, .hif, .recd, .sec, .posted, .fresh]) (by decide) ?_)
  · exact Effect.refl _
  · intro x1
    refine Effect.step State.recCtl_effect (by decide) ?_
    exact Effect.refl _

end Sys2Proof.Machine
end

