-- ==== Sys2Proof/Laws/PortalEffect.lean ====
section
/-! SUPPORT. What each operation of Machine/Portal.lean can do: the parts of the state it may change, and what it never takes
back (`Effect`, Safety.lean). -/

namespace Sys2Proof.Machine

theorem State.modPtl_effect {p : Fin 8} {f : Ptl → Ptl} {s : State} : Effect [.ptl] s (State.modPtl p f s) := by
  unfold State.modPtl
  refine Effect.put (x := s) ?_ (fun p hp => by cases p <;> first | exact absurd (by decide) hp | rfl) rfl ⟨rfl, rfl, rfl⟩ ⟨rfl, rfl⟩ rfl rfl
  exact Effect.refl _

theorem State.modPin_effect {p : Fin 8} {f : PtlIn → PtlIn} {s : State} : Effect [.ptlIn] s (State.modPin p f s) := by
  unfold State.modPin
  refine Effect.put (x := s) ?_ (fun p hp => by cases p <;> first | exact absurd (by decide) hp | rfl) rfl ⟨rfl, rfl, rfl⟩ ⟨rfl, rfl⟩ rfl rfl
  exact Effect.refl _

theorem State.modRun_effect {p : Fin 8} {f : PtlRun → PtlRun} {s : State} : Effect [.ptlRun] s (State.modRun p f s) := by
  unfold State.modRun
  refine Effect.put (x := s) ?_ (fun p hp => by cases p <;> first | exact absurd (by decide) hp | rfl) rfl ⟨rfl, rfl, rfl⟩ ⟨rfl, rfl⟩ rfl rfl
  exact Effect.refl _

theorem State.modCyc_effect {p : Fin 8} {f : CycleRec → CycleRec} {s : State} : Effect [.cyc] s (State.modCyc p f s) := by
  unfold State.modCyc
  refine Effect.put (x := s) ?_ (fun p hp => by cases p <;> first | exact absurd (by decide) hp | rfl) rfl ⟨rfl, rfl, rfl⟩ ⟨rfl, rfl⟩ rfl rfl
  exact Effect.refl _

theorem State.phase_effect {p : Fin 8} {h : PtlPhase} {s : State} : Effect [.ptlRun] s (State.phase p h s) := by
  unfold State.phase
  refine Effect.step State.modRun_effect (by decide) ?_
  exact Effect.refl _

theorem State.ptlMark_effect {p : Fin 8} {flag : Nat} {rec : Nat} {s : State} : Effect [.pages, .ptl, .cyc, .hif, .posted] s (State.ptlMark p flag rec s) := by
  unfold State.ptlMark
  refine Effect.step State.modCyc_effect (by decide) ?_
  refine Effect.step State.ptlFlag_effect (by decide) ?_
  exact Effect.refl _

theorem State.swDisagree_effect {p : Fin 8} {s : State} : Effect [.pages, .ptl, .ptlRun, .cyc, .hif, .posted] s (State.swDisagree p s) := by
  unfold State.swDisagree
  refine Effect.step State.modRun_effect (by decide) ?_
  refine Effect.step State.ptlMark_effect (by decide) ?_
  exact Effect.refl _

theorem State.armLimits_effect {p : Fin 8} {s : State} : Effect [.ptlRun] s (State.armLimits p s) := by
  unfold State.armLimits
  refine Effect.step State.modRun_effect (by decide) ?_
  exact Effect.refl _

theorem State.timerStart_effect {p : Fin 8} {t : Timer} {n : Nat} {s : State} : Effect [.ptlIn, .ptlRun] s (State.timerStart p t n s) := by
  unfold State.timerStart
  refine Effect.step State.modPin_effect (by decide) ?_
  refine Effect.step State.armLimits_effect (by decide) ?_
  exact Effect.refl _

theorem State.timerStop_effect {p : Fin 8} {t : Timer} {s : State} : Effect [.ptlIn] s (State.timerStop p t s) := by
  unfold State.timerStop
  refine Effect.step State.modPin_effect (by decide) ?_
  exact Effect.refl _

theorem State.doorMove_effect {a : Fin 12} {cmd : Nat} {kind : Nat} {neg : Bool} {goal : Int} {vel : Nat} {vmax : Nat} {s : State} : Effect [.ax] s (State.doorMove a cmd kind neg goal vel vmax s) := by
  unfold State.doorMove
  refine EffectSnd.step State.axCommand_effect (by decide) ?_
  exact Effect.refl _

theorem State.leafScale_effect {p : Fin 8} {n : Nat} {s : State} : Effect [.coil] s (State.leafScale p n s) := by
  unfold State.leafScale
  refine Effect.forAll (fun a_1 t_2 => ?_) ?_
  · refine Effect.step State.modCoil_effect (by decide) ?_
    exact Effect.refl _
  · exact Effect.refl _

theorem State.stopMembers_effect {p : Fin 8} {s : State} : Effect [.ax] s (State.stopMembers p s) := by
  unfold State.stopMembers
  refine Effect.forAll (fun a_1 t_2 => ?_) ?_
  · refine ite_intro ?_ ?_
    · exact Effect.refl _
    · split
      · rename_i z_3 z_4 z_5
        refine Effect.step State.disengage_effect (by decide) ?_
        exact Effect.refl _
      · rename_i z_6 z_7
        refine EffectSnd.step State.axCommand_effect (by decide) ?_
        exact Effect.refl _
  · exact Effect.refl _

theorem State.stepEngage_effect {p : Fin 8} {on : Bool} {s : State} : Effect [.ax, .gear, .cam] s (State.stepEngage p on s) := by
  unfold State.stepEngage
  extract_lets c_1
  clear_value c_1
  refine ite_intro ?_ ?_
  · refine EffectSnd.step State.engineCommand_effect (by decide) ?_
    exact Effect.refl _
  · exact Effect.refl _

theorem State.openMoves_effect {p : Fin 8} {s : State} : Effect [.ax, .coil, .gear, .cam, .ptlRun] s (State.openMoves p s) := by
  unfold State.openMoves
  refine Effect.step State.stepEngage_effect (by decide) ?_
  refine Effect.forAll (fun a_1 t_2 => ?_) ?_
  · refine Effect.step State.doorMove_effect (by decide) ?_
    exact Effect.refl _
  · refine Effect.step State.leafScale_effect (by decide) ?_
    refine Effect.step State.armLimits_effect (by decide) ?_
    exact Effect.refl _

theorem State.stepMove_effect {p : Fin 8} {out : Bool} {s : State} : Effect [.ax, .ptlRun] s (State.stepMove p out s) := by
  unfold State.stepMove
  split
  · rename_i z_1 z_2 z_3
    refine Effect.step State.doorMove_effect (by decide) ?_
    refine Effect.step State.armLimits_effect (by decide) ?_
    exact Effect.refl _
  · rename_i z_4 z_5
    exact Effect.refl _

theorem State.keCheck_effect {p : Fin 8} {s : State} : Effect [.pages, .ptl, .cyc, .hif, .posted] s (State.keCheck p s) := by
  unfold State.keCheck
  split
  · rename_i z_1 z_2 z_3
    refine ite_intro ?_ ?_
    · refine Effect.step State.ptlMark_effect (by decide) ?_
      exact Effect.refl _
    · exact Effect.refl _
  · rename_i z_4 z_5
    exact Effect.refl _

theorem State.closeMoves_effect {p : Fin 8} {s : State} : Effect [.ax, .coil, .gear, .cam, .ptlRun] s (State.closeMoves p s) := by
  unfold State.closeMoves
  extract_lets creep_1
  clear_value creep_1
  refine Effect.step State.stepEngage_effect (by decide) ?_
  refine Effect.forAll (fun a_2 t_3 => ?_) ?_
  · extract_lets k_4 c_5 fast_6 slow_7
    clear_value k_4
    clear_value c_5
    clear_value fast_6
    clear_value slow_7
    refine ite_intro ?_ ?_
    · refine Effect.step State.doorMove_effect (by decide) ?_
      exact Effect.refl _
    · refine ite_intro ?_ ?_
      · refine Effect.step State.doorMove_effect (by decide) ?_
        exact Effect.refl _
      · refine Effect.step State.doorMove_effect (by decide) ?_
        refine Effect.step State.doorMove_effect (by decide) ?_
        exact Effect.refl _
  · refine Effect.step State.leafScale_effect (by decide) ?_
    refine Effect.step State.armLimits_effect (by decide) ?_
    exact Effect.refl _

theorem State.nudgeMoves_effect {p : Fin 8} {s : State} : Effect [.ax, .coil, .gear, .cam, .ptlRun] s (State.nudgeMoves p s) := by
  unfold State.nudgeMoves
  refine Effect.step State.stepEngage_effect (by decide) ?_
  refine Effect.forAll (fun a_1 t_2 => ?_) ?_
  · refine Effect.step State.doorMove_effect (by decide) ?_
    exact Effect.refl _
  · refine Effect.step State.leafScale_effect (by decide) ?_
    refine Effect.step State.armLimits_effect (by decide) ?_
    exact Effect.refl _

theorem State.refMoves_effect {p : Fin 8} {s : State} : Effect [.ax, .coil, .ptlRun] s (State.refMoves p s) := by
  unfold State.refMoves
  refine Effect.forAll (fun a_1 t_2 => ?_) ?_
  · refine Effect.step State.doorMove_effect (by decide) ?_
    exact Effect.refl _
  · refine Effect.step State.leafScale_effect (by decide) ?_
    refine Effect.step State.armLimits_effect (by decide) ?_
    exact Effect.refl _

theorem State.obsStop_effect {p : Fin 8} {rev : Bool} {s : State} : Effect [.ax, .gear, .cam, .ptlRun] s (State.obsStop p rev s) := by
  unfold State.obsStop
  extract_lets rate_1 t_2
  clear_value rate_1
  have ht_2 : Effect [.ax, .gear, .cam, .ptlRun] s t_2 := by
    unfold t_2
    refine Effect.forAll (fun a_3 t_4 => ?_) ?_
    · extract_lets a_5 mv_6
      clear_value mv_6
      refine ite_intro ?_ ?_
      · refine ite_intro ?_ ?_
        · refine Effect.step State.doorMove_effect (by decide) ?_
          exact Effect.refl _
        · exact Effect.refl _
      · refine Effect.step State.accept_effect (by decide) ?_
        exact Effect.refl _
    · exact Effect.refl _
  clear_value t_2
  refine ite_intro ?_ ?_
  · refine Effect.step State.stepEngage_effect (by decide) ?_
    refine Effect.step State.armLimits_effect (by decide) ?_
    assumption
  · assumption

theorem State.releaseStop_effect {p : Fin 8} {s : State} : Effect [.ax] s (State.releaseStop p s) := by
  unfold State.releaseStop
  refine Effect.forAll (fun a_1 t_2 => ?_) ?_
  · refine ite_intro ?_ ?_
    · exact Effect.refl _
    · refine Effect.step State.accept_effect (by decide) ?_
      exact Effect.refl _
  · exact Effect.refl _

theorem State.envWrite_effect {p : Fin 8} {s : State} : Effect [.envKept] s (State.envWrite p s) := by
  unfold State.envWrite
  refine ite_intro ?_ ?_
  · exact Effect.refl _
  · refine Effect.put (x := s) ?_ (fun p hp => by cases p <;> first | exact absurd (by decide) hp | rfl) rfl ⟨rfl, rfl, rfl⟩ ⟨rfl, rfl⟩ rfl rfl
    exact Effect.refl _

theorem State.envClear_effect {p : Fin 8} {s : State} : Effect [.env, .envKept] s (State.envClear p s) := by
  unfold State.envClear
  refine Effect.step State.envWrite_effect (by decide) ?_
  refine Effect.put (x := s) ?_ (fun p hp => by cases p <;> first | exact absurd (by decide) hp | rfl) rfl ⟨rfl, rfl, rfl⟩ ⟨rfl, rfl⟩ rfl rfl
  exact Effect.refl _

theorem State.learn_effect {p : Fin 8} {s : State} : Effect [.pages, .ptl, .cyc, .env, .envKept, .hif, .pair, .posted] s (State.learn p s) := by
  unfold State.learn
  extract_lets r_1 s1_2 s2_3
  clear_value r_1
  have hs1_2 : Effect [.pages, .ptl, .cyc, .env, .envKept, .hif, .pair, .posted] s s1_2 := by
    unfold s1_2
    refine Effect.step State.envWrite_effect (by decide) ?_
    refine Effect.put (x := s) ?_ (fun p hp => by cases p <;> first | exact absurd (by decide) hp | rfl) rfl ⟨rfl, rfl, rfl⟩ ⟨rfl, rfl⟩ rfl rfl
    exact Effect.refl _
  clear_value s1_2
  have hs2_3 : Effect [.pages, .ptl, .cyc, .env, .envKept, .hif, .pair, .posted] s s2_3 := by
    unfold s2_3
    refine Effect.step State.ptlMark_effect (by decide) ?_
    refine Effect.step State.modPtl_effect (by decide) ?_
    assumption
  clear_value s2_3
  refine ite_intro ?_ ?_
  · exact Effect.refl _
  · refine Effect.forAll (fun a_4 t_5 => ?_) ?_
    · refine Effect.step State.sendEnv_effect (by decide) ?_
      exact Effect.refl _
    · assumption

theorem State.timePhase_effect {p : Fin 8} {k : Fin 6} {s : State} : Effect [.cyc] s (State.timePhase p k s) := by
  unfold State.timePhase
  refine Effect.step State.modCyc_effect (by decide) ?_
  exact Effect.refl _

theorem State.ptlEnter_effect {p : Fin 8} {new : PtlState} {cause : Nat} {s : State} : Effect [.links, .seq, .mem, .pages, .ptl, .ptlIn, .ptlRun, .cyc, .hif, .posted] s (State.ptlEnter p new cause s) := by
  unfold State.ptlEnter
  extract_lets x_1 c_2 fresh_3 s1_4 s2_5 s3_6
  clear_value x_1
  clear_value c_2
  clear_value fresh_3
  have hs1_4 : Effect [.links, .seq, .mem, .pages, .ptl, .ptlIn, .ptlRun, .cyc, .hif, .posted] s s1_4 := by
    unfold s1_4
    refine Effect.step State.modPtl_effect (by decide) ?_
    exact Effect.refl _
  clear_value s1_4
  have hs2_5 : Effect [.links, .seq, .mem, .pages, .ptl, .ptlIn, .ptlRun, .cyc, .hif, .posted] s s2_5 := by
    unfold s2_5
    refine Effect.step State.modPin_effect (by decide) ?_
    refine Effect.step State.modRun_effect (by decide) ?_
    assumption
  clear_value s2_5
  have hs3_6 : Effect [.links, .seq, .mem, .pages, .ptl, .ptlIn, .ptlRun, .cyc, .hif, .posted] s s3_6 := by
    unfold s3_6
    split
    · rename_i z_7
      refine Effect.step State.statPtl_effect (by decide) ?_
      assumption
    · rename_i z_8
      refine Effect.step State.statPtl_effect (by decide) ?_
      refine Effect.step State.ptlMark_effect (by decide) ?_
      assumption
    · rename_i z_9
      refine Effect.step State.statPtl_effect (by decide) ?_
      assumption
    · rename_i z_10
      assumption
    · rename_i z_11
      assumption
    · rename_i z_12
      assumption
    · rename_i z_13
      assumption
    · rename_i z_14
      assumption
    · rename_i z_15
      assumption
    · rename_i z_16
      assumption
    · rename_i z_17
      assumption
    · rename_i z_18
      assumption
    · rename_i z_19
      assumption
    · rename_i z_20
      assumption
    · rename_i z_21
      assumption
  clear_value s3_6
  refine ite_intro ?_ ?_
  · exact Effect.refl _
  · refine Effect.step State.ev_effect (by decide) ?_
    assumption

theorem State.ptlFault_effect {p : Fin 8} {cause : Nat} {s : State} : Effect [.links, .seq, .mem, .pages, .ax, .coil, .ptl, .ptlIn, .ptlRun, .cyc, .hif, .posted] s (State.ptlFault p cause s) := by
  unfold State.ptlFault
  refine Effect.step State.ptlEnter_effect (by decide) ?_
  refine Effect.step State.leafScale_effect (by decide) ?_
  refine Effect.step State.stopMembers_effect (by decide) ?_
  exact Effect.refl _

theorem State.toCloseWarn_effect {p : Fin 8} {s : State} : Effect [.links, .seq, .mem, .pages, .ptl, .ptlIn, .ptlRun, .cyc, .hif, .posted] s (State.toCloseWarn p s) := by
  unfold State.toCloseWarn
  extract_lets x_1 can_2 same_3 s1_4
  clear_value x_1
  clear_value can_2
  have hs1_4 : Effect [.links, .seq, .mem, .pages, .ptl, .ptlIn, .ptlRun, .cyc, .hif, .posted] s s1_4 := by
    unfold s1_4
    refine Effect.step State.ptlEnter_effect (by decide) ?_
    refine ite_intro ?_ ?_
    · refine Effect.step State.timePhase_effect (by decide) ?_
      exact Effect.refl _
    · exact Effect.refl _
  clear_value s1_4
  refine Effect.step State.timerStart_effect (by decide) ?_
  refine Effect.step State.modCyc_effect (by decide) ?_
  refine Effect.step State.modRun_effect (by decide) ?_
  assumption

theorem State.toOpenState_effect {p : Fin 8} {complete : Bool} {s : State} : Effect [.links, .seq, .mem, .pages, .ax, .gear, .cam, .ptl, .ptlIn, .ptlRun, .cyc, .hif, .posted] s (State.toOpenState p complete s) := by
  unfold State.toOpenState
  extract_lets auto_1 s0_2 s1_3 s2_4
  clear_value auto_1
  have hs0_2 : Effect [.links, .seq, .mem, .pages, .ax, .gear, .cam, .ptl, .ptlIn, .ptlRun, .cyc, .hif, .posted] s s0_2 := by
    unfold s0_2
    refine ite_intro ?_ ?_
    · refine Effect.step State.timePhase_effect (by decide) ?_
      exact Effect.refl _
    · refine Effect.step State.modCyc_effect (by decide) ?_
      exact Effect.refl _
  clear_value s0_2
  have hs1_3 : Effect [.links, .seq, .mem, .pages, .ax, .gear, .cam, .ptl, .ptlIn, .ptlRun, .cyc, .hif, .posted] s s1_3 := by
    unfold s1_3
    refine Effect.step State.stepEngage_effect (by decide) ?_
    refine Effect.step State.ptlEnter_effect (by decide) ?_
    assumption
  clear_value s1_3
  have hs2_4 : Effect [.links, .seq, .mem, .pages, .ax, .gear, .cam, .ptl, .ptlIn, .ptlRun, .cyc, .hif, .posted] s s2_4 := by
    unfold s2_4
    refine ite_intro ?_ ?_
    · refine Effect.step State.timerStart_effect (by decide) ?_
      assumption
    · assumption
  clear_value s2_4
  refine ite_intro ?_ ?_
  · assumption
  · refine Effect.step State.timerStart_effect (by decide) ?_
    assumption

theorem State.startOpening_effect {p : Fin 8} {s : State} : Effect [.ax, .coil, .gear, .cam, .ptlRun] s (State.startOpening p s) := by
  unfold State.startOpening
  refine ite_intro ?_ ?_
  · refine Effect.step State.phase_effect (by decide) ?_
    refine Effect.step State.stepMove_effect (by decide) ?_
    exact Effect.refl _
  · refine Effect.step State.phase_effect (by decide) ?_
    refine Effect.step State.openMoves_effect (by decide) ?_
    exact Effect.refl _

theorem State.startUnlock_effect {p : Fin 8} {s : State} : Effect [.ax, .coil, .gear, .cam, .ptlIn, .ptlRun] s (State.startUnlock p s) := by
  unfold State.startUnlock
  extract_lets tmo_1 noLock_2 s1_3
  clear_value tmo_1
  have hs1_3 : Effect [.ax, .coil, .gear, .cam, .ptlIn, .ptlRun] s s1_3 := by
    unfold s1_3
    refine Effect.step State.phase_effect (by decide) ?_
    exact Effect.refl _
  clear_value s1_3
  refine ite_intro ?_ ?_
  · refine Effect.step State.startOpening_effect (by decide) ?_
    assumption
  · refine ite_intro ?_ ?_
    · refine Effect.step State.startOpening_effect (by decide) ?_
      refine Effect.step State.timerStart_effect (by decide) ?_
      assumption
    · refine Effect.step State.timerStart_effect (by decide) ?_
      assumption

theorem State.toOpening_effect {p : Fin 8} {s : State} : Effect [.links, .seq, .mem, .pages, .ax, .coil, .gear, .cam, .ptl, .ptlIn, .ptlRun, .cyc, .hif, .posted] s (State.toOpening p s) := by
  unfold State.toOpening
  extract_lets s1_1
  have hs1_1 : Effect [.links, .seq, .mem, .pages, .ax, .coil, .gear, .cam, .ptl, .ptlIn, .ptlRun, .cyc, .hif, .posted] s s1_1 := by
    unfold s1_1
    refine Effect.step State.modCyc_effect (by decide) ?_
    refine Effect.step State.modRun_effect (by decide) ?_
    refine Effect.step State.ptlEnter_effect (by decide) ?_
    exact Effect.refl _
  clear_value s1_1
  refine ite_intro ?_ ?_
  · refine Effect.step State.startUnlock_effect (by decide) ?_
    assumption
  · refine Effect.step State.phase_effect (by decide) ?_
    refine Effect.step State.stopMembers_effect (by decide) ?_
    assumption

theorem State.toLocking_effect {p : Fin 8} {s : State} : Effect [.links, .seq, .mem, .pages, .ax, .coil, .gear, .cam, .ptl, .ptlIn, .ptlRun, .cyc, .hif, .posted] s (State.toLocking p s) := by
  unfold State.toLocking
  extract_lets close_1 s1_2
  clear_value close_1
  have hs1_2 : Effect [.links, .seq, .mem, .pages, .ax, .coil, .gear, .cam, .ptl, .ptlIn, .ptlRun, .cyc, .hif, .posted] s s1_2 := by
    unfold s1_2
    refine ite_intro ?_ ?_
    · refine Effect.step State.timePhase_effect (by decide) ?_
      exact Effect.refl _
    · exact Effect.refl _
  clear_value s1_2
  refine Effect.step State.timerStart_effect (by decide) ?_
  refine Effect.step State.modCyc_effect (by decide) ?_
  refine Effect.step State.modRun_effect (by decide) ?_
  refine Effect.step State.stepEngage_effect (by decide) ?_
  refine Effect.step State.ptlEnter_effect (by decide) ?_
  refine Effect.step State.leafScale_effect (by decide) ?_
  assumption

theorem State.startClose_effect {p : Fin 8} {nudge : Bool} {s : State} : Effect [.links, .seq, .mem, .pages, .ax, .coil, .gear, .cam, .ptl, .ptlIn, .ptlRun, .cyc, .hif, .posted] s (State.startClose p nudge s) := by
  unfold State.startClose
  extract_lets s1_1 s2_2 s3_3
  have hs1_1 : Effect [.links, .seq, .mem, .pages, .ax, .coil, .gear, .cam, .ptl, .ptlIn, .ptlRun, .cyc, .hif, .posted] s s1_1 := by
    unfold s1_1
    refine ite_intro ?_ ?_
    · refine Effect.step State.timePhase_effect (by decide) ?_
      exact Effect.refl _
    · exact Effect.refl _
  clear_value s1_1
  have hs2_2 : Effect [.links, .seq, .mem, .pages, .ax, .coil, .gear, .cam, .ptl, .ptlIn, .ptlRun, .cyc, .hif, .posted] s s2_2 := by
    unfold s2_2
    refine Effect.step State.modRun_effect (by decide) ?_
    refine Effect.step State.ptlEnter_effect (by decide) ?_
    assumption
  clear_value s2_2
  have hs3_3 : Effect [.links, .seq, .mem, .pages, .ax, .coil, .gear, .cam, .ptl, .ptlIn, .ptlRun, .cyc, .hif, .posted] s s3_3 := by
    unfold s3_3
    refine Effect.step State.modCyc_effect (by decide) ?_
    refine Effect.step State.modPtl_effect (by decide) ?_
    assumption
  clear_value s3_3
  refine Effect.step State.phase_effect (by decide) ?_
  refine ite_intro ?_ ?_
  · refine Effect.step State.nudgeMoves_effect (by decide) ?_
    assumption
  · refine Effect.step State.closeMoves_effect (by decide) ?_
    assumption

theorem State.startRef_effect {p : Fin 8} {s : State} : Effect [.links, .seq, .mem, .pages, .ax, .coil, .ptl, .ptlIn, .ptlRun, .cyc, .hif, .posted] s (State.startRef p s) := by
  unfold State.startRef
  extract_lets at_1 s1_2 s2_3
  clear_value at_1
  have hs1_2 : Effect [.links, .seq, .mem, .pages, .ax, .coil, .ptl, .ptlIn, .ptlRun, .cyc, .hif, .posted] s s1_2 := by
    unfold s1_2
    refine Effect.step State.modPtl_effect (by decide) ?_
    refine Effect.step State.ptlEnter_effect (by decide) ?_
    refine Effect.step State.timePhase_effect (by decide) ?_
    exact Effect.refl _
  clear_value s1_2
  have hs2_3 : Effect [.links, .seq, .mem, .pages, .ax, .coil, .ptl, .ptlIn, .ptlRun, .cyc, .hif, .posted] s s2_3 := by
    unfold s2_3
    refine Effect.step State.modRun_effect (by decide) ?_
    assumption
  clear_value s2_3
  refine Effect.step State.refMoves_effect (by decide) ?_
  refine Effect.step State.statPtl_effect (by decide) ?_
  refine Effect.step State.modCyc_effect (by decide) ?_
  assumption

theorem State.toReopenHold_effect {p : Fin 8} {nudge : Bool} {s : State} : Effect [.links, .seq, .mem, .pages, .ax, .coil, .gear, .cam, .ptl, .ptlIn, .ptlRun, .cyc, .hif, .posted] s (State.toReopenHold p nudge s) := by
  unfold State.toReopenHold
  extract_lets s1_1
  have hs1_1 : Effect [.links, .seq, .mem, .pages, .ax, .coil, .gear, .cam, .ptl, .ptlIn, .ptlRun, .cyc, .hif, .posted] s s1_1 := by
    unfold s1_1
    refine Effect.step State.modRun_effect (by decide) ?_
    refine Effect.step State.stepEngage_effect (by decide) ?_
    refine Effect.step State.ptlEnter_effect (by decide) ?_
    refine Effect.step State.leafScale_effect (by decide) ?_
    exact Effect.refl _
  clear_value s1_1
  refine ite_intro ?_ ?_
  · refine Effect.step State.timerStart_effect (by decide) ?_
    assumption
  · refine Effect.step State.timerStart_effect (by decide) ?_
    assumption

theorem State.closeDone_effect {p : Fin 8} {s : State} : Effect [.links, .seq, .mem, .pages, .ptl, .ptlIn, .ptlRun, .cyc, .cycEnd, .env, .envKept, .hif, .recd, .pair, .posted] s (State.closeDone p s) := by
  unfold State.closeDone
  extract_lets s0_1 s1_2 s2_3 s3_4
  have hs0_1 : Effect [.links, .seq, .mem, .pages, .ptl, .ptlIn, .ptlRun, .cyc, .cycEnd, .env, .envKept, .hif, .recd, .pair, .posted] s s0_1 := by
    unfold s0_1
    refine Effect.step State.modPtl_effect (by decide) ?_
    refine Effect.step State.timePhase_effect (by decide) ?_
    exact Effect.refl _
  clear_value s0_1
  have hs1_2 : Effect [.links, .seq, .mem, .pages, .ptl, .ptlIn, .ptlRun, .cyc, .cycEnd, .env, .envKept, .hif, .recd, .pair, .posted] s s1_2 := by
    unfold s1_2
    refine ite_intro ?_ ?_
    · assumption
    · refine Effect.step State.learn_effect (by decide) ?_
      assumption
  clear_value s1_2
  have hs2_3 : Effect [.links, .seq, .mem, .pages, .ptl, .ptlIn, .ptlRun, .cyc, .cycEnd, .env, .envKept, .hif, .recd, .pair, .posted] s s2_3 := by
    unfold s2_3
    refine Effect.step State.awaitRec_effect (by decide) ?_
    assumption
  clear_value s2_3
  have hs3_4 : Effect [.links, .seq, .mem, .pages, .ptl, .ptlIn, .ptlRun, .cyc, .cycEnd, .env, .envKept, .hif, .recd, .pair, .posted] s s3_4 := by
    unfold s3_4
    refine Effect.put (x := s2_3) ?_ (fun p hp => by cases p <;> first | exact absurd (by decide) hp | rfl) rfl ⟨rfl, rfl, rfl⟩ ⟨rfl, rfl⟩ rfl rfl
    assumption
  clear_value s3_4
  refine Effect.step State.ptlEnter_effect (by decide) ?_
  refine Effect.step State.modRun_effect (by decide) ?_
  refine Effect.step State.modCyc_effect (by decide) ?_
  refine Effect.step State.statPtl_effect (by decide) ?_
  assumption

theorem State.reference_effect {a : Fin 12} {num : Int} {den : Nat} {s : State} : Effect [.links, .seq, .pages, .ax, .drv, .coil, .watch, .fb, .ptlRun, .hif, .posted] s (State.reference a num den s) := by
  unfold State.reference
  extract_lets cpr_1 t_2
  clear_value cpr_1
  have ht_2 : Effect [.links, .seq, .pages, .ax, .drv, .coil, .watch, .fb, .ptlRun, .hif, .posted] s t_2 := by
    unfold t_2
    refine ite_intro ?_ ?_
    · refine Effect.step State.presetTo_effect (by decide) ?_
      exact Effect.refl _
    · refine Effect.step State.alignAxis_effect (by decide) ?_
      exact Effect.refl _
  clear_value t_2
  refine Effect.step State.modAx_effect (by decide) ?_
  assumption

theorem State.refClosed_effect {p : Fin 8} {s : State} : Effect [.links, .seq, .pages, .ax, .drv, .coil, .watch, .fb, .ptl, .ptlRun, .cyc, .hif, .posted] s (State.refClosed p s) := by
  unfold State.refClosed
  refine Effect.forAll (fun a_1 t_2 => ?_) ?_
  · extract_lets c_3
    clear_value c_3
    refine ite_intro ?_ ?_
    · refine Effect.step State.ptlMark_effect (by decide) ?_
      refine Effect.step State.reference_effect (by decide) ?_
      exact Effect.refl _
    · exact Effect.refl _
  · exact Effect.refl _

theorem State.resync_effect {p : Fin 8} {noPos : Bool} {s0 : State} : Effect (([.links, .seq, .mem, .pages, .ax, .drv, .coil, .watch, .fb, .gear, .cam, .ptl, .ptlIn, .ptlRun, .cyc, .hif] : List Part) ++ ([.posted] : List Part)) s0 (State.resync p noPos s0) := by
  unfold State.resync
  extract_lets s_1 i_2 valid_3 rel_4
  have hs_1 : Effect (([.links, .seq, .mem, .pages, .ax, .drv, .coil, .watch, .fb, .gear, .cam, .ptl, .ptlIn, .ptlRun, .cyc, .hif] : List Part) ++ ([.posted] : List Part)) s0 s_1 := by
    unfold s_1
    refine Effect.step State.modRun_effect (by decide) ?_
    refine Effect.step State.modPin_effect (by decide) ?_
    exact Effect.refl _
  clear_value s_1
  clear_value i_2
  clear_value valid_3
  clear_value rel_4
  split
  · rename_i z_5 z_6 z_7 z_8
    refine ite_intro ?_ ?_
    · refine Effect.step State.ptlEnter_effect (by decide) ?_
      assumption
    · refine ite_intro ?_ ?_
      · refine Effect.step State.ptlEnter_effect (by decide) ?_
        assumption
      · refine Effect.step State.ptlEnter_effect (by decide) ?_
        assumption
  · rename_i z_9 z_10
    refine ite_intro ?_ ?_
    · refine Effect.step State.ptlEnter_effect (by decide) ?_
      assumption
    · refine ite_intro ?_ ?_
      · refine Effect.step State.ptlEnter_effect (by decide) ?_
        assumption
      · refine ite_intro ?_ ?_
        · refine Effect.step State.ptlEnter_effect (by decide) ?_
          refine Effect.step State.refClosed_effect (by decide) ?_
          assumption
        · refine ite_intro ?_ ?_
          · refine Effect.step State.toLocking_effect (by decide) ?_
            assumption
          · refine ite_intro ?_ ?_
            · refine Effect.step State.ptlEnter_effect (by decide) ?_
              assumption
            · refine ite_intro ?_ ?_
              · refine Effect.step State.toOpenState_effect (by decide) ?_
                refine ite_intro ?_ ?_
                · assumption
                · refine Effect.step State.ptlMark_effect (by decide) ?_
                  assumption
              · refine ite_intro ?_ ?_
                · refine Effect.step State.toCloseWarn_effect (by decide) ?_
                  assumption
                · refine Effect.step State.toCloseWarn_effect (by decide) ?_
                  refine Effect.step State.modRun_effect (by decide) ?_
                  assumption

theorem State.obsRecord_effect {p : Fin 8} {l : List Trip} {count : Nat} {s : State} : Effect [.links, .seq, .mem, .pages, .ptl, .ptlRun, .cyc, .hif, .posted] s (State.obsRecord p l count s) := by
  unfold State.obsRecord
  split
  · rename_i z_1 z_2
    exact Effect.refl _
  · rename_i z_3 z_4 z_5 z_6 z_7 z_8
    extract_lets word_9 s1_10 s2_11
    clear_value word_9
    have hs1_10 : Effect [.links, .seq, .mem, .pages, .ptl, .ptlRun, .cyc, .hif, .posted] s s1_10 := by
      unfold s1_10
      refine Effect.step State.modPtl_effect (by decide) ?_
      exact Effect.refl _
    clear_value s1_10
    have hs2_11 : Effect [.links, .seq, .mem, .pages, .ptl, .ptlRun, .cyc, .hif, .posted] s s2_11 := by
      unfold s2_11
      refine Effect.step State.modCyc_effect (by decide) ?_
      refine Effect.step State.modRun_effect (by decide) ?_
      refine Effect.step State.ptlFlag_effect (by decide) ?_
      assumption
    clear_value s2_11
    refine Effect.step State.ev_effect (by decide) ?_
    refine Effect.step State.statPtl_effect (by decide) ?_
    assumption

theorem State.obsNote_effect {p : Fin 8} {l : List Trip} {s : State} : Effect [.links, .seq, .ptl] s (State.obsNote p l s) := by
  unfold State.obsNote
  split
  · rename_i z_1 z_2
    exact Effect.refl _
  · rename_i z_3 z_4 z_5 z_6 z_7 z_8
    extract_lets word_9
    clear_value word_9
    refine Effect.step State.ev_effect (by decide) ?_
    refine Effect.step State.modPtl_effect (by decide) ?_
    exact Effect.refl _

theorem State.forceNow_effect {p : Fin 8} {k : Fin 2} {s : State} : Effect [.ptl] s (State.forceNow p k s) := by
  unfold State.forceNow
  refine Effect.step State.modPtl_effect (by decide) ?_
  exact Effect.refl _

theorem State.leafForces_effect {p : Fin 8} {k : Fin 2} {s : State} : EffectSnd [.pages, .ptl, .ptlRun, .cyc, .hif, .posted] s (State.leafForces p k s) := by
  unfold State.leafForces
  extract_lets n_1 f_2 s1_3 x_4 b_5 l_6 margin_7 filt_8 closing_9 env_10 mx_11
  clear_value n_1
  clear_value f_2
  have hs1_3 : Effect [.pages, .ptl, .ptlRun, .cyc, .hif, .posted] s s1_3 := by
    unfold s1_3
    refine Effect.step State.forceNow_effect (by decide) ?_
    exact Effect.refl _
  clear_value s1_3
  clear_value x_4
  clear_value b_5
  clear_value l_6
  clear_value margin_7
  clear_value filt_8
  clear_value closing_9
  clear_value env_10
  clear_value mx_11
  split
  · rename_i z_12 z_13 z_14 z_15
    extract_lets er_16 mr_17 t1_18 t2_19 near_20 s2_21 m_22 s3_23 s4_24
    clear_value er_16
    clear_value mr_17
    clear_value t1_18
    clear_value t2_19
    clear_value near_20
    have hs2_21 : Effect [.pages, .ptl, .ptlRun, .cyc, .hif, .posted] s s2_21 := by
      unfold s2_21
      refine Effect.step State.modRun_effect (by decide) ?_
      assumption
    clear_value s2_21
    clear_value m_22
    have hs3_23 : Effect [.pages, .ptl, .ptlRun, .cyc, .hif, .posted] s s3_23 := by
      unfold s3_23
      refine Effect.step State.modCyc_effect (by decide) ?_
      assumption
    clear_value s3_23
    have hs4_24 : Effect [.pages, .ptl, .ptlRun, .cyc, .hif, .posted] s s4_24 := by
      unfold s4_24
      refine ite_intro ?_ ?_
      · refine Effect.step State.modPtl_effect (by decide) ?_
        assumption
      · assumption
    clear_value s4_24
    refine EffectSnd.mk ?_
    refine ite_intro ?_ ?_
    · refine Effect.step State.ptlMark_effect (by decide) ?_
      assumption
    · assumption
  · rename_i z_25 z_26 z_27
    refine EffectSnd.mk ?_
    refine Effect.step State.modRun_effect (by decide) ?_
    assumption

theorem State.cycleSample_effect {p : Fin 8} {s : State} : Effect [.ptlRun, .cyc] s (State.cycleSample p s) := by
  unfold State.cycleSample
  extract_lets x_1 closing_2 ds_3 least_4 vm_5 th_6 s1_7 s2_8 bad_9
  clear_value x_1
  clear_value closing_2
  clear_value ds_3
  clear_value least_4
  clear_value vm_5
  clear_value th_6
  have hs1_7 : Effect [.ptlRun, .cyc] s s1_7 := by
    unfold s1_7
    refine Effect.step State.modCyc_effect (by decide) ?_
    exact Effect.refl _
  clear_value s1_7
  have hs2_8 : Effect [.ptlRun, .cyc] s s2_8 := by
    unfold s2_8
    refine Effect.forAll (fun a_10 t_11 => ?_) ?_
    · refine ite_intro ?_ ?_
      · exact Effect.refl _
      · refine Effect.step State.modCyc_effect (by decide) ?_
        exact Effect.refl _
    · assumption
  clear_value s2_8
  clear_value bad_9
  refine ite_intro ?_ ?_
  · refine Effect.step State.modRun_effect (by decide) ?_
    assumption
  · assumption

theorem State.obsTake_effect {p : Fin 8} {l : List Trip} {s : State} : EffectOpt [.links, .seq, .mem, .pages, .ax, .coil, .gear, .cam, .ptl, .ptlIn, .ptlRun, .cyc, .hif, .posted] s (State.obsTake p l s) := by
  unfold State.obsTake
  extract_lets x_1 r_2 stepOnly_3 moving_4 s1_5 alone_6 s1_7 s1_8
  clear_value x_1
  clear_value r_2
  clear_value stepOnly_3
  clear_value moving_4
  have hs1_5 : Effect [.links, .seq, .mem, .pages, .ax, .coil, .gear, .cam, .ptl, .ptlIn, .ptlRun, .cyc, .hif, .posted] s s1_5 := by
    unfold s1_5
    refine Effect.step State.obsStop_effect (by decide) ?_
    refine Effect.step State.obsRecord_effect (by decide) ?_
    exact Effect.refl _
  clear_value s1_5
  clear_value alone_6
  have hs1_7 : Effect [.links, .seq, .mem, .pages, .ax, .coil, .gear, .cam, .ptl, .ptlIn, .ptlRun, .cyc, .hif, .posted] s s1_7 := by
    unfold s1_7
    refine Effect.step State.obsStop_effect (by decide) ?_
    refine Effect.step State.obsRecord_effect (by decide) ?_
    exact Effect.refl _
  clear_value s1_7
  have hs1_8 : Effect [.links, .seq, .mem, .pages, .ax, .coil, .gear, .cam, .ptl, .ptlIn, .ptlRun, .cyc, .hif, .posted] s s1_8 := by
    unfold s1_8
    refine Effect.step State.obsStop_effect (by decide) ?_
    refine Effect.step State.obsRecord_effect (by decide) ?_
    exact Effect.refl _
  clear_value s1_8
  refine ite_intro ?_ ?_
  · exact EffectOpt.none
  · refine ite_intro ?_ ?_
    · refine ite_intro ?_ ?_
      · refine EffectOpt.some ?_
        refine Effect.step State.ptlFault_effect (by decide) ?_
        assumption
      · refine ite_intro ?_ ?_
        · refine EffectOpt.some ?_
          refine Effect.step State.ptlFault_effect (by decide) ?_
          assumption
        · refine EffectOpt.some ?_
          refine Effect.step State.timerStop_effect (by decide) ?_
          refine Effect.step State.phase_effect (by decide) ?_
          refine Effect.step State.modRun_effect (by decide) ?_
          assumption
    · split
      · rename_i z_9 z_10
        refine ite_intro ?_ ?_
        · exact EffectOpt.none
        · refine EffectOpt.some ?_
          refine Effect.step State.phase_effect (by decide) ?_
          refine Effect.step State.obsStop_effect (by decide) ?_
          refine Effect.step State.obsRecord_effect (by decide) ?_
          exact Effect.refl _
      · rename_i z_11 z_12
        refine ite_intro ?_ ?_
        · refine ite_intro ?_ ?_
          · exact EffectOpt.none
          · refine ite_intro ?_ ?_
            · refine EffectOpt.some ?_
              refine Effect.step State.ptlFault_effect (by decide) ?_
              assumption
            · refine EffectOpt.some ?_
              refine Effect.step State.phase_effect (by decide) ?_
              assumption
        · refine EffectOpt.some ?_
          refine Effect.step State.modRun_effect (by decide) ?_
          refine Effect.step State.ptlEnter_effect (by decide) ?_
          refine Effect.step State.obsStop_effect (by decide) ?_
          refine Effect.step State.obsRecord_effect (by decide) ?_
          exact Effect.refl _
      · rename_i z_13 z_14
        refine ite_intro ?_ ?_
        · refine EffectOpt.some ?_
          refine Effect.step State.ptlFault_effect (by decide) ?_
          assumption
        · refine EffectOpt.some ?_
          refine Effect.step State.modRun_effect (by decide) ?_
          refine Effect.step State.ptlEnter_effect (by decide) ?_
          assumption
      · rename_i z_15 z_16
        refine EffectOpt.some ?_
        refine Effect.step State.modRun_effect (by decide) ?_
        refine Effect.step State.ptlEnter_effect (by decide) ?_
        refine Effect.step State.obsStop_effect (by decide) ?_
        refine Effect.step State.obsRecord_effect (by decide) ?_
        exact Effect.refl _
      · rename_i z_17 z_18
        refine ite_intro ?_ ?_
        · refine EffectOpt.some ?_
          refine Effect.step State.phase_effect (by decide) ?_
          refine Effect.step State.obsStop_effect (by decide) ?_
          refine Effect.step State.ptlEnter_effect (by decide) ?_
          refine Effect.step State.obsRecord_effect (by decide) ?_
          exact Effect.refl _
        · exact EffectOpt.none
      · rename_i z_19 z_20
        exact EffectOpt.none
      · rename_i z_21 z_22
        exact EffectOpt.none
      · rename_i z_23 z_24
        exact EffectOpt.none
      · rename_i z_25 z_26
        exact EffectOpt.none
      · rename_i z_27 z_28
        exact EffectOpt.none
      · rename_i z_29 z_30
        exact EffectOpt.none
      · rename_i z_31 z_32
        exact EffectOpt.none
      · rename_i z_33 z_34
        exact EffectOpt.none
      · rename_i z_35 z_36
        exact EffectOpt.none
      · rename_i z_37 z_38
        exact EffectOpt.none

theorem State.refMark_effect {p : Fin 8} {s : State} : Effect [.ptlRun] s (State.refMark p s) := by
  unfold State.refMark
  extract_lets i_1 h_2
  clear_value i_1
  clear_value h_2
  refine ite_intro ?_ ?_
  · exact Effect.refl _
  · refine ite_intro ?_ ?_
    · refine Effect.step State.modRun_effect (by decide) ?_
      exact Effect.refl _
    · refine ite_intro ?_ ?_
      · exact Effect.refl _
      · refine Effect.step State.modRun_effect (by decide) ?_
        exact Effect.refl _

theorem State.refReached_effect {p : Fin 8} {s : State} : Effect [.ax, .ptlRun] s (State.refReached p s) := by
  unfold State.refReached
  refine Effect.step State.phase_effect (by decide) ?_
  refine Effect.step State.stopMembers_effect (by decide) ?_
  exact Effect.refl _

theorem State.refSet_effect {p : Fin 8} {s : State} : Effect [.links, .seq, .pages, .ax, .drv, .coil, .watch, .fb, .ptl, .ptlRun, .cyc, .hif, .posted] s (State.refSet p s) := by
  unfold State.refSet
  extract_lets den_1 run_2 s1_3 s1a_4 s2_5
  clear_value den_1
  clear_value run_2
  have hs1_3 : Effect [.links, .seq, .pages, .ax, .drv, .coil, .watch, .fb, .ptl, .ptlRun, .cyc, .hif, .posted] s s1_3 := by
    unfold s1_3
    refine Effect.forAll (fun a_6 t_7 => ?_) ?_
    · extract_lets k_8 od_9 num_10
      clear_value od_9
      clear_value num_10
      refine Effect.step State.reference_effect (by decide) ?_
      exact Effect.refl _
    · exact Effect.refl _
  clear_value s1_3
  have hs1a_4 : Effect [.links, .seq, .pages, .ax, .drv, .coil, .watch, .fb, .ptl, .ptlRun, .cyc, .hif, .posted] s s1a_4 := by
    unfold s1a_4
    refine Effect.step State.modRun_effect (by decide) ?_
    assumption
  clear_value s1a_4
  have hs2_5 : Effect [.links, .seq, .pages, .ax, .drv, .coil, .watch, .fb, .ptl, .ptlRun, .cyc, .hif, .posted] s s2_5 := by
    unfold s2_5
    refine Effect.step State.armLimits_effect (by decide) ?_
    refine Effect.step State.leafScale_effect (by decide) ?_
    refine Effect.step State.ptlMark_effect (by decide) ?_
    assumption
  clear_value s2_5
  refine Effect.step State.phase_effect (by decide) ?_
  refine Effect.forAll (fun a_11 t_12 => ?_) ?_
  · refine Effect.step State.doorMove_effect (by decide) ?_
    exact Effect.refl _
  · assumption

theorem State.refStepOrLock_effect {p : Fin 8} {s : State} : Effect [.links, .seq, .mem, .pages, .ax, .coil, .gear, .cam, .ptl, .ptlIn, .ptlRun, .cyc, .hif, .posted] s (State.refStepOrLock p s) := by
  unfold State.refStepOrLock
  split
  · rename_i z_1 z_2 z_3
    refine ite_intro ?_ ?_
    · refine Effect.step State.toLocking_effect (by decide) ?_
      exact Effect.refl _
    · refine Effect.step State.phase_effect (by decide) ?_
      refine Effect.step State.doorMove_effect (by decide) ?_
      exact Effect.refl _
  · rename_i z_4 z_5
    refine Effect.step State.toLocking_effect (by decide) ?_
    exact Effect.refl _

theorem State.refGoOn_effect {p : Fin 8} {s : State} : EffectOpt (([.links, .seq, .mem, .pages, .ax, .drv, .coil, .watch, .fb, .gear, .cam, .ptl, .ptlIn, .ptlRun, .cyc, .hif] : List Part) ++ ([.posted] : List Part)) s (State.refGoOn p s) := by
  unfold State.refGoOn
  extract_lets r_1 far_2
  clear_value r_1
  clear_value far_2
  split
  · rename_i z_3 z_4
    refine ite_intro ?_ ?_
    · refine EffectOpt.some ?_
      refine Effect.step State.refReached_effect (by decide) ?_
      exact Effect.refl _
    · refine ite_intro ?_ ?_
      · refine EffectOpt.some ?_
        refine Effect.step State.ptlFault_effect (by decide) ?_
        exact Effect.refl _
      · exact EffectOpt.none
  · rename_i z_5 z_6
    refine ite_intro ?_ ?_
    · refine EffectOpt.some ?_
      refine Effect.step State.timerStart_effect (by decide) ?_
      refine Effect.step State.phase_effect (by decide) ?_
      exact Effect.refl _
    · exact EffectOpt.none
  · rename_i z_7 z_8
    refine ite_intro ?_ ?_
    · refine EffectOpt.some ?_
      refine Effect.step State.phase_effect (by decide) ?_
      refine Effect.step State.refMoves_effect (by decide) ?_
      refine Effect.step State.timerStop_effect (by decide) ?_
      exact Effect.refl _
    · exact EffectOpt.none
  · rename_i z_9 z_10
    refine ite_intro ?_ ?_
    · refine EffectOpt.some ?_
      refine Effect.step State.refSet_effect (by decide) ?_
      exact Effect.refl _
    · exact EffectOpt.none
  · rename_i z_11 z_12
    refine ite_intro ?_ ?_
    · refine EffectOpt.some ?_
      refine Effect.step State.refStepOrLock_effect (by decide) ?_
      exact Effect.refl _
    · exact EffectOpt.none
  · rename_i z_13 z_14
    refine ite_intro ?_ ?_
    · refine EffectOpt.some ?_
      refine Effect.step State.phase_effect (by decide) ?_
      refine Effect.step State.stopMembers_effect (by decide) ?_
      exact Effect.refl _
    · exact EffectOpt.none
  · rename_i z_15 z_16
    refine ite_intro ?_ ?_
    · exact EffectOpt.none
    · split
      · rename_i z_17 z_18 z_19
        refine EffectOpt.some ?_
        refine Effect.step State.toLocking_effect (by decide) ?_
        refine Effect.step State.reference_effect (by decide) ?_
        exact Effect.refl _
      · rename_i z_20 z_21
        refine EffectOpt.some ?_
        refine Effect.step State.toLocking_effect (by decide) ?_
        exact Effect.refl _
  · rename_i z_22 z_23
    exact EffectOpt.none
  · rename_i z_24 z_25
    exact EffectOpt.none
  · rename_i z_26 z_27
    exact EffectOpt.none
  · rename_i z_28 z_29
    exact EffectOpt.none
  · rename_i z_30 z_31
    exact EffectOpt.none
  · rename_i z_32 z_33
    exact EffectOpt.none
  · rename_i z_34 z_35
    exact EffectOpt.none
  · rename_i z_36 z_37
    exact EffectOpt.none
  · rename_i z_38 z_39
    exact EffectOpt.none
  · rename_i z_40 z_41 z_42
    exact EffectOpt.none
  · rename_i z_43 z_44
    exact EffectOpt.none

theorem State.relStep_effect {p : Fin 8} {s : State} : EffectOpt [.links, .seq, .mem, .pages, .ax, .coil, .gear, .cam, .ptl, .ptlIn, .ptlRun, .cyc, .hif, .posted] s (State.relStep p s) := by
  unfold State.relStep
  extract_lets rel_1 h_2
  clear_value rel_1
  clear_value h_2
  split
  · rename_i z_3 z_4
    refine ite_intro ?_ ?_
    · exact EffectOpt.none
    · refine ite_intro ?_ ?_
      · refine EffectOpt.some ?_
        refine Effect.step State.toOpening_effect (by decide) ?_
        exact Effect.refl _
      · refine EffectOpt.some ?_
        refine Effect.step State.ptlEnter_effect (by decide) ?_
        exact Effect.refl _
  · rename_i z_5 z_6
    refine ite_intro ?_ ?_
    · exact EffectOpt.none
    · refine EffectOpt.some ?_
      refine Effect.step State.ptlEnter_effect (by decide) ?_
      exact Effect.refl _
  · rename_i z_7 z_8
    refine ite_intro ?_ ?_
    · exact EffectOpt.none
    · refine ite_intro ?_ ?_
      · refine ite_intro ?_ ?_
        · refine EffectOpt.some ?_
          refine Effect.step State.ptlEnter_effect (by decide) ?_
          exact Effect.refl _
        · refine EffectOpt.some ?_
          refine Effect.step State.toLocking_effect (by decide) ?_
          exact Effect.refl _
      · refine EffectOpt.some ?_
        refine Effect.step State.modRun_effect (by decide) ?_
        refine Effect.step State.phase_effect (by decide) ?_
        refine Effect.step State.releaseStop_effect (by decide) ?_
        refine ite_intro ?_ ?_
        · refine Effect.step State.ptlMark_effect (by decide) ?_
          exact Effect.refl _
        · exact Effect.refl _
  · rename_i z_9 z_10
    refine ite_intro ?_ ?_
    · exact EffectOpt.none
    · refine EffectOpt.some ?_
      refine Effect.step State.toCloseWarn_effect (by decide) ?_
      exact Effect.refl _
  · rename_i z_11 z_12
    exact EffectOpt.none
  · rename_i z_13 z_14
    exact EffectOpt.none
  · rename_i z_15 z_16
    exact EffectOpt.none
  · rename_i z_17 z_18
    exact EffectOpt.none
  · rename_i z_19 z_20
    exact EffectOpt.none
  · rename_i z_21 z_22
    exact EffectOpt.none
  · rename_i z_23 z_24
    exact EffectOpt.none
  · rename_i z_25 z_26
    exact EffectOpt.none
  · rename_i z_27 z_28
    exact EffectOpt.none
  · rename_i z_29 z_30
    exact EffectOpt.none
  · rename_i z_31 z_32
    exact EffectOpt.none

theorem State.unlockFail_effect {p : Fin 8} {s : State} : Effect [.links, .seq, .mem, .pages, .ax, .ptl, .ptlIn, .ptlRun, .cyc, .hif, .posted] s (State.unlockFail p s) := by
  unfold State.unlockFail
  refine Effect.step State.ptlEnter_effect (by decide) ?_
  refine Effect.step State.statPtl_effect (by decide) ?_
  refine Effect.step State.ptlFlag_effect (by decide) ?_
  refine Effect.step State.stopMembers_effect (by decide) ?_
  exact Effect.refl _

theorem State.stepAgain_effect {p : Fin 8} {alone : Bool} {s : State} : Effect [.ax, .coil, .gear, .cam, .ptlIn, .ptlRun] s (State.stepAgain p alone s) := by
  unfold State.stepAgain
  extract_lets s1_1
  have hs1_1 : Effect [.ax, .coil, .gear, .cam, .ptlIn, .ptlRun] s s1_1 := by
    unfold s1_1
    refine Effect.step State.timerStop_effect (by decide) ?_
    exact Effect.refl _
  clear_value s1_1
  split
  · rename_i z_2 z_3
    refine ite_intro ?_ ?_
    · refine Effect.step State.phase_effect (by decide) ?_
      refine Effect.step State.stepMove_effect (by decide) ?_
      assumption
    · refine Effect.step State.phase_effect (by decide) ?_
      refine Effect.step State.openMoves_effect (by decide) ?_
      assumption
  · rename_i z_4 z_5
    refine ite_intro ?_ ?_
    · refine Effect.step State.phase_effect (by decide) ?_
      refine Effect.step State.stepMove_effect (by decide) ?_
      assumption
    · refine Effect.step State.phase_effect (by decide) ?_
      refine Effect.step State.closeMoves_effect (by decide) ?_
      assumption
  · rename_i z_6 z_7
    refine ite_intro ?_ ?_
    · refine Effect.step State.phase_effect (by decide) ?_
      refine Effect.step State.stepMove_effect (by decide) ?_
      assumption
    · refine Effect.step State.phase_effect (by decide) ?_
      refine Effect.step State.nudgeMoves_effect (by decide) ?_
      assumption
  · rename_i z_8 z_9
    refine Effect.step State.phase_effect (by decide) ?_
    refine Effect.step State.obsStop_effect (by decide) ?_
    assumption
  · rename_i z_10 z_11
    assumption
  · rename_i z_12 z_13
    assumption
  · rename_i z_14 z_15
    assumption
  · rename_i z_16 z_17
    assumption
  · rename_i z_18 z_19
    assumption
  · rename_i z_20 z_21
    assumption
  · rename_i z_22 z_23
    assumption
  · rename_i z_24 z_25
    assumption
  · rename_i z_26 z_27
    assumption
  · rename_i z_28 z_29
    assumption
  · rename_i z_30 z_31
    assumption

theorem State.openingStep_effect {p : Fin 8} {s : State} : EffectOpt [.links, .seq, .mem, .pages, .ax, .coil, .gear, .cam, .ptl, .ptlIn, .ptlRun, .cyc, .hif, .posted] s (State.openingStep p s) := by
  unfold State.openingStep
  extract_lets i_1 rest_2
  clear_value i_1
  clear_value rest_2
  split
  · rename_i z_3 z_4
    refine ite_intro ?_ ?_
    · refine EffectOpt.some ?_
      refine Effect.step State.startUnlock_effect (by decide) ?_
      exact Effect.refl _
    · exact EffectOpt.none
  · rename_i z_5 z_6
    refine ite_intro ?_ ?_
    · refine EffectOpt.some ?_
      refine Effect.step State.startOpening_effect (by decide) ?_
      refine Effect.step State.timerStop_effect (by decide) ?_
      exact Effect.refl _
    · refine ite_intro ?_ ?_
      · refine EffectOpt.some ?_
        refine Effect.step State.unlockFail_effect (by decide) ?_
        exact Effect.refl _
      · exact EffectOpt.none
  · rename_i z_7 z_8
    refine ite_intro ?_ ?_
    · refine EffectOpt.some ?_
      refine Effect.step State.unlockFail_effect (by decide) ?_
      exact Effect.refl _
    · refine ite_intro ?_ ?_
      · exact EffectOpt.none
      · refine ite_intro ?_ ?_
        · refine EffectOpt.some ?_
          refine Effect.step State.phase_effect (by decide) ?_
          refine Effect.step State.openMoves_effect (by decide) ?_
          exact Effect.refl _
        · refine ite_intro ?_ ?_
          · exact EffectOpt.none
          · refine EffectOpt.some ?_
            refine Effect.step State.toOpenState_effect (by decide) ?_
            exact Effect.refl _
  · rename_i z_9 z_10
    refine ite_intro ?_ ?_
    · refine EffectOpt.some ?_
      refine Effect.step State.unlockFail_effect (by decide) ?_
      exact Effect.refl _
    · refine ite_intro ?_ ?_
      · exact EffectOpt.none
      · refine ite_intro ?_ ?_
        · refine EffectOpt.some ?_
          refine Effect.step State.phase_effect (by decide) ?_
          refine Effect.step State.openMoves_effect (by decide) ?_
          exact Effect.refl _
        · refine ite_intro ?_ ?_
          · exact EffectOpt.none
          · refine EffectOpt.some ?_
            refine Effect.step State.toOpenState_effect (by decide) ?_
            exact Effect.refl _
  · rename_i z_11 z_12
    refine ite_intro ?_ ?_
    · refine EffectOpt.some ?_
      refine Effect.step State.toCloseWarn_effect (by decide) ?_
      exact Effect.refl _
    · exact EffectOpt.none
  · rename_i z_13 z_14
    refine ite_intro ?_ ?_
    · refine EffectOpt.some ?_
      refine Effect.step State.toOpenState_effect (by decide) ?_
      refine Effect.step State.ptlMark_effect (by decide) ?_
      exact Effect.refl _
    · exact EffectOpt.none
  · rename_i z_15 z_16 z_17
    refine ite_intro ?_ ?_
    · refine EffectOpt.some ?_
      refine Effect.step State.stepAgain_effect (by decide) ?_
      exact Effect.refl _
    · exact EffectOpt.none
  · rename_i z_18 z_19
    exact EffectOpt.none
  · rename_i z_20 z_21
    exact EffectOpt.none
  · rename_i z_22 z_23
    exact EffectOpt.none
  · rename_i z_24 z_25
    exact EffectOpt.none
  · rename_i z_26 z_27
    exact EffectOpt.none
  · rename_i z_28 z_29
    exact EffectOpt.none
  · rename_i z_30 z_31
    exact EffectOpt.none
  · rename_i z_32 z_33
    exact EffectOpt.none
  · rename_i z_34 z_35
    exact EffectOpt.none
  · rename_i z_36 z_37
    exact EffectOpt.none
  · rename_i z_38 z_39
    exact EffectOpt.none

theorem State.closingStep_effect {p : Fin 8} {s : State} : EffectOpt [.links, .seq, .mem, .pages, .ax, .coil, .gear, .cam, .ptl, .ptlIn, .ptlRun, .cyc, .hif, .posted] s (State.closingStep p s) := by
  unfold State.closingStep
  extract_lets i_1 rest_2 lock_3
  clear_value i_1
  clear_value rest_2
  have hlock_3 : ∀ y0, Effect [.links, .seq, .mem, .pages, .ax, .coil, .gear, .cam, .ptl, .ptlIn, .ptlRun, .cyc, .hif, .posted] y0 (lock_3 y0) := by
    intro y4
    unfold lock_3
    refine ite_intro ?_ ?_
    · refine Effect.step State.phase_effect (by decide) ?_
      refine Effect.step State.stepMove_effect (by decide) ?_
      exact Effect.refl _
    · refine Effect.step State.toLocking_effect (by decide) ?_
      exact Effect.refl _
  clear_value lock_3
  split
  · rename_i z5 z6
    refine ite_intro ?_ ?_
    · exact EffectOpt.none
    · refine ite_intro ?_ ?_
      · refine EffectOpt.some ?_
        exact hlock_3 _
      · refine EffectOpt.some ?_
        refine Effect.step State.timerStart_effect (by decide) ?_
        refine Effect.step State.phase_effect (by decide) ?_
        exact Effect.refl _
  · rename_i z7 z8
    refine ite_intro ?_ ?_
    · refine EffectOpt.some ?_
      refine Effect.trans ?_ (hlock_3 _)
      refine Effect.step State.timerStop_effect (by decide) ?_
      exact Effect.refl _
    · exact EffectOpt.none
  · rename_i z9 z10
    refine ite_intro ?_ ?_
    · refine EffectOpt.some ?_
      refine Effect.step State.toLocking_effect (by decide) ?_
      exact Effect.refl _
    · exact EffectOpt.none
  · rename_i z11 z12 z13
    refine ite_intro ?_ ?_
    · refine EffectOpt.some ?_
      refine Effect.step State.stepAgain_effect (by decide) ?_
      exact Effect.refl _
    · exact EffectOpt.none
  · rename_i z14 z15
    exact EffectOpt.none
  · rename_i z16 z17
    exact EffectOpt.none
  · rename_i z18 z19
    exact EffectOpt.none
  · rename_i z20 z21
    exact EffectOpt.none
  · rename_i z22 z23
    exact EffectOpt.none
  · rename_i z24 z25
    exact EffectOpt.none
  · rename_i z26 z27
    exact EffectOpt.none
  · rename_i z28 z29
    exact EffectOpt.none
  · rename_i z30 z31
    exact EffectOpt.none
  · rename_i z32 z33
    exact EffectOpt.none
  · rename_i z34 z35
    exact EffectOpt.none
  · rename_i z36 z37
    exact EffectOpt.none
  · rename_i z38 z39
    exact EffectOpt.none
  · rename_i z40 z41
    exact EffectOpt.none

theorem State.lockingStep_effect {p : Fin 8} {s : State} : EffectOpt (([.links, .seq, .mem, .pages, .ax, .coil, .ptl, .ptlIn, .ptlRun, .cyc, .cycEnd, .env, .envKept, .hif, .recd, .pair] : List Part) ++ ([.posted] : List Part)) s (State.lockingStep p s) := by
  unfold State.lockingStep
  extract_lets s1_1 s2_2
  have hs1_1 : Effect (([.links, .seq, .mem, .pages, .ax, .coil, .ptl, .ptlIn, .ptlRun, .cyc, .cycEnd, .env, .envKept, .hif, .recd, .pair] : List Part) ++ ([.posted] : List Part)) s s1_1 := by
    unfold s1_1
    refine Effect.step State.modRun_effect (by decide) ?_
    refine Effect.step State.statPtl_effect (by decide) ?_
    refine Effect.step State.ptlFlag_effect (by decide) ?_
    exact Effect.refl _
  clear_value s1_1
  have hs2_2 : Effect (([.links, .seq, .mem, .pages, .ax, .coil, .ptl, .ptlIn, .ptlRun, .cyc, .cycEnd, .env, .envKept, .hif, .recd, .pair] : List Part) ++ ([.posted] : List Part)) s s2_2 := by
    unfold s2_2
    refine Effect.step State.timerStart_effect (by decide) ?_
    refine Effect.step State.timerStop_effect (by decide) ?_
    assumption
  clear_value s2_2
  refine ite_intro ?_ ?_
  · refine EffectOpt.some ?_
    refine Effect.step State.closeDone_effect (by decide) ?_
    exact Effect.refl _
  · refine ite_intro ?_ ?_
    · refine ite_intro ?_ ?_
      · refine EffectOpt.some ?_
        refine Effect.step State.timerStart_effect (by decide) ?_
        refine Effect.step State.phase_effect (by decide) ?_
        refine Effect.step State.timerStop_effect (by decide) ?_
        exact Effect.refl _
      · exact EffectOpt.none
    · refine ite_intro ?_ ?_
      · exact EffectOpt.none
      · refine ite_intro ?_ ?_
        · refine EffectOpt.some ?_
          refine Effect.forAll (fun a_3 t_4 => ?_) ?_
          · refine Effect.step State.doorMove_effect (by decide) ?_
            exact Effect.refl _
          · assumption
        · refine EffectOpt.some ?_
          refine Effect.step State.ptlFault_effect (by decide) ?_
          refine Effect.step State.statPtl_effect (by decide) ?_
          refine Effect.step State.modPtl_effect (by decide) ?_
          exact Effect.refl _

theorem State.warnStep_effect {p : Fin 8} {s : State} : EffectOpt [.links, .seq, .mem, .pages, .ax, .coil, .gear, .cam, .ptl, .ptlIn, .ptlRun, .cyc, .hif, .posted] s (State.warnStep p s) := by
  unfold State.warnStep
  extract_lets x_1
  clear_value x_1
  refine ite_intro ?_ ?_
  · exact EffectOpt.none
  · refine ite_intro ?_ ?_
    · refine ite_intro ?_ ?_
      · exact EffectOpt.none
      · refine EffectOpt.some ?_
        refine Effect.step State.modPtl_effect (by decide) ?_
        exact Effect.refl _
    · refine ite_intro ?_ ?_
      · refine EffectOpt.some ?_
        refine Effect.step State.startRef_effect (by decide) ?_
        exact Effect.refl _
      · refine EffectOpt.some ?_
        refine Effect.step State.startClose_effect (by decide) ?_
        exact Effect.refl _

theorem State.egressFree_effect {p : Fin 8} {s : State} : Effect [.coil] s (State.egressFree p s) := by
  unfold State.egressFree
  refine ite_intro ?_ ?_
  · exact Effect.refl _
  · refine Effect.forAll (fun a_1 t_2 => ?_) ?_
    · refine ite_intro ?_ ?_
      · exact Effect.refl _
      · refine Effect.step State.modCoil_effect (by decide) ?_
        exact Effect.refl _
    · exact Effect.refl _

theorem State.otherStep_effect {p : Fin 8} {s : State} : EffectOpt (([.links, .seq, .mem, .pages, .ax, .drv, .coil, .watch, .fb, .gear, .cam, .ptl, .ptlIn, .ptlRun, .cyc, .cycEnd] : List Part) ++ ([.env, .envKept, .hif, .recd, .pair, .posted] : List Part)) s (State.otherStep p s) := by
  unfold State.otherStep
  extract_lets x_1 i_2 r_3
  clear_value x_1
  clear_value i_2
  clear_value r_3
  split
  · rename_i z_4 z_5
    refine ite_intro ?_ ?_
    · refine EffectOpt.some ?_
      refine Effect.step State.toLocking_effect (by decide) ?_
      exact Effect.refl _
    · exact EffectOpt.none
  · rename_i z_6 z_7
    refine EffectOpt.step State.openingStep_effect (by decide) ?_
    exact Effect.refl _
  · rename_i z_8 z_9
    refine ite_intro ?_ ?_
    · refine EffectOpt.some ?_
      refine Effect.step State.toCloseWarn_effect (by decide) ?_
      exact Effect.refl _
    · exact EffectOpt.none
  · rename_i z_10 z_11
    refine EffectOpt.step State.warnStep_effect (by decide) ?_
    exact Effect.refl _
  · rename_i z_12 z_13
    refine ite_intro ?_ ?_
    · refine EffectOpt.step State.refGoOn_effect (by decide) ?_
      exact Effect.refl _
    · refine EffectOpt.step State.closingStep_effect (by decide) ?_
      exact Effect.refl _
  · rename_i z_14 z_15
    refine EffectOpt.step State.closingStep_effect (by decide) ?_
    exact Effect.refl _
  · rename_i z_16 z_17
    refine ite_intro ?_ ?_
    · refine ite_intro ?_ ?_
      · refine EffectOpt.some ?_
        refine Effect.step State.phase_effect (by decide) ?_
        refine Effect.step State.ptlEnter_effect (by decide) ?_
        exact Effect.refl _
      · exact EffectOpt.none
    · refine ite_intro ?_ ?_
      · refine EffectOpt.some ?_
        refine Effect.step State.toReopenHold_effect (by decide) ?_
        exact Effect.refl _
      · exact EffectOpt.none
  · rename_i z_18 z_19
    split
    · rename_i z_20 z_21 z_22
      refine ite_intro ?_ ?_
      · refine EffectOpt.some ?_
        refine Effect.step State.stepAgain_effect (by decide) ?_
        exact Effect.refl _
      · exact EffectOpt.none
    · rename_i z_23 z_24
      refine ite_intro ?_ ?_
      · refine EffectOpt.some ?_
        refine Effect.step State.toReopenHold_effect (by decide) ?_
        exact Effect.refl _
      · exact EffectOpt.none
  · rename_i z_25 z_26
    refine ite_intro ?_ ?_
    · refine EffectOpt.some ?_
      refine Effect.step State.startClose_effect (by decide) ?_
      exact Effect.refl _
    · refine ite_intro ?_ ?_
      · refine EffectOpt.some ?_
        refine Effect.step State.toCloseWarn_effect (by decide) ?_
        exact Effect.refl _
      · exact EffectOpt.none
  · rename_i z_27 z_28
    refine EffectOpt.step State.lockingStep_effect (by decide) ?_
    exact Effect.refl _
  · rename_i z_29 z_30
    refine ite_intro ?_ ?_
    · exact EffectOpt.none
    · refine EffectOpt.some ?_
      refine Effect.step State.resync_effect (by decide) ?_
      exact Effect.refl _
  · rename_i z_31 z_32
    refine ite_intro ?_ ?_
    · refine EffectOpt.some ?_
      refine Effect.step State.resync_effect (by decide) ?_
      exact Effect.refl _
    · exact EffectOpt.none
  · rename_i z_33 z_34
    exact EffectOpt.none
  · rename_i z_35 z_36
    exact EffectOpt.none
  · rename_i z_37 z_38
    exact EffectOpt.none

theorem State.ptlTransit_effect {p : Fin 8} {l : List Trip} {s : State} : EffectSnd (([.links, .seq, .mem, .pages, .ax, .drv, .coil, .watch, .fb, .gear, .cam, .ptl, .ptlIn, .ptlRun, .cyc, .cycEnd] : List Part) ++ ([.env, .envKept, .hif, .recd, .pair, .posted] : List Part)) s (State.ptlTransit p l s) := by
  unfold State.ptlTransit
  extract_lets x_1 i_2 out_3 s1_4
  clear_value x_1
  clear_value i_2
  clear_value out_3
  have hs1_4 : Effect (([.links, .seq, .mem, .pages, .ax, .drv, .coil, .watch, .fb, .gear, .cam, .ptl, .ptlIn, .ptlRun, .cyc, .cycEnd] : List Part) ++ ([.env, .envKept, .hif, .recd, .pair, .posted] : List Part)) s s1_4 := by
    unfold s1_4
    refine Effect.step State.obsRecord_effect (by decide) ?_
    exact Effect.refl _
  clear_value s1_4
  refine ite_intro ?_ ?_
  · refine EffectSnd.mk ?_
    refine Effect.step State.obsNote_effect (by decide) ?_
    refine Effect.step State.ptlEnter_effect (by decide) ?_
    refine Effect.step State.leafScale_effect (by decide) ?_
    refine Effect.step State.stopMembers_effect (by decide) ?_
    exact Effect.refl _
  · refine ite_intro ?_ ?_
    · refine EffectSnd.mk ?_
      refine Effect.step State.obsNote_effect (by decide) ?_
      refine Effect.step State.ptlEnter_effect (by decide) ?_
      refine Effect.step State.leafScale_effect (by decide) ?_
      refine Effect.step State.stopMembers_effect (by decide) ?_
      exact Effect.refl _
    · split
      · rename_i z_5 z_6 z_7
        refine EffectSnd.mk ?_
        refine Effect.step State.obsNote_effect (by decide) ?_
        refine Effect.step State.ptlFault_effect (by decide) ?_
        exact Effect.refl _
      · rename_i z_8 z_9
        split
        · rename_i z_10 z_11 z_12
          refine EffectSnd.mk ?_
          refine EffectOpt.of_eq z_12 ?_
          refine EffectOpt.step State.obsTake_effect (by decide) ?_
          exact Effect.refl _
        · rename_i z_13 z_14
          split
          · rename_i z_15 z_16 z_17
            refine EffectSnd.mk ?_
            refine EffectOpt.of_eq z_17 ?_
            refine EffectOpt.step State.relStep_effect (by decide) ?_
            assumption
          · rename_i z_18 z_19
            split
            · rename_i z_20 z_21 z_22
              refine EffectSnd.mk ?_
              refine EffectOpt.of_eq z_22 ?_
              refine EffectOpt.step State.otherStep_effect (by decide) ?_
              assumption
            · rename_i z_23 z_24
              refine EffectSnd.mk ?_
              assumption

theorem State.reqApply_effect {p : Fin 8} {code : Nat} {s : State} : EffectOpt (([.links, .seq, .mem, .pages, .ax, .drv, .coil, .watch, .fb, .gear, .cam, .ptl, .ptlIn, .ptlRun, .cyc, .hif] : List Part) ++ ([.posted] : List Part)) s (State.reqApply p code s) := by
  unfold State.reqApply
  extract_lets x_1 r_2 rel_3
  clear_value x_1
  clear_value r_2
  clear_value rel_3
  split
  · rename_i z_4 z_5 z_6
    refine ite_intro ?_ ?_
    · refine EffectOpt.some ?_
      refine Effect.step State.toOpening_effect (by decide) ?_
      exact Effect.refl _
    · exact EffectOpt.none
  · rename_i z_7 z_8 z_9
    refine ite_intro ?_ ?_
    · refine EffectOpt.some ?_
      refine Effect.step State.toOpening_effect (by decide) ?_
      exact Effect.refl _
    · exact EffectOpt.none
  · rename_i z_10 z_11 z_12
    refine ite_intro ?_ ?_
    · refine EffectOpt.some ?_
      refine Effect.step State.toOpening_effect (by decide) ?_
      exact Effect.refl _
    · exact EffectOpt.none
  · rename_i z_13 z_14 z_15
    refine ite_intro ?_ ?_
    · refine EffectOpt.some ?_
      refine Effect.step State.toOpening_effect (by decide) ?_
      exact Effect.refl _
    · exact EffectOpt.none
  · rename_i z_16 z_17 z_18
    refine ite_intro ?_ ?_
    · exact EffectOpt.none
    · refine EffectOpt.some ?_
      refine Effect.step State.phase_effect (by decide) ?_
      refine Effect.step State.stopMembers_effect (by decide) ?_
      exact Effect.refl _
  · rename_i z_19 z_20 z_21
    refine EffectOpt.some ?_
    refine Effect.step State.toCloseWarn_effect (by decide) ?_
    exact Effect.refl _
  · rename_i z_22 z_23 z_24
    refine EffectOpt.some ?_
    refine Effect.step State.modRun_effect (by decide) ?_
    refine Effect.step State.toCloseWarn_effect (by decide) ?_
    exact Effect.refl _
  · rename_i z_25 z_26 z_27
    refine ite_intro ?_ ?_
    · exact EffectOpt.none
    · refine EffectOpt.some ?_
      refine Effect.step State.modRun_effect (by decide) ?_
      refine Effect.step State.startClose_effect (by decide) ?_
      exact Effect.refl _
  · rename_i z_28 z_29 z_30
    refine ite_intro ?_ ?_
    · exact EffectOpt.none
    · refine EffectOpt.some ?_
      refine Effect.step State.resync_effect (by decide) ?_
      exact Effect.refl _
  · rename_i z_31 z_32 z_33
    refine ite_intro ?_ ?_
    · exact EffectOpt.none
    · refine EffectOpt.some ?_
      refine Effect.step State.resync_effect (by decide) ?_
      exact Effect.refl _
  · rename_i z_34 z_35 z_36 z_37 z_38 z_39 z_40 z_41 z_42 z_43 z_44 z_45 z_46
    exact EffectOpt.none

theorem State.reqRefuse_effect {p : Fin 8} {q : PtlReq} {s : State} : Effect [.pages, .prgx, .hif, .posted] s (State.reqRefuse p q s) := by
  unfold State.reqRefuse
  extract_lets src_1
  refine ite_intro ?_ ?_
  · refine Effect.step State.err_effect (by decide) ?_
    exact Effect.refl _
  · refine Effect.put (x := s) ?_ (fun p hp => by cases p <;> first | exact absurd (by decide) hp | rfl) rfl ⟨rfl, rfl, rfl⟩ ⟨rfl, rfl⟩ rfl rfl
    exact Effect.refl _

theorem State.reqAll_effect {p : Fin 8} {done : Bool} {s : State} : Effect (([.links, .seq, .mem, .pages, .ax, .drv, .coil, .watch, .fb, .gear, .cam, .ptl, .ptlIn, .ptlRun, .cyc, .prgx] : List Part) ++ ([.hif, .posted] : List Part)) s (State.reqAll p done s) := by
  unfold State.reqAll
  extract_lets l_1 s0_2
  clear_value l_1
  have hs0_2 : Effect (([.links, .seq, .mem, .pages, .ax, .drv, .coil, .watch, .fb, .gear, .cam, .ptl, .ptlIn, .ptlRun, .cyc, .prgx] : List Part) ++ ([.hif, .posted] : List Part)) s s0_2 := by
    unfold s0_2
    refine Effect.step State.modPin_effect (by decide) ?_
    exact Effect.refl _
  clear_value s0_2
  refine Effect.foldlSnd (fun b t a => ?_) ?_
  · split
    · rename_i z_3 z_4
      dsimp only
      refine Effect.step State.reqRefuse_effect (by decide) ?_
      exact Effect.refl _
    · rename_i z_5 z_6 z_7
      refine ite_intro (P := fun z => Effect (([.links, .seq, .mem, .pages, .ax, .drv, .coil, .watch, .fb, .gear, .cam, .ptl, .ptlIn, .ptlRun, .cyc, .prgx] : List Part) ++ ([.hif, .posted] : List Part)) t (Prod.snd z)) ?_ ?_
      · dsimp only
        refine Effect.step State.modPin_effect (by decide) ?_
        exact Effect.refl _
      · dsimp only
        refine EffectOpt.of_eq z_7 ?_
        refine EffectOpt.step State.reqApply_effect (by decide) ?_
        dsimp only
        exact Effect.refl _
  · dsimp only
    assumption

theorem State.doorLoad_effect {n : Nat} {on : Bool} {s : State} : Effect [.lsw, .lswg, .pair, .posted] s (State.doorLoad n on s) := by
  unfold State.doorLoad
  refine dite_intro (fun w_1 => ?_) (fun w_1 => ?_)
  · extract_lets c_2
    refine ite_intro ?_ ?_
    · exact Effect.refl _
    · refine Effect.step State.lswDeliver_effect (by decide) ?_
      refine Effect.step State.lswSet_effect (by decide) ?_
      exact Effect.refl _
  · exact Effect.refl _

theorem State.ptlOutputs_effect {p : Fin 8} {s : State} : Effect [.lsw, .lswg, .pair, .posted] s (State.ptlOutputs p s) := by
  unfold State.ptlOutputs
  extract_lets x_1 r_2 w_3 s1_4
  clear_value x_1
  clear_value r_2
  clear_value w_3
  have hs1_4 : Effect [.lsw, .lswg, .pair, .posted] s s1_4 := by
    unfold s1_4
    refine Effect.step State.doorLoad_effect (by decide) ?_
    exact Effect.refl _
  clear_value s1_4
  split
  · rename_i z_5 z_6 z_7
    refine Effect.step State.doorLoad_effect (by decide) ?_
    assumption
  · rename_i z_8 z_9
    assumption

theorem State.ptlForces_effect {p : Fin 8} {s : State} : EffectSnd [.pages, .ptl, .ptlRun, .cyc, .hif, .posted] s (State.ptlForces p s) := by
  unfold State.ptlForces
  extract_lets a_1 b_2
  have ha_1 : EffectSnd [.pages, .ptl, .ptlRun, .cyc, .hif, .posted] s a_1 := by
    unfold a_1
    refine EffectSnd.step State.leafForces_effect (by decide) ?_
    exact Effect.refl _
  clear_value a_1
  have hb_2 : EffectSnd [.pages, .ptl, .ptlRun, .cyc, .hif, .posted] s b_2 := by
    unfold b_2
    refine EffectSnd.step State.leafForces_effect (by decide) ?_
    assumption
  clear_value b_2
  refine EffectSnd.mk ?_
  assumption

theorem State.switchChecks_effect {p : Fin 8} {s : State} : Effect [.pages, .ptl, .ptlIn, .ptlRun, .cyc, .hif, .posted] s (State.switchChecks p s) := by
  unfold State.switchChecks
  extract_lets x_1 i_2 rose_3 lim_4 early_5 s1_6 s2_7 s3_8 s4_9 s5_10
  clear_value x_1
  clear_value i_2
  clear_value rose_3
  clear_value lim_4
  clear_value early_5
  have hs1_6 : Effect [.pages, .ptl, .ptlIn, .ptlRun, .cyc, .hif, .posted] s s1_6 := by
    unfold s1_6
    refine ite_intro ?_ ?_
    · refine Effect.step State.swDisagree_effect (by decide) ?_
      exact Effect.refl _
    · exact Effect.refl _
  clear_value s1_6
  have hs2_7 : Effect [.pages, .ptl, .ptlIn, .ptlRun, .cyc, .hif, .posted] s s2_7 := by
    unfold s2_7
    refine ite_intro ?_ ?_
    · refine Effect.step State.timePhase_effect (by decide) ?_
      assumption
    · assumption
  clear_value s2_7
  have hs3_8 : Effect [.pages, .ptl, .ptlIn, .ptlRun, .cyc, .hif, .posted] s s3_8 := by
    unfold s3_8
    refine ite_intro ?_ ?_
    · refine Effect.step State.timerStop_effect (by decide) ?_
      assumption
    · refine ite_intro ?_ ?_
      · refine Effect.step State.timerStop_effect (by decide) ?_
        refine Effect.step State.swDisagree_effect (by decide) ?_
        assumption
      · assumption
  clear_value s3_8
  have hs4_9 : Effect [.pages, .ptl, .ptlIn, .ptlRun, .cyc, .hif, .posted] s s4_9 := by
    unfold s4_9
    refine ite_intro ?_ ?_
    · refine ite_intro ?_ ?_
      · assumption
      · refine Effect.step State.timerStart_effect (by decide) ?_
        assumption
    · refine Effect.step State.timerStop_effect (by decide) ?_
      assumption
  clear_value s4_9
  have hs5_10 : Effect [.pages, .ptl, .ptlIn, .ptlRun, .cyc, .hif, .posted] s s5_10 := by
    unfold s5_10
    refine ite_intro ?_ ?_
    · refine Effect.step State.timerStop_effect (by decide) ?_
      refine ite_intro ?_ ?_
      · refine Effect.step State.modCyc_effect (by decide) ?_
        refine Effect.step State.timePhase_effect (by decide) ?_
        assumption
      · assumption
    · assumption
  clear_value s5_10
  refine Effect.step State.modRun_effect (by decide) ?_
  assumption

theorem State.ptlUsedUp_effect {p : Fin 8} {s : State} : Effect [.ptlIn] s (State.ptlUsedUp p s) := by
  unfold State.ptlUsedUp
  refine Effect.step State.modPin_effect (by decide) ?_
  exact Effect.refl _

theorem State.stepRests_effect {p : Fin 8} {s : State} : Effect [.ptlIn, .ptlRun] s (State.stepRests p s) := by
  unfold State.stepRests
  split
  · rename_i z_1 z_2 z_3
    refine ite_intro ?_ ?_
    · refine Effect.step State.timerStart_effect (by decide) ?_
      exact Effect.refl _
    · exact Effect.refl _
  · rename_i z_4 z_5
    exact Effect.refl _

theorem State.ptlRunEval_effect {p : Fin 8} {s : State} : Effect (([.links, .seq, .mem, .pages, .ax, .drv, .coil, .watch, .fb, .gear, .cam, .ptl, .ptlIn, .ptlRun, .cyc, .cycEnd] : List Part) ++ ([.env, .envKept, .lsw, .lswg, .prgx, .hif, .recd, .pair, .posted] : List Part)) s (State.ptlRunEval p s) := by
  unfold State.ptlRunEval
  extract_lets f_1 s1_2 t_3 s2_4
  have hf_1 : EffectSnd (([.links, .seq, .mem, .pages, .ax, .drv, .coil, .watch, .fb, .gear, .cam, .ptl, .ptlIn, .ptlRun, .cyc, .cycEnd] : List Part) ++ ([.env, .envKept, .lsw, .lswg, .prgx, .hif, .recd, .pair, .posted] : List Part)) s f_1 := by
    unfold f_1
    refine EffectSnd.step State.ptlForces_effect (by decide) ?_
    exact Effect.refl _
  clear_value f_1
  have hs1_2 : Effect (([.links, .seq, .mem, .pages, .ax, .drv, .coil, .watch, .fb, .gear, .cam, .ptl, .ptlIn, .ptlRun, .cyc, .cycEnd] : List Part) ++ ([.env, .envKept, .lsw, .lswg, .prgx, .hif, .recd, .pair, .posted] : List Part)) s s1_2 := by
    unfold s1_2
    refine Effect.step State.refMark_effect (by decide) ?_
    refine Effect.step State.stepRests_effect (by decide) ?_
    refine Effect.step State.switchChecks_effect (by decide) ?_
    refine Effect.step State.cycleSample_effect (by decide) ?_
    assumption
  clear_value s1_2
  have ht_3 : EffectSnd (([.links, .seq, .mem, .pages, .ax, .drv, .coil, .watch, .fb, .gear, .cam, .ptl, .ptlIn, .ptlRun, .cyc, .cycEnd] : List Part) ++ ([.env, .envKept, .lsw, .lswg, .prgx, .hif, .recd, .pair, .posted] : List Part)) s t_3 := by
    unfold t_3
    refine EffectSnd.step State.ptlTransit_effect (by decide) ?_
    assumption
  clear_value t_3
  have hs2_4 : Effect (([.links, .seq, .mem, .pages, .ax, .drv, .coil, .watch, .fb, .gear, .cam, .ptl, .ptlIn, .ptlRun, .cyc, .cycEnd] : List Part) ++ ([.env, .envKept, .lsw, .lswg, .prgx, .hif, .recd, .pair, .posted] : List Part)) s s2_4 := by
    unfold s2_4
    refine Effect.step State.ptlOutputs_effect (by decide) ?_
    refine Effect.step State.reqAll_effect (by decide) ?_
    assumption
  clear_value s2_4
  refine Effect.step State.ptlUsedUp_effect (by decide) ?_
  refine ite_intro ?_ ?_
  · refine Effect.step State.egressFree_effect (by decide) ?_
    assumption
  · assumption

theorem State.ptlTrack_effect {p : Fin 8} {s : State} : Effect [.links, .seq, .mem, .pages, .ptl, .ptlIn, .ptlRun, .cyc, .hif, .posted] s (State.ptlTrack p s) := by
  unfold State.ptlTrack
  extract_lets i_1
  clear_value i_1
  refine ite_intro ?_ ?_
  · refine Effect.step State.ptlEnter_effect (by decide) ?_
    exact Effect.refl _
  · refine ite_intro ?_ ?_
    · refine Effect.step State.ptlEnter_effect (by decide) ?_
      exact Effect.refl _
    · refine ite_intro ?_ ?_
      · refine Effect.step State.ptlEnter_effect (by decide) ?_
        exact Effect.refl _
      · refine Effect.step State.ptlEnter_effect (by decide) ?_
        exact Effect.refl _

theorem State.ptlServiceEval_effect {p : Fin 8} {s : State} : Effect [.links, .seq, .mem, .pages, .ax, .ptl, .ptlIn, .ptlRun, .cyc, .hif, .posted] s (State.ptlServiceEval p s) := by
  unfold State.ptlServiceEval
  extract_lets s0_1 f_2 l_3 s1_4
  have hs0_1 : Effect [.links, .seq, .mem, .pages, .ax, .ptl, .ptlIn, .ptlRun, .cyc, .hif, .posted] s s0_1 := by
    unfold s0_1
    refine Effect.step State.modPtl_effect (by decide) ?_
    refine Effect.step State.ptlTrack_effect (by decide) ?_
    exact Effect.refl _
  clear_value s0_1
  have hf_2 : EffectSnd [.links, .seq, .mem, .pages, .ax, .ptl, .ptlIn, .ptlRun, .cyc, .hif, .posted] s f_2 := by
    unfold f_2
    refine EffectSnd.step State.ptlForces_effect (by decide) ?_
    assumption
  clear_value f_2
  clear_value l_3
  have hs1_4 : Effect [.links, .seq, .mem, .pages, .ax, .ptl, .ptlIn, .ptlRun, .cyc, .hif, .posted] s s1_4 := by
    unfold s1_4
    refine Effect.step State.obsRecord_effect (by decide) ?_
    assumption
  clear_value s1_4
  refine Effect.step State.ptlUsedUp_effect (by decide) ?_
  refine Effect.forAll (fun a_5 t_6 => ?_) ?_
  · refine ite_intro ?_ ?_
    · refine Effect.step State.accept_effect (by decide) ?_
      exact Effect.refl _
    · exact Effect.refl _
  · assumption

theorem State.ptlStanding_effect {p : Fin 8} {s : State} : Effect [.pages, .coil, .ptl, .cyc, .hif, .posted] s (State.ptlStanding p s) := by
  unfold State.ptlStanding
  extract_lets s1_1 s2_2
  have hs1_1 : Effect [.pages, .coil, .ptl, .cyc, .hif, .posted] s s1_1 := by
    unfold s1_1
    refine Effect.step State.keCheck_effect (by decide) ?_
    exact Effect.refl _
  clear_value s1_1
  have hs2_2 : Effect [.pages, .coil, .ptl, .cyc, .hif, .posted] s s2_2 := by
    unfold s2_2
    refine ite_intro ?_ ?_
    · refine Effect.step State.ptlFlag_effect (by decide) ?_
      assumption
    · assumption
  clear_value s2_2
  refine Effect.forAll (fun a_3 t_4 => ?_) ?_
  · refine ite_intro ?_ ?_
    · refine Effect.step State.modCoil_effect (by decide) ?_
      exact Effect.refl _
    · exact Effect.refl _
  · assumption

theorem State.ptlEval_effect {p : Fin 8} {s0 : State} : Effect (([.links, .seq, .mem, .pages, .ax, .drv, .coil, .watch, .fb, .gear, .cam, .ptl, .ptlIn, .ptlRun, .cyc, .cycEnd] : List Part) ++ ([.env, .envKept, .lsw, .lswg, .prgx, .hif, .recd, .pair, .posted] : List Part)) s0 (State.ptlEval p s0) := by
  unfold State.ptlEval
  extract_lets s_1
  have hs_1 : Effect (([.links, .seq, .mem, .pages, .ax, .drv, .coil, .watch, .fb, .gear, .cam, .ptl, .ptlIn, .ptlRun, .cyc, .cycEnd] : List Part) ++ ([.env, .envKept, .lsw, .lswg, .prgx, .hif, .recd, .pair, .posted] : List Part)) s0 s_1 := by
    unfold s_1
    refine Effect.step State.ptlStanding_effect (by decide) ?_
    refine Effect.step State.modPin_effect (by decide) ?_
    exact Effect.refl _
  clear_value s_1
  refine ite_intro ?_ ?_
  · exact Effect.refl _
  · split
    · rename_i z_2 z_3
      refine Effect.step State.ptlRunEval_effect (by decide) ?_
      refine Effect.step State.modPtl_effect (by decide) ?_
      assumption
    · rename_i z_4 z_5
      refine Effect.step State.ptlRunEval_effect (by decide) ?_
      refine Effect.step State.modPtl_effect (by decide) ?_
      assumption
    · rename_i z_6 z_7
      refine Effect.step State.ptlServiceEval_effect (by decide) ?_
      assumption
    · rename_i z_8 z_9
      refine Effect.step State.ptlUsedUp_effect (by decide) ?_
      refine Effect.step State.modRun_effect (by decide) ?_
      refine Effect.step State.forceNow_effect (by decide) ?_
      refine Effect.step State.forceNow_effect (by decide) ?_
      refine Effect.step State.modPtl_effect (by decide) ?_
      refine Effect.step State.ptlTrack_effect (by decide) ?_
      assumption
    · rename_i z_10 z_11
      refine Effect.step State.ptlUsedUp_effect (by decide) ?_
      refine Effect.step State.modRun_effect (by decide) ?_
      refine Effect.step State.forceNow_effect (by decide) ?_
      refine Effect.step State.forceNow_effect (by decide) ?_
      refine Effect.step State.modPtl_effect (by decide) ?_
      refine Effect.step State.ptlTrack_effect (by decide) ?_
      assumption
    · rename_i z_12 z_13
      assumption
    · rename_i z_14 z_15
      assumption
    · rename_i z_16 z_17
      assumption

theorem State.sideLocked_effect {d : Fin 2} {s : State} : Effect [.links, .seq, .pages, .side, .hif, .posted] s (State.sideLocked d s) := by
  unfold State.sideLocked
  extract_lets l_1 now_2 s1_3
  clear_value l_1
  clear_value now_2
  have hs1_3 : Effect [.links, .seq, .pages, .side, .hif, .posted] s s1_3 := by
    unfold s1_3
    refine Effect.put (x := s) ?_ (fun p hp => by cases p <;> first | exact absurd (by decide) hp | rfl) rfl ⟨rfl, rfl, rfl⟩ ⟨rfl, rfl⟩ rfl rfl
    exact Effect.refl _
  clear_value s1_3
  refine ite_intro ?_ ?_
  · refine Effect.step State.ev_effect (by decide) ?_
    refine Effect.step State.sideFlag_effect (by decide) ?_
    assumption
  · assumption

theorem State.doorEval_effect {s : State} : Effect (([.links, .seq, .mem, .pages, .ax, .drv, .coil, .watch, .fb, .gear, .cam, .ptl, .ptlIn, .ptlRun, .cyc, .cycEnd] : List Part) ++ ([.doorAt, .env, .envKept, .side, .lsw, .lswg, .prgx, .hif, .recd, .pair, .posted] : List Part)) s (State.doorEval s) := by
  unfold State.doorEval
  extract_lets s1_1
  have hs1_1 : Effect (([.links, .seq, .mem, .pages, .ax, .drv, .coil, .watch, .fb, .gear, .cam, .ptl, .ptlIn, .ptlRun, .cyc, .cycEnd] : List Part) ++ ([.doorAt, .env, .envKept, .side, .lsw, .lswg, .prgx, .hif, .recd, .pair, .posted] : List Part)) s s1_1 := by
    unfold s1_1
    refine Effect.forAll (fun a_2 t_3 => ?_) ?_
    · refine Effect.step State.ptlEval_effect (by decide) ?_
      exact Effect.refl _
    · refine Effect.put (x := s) ?_ (fun p hp => by cases p <;> first | exact absurd (by decide) hp | rfl) rfl ⟨rfl, rfl, rfl⟩ ⟨rfl, rfl⟩ rfl rfl
      exact Effect.refl _
  clear_value s1_1
  refine Effect.step State.sideLocked_effect (by decide) ?_
  refine Effect.step State.sideLocked_effect (by decide) ?_
  assumption

theorem State.doorNext_effect {s : State} : Effect (([.tb, .links, .seq, .mem, .pages, .ax, .drv, .coil, .watch, .fb, .gear, .cam, .ptl, .ptlIn, .ptlRun, .cyc] : List Part) ++ ([.cycEnd, .doorAt, .env, .envKept, .side, .lsw, .lswg, .prgx, .hif, .recd, .pair, .posted] : List Part)) s (State.doorNext s) := by
  unfold State.doorNext
  refine Effect.step State.doorEval_effect (by decide) ?_
  refine Effect.step State.to_effect (by decide) ?_
  exact Effect.refl _

theorem State.timerEnds_effect {p : Fin 8} {l : List Timer} {s : State} : Effect (([.tb, .links, .seq, .mem, .pages, .ax, .drv, .coil, .watch, .fb, .gear, .cam, .ptl, .ptlIn, .ptlRun, .cyc] : List Part) ++ ([.cycEnd, .doorAt, .env, .envKept, .side, .lsw, .lswg, .prgx, .hif, .recd, .pair, .posted] : List Part)) s (State.timerEnds p l s) := by
  unfold State.timerEnds
  split
  · rename_i z_1 z_2
    exact Effect.refl _
  · rename_i z_3 z_4 z_5 z_6
    refine Effect.step State.doorNext_effect (by decide) ?_
    refine Effect.step State.to_effect (by decide) ?_
    exact Effect.refl _

theorem State.ptlRequest_effect {p : Fin 8} {host : Bool} {code : Nat} {handle : Nat} {s : State} : EffectSnd [.ptlIn, .env, .envKept] s (State.ptlRequest p host code handle s) := by
  unfold State.ptlRequest
  refine ite_intro ?_ ?_
  · refine EffectSnd.mk ?_
    refine Effect.step State.envClear_effect (by decide) ?_
    exact Effect.refl _
  · refine ite_intro ?_ ?_
    · refine EffectSnd.mk ?_
      exact Effect.refl _
    · refine ite_intro ?_ ?_
      · refine EffectSnd.mk ?_
        exact Effect.refl _
      · refine ite_intro ?_ ?_
        · refine EffectSnd.mk ?_
          exact Effect.refl _
        · refine EffectSnd.mk ?_
          refine Effect.step State.modPin_effect (by decide) ?_
          exact Effect.refl _

theorem State.ptlReqWrite_effect {p : Fin 8} {w : Word} {s : State} : Effect [.pages, .ptlIn, .env, .envKept, .hif, .posted] s (State.ptlReqWrite p w s) := by
  unfold State.ptlReqWrite
  split
  · rename_i z_1 z_2 z_3 z_4
    refine Effect.step State.err_effect (by decide) ?_
    exact Effect.refl _
  · rename_i z_5 z_6 z_7
    refine EffectSnd.of_eq z_7 ?_
    refine EffectSnd.step State.ptlRequest_effect (by decide) ?_
    exact Effect.refl _

theorem State.hostReq_effect {p : Fin 8} {code : Nat} {s : State} : Effect [.pages, .clk, .ptlIn, .env, .envKept, .hif, .posted] s (State.hostReq p code s) := by
  unfold State.hostReq
  extract_lets w_1
  clear_value w_1
  refine Effect.trans ?_ (State.gated_effect (l := [.pages, .clk, .ptlIn, .env, .envKept, .hif, .posted]) (by decide) ?_)
  · exact Effect.refl _
  · intro x2
    refine Effect.step State.ptlReqWrite_effect (by decide) ?_
    exact Effect.refl _

theorem State.sideRequest_effect {d : Fin 2} {host : Bool} {code : Nat} {s : State} : Effect [.pages, .ptlIn, .env, .envKept, .hif, .posted] s (State.sideRequest d host code s) := by
  unfold State.sideRequest
  refine Effect.forAll (fun a_1 t_2 => ?_) ?_
  · split
    · rename_i z_3 z_4 z_5 z_6
      refine Effect.step State.err_effect (by decide) ?_
      exact Effect.refl _
    · rename_i z_7 z_8 z_9
      refine EffectSnd.of_eq z_9 ?_
      refine EffectSnd.step State.ptlRequest_effect (by decide) ?_
      exact Effect.refl _
  · exact Effect.refl _

theorem State.sideReqWrite_effect {d : Fin 2} {w : Word} {s : State} : Effect [.pages, .ptlIn, .env, .envKept, .hif, .posted] s (State.sideReqWrite d w s) := by
  unfold State.sideReqWrite
  split
  · rename_i z_1 z_2
    refine Effect.step State.sideRequest_effect (by decide) ?_
    exact Effect.refl _
  · rename_i z_3 z_4
    refine Effect.step State.sideRequest_effect (by decide) ?_
    exact Effect.refl _
  · rename_i z_5 z_6 z_7
    refine Effect.step State.err_effect (by decide) ?_
    exact Effect.refl _

theorem State.modEdge_effect {e : Fin 16} {f : Edge → Edge} {s : State} : Effect [.edges] s (State.modEdge e f s) := by
  unfold State.modEdge
  refine Effect.put (x := s) ?_ (fun p hp => by cases p <;> first | exact absurd (by decide) hp | rfl) rfl ⟨rfl, rfl, rfl⟩ ⟨rfl, rfl⟩ rfl rfl
  exact Effect.refl _

theorem State.ptlFlagsWrite_effect {p : Fin 8} {w : Word} {s : State} : Effect [.pages, .ptl, .hif, .posted] s (State.ptlFlagsWrite p w s) := by
  unfold State.ptlFlagsWrite
  extract_lets stands_1 s1_2
  clear_value stands_1
  have hs1_2 : Effect [.pages, .ptl, .hif, .posted] s s1_2 := by
    unfold s1_2
    refine Effect.step State.modPtl_effect (by decide) ?_
    exact Effect.refl _
  clear_value s1_2
  refine ite_intro ?_ ?_
  · refine Effect.step State.ptlFlag_effect (by decide) ?_
    assumption
  · assumption

theorem State.sideFlagsWrite_effect {d : Fin 2} {w : Word} {s : State} : Effect [.side] s (State.sideFlagsWrite d w s) := by
  unfold State.sideFlagsWrite
  refine Effect.put (x := s) ?_ (fun p hp => by cases p <;> first | exact absurd (by decide) hp | rfl) rfl ⟨rfl, rfl, rfl⟩ ⟨rfl, rfl⟩ rfl rfl
  exact Effect.refl _

theorem State.ptlEnterRun_effect {s : State} : Effect (([.links, .seq, .mem, .pages, .ax, .drv, .coil, .watch, .fb, .gear, .cam, .ptl, .ptlIn, .ptlRun, .cyc, .lsw] : List Part) ++ ([.lswg, .hif, .pair, .posted] : List Part)) s (State.ptlEnterRun s) := by
  unfold State.ptlEnterRun
  refine Effect.forAll (fun a_1 t_2 => ?_) ?_
  · refine ite_intro ?_ ?_
    · refine Effect.step State.ptlOutputs_effect (by decide) ?_
      refine Effect.step State.resync_effect (by decide) ?_
      refine Effect.step State.modRun_effect (by decide) ?_
      refine Effect.step State.modPtl_effect (by decide) ?_
      exact Effect.refl _
    · exact Effect.refl _
  · exact Effect.refl _

theorem State.ptlLeaveRun_effect {s : State} : Effect [.ptlIn, .ptlRun] s (State.ptlLeaveRun s) := by
  unfold State.ptlLeaveRun
  refine Effect.forAll (fun a_1 t_2 => ?_) ?_
  · refine Effect.step State.modRun_effect (by decide) ?_
    refine Effect.step State.modPin_effect (by decide) ?_
    exact Effect.refl _
  · exact Effect.refl _

theorem State.setRelease_effect {d : Fin 2} {grd : Bool} {sbx : Bool} {s : State} : Effect [.links, .seq, .mem, .pages, .side, .hif, .posted] s (State.setRelease d grd sbx s) := by
  unfold State.setRelease
  extract_lets x_1 was_2 now_3 s1_4
  clear_value x_1
  clear_value was_2
  clear_value now_3
  have hs1_4 : Effect [.links, .seq, .mem, .pages, .side, .hif, .posted] s s1_4 := by
    unfold s1_4
    refine Effect.put (x := s) ?_ (fun p hp => by cases p <;> first | exact absurd (by decide) hp | rfl) rfl ⟨rfl, rfl, rfl⟩ ⟨rfl, rfl⟩ rfl rfl
    exact Effect.refl _
  clear_value s1_4
  refine ite_intro ?_ ?_
  · exact Effect.refl _
  · refine ite_intro ?_ ?_
    · assumption
    · refine Effect.step State.ev_effect (by decide) ?_
      refine ite_intro ?_ ?_
      · refine Effect.step State.statVeh_effect (by decide) ?_
        refine Effect.step State.sideFlag_effect (by decide) ?_
        assumption
      · refine Effect.step State.sideFlag_effect (by decide) ?_
        assumption

end Sys2Proof.Machine
end

