-- ==== Sys2Proof/Laws/StationEffect.lean ====
section
/-! SUPPORT. What each operation of Machine/Station.lean can do: the parts of the state it may change, and what it never takes
back (`Effect`, Safety.lean). -/

namespace Sys2Proof.Machine

theorem State.modStn_effect {i : Fin 16} {f : Stn → Stn} {s : State} : Effect [.stn] s (State.modStn i f s) := by
  unfold State.modStn
  refine Effect.put (x := s) ?_ (fun p hp => by cases p <;> first | exact absurd (by decide) hp | rfl) rfl ⟨rfl, rfl, rfl⟩ ⟨rfl, rfl⟩ rfl rfl
  exact Effect.refl _

theorem State.stnFrame_effect {n : Nat} {type : Nat} {i : Nat} {ctr : Nat} {payload : List Byte} {exch : Option Nat} {s : State} : EffectSnd [.can] s (State.stnFrame n type i ctr payload exch s) := by
  unfold State.stnFrame
  extract_lets id_1
  clear_value id_1
  refine dite_intro (fun w_2 => ?_) (fun w_2 => ?_)
  · extract_lets c_3
    refine ite_intro ?_ ?_
    · refine EffectSnd.mk ?_
      exact Effect.refl _
    · refine EffectSnd.mk ?_
      refine Effect.step State.canQueue_effect (by decide) ?_
      exact Effect.refl _
  · refine EffectSnd.mk ?_
    exact Effect.refl _

theorem State.stnTo_effect {i : Fin 16} {st : StnState} {s : State} : Effect [.pages, .stn, .prg, .hif, .posted] s (State.stnTo i st s) := by
  unfold State.stnTo
  extract_lets t_1 src_2
  have ht_1 : Effect [.pages, .stn, .prg, .hif, .posted] s t_1 := by
    unfold t_1
    refine Effect.step State.prgFlag_effect (by decide) ?_
    refine Effect.step State.modStn_effect (by decide) ?_
    exact Effect.refl _
  clear_value t_1
  refine ite_intro ?_ ?_
  · exact Effect.refl _
  · refine Effect.put (x := t_1) ?_ (fun p hp => by cases p <;> first | exact absurd (by decide) hp | rfl) rfl ⟨rfl, rfl, rfl⟩ ⟨rfl, rfl⟩ rfl rfl
    assumption

theorem State.errDue_effect {cause : Nat} {arg : Nat} {seq : Nat} {s : State} : Effect [.prgx] s (State.errDue cause arg seq s) := by
  unfold State.errDue
  extract_lets src_1
  refine Effect.put (x := s) ?_ (fun p hp => by cases p <;> first | exact absurd (by decide) hp | rfl) rfl ⟨rfl, rfl, rfl⟩ ⟨rfl, rfl⟩ rfl rfl
  exact Effect.refl _

theorem State.stnOut_effect {i : Fin 16} {payload : List Byte} {s : State} : Effect [.can, .stn] s (State.stnOut i payload s) := by
  unfold State.stnOut
  extract_lets x_1 c_2 s1_3
  clear_value x_1
  clear_value c_2
  have hs1_3 : Effect [.can, .stn] s s1_3 := by
    unfold s1_3
    refine Effect.step State.modStn_effect (by decide) ?_
    exact Effect.refl _
  clear_value s1_3
  split
  · rename_i z_4 z_5
    exact Effect.refl _
  · rename_i z_6 z_7 z_8
    refine ite_intro ?_ ?_
    · exact Effect.refl _
    · split
      · rename_i z_9 z_10 z_11
        refine ite_intro ?_ ?_
        · refine Effect.step State.modStn_effect (by decide) ?_
          refine EffectSnd.of_eq z_11 ?_
          refine EffectSnd.step State.stnFrame_effect (by decide) ?_
          assumption
        · refine EffectSnd.of_eq z_11 ?_
          refine EffectSnd.step State.stnFrame_effect (by decide) ?_
          assumption
      · rename_i z_12 z_13 z_14
        refine Effect.step State.modFlight_effect (by decide) ?_
        refine EffectSnd.of_eq z_14 ?_
        refine EffectSnd.step State.stnFrame_effect (by decide) ?_
        assumption

theorem State.causeTo_effect {cause : Nat} {s : State} : Effect [.mc] s (State.causeTo cause s) := by
  unfold State.causeTo
  extract_lets src_1
  refine Effect.put (x := s) ?_ (fun p hp => by cases p <;> first | exact absurd (by decide) hp | rfl) rfl ⟨rfl, rfl, rfl⟩ ⟨rfl, rfl⟩ rfl rfl
  exact Effect.refl _

theorem State.noteLeave_effect {s : State} : Effect [.mc, .pairx] s (State.noteLeave s) := by
  unfold State.noteLeave
  extract_lets src_1 t_2
  have ht_2 : Effect [.mc, .pairx] s t_2 := by
    unfold t_2
    refine Effect.put (x := s) ?_ (fun p hp => by cases p <;> first | exact absurd (by decide) hp | rfl) rfl ⟨rfl, rfl, rfl⟩ ⟨rfl, rfl⟩ rfl rfl
    exact Effect.refl _
  clear_value t_2
  refine ite_intro ?_ ?_
  · refine ite_intro ?_ ?_
    · assumption
    · refine Effect.step State.causeTo_effect (by decide) ?_
      assumption
  · exact Effect.refl _

theorem State.stnGood_effect {i : Fin 16} {ctr : Nat} {data : List Byte} {s : State} : Effect [.links, .seq, .pages, .mc, .stn, .prg, .hif, .pairx, .posted] s (State.stnGood i ctr data s) := by
  unfold State.stnGood
  extract_lets k_1 s2_2 new_3 s3_4
  clear_value k_1
  have hs2_2 : Effect [.links, .seq, .pages, .mc, .stn, .prg, .hif, .pairx, .posted] s s2_2 := by
    unfold s2_2
    refine Effect.step State.modStn_effect (by decide) ?_
    exact Effect.refl _
  clear_value s2_2
  clear_value new_3
  have hs3_4 : Effect [.links, .seq, .pages, .mc, .stn, .prg, .hif, .pairx, .posted] s s3_4 := by
    unfold s3_4
    refine Effect.step State.stnFlag_effect (by decide) ?_
    refine Effect.step State.modStn_effect (by decide) ?_
    refine Effect.step State.stnTo_effect (by decide) ?_
    assumption
  clear_value s3_4
  refine ite_intro ?_ ?_
  · refine Effect.step State.noteLeave_effect (by decide) ?_
    refine Effect.step State.ev_effect (by decide) ?_
    assumption
  · assumption

theorem State.stnStatus_effect {i : Fin 16} {status : Nat} {s : State} : Effect [.pages, .stn, .hif, .posted] s (State.stnStatus i status s) := by
  unfold State.stnStatus
  extract_lets v2_1 t_2
  have ht_2 : Effect [.pages, .stn, .hif, .posted] s t_2 := by
    unfold t_2
    refine Effect.step State.modStn_effect (by decide) ?_
    exact Effect.refl _
  clear_value t_2
  refine ite_intro ?_ ?_
  · refine Effect.step State.stnFlag_effect (by decide) ?_
    assumption
  · assumption

theorem State.stnDrop_effect {i : Fin 16} {s : State} : Effect [.can] s (State.stnDrop i s) := by
  unfold State.stnDrop
  split
  · rename_i z_1 z_2 z_3
    refine dite_intro (fun w_4 => ?_) (fun w_4 => ?_)
    · refine Effect.step State.modCan_effect (by decide) ?_
      exact Effect.refl _
    · exact Effect.refl _
  · rename_i z_5 z_6
    exact Effect.refl _

theorem State.stnLost_effect {i : Fin 16} {s : State} : Effect [.links, .seq, .pages, .can, .stn, .prg, .hif, .posted] s (State.stnLost i s) := by
  unfold State.stnLost
  extract_lets s1_1
  have hs1_1 : Effect [.links, .seq, .pages, .can, .stn, .prg, .hif, .posted] s s1_1 := by
    unfold s1_1
    refine Effect.step State.stnFlag_effect (by decide) ?_
    refine Effect.step State.modStn_effect (by decide) ?_
    refine Effect.step State.stnTo_effect (by decide) ?_
    refine Effect.step State.stnDrop_effect (by decide) ?_
    exact Effect.refl _
  clear_value s1_1
  refine Effect.step State.ev_effect (by decide) ?_
  assumption

theorem State.stnMiss_effect {i : Fin 16} {ctr : Nat} {s : State} : Effect [.links, .seq, .pages, .can, .stn, .prg, .hif, .posted] s (State.stnMiss i ctr s) := by
  unfold State.stnMiss
  extract_lets s1_1
  have hs1_1 : Effect [.links, .seq, .pages, .can, .stn, .prg, .hif, .posted] s s1_1 := by
    unfold s1_1
    refine Effect.step State.stnFlag_effect (by decide) ?_
    refine Effect.step State.modStn_effect (by decide) ?_
    exact Effect.refl _
  clear_value s1_1
  refine ite_intro ?_ ?_
  · assumption
  · split
    · rename_i z_2 z_3
      refine Effect.step State.modStn_effect (by decide) ?_
      refine Effect.step State.stnTo_effect (by decide) ?_
      assumption
    · rename_i z_4 z_5
      refine Effect.step State.modStn_effect (by decide) ?_
      refine Effect.step State.stnTo_effect (by decide) ?_
      assumption
    · rename_i z_6 z_7
      refine Effect.step State.stnLost_effect (by decide) ?_
      assumption
    · rename_i z_8 z_9
      assumption
    · rename_i z_10 z_11
      assumption
    · rename_i z_12 z_13
      assumption
    · rename_i z_14 z_15
      assumption

theorem State.ackNow_effect {i : Fin 16} {s : State} : Effect [.can, .stn] s (State.ackNow i s) := by
  unfold State.ackNow
  split
  · rename_i z_1 z_2 z_3 z_4 z_5 z_6
    refine EffectSnd.step State.stnFrame_effect (by decide) ?_
    refine Effect.step State.modStn_effect (by decide) ?_
    exact Effect.refl _
  · rename_i z_7 z_8 z_9
    exact Effect.refl _

theorem State.acksNow_effect {s : State} : Effect [.can, .stn] s (State.acksNow s) := by
  unfold State.acksNow
  refine Effect.forAll (fun a_1 t_2 => ?_) ?_
  · refine Effect.step State.ackNow_effect (by decide) ?_
    exact Effect.refl _
  · exact Effect.refl _

theorem State.stnSleep_effect {s : State} : Effect [.pages, .can, .stn, .prg, .hif, .posted] s (State.stnSleep s) := by
  unfold State.stnSleep
  extract_lets s1_1
  have hs1_1 : Effect [.pages, .can, .stn, .prg, .hif, .posted] s s1_1 := by
    unfold s1_1
    refine Effect.forAll (fun a_2 t_3 => ?_) ?_
    · refine EffectSnd.step State.stnFrame_effect (by decide) ?_
      exact Effect.refl _
    · exact Effect.refl _
  clear_value s1_1
  refine Effect.forAll (fun a_4 t_5 => ?_) ?_
  · refine ite_intro ?_ ?_
    · exact Effect.refl _
    · refine Effect.step State.modStn_effect (by decide) ?_
      refine Effect.step State.stnTo_effect (by decide) ?_
      exact Effect.refl _
  · assumption

theorem State.stnFreeze_effect {s : State} : Effect [.pages, .stn, .prg, .prgx, .hif, .posted] s (State.stnFreeze s) := by
  unfold State.stnFreeze
  refine Effect.forAll (fun a_1 t_2 => ?_) ?_
  · split
    · rename_i z_3 z_4
      refine ite_intro ?_ ?_
      · exact Effect.refl _
      · refine Effect.step State.errDue_effect (by decide) ?_
        refine Effect.step State.stnTo_effect (by decide) ?_
        refine Effect.step State.modStn_effect (by decide) ?_
        exact Effect.refl _
    · rename_i z_5 z_6
      refine ite_intro ?_ ?_
      · refine Effect.step State.stnTo_effect (by decide) ?_
        refine Effect.step State.modStn_effect (by decide) ?_
        exact Effect.refl _
      · exact Effect.refl _
    · rename_i z_7 z_8
      refine Effect.step State.modStn_effect (by decide) ?_
      exact Effect.refl _
    · rename_i z_9 z_10
      exact Effect.refl _
    · rename_i z_11 z_12
      exact Effect.refl _
    · rename_i z_13 z_14
      exact Effect.refl _
    · rename_i z_15 z_16
      exact Effect.refl _
  · exact Effect.refl _

end Sys2Proof.Machine
end

