-- ==== Sys2Proof/Laws/CommitEffect.lean ====
section
/-! SUPPORT. What each operation of Machine/Commit.lean can do: the parts of the state it may change, and what it never takes
back (`Effect`, Safety.lean). -/

namespace Sys2Proof.Machine

theorem State.commitWrite_effect {p : PageId} {w : Word} {s : State} : Effect [.pages, .hif, .posted] s (State.commitWrite p w s) := by
  unfold State.commitWrite
  refine ite_intro ?_ ?_
  · refine Effect.step State.err_effect (by decide) ?_
    exact Effect.refl _
  · refine ite_intro ?_ ?_
    · refine Effect.step State.err_effect (by decide) ?_
      exact Effect.refl _
    · split
      · rename_i z_1 z_2 z_3
        refine Effect.step State.err_effect (by decide) ?_
        exact Effect.refl _
      · rename_i z_4 z_5
        refine ite_intro ?_ ?_
        · exact Effect.refl _
        · refine Effect.step State.modPg_effect (by decide) ?_
          exact Effect.refl _

theorem State.commitEffect_effect {p : PageId} {was : Word} {s : State} {old : State} : Effect [.links, .seq, .mem, .pages, .ax, .drv, .coil, .watch, .fb, .fbx, .gear, .ptlIn, .ptlRun, .env, .envKept, .can, .evq, .hif, .recd, .posted] s (State.commitEffect p was s old) := by
  unfold State.commitEffect
  split
  · rename_i z1 z2
    refine Effect.step State.accept_effect (by decide) ?_
    exact Effect.refl _
  · rename_i z3 z4
    extract_lets s1_5
    have hs1_5 : Effect [.links, .seq, .mem, .pages, .ax, .drv, .coil, .watch, .fb, .fbx, .gear, .ptlIn, .ptlRun, .env, .envKept, .can, .evq, .hif, .recd, .posted] s s1_5 := by
      unfold s1_5
      refine ite_intro ?_ ?_
      · refine Effect.step State.requestLevel_effect (by decide) ?_
        exact Effect.refl _
      · exact Effect.refl _
    clear_value s1_5
    refine ite_intro ?_ ?_
    · refine Effect.step State.modCoil_effect (by decide) ?_
      refine Effect.step State.modWatch_effect (by decide) ?_
      assumption
    · assumption
  · rename_i z6 z7
    extract_lets changed_8
    refine ite_intro ?_ ?_
    · refine Effect.step State.fbRestart_effect (by decide) ?_
      exact Effect.refl _
    · exact Effect.refl _
  · rename_i z9 z10
    refine ite_intro ?_ ?_
    · refine Effect.step State.fbRestart_effect (by decide) ?_
      exact Effect.refl _
    · exact Effect.refl _
  · rename_i z11 z12
    refine ite_intro ?_ ?_
    · refine Effect.step State.modGear_effect (by decide) ?_
      exact Effect.refl _
    · exact Effect.refl _
  · rename_i z13 z14
    refine ite_intro ?_ ?_
    · refine Effect.step State.envClear_effect (by decide) ?_
      exact Effect.refl _
    · exact Effect.refl _
  · rename_i z15 z16
    refine ite_intro ?_ ?_
    · refine Effect.step State.canModeCommit_effect (by decide) ?_
      exact Effect.refl _
    · exact Effect.refl _
  · rename_i z17 z18
    refine ite_intro ?_ ?_
    · refine Effect.put (x := s) ?_ (fun p hp => by cases p <;> first | exact absurd (by decide) hp | rfl) rfl ⟨rfl, rfl, rfl⟩ ⟨rfl, rfl⟩ rfl rfl
      exact Effect.refl _
    · exact Effect.refl _
  · rename_i z19
    refine Effect.step State.recCommit_effect (by decide) ?_
    exact Effect.refl _
  · rename_i z20
    exact Effect.refl _
  · rename_i z21
    exact Effect.refl _
  · rename_i z22
    exact Effect.refl _
  · rename_i z23
    exact Effect.refl _
  · rename_i z24
    exact Effect.refl _
  · rename_i z25
    exact Effect.refl _
  · rename_i z26 z27
    exact Effect.refl _
  · rename_i z28 z29
    exact Effect.refl _
  · rename_i z30
    exact Effect.refl _
  · rename_i z31
    exact Effect.refl _
  · rename_i z32 z33
    exact Effect.refl _
  · rename_i z34
    exact Effect.refl _
  · rename_i z35 z36
    exact Effect.refl _
  · rename_i z37
    exact Effect.refl _
  · rename_i z38
    exact Effect.refl _
  · rename_i z39
    exact Effect.refl _
  · rename_i z40
    exact Effect.refl _

theorem State.commitNow_effect {p : PageId} {s : State} : Effect (([.links, .seq, .mem, .pages, .ax, .drv, .coil, .watch, .fb, .fbx, .gear, .ptlIn, .ptlRun, .env, .envKept, .can] : List Part) ++ ([.evq, .hif, .recd, .posted] : List Part)) s (State.commitNow p s) := by
  unfold State.commitNow
  extract_lets was_1 s1_2
  clear_value was_1
  have hs1_2 : Effect (([.links, .seq, .mem, .pages, .ax, .drv, .coil, .watch, .fb, .fbx, .gear, .ptlIn, .ptlRun, .env, .envKept, .can] : List Part) ++ ([.evq, .hif, .recd, .posted] : List Part)) s s1_2 := by
    unfold s1_2
    refine Effect.step State.commitEffect_effect (by decide) ?_
    refine Effect.step State.modPg_effect (by decide) ?_
    exact Effect.refl _
  clear_value s1_2
  split
  · rename_i z_3 z_4 z_5
    refine Effect.step State.err_effect (by decide) ?_
    refine Effect.step State.modPg_effect (by decide) ?_
    exact Effect.refl _
  · rename_i z_6 z_7
    refine Effect.step State.irq_effect (by decide) ?_
    refine Effect.step State.ev_effect (by decide) ?_
    assumption

theorem State.commitDueNow_effect {p : PageId} {s : State} : Effect (([.links, .seq, .mem, .pages, .ax, .drv, .coil, .watch, .fb, .fbx, .gear, .ptlIn, .ptlRun, .env, .envKept, .can] : List Part) ++ ([.evq, .hif, .recd, .posted] : List Part)) s (State.commitDueNow p s) := by
  unfold State.commitDueNow
  split
  · rename_i z_1 z_2
    exact Effect.refl _
  · rename_i z_3 z_4 z_5
    refine ite_intro ?_ ?_
    · refine Effect.step State.commitNow_effect (by decide) ?_
      exact Effect.refl _
    · exact Effect.refl _

theorem State.profileCommit_effect {a : Fin 12} {pr : Profile} {s : State} : EffectSnd [.pages] s (State.profileCommit a pr s) := by
  unfold State.profileCommit
  extract_lets g_1 l_2
  clear_value g_1
  clear_value l_2
  refine ite_intro ?_ ?_
  · refine EffectSnd.mk ?_
    exact Effect.refl _
  · refine ite_intro ?_ ?_
    · refine EffectSnd.mk ?_
      exact Effect.refl _
    · refine ite_intro ?_ ?_
      · refine EffectSnd.mk ?_
        exact Effect.refl _
      · refine EffectSnd.mk ?_
        refine Effect.step State.modPg_effect (by decide) ?_
        exact Effect.refl _

theorem State.stageClr_effect {p : PageId} {s : State} : Effect (([.links, .seq, .mem, .pages, .ax, .drv, .coil, .watch, .fb, .fbx, .gear, .ptlIn, .ptlRun, .env, .envKept, .can] : List Part) ++ ([.evq, .hif, .recd, .posted] : List Part)) s (State.stageClr p s) := by
  unfold State.stageClr
  refine Effect.step State.modPg_effect (by decide) ?_
  refine Effect.step State.commitDueNow_effect (by decide) ?_
  exact Effect.refl _

theorem State.lockPage_effect {p : PageId} {s : State} : Effect [.pages] s (State.lockPage p s) := by
  unfold State.lockPage
  refine ite_intro ?_ ?_
  · refine Effect.step State.modPg_effect (by decide) ?_
    exact Effect.refl _
  · exact Effect.refl _

end Sys2Proof.Machine
end

