-- ==== Sys2Proof/Laws/MigrateEffect.lean ====
section
/-! SUPPORT. What each operation of Machine/Migrate.lean can do: the parts of the state it may change, and what it never takes
back (`Effect`, Safety.lean). -/

namespace Sys2Proof.Machine

theorem State.sectUse_effect {slot : Nat} {im : Image} {s : State} : Effect [.links, .seq, .mem, .fresh] s (State.sectUse slot im s) := by
  unfold State.sectUse
  refine EffectSnd.step State.draw_effect (by decide) ?_
  refine Effect.forAll (fun a_1 t_2 => ?_) ?_
  · refine Effect.step State.granUse_effect (by decide) ?_
    exact Effect.refl _
  · exact Effect.refl _

theorem State.migMember_effect {src : Nat → Nat → List Byte} {o : Config.InstRow} {n : Config.InstRow} {b : Nat} {x : Config.MemberRow} {s : State} : Effect [.links, .seq, .mem] s (State.migMember src o n b x s) := by
  unfold State.migMember
  extract_lets old_1
  clear_value old_1
  split
  · rename_i z_2 z_3 z_4
    refine Effect.step State.sramWrite_effect (by decide) ?_
    exact Effect.refl _
  · rename_i z_5 z_6
    exact Effect.refl _

theorem State.migInst_effect {src : Nat → Nat → List Byte} {tab : Config.MigTable} {b : Nat} {n : Config.InstRow} {s : State} : Effect [.links, .seq, .mem] s (State.migInst src tab b n s) := by
  unfold State.migInst
  split
  · rename_i z_1 z_2
    exact Effect.refl _
  · rename_i z_3 z_4 z_5
    refine ite_intro ?_ ?_
    · refine Effect.step State.sramWrite_effect (by decide) ?_
      exact Effect.refl _
    · refine Effect.forAll (fun a_6 t_7 => ?_) ?_
      · refine Effect.step State.migMember_effect (by decide) ?_
        exact Effect.refl _
      · exact Effect.refl _

theorem State.migrate_effect {src : Nat → Nat → List Byte} {tab : Config.MigTable} {b : Nat} {l : List Config.InstRow} {s : State} : Effect [.links, .seq, .mem, .prgx] s (State.migrate src tab b l s) := by
  unfold State.migrate
  extract_lets t_1 src_2
  have ht_1 : Effect [.links, .seq, .mem, .prgx] s t_1 := by
    unfold t_1
    refine Effect.forAll (fun a_3 t_4 => ?_) ?_
    · refine Effect.step State.migInst_effect (by decide) ?_
      exact Effect.refl _
    · exact Effect.refl _
  clear_value t_1
  refine Effect.put (x := t_1) ?_ (fun p hp => by cases p <;> first | exact absurd (by decide) hp | rfl) rfl ⟨rfl, rfl, rfl⟩ ⟨rfl, rfl⟩ rfl rfl
  assumption

theorem State.stopTimers_effect {b : Nat} {l : List Config.InstRow} {s : State} : Effect [.links, .seq, .mem] s (State.stopTimers b l s) := by
  unfold State.stopTimers
  refine Effect.forAll (fun a_1 t_2 => ?_) ?_
  · refine Effect.step State.sramWrite_effect (by decide) ?_
    exact Effect.refl _
  · exact Effect.refl _

theorem State.putRetained_effect {data : List Byte} {old : Bool} {s0 : State} : Effect [.links, .seq, .mem, .prgx, .fresh] s0 (State.putRetained data old s0) := by
  unfold State.putRetained
  extract_lets im_1 b_2 s_3 all_4 tab_5
  clear_value im_1
  clear_value b_2
  have hs_3 : Effect [.links, .seq, .mem, .prgx, .fresh] s0 s_3 := by
    unfold s_3
    refine Effect.step State.sectUse_effect (by decide) ?_
    exact Effect.refl _
  clear_value s_3
  clear_value all_4
  clear_value tab_5
  split
  · rename_i z_6 z_7
    exact Effect.refl _
  · rename_i z_8 z_9 z_10 z_11
    extract_lets l_12
    clear_value l_12
    refine Effect.step State.stopTimers_effect (by decide) ?_
    refine ite_intro ?_ ?_
    · refine Effect.step State.migrate_effect (by decide) ?_
      assumption
    · refine Effect.step State.sramWrite_effect (by decide) ?_
      assumption

end Sys2Proof.Machine
end

