-- ==== Sys2Proof/Laws/EngineEffect.lean ====
section
/-! SUPPORT. What each operation of Machine/Engine.lean can do: the parts of the state it may change, and what it never takes
back (`Effect`, Safety.lean). -/

namespace Sys2Proof.Machine

theorem State.modSec_effect {f : Sec → Sec} {s : State} : Effect [.sec] s (State.modSec f s) := by
  unfold State.modSec
  refine Effect.put (x := s) ?_ (fun p hp => by cases p <;> first | exact absurd (by decide) hp | rfl) rfl ⟨rfl, rfl, rfl⟩ ⟨rfl, rfl⟩ rfl rfl
  exact Effect.refl _

theorem Fuses.slots_get (f : Fuses) (k : Fin 4) : f.slots[k] = f.fuse[k].state := by
  simp [Fuses.slots]

theorem Fuses.cut_slots {f : Fuses} {t : Nat} {j : Fin 4} (h : f.slots[j] = .revoked) : (f.cut t).slots[j] = .revoked := by
  unfold Fuses.cut
  split
  · rename_i k e _
    rw [Fuses.slots_get] at h ⊢
    dsimp only
    split
    · by_cases hj : j = k
      · subst hj
        simp only [upd, Fin.getElem_fin, Vector.getElem_set_self]
        revert h
        rcases f.fuse[j] with ⟨a, b, c⟩
        cases a <;> cases b <;> cases c <;> decide
      · simp only [upd, Fin.getElem_fin]
        rw [Vector.getElem_set_ne _ _ (fun e => hj (Fin.ext e.symm))]
        exact h
    · exact h
  · exact h

@[simp] theorem Fuses.cut_debugLock (f : Fuses) (t : Nat) : (f.cut t).debugLock = f.debugLock := by
  unfold Fuses.cut
  split <;> rfl

@[simp] theorem Fuses.cut_rb (f : Fuses) (t : Nat) : (f.cut t).rb = f.rb := by
  unfold Fuses.cut
  split <;> rfl

theorem State.installKey_effect {k : Fin 4} {signer : Nat} {s : State} (hk : s.fuses.slots[k] ≠ .revoked) :
    Effect [.links, .seq, .pages, .hif, .fuses, .sec, .posted, .fresh] s (State.installKey k signer s) := by
  unfold State.installKey
  extract_lets d s1 f t
  have h1 : Effect [.links, .seq, .pages, .hif, .fuses, .sec, .posted, .fresh] s s1 := State.draw_effect.mono (by decide)
  have hf : s1.fuses = s.fuses := rfl
  have ht : Effect [.links, .seq, .pages, .hif, .fuses, .sec, .posted, .fresh] s1 t := by
    refine ⟨fun p hp => by cases p <;> first | exact absurd (by decide) hp | rfl,
      ⟨rfl, fun h => h, fun h => h, fun _ => Nat.le_refl _, fun _ => Nat.le_refl _, ?_, fun h => h⟩, Nat.le_refl _⟩
    intro j hj
    rw [hf] at hj
    rw [Fuses.slots_get] at hj ⊢
    show ((upd s1.fuses.fuse k (fun f => { f with used := true, active := true }))[j]).state = .revoked
    rw [hf]
    by_cases e : k.val = j.val
    · exact absurd ((Fuses.slots_get s.fuses k).trans (Fin.ext e ▸ hj)) hk
    · simpa [upd, Vector.getElem_set, e] using hj
  clear_value s1 t
  refine Effect.step State.ev_effect (by decide) ?_
  exact Effect.step State.secFlag_effect (by decide) (h1.trans ht)

theorem State.revokeKey_effect {k : Fin 4} {signer : Nat} {s : State} :
    Effect [.links, .seq, .pages, .hif, .fuses, .sec, .posted, .fresh] s (State.revokeKey k signer s) := by
  unfold State.revokeKey
  extract_lets f t
  have ht : Effect [.links, .seq, .pages, .hif, .fuses, .sec, .posted, .fresh] s t := by
    refine ⟨fun p hp => by cases p <;> first | exact absurd (by decide) hp | rfl,
      ⟨rfl, fun h => h, fun h => h, fun _ => Nat.le_refl _, fun _ => Nat.le_refl _, ?_, fun h => h⟩, Nat.le_refl _⟩
    intro j hj
    rw [Fuses.slots_get] at hj ⊢
    show ((upd s.fuses.fuse k (fun f => { f with revoked := true }))[j]).state = .revoked
    by_cases e : k.val = j.val
    · simp [upd, e, SlotFuses.state]
    · simpa [upd, Vector.getElem_set, e] using hj
  clear_value t
  refine Effect.step State.ev_effect (by decide) ?_
  exact Effect.step State.secFlag_effect (by decide) ht

theorem State.debugEvent_effect {signer : Nat} {s : State} : Effect [.links, .seq] s (State.debugEvent signer s) := by
  unfold State.debugEvent
  refine Effect.step State.ev_effect (by decide) ?_
  exact Effect.refl _

theorem State.tokenTarget_of_reason {s : State} {t : List Byte} {cmds : List Nat} {v : Bool} {n : List Byte} {g : Bool} {top : Option Nat}
    (h : s.tokenReason t cmds v n g top = 0) : g = true := by
  unfold State.tokenReason at h
  extract_lets at h
  split at h
  · cases h
  · split at h
    · cases h
    · split at h
      · cases h
      · split at h
        · cases h
        · rename_i k
          revert k; cases g <;> simp

theorem State.secTokenReason_install {s : State} {t : List Byte} (h : s.secTokenReason t = 0) (c : tokNat t 6 1 = 2) :
    s.fuses.slots[Fin.ofNat 4 (tokNat t 0x030 1 - 1)] = .empty := by
  unfold State.secTokenReason at h
  split at h
  · cases h
  · extract_lets r at h
    split at h
    · contradiction
    · rename_i hr
      have k := State.tokenTarget_of_reason (Decidable.not_not.mp hr)
      unfold State.tokenTarget at k
      rw [c] at k
      simp only [Bool.and_eq_true, decide_eq_true_eq] at k
      obtain ⟨⟨k1, k2⟩, k3⟩ := k
      unfold State.slotState at k3
      have hlt : tokNat t 0x030 1 - 1 < 4 := by omega
      rw [dif_pos hlt] at k3
      have e : Fin.ofNat 4 (tokNat t 0x030 1 - 1) = ⟨tokNat t 0x030 1 - 1, hlt⟩ := Fin.ext (Nat.mod_eq_of_lt hlt)
      exact (congrArg (fun x : Fin 4 => s.fuses.slots[x]) e).trans k3

theorem State.secToken_effect {s : State} : EffectSnd [.links, .seq, .pages, .hif, .fuses, .sec, .posted, .fresh] s (State.secToken s) := by
  unfold State.secToken
  extract_lets t cmd signer target r s1
  have h1 : Effect [.links, .seq, .pages, .hif, .fuses, .sec, .posted, .fresh] s s1 := State.modSec_effect.mono (by decide)
  split
  · refine EffectSnd.mk ?_
    refine Effect.step State.modSec_effect (by decide) ?_
    exact Effect.step State.secFlag_effect (by decide) h1
  · rename_i hr
    have hcmd : cmd = tokNat t 6 1 := rfl
    clear_value cmd
    split
    · have hc := hcmd.symm
      refine EffectSnd.mk (Effect.step (State.installKey_effect ?_) (by decide) h1)
      intro hk
      exact absurd ((State.secTokenReason_install (Decidable.not_not.mp hr) hc).symm.trans hk) (by decide)
    · exact EffectSnd.mk (Effect.step State.revokeKey_effect (by decide) h1)
    · refine EffectSnd.mk ?_
      refine Effect.step State.debugEvent_effect (by decide) ?_
      refine Effect.step State.secFlag_effect (by decide) ?_
      exact Effect.step State.modSec_effect (by decide) h1

theorem State.guardVerdict_effect {kind : Nat} {base : Nat} {reason : Nat} {s : State} : Effect [.links, .seq, .mem, .pages, .hif, .sec, .posted] s (State.guardVerdict kind base reason s) := by
  unfold State.guardVerdict
  extract_lets t_1 u_2 src_3
  have ht_1 : Effect [.links, .seq, .mem, .pages, .hif, .sec, .posted] s t_1 := by
    unfold t_1
    refine Effect.step State.imgEvent_effect (by decide) ?_
    exact Effect.refl _
  clear_value t_1
  have hu_2 : Effect [.links, .seq, .mem, .pages, .hif, .sec, .posted] s u_2 := by
    unfold u_2
    refine Effect.step State.secFlag_effect (by decide) ?_
    assumption
  clear_value u_2
  refine ite_intro ?_ ?_
  · assumption
  · refine Effect.put (x := u_2) ?_ (fun p hp => by cases p <;> first | exact absurd (by decide) hp | rfl) rfl ⟨rfl, rfl, rfl⟩ ⟨rfl, rfl⟩ rfl rfl
    assumption

theorem State.modPrg_effect {f : Prg → Prg} {s : State} : Effect [.prg] s (State.modPrg f s) := by
  unfold State.modPrg
  refine Effect.put (x := s) ?_ (fun p hp => by cases p <;> first | exact absurd (by decide) hp | rfl) rfl ⟨rfl, rfl, rfl⟩ ⟨rfl, rfl⟩ rfl rfl
  exact Effect.refl _

theorem State.tokenNow_effect {s : State} : Effect [.links, .seq, .pages, .hif, .fuses, .sec, .posted, .fresh] s (State.tokenNow s) := by
  unfold State.tokenNow
  split
  · rename_i z_1 z_2 z_3 z_4
    refine Effect.step State.err_effect (by decide) ?_
    refine EffectSnd.of_eq z_4 ?_
    refine EffectSnd.step State.secToken_effect (by decide) ?_
    refine Effect.step State.modSec_effect (by decide) ?_
    exact Effect.refl _
  · rename_i z_5 z_6 z_7
    refine EffectSnd.of_eq z_7 ?_
    refine EffectSnd.step State.secToken_effect (by decide) ?_
    refine Effect.step State.modSec_effect (by decide) ?_
    exact Effect.refl _

theorem State.switchCheck_effect {s : State} : Effect [.links, .seq, .mem, .pages, .prg, .hif, .sec, .posted] s (State.switchCheck s) := by
  unfold State.switchCheck
  extract_lets slot_1 r_2 t_3
  clear_value slot_1
  clear_value r_2
  have ht_3 : Effect [.links, .seq, .mem, .pages, .prg, .hif, .sec, .posted] s t_3 := by
    unfold t_3
    refine Effect.step State.guardVerdict_effect (by decide) ?_
    exact Effect.refl _
  clear_value t_3
  refine ite_intro ?_ ?_
  · refine Effect.step State.modPrg_effect (by decide) ?_
    assumption
  · refine Effect.step State.prgFlag_effect (by decide) ?_
    refine Effect.step State.modPrg_effect (by decide) ?_
    assumption

theorem State.engineRun_effect {l : List EngineOp} {s : State} : Effect [.links, .lost, .seq, .mem, .pages, .clk, .prg, .hif, .fuses, .sec, .posted, .fresh] s (State.engineRun l s) := by
  induction l generalizing s with
  | nil => exact State.modSec_effect.mono (by decide)
  | cons o l ih =>
    cases o with
    | token => exact Effect.trans (State.tokenNow_effect.mono (by decide)) ih
    | switch => exact Effect.trans (State.switchCheck_effect.mono (by decide)) ih
    | verify => exact State.modSec_effect.mono (by decide)
    | attest => exact State.modSec_effect.mono (by decide)
    | program => exact State.modSec_effect.mono (by decide)
    | clear => exact State.modSec_effect.mono (by decide)

theorem State.engineFree_effect {s : State} : Effect [.links, .lost, .seq, .mem, .pages, .clk, .prg, .hif, .fuses, .sec, .posted, .fresh] s (State.engineFree s) := by
  unfold State.engineFree
  refine Effect.step State.engineRun_effect (by decide) ?_
  exact Effect.refl _

theorem State.engineDrop_effect {gone : List EngineOp} {s : State} : Effect [.links, .lost, .seq, .mem, .pages, .clk, .prg, .hif, .fuses, .sec, .posted, .fresh] s (State.engineDrop gone s) := by
  unfold State.engineDrop
  extract_lets l_1
  clear_value l_1
  refine ite_intro ?_ ?_
  · refine Effect.step State.engineRun_effect (by decide) ?_
    exact Effect.refl _
  · refine Effect.step State.modSec_effect (by decide) ?_
    exact Effect.refl _

theorem State.engineDo_effect {o : EngineOp} {s : State} : Effect [.links, .lost, .seq, .mem, .pages, .clk, .prg, .hif, .fuses, .sec, .posted, .fresh] s (State.engineDo o s) := by
  unfold State.engineDo
  refine ite_intro ?_ ?_
  · refine Effect.step State.engineRun_effect (by decide) ?_
    exact Effect.refl _
  · refine Effect.step State.engineAsk_effect (by decide) ?_
    exact Effect.refl _

end Sys2Proof.Machine
end

