-- ==== Sys2Proof/Laws/ProgramEffect.lean ====
section
/-! SUPPORT. What each operation of Machine/Program.lean can do: the parts of the state it may change, and what it never takes
back (`Effect`, Safety.lean). -/

namespace Sys2Proof.Machine

theorem State.outWrites_effect {l : List (Nat × Byte)} {s : State} : Effect [.prg] s (State.outWrites l s) := by
  unfold State.outWrites
  extract_lets keep_1 src_2
  clear_value keep_1
  refine Effect.put (x := s) ?_ (fun p hp => by cases p <;> first | exact absurd (by decide) hp | rfl) rfl ⟨rfl, rfl, rfl⟩ ⟨rfl, rfl⟩ rfl rfl
  exact Effect.refl _

theorem State.bankWrites_effect {l : List (Nat × Byte)} {s : State} : Effect [.links, .seq, .mem, .prgx] s (State.bankWrites l s) := by
  unfold State.bankWrites
  refine Effect.foldl (fun t_2 a_1 => ?_) _ ?_
  · extract_lets t1_3 src_4
    have ht1_3 : Effect [.links, .seq, .mem, .prgx] t_2 t1_3 := by
      unfold t1_3
      refine Effect.step State.sramWrite_effect (by decide) ?_
      exact Effect.refl _
    clear_value t1_3
    split
    · rename_i z_5 z_6 z_7 z_8
      extract_lets k_9
      clear_value k_9
      refine ite_intro ?_ ?_
      · refine Effect.put (x := t1_3) ?_ (fun p hp => by cases p <;> first | exact absurd (by decide) hp | rfl) rfl ⟨rfl, rfl, rfl⟩ ⟨rfl, rfl⟩ rfl rfl
        assumption
      · assumption
    · rename_i z_10 z_11
      assumption
  · exact Effect.refl _

theorem State.taskWrites_effect {l : List (Nat × Byte)} {s : State} : Effect [.links, .seq, .mem, .prg, .prgx] s (State.taskWrites l s) := by
  unfold State.taskWrites
  refine Effect.step State.bankWrites_effect (by decide) ?_
  refine Effect.step State.outWrites_effect (by decide) ?_
  exact Effect.refl _

theorem State.retRead_effect {s : State} : Effect [.links, .seq, .mem] s (State.retRead s) := by
  unfold State.retRead
  refine Effect.forAll (fun a_1 t_2 => ?_) ?_
  · refine Effect.step State.granUse_effect (by decide) ?_
    exact Effect.refl _
  · exact Effect.refl _

theorem State.retMark_effect {b : Nat} {s : State} : Effect [.links, .seq, .mem] s (State.retMark b s) := by
  unfold State.retMark
  refine Effect.step State.granWrite_effect (by decide) ?_
  exact Effect.refl _

theorem State.retTake_effect {b : Nat} {d : List (Nat × List Byte)} {now : Nat} {s : State} : Effect [.prgx] s (State.retTake b d now s) := by
  unfold State.retTake
  extract_lets src_1
  refine Effect.put (x := s) ?_ (fun p hp => by cases p <;> first | exact absurd (by decide) hp | rfl) rfl ⟨rfl, rfl, rfl⟩ ⟨rfl, rfl⟩ rfl rfl
  exact Effect.refl _

theorem State.retStart_effect {s : State} : Effect [.links, .seq, .mem, .prgx] s (State.retStart s) := by
  unfold State.retStart
  exact ite_intro (Effect.refl _) (Effect.step State.retTake_effect (by decide) (Effect.step State.retMark_effect (by decide) (Effect.refl _)))

theorem State.cycleEnd_effect {s : State} : Effect [.prg, .prgx] s (State.cycleEnd s) := by
  unfold State.cycleEnd
  extract_lets d_1 p_2 src_3
  clear_value d_1
  clear_value p_2
  refine Effect.put (x := s) ?_ (fun p hp => by cases p <;> first | exact absurd (by decide) hp | rfl) rfl ⟨rfl, rfl, rfl⟩ ⟨rfl, rfl⟩ rfl rfl
  exact Effect.refl _

theorem State.phase4_effect {s : State} : Effect [.links, .seq, .mem, .pages, .prg, .prgx, .hif, .posted] s (State.phase4 s) := by
  unfold State.phase4
  extract_lets t_1 src_2 src_3
  have ht_1 : Effect [.links, .seq, .mem, .pages, .prg, .prgx, .hif, .posted] s t_1 := by
    unfold t_1
    refine Effect.step State.prgFlag_effect (by decide) ?_
    exact Effect.refl _
  clear_value t_1
  refine ite_intro ?_ ?_
  · refine Effect.put (x := t_1) ?_ (fun p hp => by cases p <;> first | exact absurd (by decide) hp | rfl) rfl ⟨rfl, rfl, rfl⟩ ⟨rfl, rfl⟩ rfl rfl
    assumption
  · refine Effect.step State.cycleEnd_effect (by decide) ?_
    refine Effect.step State.retStart_effect (by decide) ?_
    exact Effect.refl _

theorem State.retTime_effect {d : Nat} {s : State} : Effect [.prgx] s (State.retTime d s) := by
  unfold State.retTime
  extract_lets src_1
  refine Effect.put (x := s) ?_ (fun p hp => by cases p <;> first | exact absurd (by decide) hp | rfl) rfl ⟨rfl, rfl, rfl⟩ ⟨rfl, rfl⟩ rfl rfl
  exact Effect.refl _

theorem State.retDone_effect {t : Nat} {s0 : State} : Effect [.tb, .links, .seq, .mem, .prg, .prgx] s0 (State.retDone t s0) := by
  unfold State.retDone
  extract_lets s_1 src_2 idle_3
  have hs_1 : Effect [.tb, .links, .seq, .mem, .prg, .prgx] s0 s_1 := by
    unfold s_1
    refine Effect.step State.to_effect (by decide) ?_
    exact Effect.refl _
  clear_value s_1
  have hidle_3 : Effect [.tb, .links, .seq, .mem, .prg, .prgx] s0 idle_3 := by
    unfold idle_3
    refine Effect.put (x := s_1) ?_ (fun p hp => by cases p <;> first | exact absurd (by decide) hp | rfl) rfl ⟨rfl, rfl, rfl⟩ ⟨rfl, rfl⟩ rfl rfl
    assumption
  clear_value idle_3
  split
  · rename_i z_4 z_5
    exact Effect.refl _
  · rename_i z_6 z_7 z_8 z_9
    extract_lets u_10 s1_11
    have hu_10 : Effect [.tb, .links, .seq, .mem, .prg, .prgx] s0 u_10 := by
      unfold u_10
      refine Effect.foldl (fun t_13 a_12 => ?_) _ ?_
      · refine Effect.step State.granWrite_effect (by decide) ?_
        exact Effect.refl _
      · assumption
    clear_value u_10
    have hs1_11 : Effect [.tb, .links, .seq, .mem, .prg, .prgx] s0 s1_11 := by
      unfold s1_11
      refine ite_intro ?_ ?_
      · assumption
      · refine Effect.step State.retTime_effect (by decide) ?_
        refine Effect.step State.granWrite_effect (by decide) ?_
        assumption
    clear_value s1_11
    refine ite_intro ?_ ?_
    · refine Effect.step State.cycleEnd_effect (by decide) ?_
      refine Effect.step State.retStart_effect (by decide) ?_
      assumption
    · assumption

theorem State.publishLoads_effect {s0 : State} : Effect [.lsw, .lswg, .pair, .pairx, .posted] s0 (State.publishLoads s0) := by
  unfold State.publishLoads
  extract_lets out_1 src_2 s_3
  clear_value out_1
  have hs_3 : Effect [.lsw, .lswg, .pair, .pairx, .posted] s0 s_3 := by
    unfold s_3
    refine Effect.put (x := s0) ?_ (fun p hp => by cases p <;> first | exact absurd (by decide) hp | rfl) rfl ⟨rfl, rfl, rfl⟩ ⟨rfl, rfl⟩ rfl rfl
    exact Effect.refl _
  clear_value s_3
  refine Effect.step State.lswDeliver_effect (by decide) ?_
  refine Effect.forAll (fun a_4 t_5 => ?_) ?_
  · extract_lets w_6
    clear_value w_6
    refine ite_intro ?_ ?_
    · exact Effect.refl _
    · refine Effect.step State.lswSet_effect (by decide) ?_
      exact Effect.refl _
  · assumption

theorem State.publishStations_effect {s : State} : Effect [.can, .stn] s (State.publishStations s) := by
  unfold State.publishStations
  refine Effect.forAll (fun a_1 t_2 => ?_) ?_
  · split
    · rename_i z_3 z_4
      refine Effect.step State.stnOut_effect (by decide) ?_
      exact Effect.refl _
    · rename_i z_5 z_6
      refine Effect.step State.stnOut_effect (by decide) ?_
      exact Effect.refl _
    · rename_i z_7 z_8
      refine Effect.step State.stnOut_effect (by decide) ?_
      exact Effect.refl _
    · rename_i z_9 z_10
      exact Effect.refl _
    · rename_i z_11 z_12
      exact Effect.refl _
    · rename_i z_13 z_14
      exact Effect.refl _
    · rename_i z_15 z_16
      exact Effect.refl _
  · refine Effect.step State.acksNow_effect (by decide) ?_
    exact Effect.refl _

theorem State.deliver_effect {h : Nat} {r : Request} {s : State} : EffectSnd [.links, .seq, .pages, .ax, .gear, .cam, .ptlIn, .env, .envKept, .can, .hif, .recd, .posted] s (State.deliver h r s) := by
  unfold State.deliver
  split
  · rename_i z_1 z_2 z_3 z_4
    extract_lets cmd_5
    clear_value cmd_5
    split
    · rename_i z_6
      refine EffectSnd.mk ?_
      exact Effect.refl _
    · rename_i z_7 z_8
      refine EffectSnd.step State.axCommand_effect (by decide) ?_
      exact Effect.refl _
  · rename_i z_9 z_10 z_11
    refine EffectSnd.step State.profileCommit_effect (by decide) ?_
    exact Effect.refl _
  · rename_i z_12 z_13 z_14
    refine EffectSnd.step State.ptlRequest_effect (by decide) ?_
    exact Effect.refl _
  · rename_i z_15 z_16 z_17
    split
    · rename_i z_18
      refine EffectSnd.mk ?_
      refine Effect.step State.sideRequest_effect (by decide) ?_
      exact Effect.refl _
    · rename_i z_19
      refine EffectSnd.mk ?_
      refine Effect.step State.sideRequest_effect (by decide) ?_
      exact Effect.refl _
    · rename_i z_20 z_21 z_22
      refine EffectSnd.mk ?_
      exact Effect.refl _
  · rename_i z_23 z_24 z_25
    refine EffectSnd.step State.engineCommand_effect (by decide) ?_
    exact Effect.refl _
  · rename_i z_26 z_27 z_28 z_29 z_30
    refine EffectSnd.step State.canPush_effect (by decide) ?_
    exact Effect.refl _
  · rename_i z_31 z_32 z_33 z_34
    refine EffectSnd.step State.userRec_effect (by decide) ?_
    exact Effect.refl _

theorem State.deliverAll_effect {s : State} : Effect [.links, .seq, .pages, .ax, .gear, .cam, .ptlIn, .env, .envKept, .can, .prgx, .hif, .recd, .posted] s (State.deliverAll s) := by
  unfold State.deliverAll
  extract_lets l_1 src_2
  clear_value l_1
  refine Effect.foldl (fun t_4 a_3 => ?_) _ ?_
  · extract_lets r_5 src_6 src_7
    have hr_5 : EffectSnd [.links, .seq, .pages, .ax, .gear, .cam, .ptlIn, .env, .envKept, .can, .prgx, .hif, .recd, .posted] t_4 r_5 := by
      unfold r_5
      refine EffectSnd.step State.deliver_effect (by decide) ?_
      exact Effect.refl _
    clear_value r_5
    have hsrc_6 : Effect [.links, .seq, .pages, .ax, .gear, .cam, .ptlIn, .env, .envKept, .can, .prgx, .hif, .recd, .posted] t_4 src_6 := by
      unfold src_6
      assumption
    clear_value src_6
    refine Effect.put (x := src_6) ?_ (fun p hp => by cases p <;> first | exact absurd (by decide) hp | rfl) rfl ⟨rfl, rfl, rfl⟩ ⟨rfl, rfl⟩ rfl rfl
    assumption
  · refine Effect.put (x := s) ?_ (fun p hp => by cases p <;> first | exact absurd (by decide) hp | rfl) rfl ⟨rfl, rfl, rfl⟩ ⟨rfl, rfl⟩ rfl rfl
    exact Effect.refl _

theorem State.publish_effect {s : State} : Effect (([.links, .seq, .pages, .ax, .gear, .cam, .ptlIn, .env, .envKept, .lsw, .lswg, .can, .stn, .prgx, .hif, .recd] : List Part) ++ ([.pair, .pairx, .posted] : List Part)) s (State.publish s) := by
  unfold State.publish
  extract_lets src_1
  refine ite_intro ?_ ?_
  · refine Effect.put (x := s) ?_ (fun p hp => by cases p <;> first | exact absurd (by decide) hp | rfl) rfl ⟨rfl, rfl, rfl⟩ ⟨rfl, rfl⟩ rfl rfl
    exact Effect.refl _
  · refine Effect.step State.deliverAll_effect (by decide) ?_
    refine Effect.step State.publishStations_effect (by decide) ?_
    refine Effect.step State.publishLoads_effect (by decide) ?_
    exact Effect.refl _

theorem State.overrun_effect {s : State} : Effect [.links, .seq, .pages, .prg, .prgx, .hif, .posted] s (State.overrun s) := by
  unfold State.overrun
  extract_lets skips_1 late_2 src_3 src_4 t_5
  clear_value skips_1
  clear_value late_2
  have ht_5 : Effect [.links, .seq, .pages, .prg, .prgx, .hif, .posted] s t_5 := by
    unfold t_5
    refine Effect.put (x := s) ?_ (fun p hp => by cases p <;> first | exact absurd (by decide) hp | rfl) rfl ⟨rfl, rfl, rfl⟩ ⟨rfl, rfl⟩ rfl rfl
    exact Effect.refl _
  clear_value t_5
  refine Effect.step State.ev_effect (by decide) ?_
  refine Effect.step State.prgFlag_effect (by decide) ?_
  assumption

theorem State.enterTask_effect {task : Nat} {flags : Word} {record : Option (Event × Nat)} {s : State} : Effect [.prgx] s (State.enterTask task flags record s) := by
  unfold State.enterTask
  extract_lets src_1
  refine Effect.put (x := s) ?_ (fun p hp => by cases p <;> first | exact absurd (by decide) hp | rfl) rfl ⟨rfl, rfl, rfl⟩ ⟨rfl, rfl⟩ rfl rfl
  exact Effect.refl _

theorem State.beginCycle_effect {cycle : Nat} {flags : Word} {input : List Word} {s : State} : Effect [.prg, .prgx] s (State.beginCycle cycle flags input s) := by
  unfold State.beginCycle
  extract_lets p_1 due_2 recs_3 src_4
  clear_value p_1
  clear_value due_2
  clear_value recs_3
  refine Effect.forAll (fun a_5 t_6 => ?_) ?_
  · refine Effect.step State.enterTask_effect (by decide) ?_
    exact Effect.refl _
  · refine Effect.put (x := s) ?_ (fun p hp => by cases p <;> first | exact absurd (by decide) hp | rfl) rfl ⟨rfl, rfl, rfl⟩ ⟨rfl, rfl⟩ rfl rfl
    exact Effect.refl _

theorem State.freeze_effect {s0 : State} : Effect [.pages, .stn, .prg, .prgx, .hif, .posted] s0 (State.freeze s0) := by
  unfold State.freeze
  extract_lets s_1 f_2
  have hs_1 : Effect [.pages, .stn, .prg, .prgx, .hif, .posted] s0 s_1 := by
    unfold s_1
    refine Effect.step State.stnFreeze_effect (by decide) ?_
    exact Effect.refl _
  clear_value s_1
  clear_value f_2
  refine Effect.step State.beginCycle_effect (by decide) ?_
  assumption

theorem State.taskTimes_effect {l : List (Nat × Nat)} {s : State} : Effect [.prgx] s (State.taskTimes l s) := by
  unfold State.taskTimes
  extract_lets src_1
  refine Effect.put (x := s) ?_ (fun p hp => by cases p <;> first | exact absurd (by decide) hp | rfl) rfl ⟨rfl, rfl, rfl⟩ ⟨rfl, rfl⟩ rfl rfl
  exact Effect.refl _

theorem State.prgStop_effect {s : State} : Effect [.pages, .ax, .lsw, .lswg, .prg, .prgx, .hif, .pair, .posted] s (State.prgStop s) := by
  unfold State.prgStop
  extract_lets s1_1 s2_2 src_3 src_4
  have hs1_1 : Effect [.pages, .ax, .lsw, .lswg, .prg, .prgx, .hif, .pair, .posted] s s1_1 := by
    unfold s1_1
    refine ite_intro ?_ ?_
    · exact Effect.refl _
    · refine Effect.step State.lswDeliver_effect (by decide) ?_
      refine Effect.forAll (fun a_5 t_6 => ?_) ?_
      · refine Effect.step State.lswSet_effect (by decide) ?_
        exact Effect.refl _
      · exact Effect.refl _
  clear_value s1_1
  have hs2_2 : Effect [.pages, .ax, .lsw, .lswg, .prg, .prgx, .hif, .pair, .posted] s s2_2 := by
    unfold s2_2
    refine Effect.forAll (fun a_7 t_8 => ?_) ?_
    · refine Effect.step State.accept_effect (by decide) ?_
      exact Effect.refl _
    · assumption
  clear_value s2_2
  refine Effect.step State.prgFlag_effect (by decide) ?_
  refine Effect.put (x := s2_2) ?_ (fun p hp => by cases p <;> first | exact absurd (by decide) hp | rfl) rfl ⟨rfl, rfl, rfl⟩ ⟨rfl, rfl⟩ rfl rfl
  assumption

theorem State.abandon_effect {task : Nat} {s : State} : Effect [.prg, .prgx] s (State.abandon task s) := by
  unfold State.abandon
  extract_lets src_1 src_2
  refine Effect.put (x := s) ?_ (fun p hp => by cases p <;> first | exact absurd (by decide) hp | rfl) rfl ⟨rfl, rfl, rfl⟩ ⟨rfl, rfl⟩ rfl rfl
  exact Effect.refl _

theorem State.trap_effect {task : Nat} {cause : Nat} {pc : Word} {val : Word} {s : State} : Effect [.links, .seq, .pages, .prg, .prgx, .hif, .posted] s (State.trap task cause pc val s) := by
  unfold State.trap
  extract_lets u_1 src_2 t_3
  have hu_1 : Effect [.links, .seq, .pages, .prg, .prgx, .hif, .posted] s u_1 := by
    unfold u_1
    refine Effect.step State.abandon_effect (by decide) ?_
    exact Effect.refl _
  clear_value u_1
  have ht_3 : Effect [.links, .seq, .pages, .prg, .prgx, .hif, .posted] s t_3 := by
    unfold t_3
    refine Effect.put (x := u_1) ?_ (fun p hp => by cases p <;> first | exact absurd (by decide) hp | rfl) rfl ⟨rfl, rfl, rfl⟩ ⟨rfl, rfl⟩ rfl rfl
    assumption
  clear_value t_3
  refine Effect.step State.ev_effect (by decide) ?_
  refine Effect.step State.prgFlag_effect (by decide) ?_
  refine ite_intro ?_ ?_
  · assumption
  · refine Effect.step State.enterTask_effect (by decide) ?_
    assumption

theorem State.verdict_effect {task : Nat} {stops : Bool} {s : State} : Effect [.pages, .ax, .lsw, .lswg, .prg, .prgx, .hif, .pair, .posted] s (State.verdict task stops s) := by
  unfold State.verdict
  refine ite_intro ?_ ?_
  · refine Effect.step State.prgStop_effect (by decide) ?_
    exact Effect.refl _
  · exact Effect.refl _

theorem State.accessTrap_effect {x : WriteTrap} {s : State} : Effect [.links, .seq, .pages, .ax, .lsw, .lswg, .prg, .prgx, .hif, .pair, .posted, .fresh] s (State.accessTrap x s) := by
  unfold State.accessTrap
  extract_lets d_1
  have hd_1 : EffectSnd [.links, .seq, .pages, .ax, .lsw, .lswg, .prg, .prgx, .hif, .pair, .posted, .fresh] s d_1 := by
    unfold d_1
    refine EffectSnd.step State.draw_effect (by decide) ?_
    exact Effect.refl _
  clear_value d_1
  refine ite_intro ?_ ?_
  · exact Effect.refl _
  · refine Effect.step State.verdict_effect (by decide) ?_
    refine Effect.step State.trap_effect (by decide) ?_
    assumption

theorem State.eventReach_effect {x : Event × Nat × Nat} {s : State} : Effect [.prgx] s (State.eventReach x s) := by
  unfold State.eventReach
  refine Effect.forAll (fun a_1 t_2 => ?_) ?_
  · extract_lets src_3
    refine ite_intro ?_ ?_
    · refine Effect.step State.errDue_effect (by decide) ?_
      refine Effect.put (x := t_2) ?_ (fun p hp => by cases p <;> first | exact absurd (by decide) hp | rfl) rfl ⟨rfl, rfl, rfl⟩ ⟨rfl, rfl⟩ rfl rfl
      exact Effect.refl _
    · refine Effect.put (x := t_2) ?_ (fun p hp => by cases p <;> first | exact absurd (by decide) hp | rfl) rfl ⟨rfl, rfl, rfl⟩ ⟨rfl, rfl⟩ rfl rfl
      exact Effect.refl _
  · exact Effect.refl _

theorem State.eventTasks_effect {e : Event} {seq : Nat} {s : State} : Effect [.prgx] s (State.eventTasks e seq s) := by
  unfold State.eventTasks
  extract_lets src_1
  refine ite_intro ?_ ?_
  · exact Effect.refl _
  · refine ite_intro ?_ ?_
    · refine Effect.put (x := s) ?_ (fun p hp => by cases p <;> first | exact absurd (by decide) hp | rfl) rfl ⟨rfl, rfl, rfl⟩ ⟨rfl, rfl⟩ rfl rfl
      exact Effect.refl _
    · refine Effect.step State.eventReach_effect (by decide) ?_
      exact Effect.refl _

theorem State.switchOver_effect {s : State} : Effect [.prg, .prgx] s (State.switchOver s) := by
  unfold State.switchOver
  extract_lets src_1 src_2
  refine Effect.forAll (fun a_3 t_4 => ?_) ?_
  · refine Effect.step State.eventReach_effect (by decide) ?_
    exact Effect.refl _
  · refine Effect.put (x := s) ?_ (fun p hp => by cases p <;> first | exact absurd (by decide) hp | rfl) rfl ⟨rfl, rfl, rfl⟩ ⟨rfl, rfl⟩ rfl rfl
    exact Effect.refl _

theorem State.answer_effect {a0 : Word} {a1 : Word} {s : State} : Effect [.prgx] s (State.answer a0 a1 s) := by
  unfold State.answer
  extract_lets src_1
  refine Effect.put (x := s) ?_ (fun p hp => by cases p <;> first | exact absurd (by decide) hp | rfl) rfl ⟨rfl, rfl, rfl⟩ ⟨rfl, rfl⟩ rfl rfl
  exact Effect.refl _

theorem State.request_effect {r : Request} {s : State} : Effect [.prgx] s (State.request r s) := by
  unfold State.request
  extract_lets h_1 src_2
  clear_value h_1
  refine ite_intro ?_ ?_
  · exact Effect.refl _
  · refine ite_intro ?_ ?_
    · refine Effect.step State.answer_effect (by decide) ?_
      exact Effect.refl _
    · refine Effect.step State.answer_effect (by decide) ?_
      refine Effect.put (x := s) ?_ (fun p hp => by cases p <;> first | exact absurd (by decide) hp | rfl) rfl ⟨rfl, rfl, rfl⟩ ⟨rfl, rfl⟩ rfl rfl
      exact Effect.refl _

theorem State.service_effect {k : State → State} {s : State} {l : List Part} (hw : Part.within [] l = true) (hk : ∀ y0, Effect l y0 (k y0)) : Effect l s (State.service k s) := by
  unfold State.service
  refine ite_intro ?_ ?_
  · exact hk _
  · exact Effect.refl _

theorem State.recvFrame_effect {n : Fin 4} {s : State} : Effect [.can, .prgx] s (State.recvFrame n s) := by
  unfold State.recvFrame
  extract_lets c_1
  clear_value c_1
  split
  · rename_i z_2 z_3 z_4
    extract_lets t_5 src_6
    have ht_5 : Effect [.can, .prgx] s t_5 := by
      unfold t_5
      refine Effect.step State.modCan_effect (by decide) ?_
      exact Effect.refl _
    clear_value t_5
    refine ite_intro ?_ ?_
    · refine Effect.step State.answer_effect (by decide) ?_
      refine Effect.put (x := t_5) ?_ (fun p hp => by cases p <;> first | exact absurd (by decide) hp | rfl) rfl ⟨rfl, rfl, rfl⟩ ⟨rfl, rfl⟩ rfl rfl
      assumption
    · refine Effect.step State.answer_effect (by decide) ?_
      exact Effect.refl _
  · rename_i z_7 z_8
    refine Effect.step State.answer_effect (by decide) ?_
    exact Effect.refl _

theorem State.retAll_effect {s : State} : Effect [.prgx] s (State.retAll s) := by
  unfold State.retAll
  extract_lets l_1 src_2
  clear_value l_1
  refine Effect.put (x := s) ?_ (fun p hp => by cases p <;> first | exact absurd (by decide) hp | rfl) rfl ⟨rfl, rfl, rfl⟩ ⟨rfl, rfl⟩ rfl rfl
  exact Effect.refl _

theorem State.prgRecord_effect {kind : Nat} {s : State} : Effect [.seq, .mem, .pages, .clk, .hif, .recd, .posted] s (State.prgRecord kind s) := by
  unfold State.prgRecord
  refine Effect.step State.ownRec_effect (by decide) ?_
  exact Effect.refl _

theorem State.prgRestart_effect {asked : Bool} {s : State} : Effect [.links, .seq, .mem, .pages, .clk, .prg, .prgx, .hif, .recd, .pairx, .posted, .fresh] s (State.prgRestart asked s) := by
  unfold State.prgRestart
  extract_lets cold_1 k_2 warm_3 s1_4 s2_5 flags_6 src_7 src_8 src_9 s3_10 s4_11 s5_12
  clear_value cold_1
  clear_value k_2
  clear_value warm_3
  have hs1_4 : Effect [.links, .seq, .mem, .pages, .clk, .prg, .prgx, .hif, .recd, .pairx, .posted, .fresh] s s1_4 := by
    unfold s1_4
    refine Effect.step State.loadBank_effect (by decide) ?_
    refine ite_intro ?_ ?_
    · exact Effect.refl _
    · refine Effect.step State.retRead_effect (by decide) ?_
      exact Effect.refl _
  clear_value s1_4
  have hs2_5 : Effect [.links, .seq, .mem, .pages, .clk, .prg, .prgx, .hif, .recd, .pairx, .posted, .fresh] s s2_5 := by
    unfold s2_5
    split
    · rename_i z_13 z_14 z_15 z_16
      refine Effect.step State.putRetained_effect (by decide) ?_
      assumption
    · rename_i z_17 z_18
      assumption
  clear_value s2_5
  clear_value flags_6
  have hs3_10 : Effect [.links, .seq, .mem, .pages, .clk, .prg, .prgx, .hif, .recd, .pairx, .posted, .fresh] s s3_10 := by
    unfold s3_10
    refine Effect.put (x := s2_5) ?_ (fun p hp => by cases p <;> first | exact absurd (by decide) hp | rfl) rfl ⟨rfl, rfl, rfl⟩ ⟨rfl, rfl⟩ rfl rfl
    assumption
  clear_value s3_10
  have hs4_11 : Effect [.links, .seq, .mem, .pages, .clk, .prg, .prgx, .hif, .recd, .pairx, .posted, .fresh] s s4_11 := by
    unfold s4_11
    refine ite_intro ?_ ?_
    · refine Effect.step State.errDue_effect (by decide) ?_
      refine Effect.step State.prgFlag_effect (by decide) ?_
      assumption
    · assumption
  clear_value s4_11
  have hs5_12 : Effect [.links, .seq, .mem, .pages, .clk, .prg, .prgx, .hif, .recd, .pairx, .posted, .fresh] s s5_12 := by
    unfold s5_12
    refine ite_intro ?_ ?_
    · refine Effect.step State.errDue_effect (by decide) ?_
      refine Effect.step State.prgFlag_effect (by decide) ?_
      assumption
    · assumption
  clear_value s5_12
  refine Effect.step State.prgRecord_effect (by decide) ?_
  refine Effect.step State.retAll_effect (by decide) ?_
  refine ite_intro ?_ ?_
  · refine Effect.step State.enterTask_effect (by decide) ?_
    assumption
  · assumption

theorem State.swapSlots_effect {s : State} : Effect [.prg, .pair, .posted] s (State.swapSlots s) := by
  unfold State.swapSlots
  refine Effect.step State.helloChange_effect (by decide) ?_
  refine Effect.step State.modPrg_effect (by decide) ?_
  exact Effect.refl _

theorem State.prgActivate_effect {s : State} : Effect [.links, .seq, .mem, .pages, .clk, .boot, .prg, .prgx, .hif, .recd, .pair, .pairx, .posted, .fresh] s (State.prgActivate s) := by
  unfold State.prgActivate
  extract_lets t_1 src_2 t1_3
  have ht_1 : Effect [.links, .seq, .mem, .pages, .clk, .boot, .prg, .prgx, .hif, .recd, .pair, .pairx, .posted, .fresh] s t_1 := by
    unfold t_1
    refine Effect.step State.swapSlots_effect (by decide) ?_
    exact Effect.refl _
  clear_value t_1
  have ht1_3 : Effect [.links, .seq, .mem, .pages, .clk, .boot, .prg, .prgx, .hif, .recd, .pair, .pairx, .posted, .fresh] s t1_3 := by
    unfold t1_3
    refine Effect.put (x := t_1) ?_ (fun p hp => by cases p <;> first | exact absurd (by decide) hp | rfl) rfl ⟨rfl, rfl, rfl⟩ ⟨rfl, rfl⟩ rfl rfl
    assumption
  clear_value t1_3
  refine ite_intro ?_ ?_
  · refine Effect.step State.modPrg_effect (by decide) ?_
    assumption
  · refine Effect.step State.prgRestart_effect (by decide) ?_
    assumption

theorem State.prgCommand_effect {cmd : Nat} {s : State} : EffectSnd (([.links, .lost, .seq, .mem, .pages, .clk, .boot, .ax, .lsw, .lswg, .prg, .prgx, .hif, .recd, .pair, .pairx] : List Part) ++ ([.fuses, .sec, .posted, .fresh] : List Part)) s (State.prgCommand cmd s) := by
  unfold State.prgCommand
  extract_lets p_1
  clear_value p_1
  refine ite_intro ?_ ?_
  · refine EffectSnd.mk ?_
    exact Effect.refl _
  · split
    · rename_i z_2
      refine ite_intro ?_ ?_
      · refine EffectSnd.mk ?_
        refine Effect.step State.engineDo_effect (by decide) ?_
        refine Effect.step State.modPrg_effect (by decide) ?_
        exact Effect.refl _
      · refine EffectSnd.mk ?_
        exact Effect.refl _
    · rename_i z_3
      refine ite_intro ?_ ?_
      · refine EffectSnd.mk ?_
        exact Effect.refl _
      · refine ite_intro ?_ ?_
        · refine EffectSnd.mk ?_
          exact Effect.refl _
        · refine ite_intro ?_ ?_
          · refine EffectSnd.mk ?_
            exact Effect.refl _
          · refine EffectSnd.mk ?_
            refine Effect.step State.engineDo_effect (by decide) ?_
            refine Effect.step State.modPrg_effect (by decide) ?_
            exact Effect.refl _
    · rename_i z_4
      refine ite_intro ?_ ?_
      · refine EffectSnd.mk ?_
        refine Effect.step State.prgRestart_effect (by decide) ?_
        exact Effect.refl _
      · refine EffectSnd.mk ?_
        exact Effect.refl _
    · rename_i z_5
      refine ite_intro ?_ ?_
      · refine EffectSnd.mk ?_
        refine Effect.step State.prgRestart_effect (by decide) ?_
        exact Effect.refl _
      · refine EffectSnd.mk ?_
        exact Effect.refl _
    · rename_i z_6
      refine ite_intro ?_ ?_
      · refine EffectSnd.mk ?_
        refine Effect.step State.prgStop_effect (by decide) ?_
        exact Effect.refl _
      · refine EffectSnd.mk ?_
        exact Effect.refl _
    · rename_i z_7
      refine ite_intro ?_ ?_
      · refine EffectSnd.mk ?_
        exact Effect.refl _
      · refine EffectSnd.mk ?_
        refine Effect.step State.modPrg_effect (by decide) ?_
        exact Effect.refl _
    · rename_i z_8
      refine ite_intro ?_ ?_
      · refine EffectSnd.mk ?_
        exact Effect.refl _
      · refine ite_intro ?_ ?_
        · refine EffectSnd.mk ?_
          exact Effect.refl _
        · refine EffectSnd.mk ?_
          refine Effect.step State.prgActivate_effect (by decide) ?_
          exact Effect.refl _
    · rename_i z_9 z_10 z_11 z_12 z_13 z_14 z_15 z_16
      refine EffectSnd.mk ?_
      exact Effect.refl _

theorem State.prgCtl_effect {w : Word} {s : State} : Effect (([.links, .lost, .seq, .mem, .pages, .clk, .boot, .ax, .lsw, .lswg, .prg, .prgx, .hif, .recd, .pair, .pairx] : List Part) ++ ([.fuses, .sec, .posted, .fresh] : List Part)) s (State.prgCtl w s) := by
  unfold State.prgCtl
  refine ite_intro ?_ ?_
  · refine Effect.step State.err_effect (by decide) ?_
    exact Effect.refl _
  · split
    · rename_i z_1 z_2 z_3 z_4
      refine Effect.step State.err_effect (by decide) ?_
      refine EffectSnd.of_eq z_4 ?_
      refine EffectSnd.step State.prgCommand_effect (by decide) ?_
      exact Effect.refl _
    · rename_i z_5 z_6 z_7
      refine EffectSnd.of_eq z_7 ?_
      refine EffectSnd.step State.prgCommand_effect (by decide) ?_
      exact Effect.refl _

theorem State.hostPrg_effect {cmd : Nat} {s : State} : Effect [.links, .lost, .seq, .mem, .pages, .clk, .boot, .ax, .lsw, .lswg, .prg, .prgx, .hif, .recd, .pair, .pairx, .fuses, .sec, .posted, .fresh] s (State.hostPrg cmd s) := by
  unfold State.hostPrg
  extract_lets w_1
  clear_value w_1
  refine Effect.trans ?_ (State.gated_effect (l := [.links, .lost, .seq, .mem, .pages, .clk, .boot, .ax, .lsw, .lswg, .prg, .prgx, .hif, .recd, .pair, .pairx, .fuses, .sec, .posted, .fresh]) (by decide) ?_)
  · exact Effect.refl _
  · intro x2
    refine Effect.step State.prgCtl_effect (by decide) ?_
    exact Effect.refl _

theorem State.prgLoadCtl_effect {w : Word} {s : State} : Effect [.links, .lost, .seq, .mem, .pages, .clk, .prg, .prgx, .hif, .fuses, .sec, .posted, .fresh] s (State.prgLoadCtl w s) := by
  unfold State.prgLoadCtl
  extract_lets p_1 busy_2
  clear_value p_1
  clear_value busy_2
  refine ite_intro ?_ ?_
  · refine Effect.step State.err_effect (by decide) ?_
    exact Effect.refl _
  · refine ite_intro ?_ ?_
    · refine Effect.step State.modPrg_effect (by decide) ?_
      exact Effect.refl _
    · refine ite_intro ?_ ?_
      · refine Effect.step State.err_effect (by decide) ?_
        exact Effect.refl _
      · refine ite_intro ?_ ?_
        · exact Effect.refl _
        · refine Effect.step State.engineDrop_effect (by decide) ?_
          refine Effect.step State.switchOver_effect (by decide) ?_
          refine Effect.step State.modPrg_effect (by decide) ?_
          exact Effect.refl _

theorem State.loadWrite_effect {off : Nat} {data : List Byte} {s : State} : Effect [.links, .seq, .mem, .pages, .prg, .hif, .sec, .posted] s (State.loadWrite off data s) := by
  unfold State.loadWrite
  extract_lets t_1 b_2 n_3 t_4 src_5
  have ht_1 : Effect [.links, .seq, .mem, .pages, .prg, .hif, .sec, .posted] s t_1 := by
    unfold t_1
    refine Effect.step State.granWrite_effect (by decide) ?_
    exact Effect.refl _
  clear_value t_1
  clear_value b_2
  clear_value n_3
  have ht_4 : Effect [.links, .seq, .mem, .pages, .prg, .hif, .sec, .posted] s t_4 := by
    unfold t_4
    refine Effect.step State.granWrite_effect (by decide) ?_
    exact Effect.refl _
  clear_value t_4
  refine ite_intro ?_ ?_
  · refine Effect.step State.err_effect (by decide) ?_
    exact Effect.refl _
  · refine ite_intro ?_ ?_
    · refine Effect.step State.modPrg_effect (by decide) ?_
      assumption
    · refine ite_intro ?_ ?_
      · refine Effect.put (x := t_4) ?_ (fun p hp => by cases p <;> first | exact absurd (by decide) hp | rfl) rfl ⟨rfl, rfl, rfl⟩ ⟨rfl, rfl⟩ rfl rfl
        assumption
      · refine Effect.step State.err_effect (by decide) ?_
        exact Effect.refl _

end Sys2Proof.Machine
end

