-- ==== Sys2Proof/Laws/PermitEffect.lean ====
section
/-! SUPPORT. What each operation of Machine/Permit.lean can do: the parts of the state it may change, and what it never takes
back (`Effect`, Safety.lean). -/

namespace Sys2Proof.Machine

theorem State.permitEvents_effect {stamp : Nat} {die : Fin 8} {s : State} : Effect [.links, .seq, .mem, .pages, .safe, .hif, .posted] s (State.permitEvents stamp die s) := by
  unfold State.permitEvents
  extract_lets old_1 new_2 d_3 src_4 s1_5 s2_6 s3_7
  clear_value old_1
  clear_value new_2
  clear_value d_3
  have hs1_5 : Effect [.links, .seq, .mem, .pages, .safe, .hif, .posted] s s1_5 := by
    unfold s1_5
    refine Effect.put (x := s) ?_ (fun p hp => by cases p <;> first | exact absurd (by decide) hp | rfl) rfl ⟨rfl, rfl, rfl⟩ ⟨rfl, rfl⟩ rfl rfl
    exact Effect.refl _
  clear_value s1_5
  have hs2_6 : Effect [.links, .seq, .mem, .pages, .safe, .hif, .posted] s s2_6 := by
    unfold s2_6
    refine ite_intro ?_ ?_
    · refine Effect.step State.raiseAt_effect (by decide) ?_
      assumption
    · assumption
  clear_value s2_6
  have hs3_7 : Effect [.links, .seq, .mem, .pages, .safe, .hif, .posted] s s3_7 := by
    unfold s3_7
    refine ite_intro ?_ ?_
    · refine Effect.step State.statVeh_effect (by decide) ?_
      refine Effect.step State.irq_effect (by decide) ?_
      assumption
    · assumption
  clear_value s3_7
  refine ite_intro ?_ ?_
  · refine Effect.step State.statVeh_effect (by decide) ?_
    refine Effect.step State.irq_effect (by decide) ?_
    refine Effect.step State.raiseAt_effect (by decide) ?_
    assumption
  · assumption

theorem State.releases_effect {s : State} : Effect [.links, .seq, .mem, .pages, .side, .hif, .posted] s (State.releases s) := by
  unfold State.releases
  extract_lets f_1
  clear_value f_1
  refine Effect.step State.setRelease_effect (by decide) ?_
  refine Effect.step State.setRelease_effect (by decide) ?_
  exact Effect.refl _

theorem State.permitReport_effect {s : State} : Effect [.links, .seq, .mem, .pages, .side, .safe, .hif, .posted] s (State.permitReport s) := by
  unfold State.permitReport
  refine Effect.step State.permitEvents_effect (by decide) ?_
  refine Effect.step State.releases_effect (by decide) ?_
  exact Effect.refl _

theorem State.frameReport_effect {s : State} : Effect [.links, .seq, .mem, .pages, .side, .safe, .hif, .posted] s (State.frameReport s) := by
  unfold State.frameReport
  refine Effect.step State.permitEvents_effect (by decide) ?_
  refine Effect.step State.releases_effect (by decide) ?_
  exact Effect.refl _

theorem State.grdDrive_effect {s : State} : Effect [.links, .seq, .mem, .pages, .side, .grd, .safe, .hif, .posted] s (State.grdDrive s) := by
  unfold State.grdDrive
  refine Effect.step State.permitReport_effect (by decide) ?_
  refine Effect.put (x := s) ?_ (fun p hp => by cases p <;> first | exact absurd (by decide) hp | rfl) rfl ⟨rfl, rfl, rfl⟩ ⟨rfl, rfl⟩ rfl rfl
  exact Effect.refl _

end Sys2Proof.Machine
end

