-- ==== Sys2Proof/Laws/ModesEffect.lean ====
section
/-! SUPPORT. What each operation of Machine/Modes.lean can do: the parts of the state it may change, and what it never takes
back (`Effect`, Safety.lean). -/

namespace Sys2Proof.Machine

theorem State.modeTo_effect {m : Mode} {cause : Nat} {s : State} : Effect [.links, .seq, .mc, .pair, .posted] s (State.modeTo m cause s) := by
  unfold State.modeTo
  extract_lets old_1 src_2
  clear_value old_1
  refine Effect.step State.helloChange_effect (by decide) ?_
  refine Effect.step State.ev_effect (by decide) ?_
  refine Effect.put (x := s) ?_ (fun p hp => by cases p <;> first | exact absurd (by decide) hp | rfl) rfl ⟨rfl, rfl, rfl⟩ ⟨rfl, rfl⟩ rfl rfl
  exact Effect.refl _

theorem State.bootTime_effect {s : State} : Effect [.boot] s (State.bootTime s) := by
  unfold State.bootTime
  extract_lets src_1
  refine ite_intro ?_ ?_
  · exact Effect.refl _
  · refine Effect.put (x := s) ?_ (fun p hp => by cases p <;> first | exact absurd (by decide) hp | rfl) rfl ⟨rfl, rfl, rfl⟩ ⟨rfl, rfl⟩ rfl rfl
    exact Effect.refl _

theorem State.leaveConfig_effect {s : State} : Effect (([.links, .seq, .mem, .pages, .mc, .ax, .drv, .coil, .watch, .fb, .gear, .cam, .ptlRun, .safe, .lsw, .lswg] : List Part) ++ ([.hif, .posted] : List Part)) s (State.leaveConfig s) := by
  unfold State.leaveConfig
  extract_lets t_1 src_2
  have ht_1 : Effect (([.links, .seq, .mem, .pages, .mc, .ax, .drv, .coil, .watch, .fb, .gear, .cam, .ptlRun, .safe, .lsw, .lswg] : List Part) ++ ([.hif, .posted] : List Part)) s t_1 := by
    unfold t_1
    refine Effect.step State.lswSend_effect (by decide) ?_
    exact Effect.refl _
  clear_value t_1
  refine Effect.step State.loadGateMap_effect (by decide) ?_
  refine Effect.put (x := t_1) ?_ (fun p hp => by cases p <;> first | exact absurd (by decide) hp | rfl) rfl ⟨rfl, rfl, rfl⟩ ⟨rfl, rfl⟩ rfl rfl
  assumption

theorem State.demandClear_effect {s : State} : Effect [.mc, .safe] s (State.demandClear s) := by
  unfold State.demandClear
  extract_lets src_1 src_2
  refine ite_intro ?_ ?_
  · exact Effect.refl _
  · refine Effect.put (x := s) ?_ (fun p hp => by cases p <;> first | exact absurd (by decide) hp | rfl) rfl ⟨rfl, rfl, rfl⟩ ⟨rfl, rfl⟩ rfl rfl
    exact Effect.refl _

theorem State.giveUp_effect {row : Nat} {s : State} : Effect [.links, .seq, .pages, .hif, .pair, .pairx, .posted] s (State.giveUp row s) := by
  unfold State.giveUp
  extract_lets ready_1 src_2 src_3 s1_4
  clear_value ready_1
  have hs1_4 : Effect [.links, .seq, .pages, .hif, .pair, .pairx, .posted] s s1_4 := by
    unfold s1_4
    refine Effect.put (x := s) ?_ (fun p hp => by cases p <;> first | exact absurd (by decide) hp | rfl) rfl ⟨rfl, rfl, rfl⟩ ⟨rfl, rfl⟩ rfl rfl
    exact Effect.refl _
  clear_value s1_4
  refine Effect.step State.ev_effect (by decide) ?_
  refine Effect.step State.pairFlag_effect (by decide) ?_
  assumption

theorem State.prgSuspend_effect {s : State} : Effect [.prg, .prgx] s (State.prgSuspend s) := by
  unfold State.prgSuspend
  extract_lets src_1 src_2
  refine Effect.put (x := s) ?_ (fun p hp => by cases p <;> first | exact absurd (by decide) hp | rfl) rfl ⟨rfl, rfl, rfl⟩ ⟨rfl, rfl⟩ rfl rfl
  exact Effect.refl _

theorem State.toSafeHold_effect {cause : Nat} {row : Nat} {s : State} : Effect (([.links, .seq, .mem, .pages, .mc, .ax, .drv, .coil, .watch, .fb, .gear, .cam, .ptlIn, .ptlRun, .side, .grd] : List Part) ++ ([.safe, .lsw, .lswg, .prg, .prgx, .hif, .pair, .pairx, .posted] : List Part)) s (State.toSafeHold cause row s) := by
  unfold State.toSafeHold
  extract_lets was_1 gives_2 s1_3 s2_4 s3_5 s4_6
  clear_value was_1
  clear_value gives_2
  have hs1_3 : Effect (([.links, .seq, .mem, .pages, .mc, .ax, .drv, .coil, .watch, .fb, .gear, .cam, .ptlIn, .ptlRun, .side, .grd] : List Part) ++ ([.safe, .lsw, .lswg, .prg, .prgx, .hif, .pair, .pairx, .posted] : List Part)) s s1_3 := by
    unfold s1_3
    refine Effect.forAll (fun a_7 t_8 => ?_) ?_
    · refine Effect.step State.halt_effect (by decide) ?_
      exact Effect.refl _
    · exact Effect.refl _
  clear_value s1_3
  have hs2_4 : Effect (([.links, .seq, .mem, .pages, .mc, .ax, .drv, .coil, .watch, .fb, .gear, .cam, .ptlIn, .ptlRun, .side, .grd] : List Part) ++ ([.safe, .lsw, .lswg, .prg, .prgx, .hif, .pair, .pairx, .posted] : List Part)) s s2_4 := by
    unfold s2_4
    refine ite_intro ?_ ?_
    · refine Effect.step State.giveUp_effect (by decide) ?_
      assumption
    · assumption
  clear_value s2_4
  have hs3_5 : Effect (([.links, .seq, .mem, .pages, .mc, .ax, .drv, .coil, .watch, .fb, .gear, .cam, .ptlIn, .ptlRun, .side, .grd] : List Part) ++ ([.safe, .lsw, .lswg, .prg, .prgx, .hif, .pair, .pairx, .posted] : List Part)) s s3_5 := by
    unfold s3_5
    refine Effect.forAll (fun a_9 t_10 => ?_) ?_
    · refine Effect.step State.restCoil_effect (by decide) ?_
      exact Effect.refl _
    · refine Effect.step State.modeTo_effect (by decide) ?_
      refine ite_intro ?_ ?_
      · refine Effect.step State.leaveConfig_effect (by decide) ?_
        assumption
      · assumption
  clear_value s3_5
  have hs4_6 : Effect (([.links, .seq, .mem, .pages, .mc, .ax, .drv, .coil, .watch, .fb, .gear, .cam, .ptlIn, .ptlRun, .side, .grd] : List Part) ++ ([.safe, .lsw, .lswg, .prg, .prgx, .hif, .pair, .pairx, .posted] : List Part)) s s4_6 := by
    unfold s4_6
    refine Effect.step State.prgSuspend_effect (by decide) ?_
    refine ite_intro ?_ ?_
    · refine Effect.step State.ptlLeaveRun_effect (by decide) ?_
      assumption
    · assumption
  clear_value s4_6
  refine Effect.step State.grdDrive_effect (by decide) ?_
  refine ite_intro ?_ ?_
  · assumption
  · refine Effect.step State.lswSend_effect (by decide) ?_
    assumption

theorem State.toConfig_effect {cause : Nat} {s : State} : Effect (([.links, .seq, .mem, .pages, .mc, .ax, .drv, .coil, .watch, .fb, .gear, .cam, .ptlIn, .ptlRun, .side, .grd] : List Part) ++ ([.safe, .lsw, .lswg, .prg, .prgx, .hif, .pair, .pairx, .posted] : List Part)) s (State.toConfig cause s) := by
  unfold State.toConfig
  extract_lets was_1 s1_2 s2_3 s3_4 src_5 src_6 src_7 s4_8 s5_9
  clear_value was_1
  have hs1_2 : Effect (([.links, .seq, .mem, .pages, .mc, .ax, .drv, .coil, .watch, .fb, .gear, .cam, .ptlIn, .ptlRun, .side, .grd] : List Part) ++ ([.safe, .lsw, .lswg, .prg, .prgx, .hif, .pair, .pairx, .posted] : List Part)) s s1_2 := by
    unfold s1_2
    refine Effect.step State.demandClear_effect (by decide) ?_
    refine Effect.step State.modeTo_effect (by decide) ?_
    exact Effect.refl _
  clear_value s1_2
  have hs2_3 : Effect (([.links, .seq, .mem, .pages, .mc, .ax, .drv, .coil, .watch, .fb, .gear, .cam, .ptlIn, .ptlRun, .side, .grd] : List Part) ++ ([.safe, .lsw, .lswg, .prg, .prgx, .hif, .pair, .pairx, .posted] : List Part)) s s2_3 := by
    unfold s2_3
    refine Effect.forAll (fun a_10 t_11 => ?_) ?_
    · refine Effect.step State.modCoil_effect (by decide) ?_
      refine Effect.step State.unhalt_effect (by decide) ?_
      exact Effect.refl _
    · assumption
  clear_value s2_3
  have hs3_4 : Effect (([.links, .seq, .mem, .pages, .mc, .ax, .drv, .coil, .watch, .fb, .gear, .cam, .ptlIn, .ptlRun, .side, .grd] : List Part) ++ ([.safe, .lsw, .lswg, .prg, .prgx, .hif, .pair, .pairx, .posted] : List Part)) s s3_4 := by
    unfold s3_4
    refine ite_intro ?_ ?_
    · refine Effect.step State.lswSend_effect (by decide) ?_
      assumption
    · assumption
  clear_value s3_4
  have hs4_8 : Effect (([.links, .seq, .mem, .pages, .mc, .ax, .drv, .coil, .watch, .fb, .gear, .cam, .ptlIn, .ptlRun, .side, .grd] : List Part) ++ ([.safe, .lsw, .lswg, .prg, .prgx, .hif, .pair, .pairx, .posted] : List Part)) s s4_8 := by
    unfold s4_8
    refine Effect.put (x := s3_4) ?_ (fun p hp => by cases p <;> first | exact absurd (by decide) hp | rfl) rfl ⟨rfl, rfl, rfl⟩ ⟨rfl, rfl⟩ rfl rfl
    assumption
  clear_value s4_8
  have hs5_9 : Effect (([.links, .seq, .mem, .pages, .mc, .ax, .drv, .coil, .watch, .fb, .gear, .cam, .ptlIn, .ptlRun, .side, .grd] : List Part) ++ ([.safe, .lsw, .lswg, .prg, .prgx, .hif, .pair, .pairx, .posted] : List Part)) s s5_9 := by
    unfold s5_9
    refine Effect.step State.grdDrive_effect (by decide) ?_
    assumption
  clear_value s5_9
  split
  · rename_i z_12 z_13 z_14
    refine Effect.step State.toSafeHold_effect (by decide) ?_
    assumption
  · rename_i z_15 z_16
    refine Effect.step State.noteLeave_effect (by decide) ?_
    assumption

theorem State.toRun_effect {cause : Nat} {s : State} : Effect (([.links, .seq, .mem, .pages, .clk, .boot, .mc, .ax, .drv, .coil, .watch, .fb, .gear, .cam, .ptl, .ptlIn] : List Part) ++ ([.ptlRun, .cyc, .safe, .lsw, .lswg, .prg, .prgx, .hif, .recd, .pair, .pairx, .posted, .fresh] : List Part)) s (State.toRun cause s) := by
  unfold State.toRun
  extract_lets s1_1 s2_2 src_3 s3_4
  have hs1_1 : Effect (([.links, .seq, .mem, .pages, .clk, .boot, .mc, .ax, .drv, .coil, .watch, .fb, .gear, .cam, .ptl, .ptlIn] : List Part) ++ ([.ptlRun, .cyc, .safe, .lsw, .lswg, .prg, .prgx, .hif, .recd, .pair, .pairx, .posted, .fresh] : List Part)) s s1_1 := by
    unfold s1_1
    refine ite_intro ?_ ?_
    · refine Effect.step State.leaveConfig_effect (by decide) ?_
      exact Effect.refl _
    · exact Effect.refl _
  clear_value s1_1
  have hs2_2 : Effect (([.links, .seq, .mem, .pages, .clk, .boot, .mc, .ax, .drv, .coil, .watch, .fb, .gear, .cam, .ptl, .ptlIn] : List Part) ++ ([.ptlRun, .cyc, .safe, .lsw, .lswg, .prg, .prgx, .hif, .recd, .pair, .pairx, .posted, .fresh] : List Part)) s s2_2 := by
    unfold s2_2
    refine Effect.step State.bootTime_effect (by decide) ?_
    refine Effect.step State.modeTo_effect (by decide) ?_
    assumption
  clear_value s2_2
  have hs3_4 : Effect (([.links, .seq, .mem, .pages, .clk, .boot, .mc, .ax, .drv, .coil, .watch, .fb, .gear, .cam, .ptl, .ptlIn] : List Part) ++ ([.ptlRun, .cyc, .safe, .lsw, .lswg, .prg, .prgx, .hif, .recd, .pair, .pairx, .posted, .fresh] : List Part)) s s3_4 := by
    unfold s3_4
    refine Effect.forAll (fun a_5 t_6 => ?_) ?_
    · refine Effect.step State.coilsOn_effect (by decide) ?_
      exact Effect.refl _
    · refine Effect.put (x := s2_2) ?_ (fun p hp => by cases p <;> first | exact absurd (by decide) hp | rfl) rfl ⟨rfl, rfl, rfl⟩ ⟨rfl, rfl⟩ rfl rfl
      assumption
  clear_value s3_4
  refine Effect.step State.prgRestart_effect (by decide) ?_
  refine Effect.step State.ptlEnterRun_effect (by decide) ?_
  assumption

theorem State.toStandby_effect {s : State} : Effect (([.links, .seq, .mem, .pages, .clk, .boot, .mc, .ax, .drv, .coil, .watch, .fb, .gear, .cam, .ptlRun, .safe] : List Part) ++ ([.lsw, .lswg, .prg, .prgx, .hif, .recd, .pair, .pairx, .posted, .fresh] : List Part)) s (State.toStandby s) := by
  unfold State.toStandby
  refine Effect.step State.prgRestart_effect (by decide) ?_
  refine Effect.step State.lswSend_effect (by decide) ?_
  refine Effect.step State.bootTime_effect (by decide) ?_
  refine Effect.step State.modeTo_effect (by decide) ?_
  refine Effect.step State.leaveConfig_effect (by decide) ?_
  exact Effect.refl _

theorem State.toService_effect {s : State} : Effect [.links, .seq, .mc, .ptlIn, .ptlRun, .lsw, .lswg, .prg, .prgx, .pair, .posted] s (State.toService s) := by
  unfold State.toService
  extract_lets s1_1 src_2 s2_3 src_4 s3_5
  have hs1_1 : Effect [.links, .seq, .mc, .ptlIn, .ptlRun, .lsw, .lswg, .prg, .prgx, .pair, .posted] s s1_1 := by
    unfold s1_1
    refine Effect.step State.ptlLeaveRun_effect (by decide) ?_
    refine Effect.step State.modeTo_effect (by decide) ?_
    exact Effect.refl _
  clear_value s1_1
  have hs2_3 : Effect [.links, .seq, .mc, .ptlIn, .ptlRun, .lsw, .lswg, .prg, .prgx, .pair, .posted] s s2_3 := by
    unfold s2_3
    refine Effect.put (x := s1_1) ?_ (fun p hp => by cases p <;> first | exact absurd (by decide) hp | rfl) rfl ⟨rfl, rfl, rfl⟩ ⟨rfl, rfl⟩ rfl rfl
    assumption
  clear_value s2_3
  have hs3_5 : Effect [.links, .seq, .mc, .ptlIn, .ptlRun, .lsw, .lswg, .prg, .prgx, .pair, .posted] s s3_5 := by
    unfold s3_5
    refine ite_intro ?_ ?_
    · refine Effect.put (x := s2_3) ?_ (fun p hp => by cases p <;> first | exact absurd (by decide) hp | rfl) rfl ⟨rfl, rfl, rfl⟩ ⟨rfl, rfl⟩ rfl rfl
      assumption
    · refine Effect.step State.prgSuspend_effect (by decide) ?_
      assumption
  clear_value s3_5
  refine ite_intro ?_ ?_
  · assumption
  · refine Effect.step State.lswSend_effect (by decide) ?_
    assumption

theorem State.electAssert_effect {s : State} : Effect [.mc, .pair, .pairx] s (State.electAssert s) := by
  unfold State.electAssert
  extract_lets src_1 src_2 src_3
  refine ite_intro ?_ ?_
  · exact Effect.refl _
  · refine Effect.put (x := s) ?_ (fun p hp => by cases p <;> first | exact absurd (by decide) hp | rfl) rfl ⟨rfl, rfl, rfl⟩ ⟨rfl, rfl⟩ rfl rfl
    exact Effect.refl _

theorem State.elect_effect {s0 : State} : Effect (([.links, .seq, .mem, .pages, .clk, .boot, .mc, .ax, .drv, .coil, .watch, .fb, .gear, .cam, .ptlRun, .safe] : List Part) ++ ([.lsw, .lswg, .prg, .prgx, .hif, .recd, .pair, .pairx, .posted, .fresh] : List Part)) s0 (State.elect s0) := by
  unfold State.elect
  extract_lets s_1
  have hs_1 : Effect (([.links, .seq, .mem, .pages, .clk, .boot, .mc, .ax, .drv, .coil, .watch, .fb, .gear, .cam, .ptlRun, .safe] : List Part) ++ ([.lsw, .lswg, .prg, .prgx, .hif, .recd, .pair, .pairx, .posted, .fresh] : List Part)) s0 s_1 := by
    unfold s_1
    refine Effect.step State.noteLeave_effect (by decide) ?_
    exact Effect.refl _
  clear_value s_1
  refine ite_intro ?_ ?_
  · assumption
  · refine ite_intro ?_ ?_
    · refine ite_intro ?_ ?_
      · refine Effect.step State.toStandby_effect (by decide) ?_
        assumption
      · refine Effect.step State.causeTo_effect (by decide) ?_
        assumption
    · split
      · rename_i z_2 z_3 z_4 z_5 z_6 z_7
        refine ite_intro ?_ ?_
        · refine Effect.step State.electAssert_effect (by decide) ?_
          assumption
        · assumption
      · rename_i z_8 z_9 z_10
        assumption

theorem State.exitConfig_effect {cause : Nat} {s : State} : Effect (([.links, .seq, .mem, .pages, .clk, .boot, .mc, .ax, .drv, .coil, .watch, .fb, .gear, .cam, .ptl, .ptlIn] : List Part) ++ ([.ptlRun, .cyc, .safe, .lsw, .lswg, .prg, .prgx, .hif, .recd, .pair, .pairx, .posted, .fresh] : List Part)) s (State.exitConfig cause s) := by
  unfold State.exitConfig
  refine ite_intro ?_ ?_
  · refine Effect.step State.elect_effect (by decide) ?_
    exact Effect.refl _
  · refine Effect.step State.toRun_effect (by decide) ?_
    exact Effect.refl _

theorem State.degrade_effect {cause : Nat} {s : State} : Effect (([.links, .seq, .mem, .pages, .mc, .ax, .drv, .coil, .watch, .fb, .gear, .cam, .ptlIn, .ptlRun, .side, .grd] : List Part) ++ ([.safe, .lsw, .lswg, .prg, .prgx, .hif, .pair, .pairx, .posted] : List Part)) s (State.degrade cause s) := by
  unfold State.degrade
  extract_lets gives_1
  clear_value gives_1
  split
  · rename_i z_2 z_3
    refine ite_intro ?_ ?_
    · refine Effect.step State.toSafeHold_effect (by decide) ?_
      exact Effect.refl _
    · refine Effect.step State.modeTo_effect (by decide) ?_
      exact Effect.refl _
  · rename_i z_4 z_5
    refine ite_intro ?_ ?_
    · refine Effect.step State.toSafeHold_effect (by decide) ?_
      exact Effect.refl _
    · exact Effect.refl _
  · rename_i z_6 z_7
    refine ite_intro ?_ ?_
    · refine Effect.step State.toSafeHold_effect (by decide) ?_
      exact Effect.refl _
    · exact Effect.refl _
  · rename_i z_8 z_9
    refine Effect.step State.causeTo_effect (by decide) ?_
    exact Effect.refl _
  · rename_i z_10 z_11
    exact Effect.refl _
  · rename_i z_12 z_13
    exact Effect.refl _
  · rename_i z_14 z_15
    exact Effect.refl _
  · rename_i z_16 z_17
    exact Effect.refl _

theorem State.consequence_effect {d : Fin 8} {s : State} : Effect (([.links, .seq, .mem, .pages, .mc, .ax, .drv, .coil, .watch, .fb, .gear, .cam, .ptlIn, .ptlRun, .side, .grd] : List Part) ++ ([.safe, .lsw, .lswg, .prg, .prgx, .hif, .pair, .pairx, .posted] : List Part)) s (State.consequence d s) := by
  unfold State.consequence
  split
  · rename_i z_1 z_2
    exact Effect.refl _
  · rename_i z_3 z_4
    exact Effect.refl _
  · rename_i z_5 z_6
    refine ite_intro ?_ ?_
    · exact Effect.refl _
    · refine ite_intro ?_ ?_
      · refine Effect.step State.causeTo_effect (by decide) ?_
        exact Effect.refl _
      · refine Effect.step State.degrade_effect (by decide) ?_
        exact Effect.refl _
  · rename_i z_7 z_8
    split
    · rename_i z_9 z_10 z_11
      refine Effect.step State.toSafeHold_effect (by decide) ?_
      exact Effect.refl _
    · rename_i z_12 z_13
      refine Effect.step State.degrade_effect (by decide) ?_
      exact Effect.refl _
  · rename_i z_14 z_15
    split
    · rename_i z_16 z_17 z_18
      refine Effect.step State.toSafeHold_effect (by decide) ?_
      exact Effect.refl _
    · rename_i z_19 z_20
      refine Effect.step State.degrade_effect (by decide) ?_
      exact Effect.refl _
  · rename_i z_21 z_22
    split
    · rename_i z_23 z_24 z_25
      refine Effect.step State.toSafeHold_effect (by decide) ?_
      exact Effect.refl _
    · rename_i z_26 z_27
      refine Effect.step State.degrade_effect (by decide) ?_
      exact Effect.refl _
  · rename_i z_28 z_29
    split
    · rename_i z_30 z_31 z_32
      refine Effect.step State.toSafeHold_effect (by decide) ?_
      exact Effect.refl _
    · rename_i z_33 z_34
      refine Effect.step State.degrade_effect (by decide) ?_
      exact Effect.refl _
  · rename_i z_35 z_36
    split
    · rename_i z_37 z_38 z_39
      refine Effect.step State.toSafeHold_effect (by decide) ?_
      exact Effect.refl _
    · rename_i z_40 z_41
      refine Effect.step State.degrade_effect (by decide) ?_
      exact Effect.refl _

theorem State.granaryLost_effect {s : State} : Effect [.pages, .prg, .prgx, .hif, .posted] s (State.granaryLost s) := by
  unfold State.granaryLost
  extract_lets t_1 src_2
  have ht_1 : Effect [.pages, .prg, .prgx, .hif, .posted] s t_1 := by
    unfold t_1
    refine Effect.step State.errDue_effect (by decide) ?_
    refine Effect.step State.prgFlag_effect (by decide) ?_
    exact Effect.refl _
  clear_value t_1
  refine Effect.put (x := t_1) ?_ (fun p hp => by cases p <;> first | exact absurd (by decide) hp | rfl) rfl ⟨rfl, rfl, rfl⟩ ⟨rfl, rfl⟩ rfl rfl
  assumption

theorem State.dieForgets_effect {d : Fin 8} {s : State} : Effect [.seq] s (State.dieForgets d s) := by
  unfold State.dieForgets
  extract_lets src_1
  refine Effect.put (x := s) ?_ (fun p hp => by cases p <;> first | exact absurd (by decide) hp | rfl) rfl ⟨rfl, rfl, rfl⟩ ⟨rfl, rfl⟩ rfl rfl
  exact Effect.refl _

theorem State.dieLost_effect {d : Fin 8} {s : State} : Effect (([.links, .present, .lost, .seq, .mem, .pages, .pwr, .rst, .mc, .ax, .drv, .coil, .watch, .fb, .gear, .cam] : List Part) ++ ([.ptlIn, .ptlRun, .side, .grd, .safe, .lsw, .lswg, .prg, .prgx, .hif, .pair, .pairx, .posted] : List Part)) s (State.dieLost d s) := by
  unfold State.dieLost
  extract_lets src_1 src_2 src_3 s1_4 s2_5 s3_6 s4_7 src_8
  have hsrc_1 : Effect (([.links, .present, .lost, .seq, .mem, .pages, .pwr, .rst, .mc, .ax, .drv, .coil, .watch, .fb, .gear, .cam] : List Part) ++ ([.ptlIn, .ptlRun, .side, .grd, .safe, .lsw, .lswg, .prg, .prgx, .hif, .pair, .pairx, .posted] : List Part)) s src_1 := by
    unfold src_1
    refine Effect.step State.dieForgets_effect (by decide) ?_
    exact Effect.refl _
  clear_value src_1
  have hs1_4 : Effect (([.links, .present, .lost, .seq, .mem, .pages, .pwr, .rst, .mc, .ax, .drv, .coil, .watch, .fb, .gear, .cam] : List Part) ++ ([.ptlIn, .ptlRun, .side, .grd, .safe, .lsw, .lswg, .prg, .prgx, .hif, .pair, .pairx, .posted] : List Part)) s s1_4 := by
    unfold s1_4
    refine Effect.put (x := src_1) ?_ (fun p hp => by cases p <;> first | exact absurd (by decide) hp | rfl) rfl ⟨rfl, rfl, rfl⟩ ⟨rfl, rfl⟩ rfl rfl
    assumption
  clear_value s1_4
  have hs2_5 : Effect (([.links, .present, .lost, .seq, .mem, .pages, .pwr, .rst, .mc, .ax, .drv, .coil, .watch, .fb, .gear, .cam] : List Part) ++ ([.ptlIn, .ptlRun, .side, .grd, .safe, .lsw, .lswg, .prg, .prgx, .hif, .pair, .pairx, .posted] : List Part)) s s2_5 := by
    unfold s2_5
    refine Effect.step State.raise_effect (by decide) ?_
    assumption
  clear_value s2_5
  have hs3_6 : Effect (([.links, .present, .lost, .seq, .mem, .pages, .pwr, .rst, .mc, .ax, .drv, .coil, .watch, .fb, .gear, .cam] : List Part) ++ ([.ptlIn, .ptlRun, .side, .grd, .safe, .lsw, .lswg, .prg, .prgx, .hif, .pair, .pairx, .posted] : List Part)) s s3_6 := by
    unfold s3_6
    refine Effect.forAll (fun a_9 t_10 => ?_) ?_
    · refine Effect.step State.halt_effect (by decide) ?_
      exact Effect.refl _
    · assumption
  clear_value s3_6
  have hs4_7 : Effect (([.links, .present, .lost, .seq, .mem, .pages, .pwr, .rst, .mc, .ax, .drv, .coil, .watch, .fb, .gear, .cam] : List Part) ++ ([.ptlIn, .ptlRun, .side, .grd, .safe, .lsw, .lswg, .prg, .prgx, .hif, .pair, .pairx, .posted] : List Part)) s s4_7 := by
    unfold s4_7
    refine Effect.forAll (fun a_11 t_12 => ?_) ?_
    · refine Effect.step State.masterLost_effect (by decide) ?_
      exact Effect.refl _
    · assumption
  clear_value s4_7
  refine ite_intro ?_ ?_
  · exact Effect.refl _
  · refine Effect.step State.consequence_effect (by decide) ?_
    refine ite_intro ?_ ?_
    · refine Effect.step State.granaryLost_effect (by decide) ?_
      assumption
    · refine ite_intro ?_ ?_
      · refine Effect.put (x := s4_7) ?_ (fun p hp => by cases p <;> first | exact absurd (by decide) hp | rfl) rfl ⟨rfl, rfl, rfl⟩ ⟨rfl, rfl⟩ rfl rfl
        assumption
      · assumption

theorem State.sendReread_effect {s : State} : Effect [.links, .mc, .safe, .posted] s (State.sendReread s) := by
  unfold State.sendReread
  extract_lets src_1 src_2
  refine Effect.step State.sendPacket_effect (by decide) ?_
  refine Effect.step State.post_effect (by decide) ?_
  refine Effect.put (x := s) ?_ (fun p hp => by cases p <;> first | exact absurd (by decide) hp | rfl) rfl ⟨rfl, rfl, rfl⟩ ⟨rfl, rfl⟩ rfl rfl
  exact Effect.refl _

theorem State.modeReq_effect {target : Nat} {s : State} : EffectSnd (([.links, .seq, .mem, .pages, .clk, .boot, .mc, .ax, .drv, .coil, .watch, .fb, .gear, .cam, .ptl, .ptlIn] : List Part) ++ ([.ptlRun, .cyc, .side, .grd, .safe, .lsw, .lswg, .prg, .prgx, .hif, .recd, .pair, .pairx, .posted, .fresh] : List Part)) s (State.modeReq target s) := by
  unfold State.modeReq
  extract_lets src_1 fits_2
  clear_value fits_2
  refine ite_intro ?_ ?_
  · refine EffectSnd.mk ?_
    exact Effect.refl _
  · split
    · rename_i z_3
      refine ite_intro ?_ ?_
      · refine EffectSnd.mk ?_
        exact Effect.refl _
      · refine ite_intro ?_ ?_
        · refine EffectSnd.mk ?_
          exact Effect.refl _
        · refine EffectSnd.mk ?_
          refine Effect.put (x := s) ?_ (fun p hp => by cases p <;> first | exact absurd (by decide) hp | rfl) rfl ⟨rfl, rfl, rfl⟩ ⟨rfl, rfl⟩ rfl rfl
          exact Effect.refl _
    · rename_i z_4
      refine ite_intro ?_ ?_
      · refine EffectSnd.mk ?_
        refine Effect.step State.sendReread_effect (by decide) ?_
        exact Effect.refl _
      · refine EffectSnd.mk ?_
        exact Effect.refl _
    · rename_i z_5
      refine ite_intro ?_ ?_
      · refine EffectSnd.mk ?_
        refine ite_intro ?_ ?_
        · refine Effect.step State.elect_effect (by decide) ?_
          refine Effect.put (x := s) ?_ (fun p hp => by cases p <;> first | exact absurd (by decide) hp | rfl) rfl ⟨rfl, rfl, rfl⟩ ⟨rfl, rfl⟩ rfl rfl
          exact Effect.refl _
        · refine Effect.step State.toRun_effect (by decide) ?_
          exact Effect.refl _
      · refine ite_intro ?_ ?_
        · refine EffectSnd.mk ?_
          refine Effect.step State.toRun_effect (by decide) ?_
          exact Effect.refl _
        · refine EffectSnd.mk ?_
          exact Effect.refl _
    · rename_i z_6
      refine ite_intro ?_ ?_
      · refine EffectSnd.mk ?_
        refine ite_intro ?_ ?_
        · refine Effect.step State.elect_effect (by decide) ?_
          refine Effect.put (x := s) ?_ (fun p hp => by cases p <;> first | exact absurd (by decide) hp | rfl) rfl ⟨rfl, rfl, rfl⟩ ⟨rfl, rfl⟩ rfl rfl
          exact Effect.refl _
        · refine Effect.step State.toRun_effect (by decide) ?_
          exact Effect.refl _
      · refine ite_intro ?_ ?_
        · refine EffectSnd.mk ?_
          refine Effect.step State.toRun_effect (by decide) ?_
          exact Effect.refl _
        · refine EffectSnd.mk ?_
          exact Effect.refl _
    · rename_i z_7
      refine ite_intro ?_ ?_
      · refine EffectSnd.mk ?_
        refine Effect.step State.toService_effect (by decide) ?_
        exact Effect.refl _
      · refine EffectSnd.mk ?_
        exact Effect.refl _
    · rename_i z_8
      split
      · rename_i z_9 z_10
        refine EffectSnd.mk ?_
        refine Effect.step State.toSafeHold_effect (by decide) ?_
        exact Effect.refl _
      · rename_i z_11 z_12
        refine EffectSnd.mk ?_
        refine Effect.step State.toSafeHold_effect (by decide) ?_
        exact Effect.refl _
      · rename_i z_13 z_14
        refine EffectSnd.mk ?_
        refine Effect.step State.toSafeHold_effect (by decide) ?_
        exact Effect.refl _
      · rename_i z_15 z_16
        refine EffectSnd.mk ?_
        refine Effect.step State.toSafeHold_effect (by decide) ?_
        exact Effect.refl _
      · rename_i z_17 z_18
        refine EffectSnd.mk ?_
        refine Effect.step State.toSafeHold_effect (by decide) ?_
        exact Effect.refl _
      · rename_i z_19 z_20
        refine EffectSnd.mk ?_
        exact Effect.refl _
      · rename_i z_21 z_22
        refine EffectSnd.mk ?_
        exact Effect.refl _
      · rename_i z_23 z_24
        refine EffectSnd.mk ?_
        exact Effect.refl _
    · rename_i z_25 z_26 z_27 z_28 z_29 z_30 z_31
      refine EffectSnd.mk ?_
      exact Effect.refl _

theorem State.modeReqWrite_effect {w : Word} {s : State} : Effect (([.links, .seq, .mem, .pages, .clk, .boot, .mc, .ax, .drv, .coil, .watch, .fb, .gear, .cam, .ptl, .ptlIn] : List Part) ++ ([.ptlRun, .cyc, .side, .grd, .safe, .lsw, .lswg, .prg, .prgx, .hif, .recd, .pair, .pairx, .posted, .fresh] : List Part)) s (State.modeReqWrite w s) := by
  unfold State.modeReqWrite
  refine ite_intro ?_ ?_
  · refine Effect.step State.err_effect (by decide) ?_
    exact Effect.refl _
  · split
    · rename_i z_1 z_2 z_3 z_4
      refine Effect.step State.err_effect (by decide) ?_
      refine EffectSnd.of_eq z_4 ?_
      refine EffectSnd.step State.modeReq_effect (by decide) ?_
      exact Effect.refl _
    · rename_i z_5 z_6 z_7
      refine EffectSnd.of_eq z_7 ?_
      refine EffectSnd.step State.modeReq_effect (by decide) ?_
      exact Effect.refl _

theorem State.hostMode_effect {target : Nat} {s : State} : Effect (([.links, .seq, .mem, .pages, .clk, .boot, .mc, .ax, .drv, .coil, .watch, .fb, .gear, .cam, .ptl, .ptlIn] : List Part) ++ ([.ptlRun, .cyc, .side, .grd, .safe, .lsw, .lswg, .prg, .prgx, .hif, .recd, .pair, .pairx, .posted, .fresh] : List Part)) s (State.hostMode target s) := by
  unfold State.hostMode
  extract_lets w_1
  clear_value w_1
  refine Effect.trans ?_ (State.gated_effect (l := (([.links, .seq, .mem, .pages, .clk, .boot, .mc, .ax, .drv, .coil, .watch, .fb, .gear, .cam, .ptl, .ptlIn] : List Part) ++ ([.ptlRun, .cyc, .side, .grd, .safe, .lsw, .lswg, .prg, .prgx, .hif, .recd, .pair, .pairx, .posted, .fresh] : List Part))) (by decide) ?_)
  · exact Effect.refl _
  · intro x2
    refine Effect.step State.modeReqWrite_effect (by decide) ?_
    exact Effect.refl _

end Sys2Proof.Machine
end

