-- ==== Sys2Proof/Laws/SafetyChanEffect.lean ====
section
/-! SUPPORT. What each operation of Machine/SafetyChan.lean can do: the parts of the state it may change, and what it never takes
back (`Effect`, Safety.lean). -/

namespace Sys2Proof.Machine

theorem State.modChan_effect {sbx : Bool} {f : Channel → Channel} {s : State} : Effect [.grd, .sbx] s (State.modChan sbx f s) := by
  unfold State.modChan
  refine ite_intro ?_ ?_
  · refine Effect.put (x := s) ?_ (fun p hp => by cases p <;> first | exact absurd (by decide) hp | rfl) rfl ⟨rfl, rfl, rfl⟩ ⟨rfl, rfl⟩ rfl rfl
    exact Effect.refl _
  · refine Effect.put (x := s) ?_ (fun p hp => by cases p <;> first | exact absurd (by decide) hp | rfl) rfl ⟨rfl, rfl, rfl⟩ ⟨rfl, rfl⟩ rfl rfl
    exact Effect.refl _

theorem State.sinChanges_effect {old : Channel} {s : State} : Effect [.links, .seq] s (State.sinChanges old s) := by
  unfold State.sinChanges
  refine Effect.forAll (fun a_1 t_2 => ?_) ?_
  · refine Effect.step State.ev_effect (by decide) ?_
    exact Effect.refl _
  · exact Effect.refl _

theorem State.inputFault_effect {sbx : Bool} {n : Fin 32} {cause : Nat} {s : State} : Effect [.links, .seq, .pages, .grd, .sbx, .safe, .hif, .posted] s (State.inputFault sbx n cause s) := by
  unfold State.inputFault
  extract_lets c_1
  clear_value c_1
  split
  · rename_i z_2 z_3
    exact Effect.refl _
  · rename_i z_4 z_5 z_6
    extract_lets s1_7 x_8 s2_9
    have hs1_7 : Effect [.links, .seq, .pages, .grd, .sbx, .safe, .hif, .posted] s s1_7 := by
      unfold s1_7
      refine Effect.step State.modChan_effect (by decide) ?_
      exact Effect.refl _
    clear_value s1_7
    clear_value x_8
    have hs2_9 : Effect [.links, .seq, .pages, .grd, .sbx, .safe, .hif, .posted] s s2_9 := by
      unfold s2_9
      refine Effect.put (x := s1_7) ?_ (fun p hp => by cases p <;> first | exact absurd (by decide) hp | rfl) rfl ⟨rfl, rfl, rfl⟩ ⟨rfl, rfl⟩ rfl rfl
      assumption
    clear_value s2_9
    refine ite_intro ?_ ?_
    · exact Effect.refl _
    · refine ite_intro ?_ ?_
      · assumption
      · refine Effect.step State.sinChanges_effect (by decide) ?_
        refine Effect.step State.irq_effect (by decide) ?_
        refine Effect.step State.ev_effect (by decide) ?_
        assumption

theorem State.tpFail_effect {sbx : Bool} {k : Fin 4} {s : State} : Effect [.links, .seq, .pages, .grd, .sbx, .safe, .hif, .posted] s (State.tpFail sbx k s) := by
  unfold State.tpFail
  extract_lets c_1 s1_2 s2_3
  clear_value c_1
  have hs1_2 : Effect [.links, .seq, .pages, .grd, .sbx, .safe, .hif, .posted] s s1_2 := by
    unfold s1_2
    refine Effect.step State.modChan_effect (by decide) ?_
    exact Effect.refl _
  clear_value s1_2
  have hs2_3 : Effect [.links, .seq, .pages, .grd, .sbx, .safe, .hif, .posted] s s2_3 := by
    unfold s2_3
    refine ite_intro ?_ ?_
    · assumption
    · refine Effect.step State.irq_effect (by decide) ?_
      refine Effect.step State.ev_effect (by decide) ?_
      assumption
  clear_value s2_3
  split
  · rename_i z_4 z_5
    exact Effect.refl _
  · rename_i z_6 z_7 z_8
    refine ite_intro ?_ ?_
    · exact Effect.refl _
    · refine Effect.forAll (fun a_9 t_10 => ?_) ?_
      · refine Effect.step State.inputFault_effect (by decide) ?_
        exact Effect.refl _
      · assumption

theorem State.grdCompare_effect {s : State} : Effect [.safe] s (State.grdCompare s) := by
  unfold State.grdCompare
  extract_lets l_1 src_2
  clear_value l_1
  refine Effect.put (x := s) ?_ (fun p hp => by cases p <;> first | exact absurd (by decide) hp | rfl) rfl ⟨rfl, rfl, rfl⟩ ⟨rfl, rfl⟩ rfl rfl
  exact Effect.refl _

theorem State.startPattern_effect {s : State} : Effect [.safe] s (State.startPattern s) := by
  unfold State.startPattern
  extract_lets src_1
  refine Effect.put (x := s) ?_ (fun p hp => by cases p <;> first | exact absurd (by decide) hp | rfl) rfl ⟨rfl, rfl, rfl⟩ ⟨rfl, rfl⟩ rfl rfl
  exact Effect.refl _

theorem State.rereadDone_effect {read : Bool} {s : State} : Effect (([.links, .seq, .mem, .pages, .mc, .ax, .drv, .coil, .watch, .fb, .gear, .cam, .ptlIn, .ptlRun, .side, .grd] : List Part) ++ ([.safe, .lsw, .lswg, .prg, .prgx, .hif, .pair, .pairx, .posted] : List Part)) s (State.rereadDone read s) := by
  unfold State.rereadDone
  extract_lets src_1 s1_2 same_3 still_4
  have hs1_2 : Effect (([.links, .seq, .mem, .pages, .mc, .ax, .drv, .coil, .watch, .fb, .gear, .cam, .ptlIn, .ptlRun, .side, .grd] : List Part) ++ ([.safe, .lsw, .lswg, .prg, .prgx, .hif, .pair, .pairx, .posted] : List Part)) s s1_2 := by
    unfold s1_2
    refine Effect.put (x := s) ?_ (fun p hp => by cases p <;> first | exact absurd (by decide) hp | rfl) rfl ⟨rfl, rfl, rfl⟩ ⟨rfl, rfl⟩ rfl rfl
    exact Effect.refl _
  clear_value s1_2
  clear_value same_3
  clear_value still_4
  refine ite_intro ?_ ?_
  · exact Effect.refl _
  · refine ite_intro ?_ ?_
    · refine Effect.step State.toConfig_effect (by decide) ?_
      assumption
    · refine Effect.step State.err_effect (by decide) ?_
      refine ite_intro ?_ ?_
      · assumption
      · refine Effect.step State.causeTo_effect (by decide) ?_
        assumption

theorem State.outputFault_effect {sbx : Bool} {n : Fin 4} {kind : Nat} {s : State} : Effect [.links, .seq, .mem, .pages, .side, .grd, .sbx, .safe, .hif, .posted] s (State.outputFault sbx n kind s) := by
  unfold State.outputFault
  extract_lets s1_1 src_2 s2_3
  have hs1_1 : Effect [.links, .seq, .mem, .pages, .side, .grd, .sbx, .safe, .hif, .posted] s s1_1 := by
    unfold s1_1
    refine Effect.step State.modChan_effect (by decide) ?_
    exact Effect.refl _
  clear_value s1_1
  have hs2_3 : Effect [.links, .seq, .mem, .pages, .side, .grd, .sbx, .safe, .hif, .posted] s s2_3 := by
    unfold s2_3
    refine Effect.put (x := s1_1) ?_ (fun p hp => by cases p <;> first | exact absurd (by decide) hp | rfl) rfl ⟨rfl, rfl, rfl⟩ ⟨rfl, rfl⟩ rfl rfl
    assumption
  clear_value s2_3
  refine ite_intro ?_ ?_
  · exact Effect.refl _
  · refine ite_intro ?_ ?_
    · assumption
    · refine Effect.step State.permitReport_effect (by decide) ?_
      refine Effect.step State.irq_effect (by decide) ?_
      refine Effect.step State.ev_effect (by decide) ?_
      assumption

theorem State.demand_effect {kind : Nat} {s : State} : Effect (([.links, .seq, .mem, .pages, .mc, .ax, .drv, .coil, .watch, .fb, .gear, .cam, .ptlIn, .ptlRun, .side, .grd] : List Part) ++ ([.safe, .lsw, .lswg, .prg, .prgx, .hif, .pair, .pairx, .posted] : List Part)) s (State.demand kind s) := by
  unfold State.demand
  extract_lets src_1 s1_2
  have hs1_2 : Effect (([.links, .seq, .mem, .pages, .mc, .ax, .drv, .coil, .watch, .fb, .gear, .cam, .ptlIn, .ptlRun, .side, .grd] : List Part) ++ ([.safe, .lsw, .lswg, .prg, .prgx, .hif, .pair, .pairx, .posted] : List Part)) s s1_2 := by
    unfold s1_2
    refine Effect.step State.ev_effect (by decide) ?_
    refine Effect.put (x := s) ?_ (fun p hp => by cases p <;> first | exact absurd (by decide) hp | rfl) rfl ⟨rfl, rfl, rfl⟩ ⟨rfl, rfl⟩ rfl rfl
    exact Effect.refl _
  clear_value s1_2
  split
  · rename_i z_3 z_4
    refine Effect.step State.toSafeHold_effect (by decide) ?_
    assumption
  · rename_i z_5 z_6
    refine Effect.step State.toSafeHold_effect (by decide) ?_
    assumption
  · rename_i z_7 z_8
    refine Effect.step State.toSafeHold_effect (by decide) ?_
    assumption
  · rename_i z_9 z_10
    refine Effect.step State.toSafeHold_effect (by decide) ?_
    assumption
  · rename_i z_11 z_12
    refine Effect.step State.toSafeHold_effect (by decide) ?_
    assumption
  · rename_i z_13 z_14
    assumption
  · rename_i z_15 z_16
    assumption
  · rename_i z_17 z_18
    assumption

theorem State.sbxMirror_effect {s : State} : Effect [.pages] s (State.sbxMirror s) := by
  unfold State.sbxMirror
  extract_lets both_1 words_2
  clear_value both_1
  clear_value words_2
  refine Effect.step State.modPg_effect (by decide) ?_
  exact Effect.refl _

end Sys2Proof.Machine
end

