-- ==== Sys2Proof/Laws/PairEffect.lean ====
section
/-! SUPPORT. What each operation of Machine/Pair.lean can do: the parts of the state it may change, and what it never takes
back (`Effect`, Safety.lean). -/

namespace Sys2Proof.Machine

theorem State.pairRx_effect {good : Bool} {cnt : Nat} {k : State → State} {s : State} {l : List Part} (hw : Part.within [.pair] l = true) (hk : ∀ y0, Effect l y0 (k y0)) : Effect l s (State.pairRx good cnt k s) := by
  unfold State.pairRx
  extract_lets p_1 bad_2
  clear_value p_1
  have hbad_2 : ∀ y0, Effect l s (bad_2 y0) := by
    intro y3
    unfold bad_2
    refine Effect.put (x := s) ?_ (fun p hp => by cases p <;> first | exact absurd (Part.mem_of_within hw (by decide)) hp | rfl) rfl ⟨rfl, rfl, rfl⟩ ⟨rfl, rfl⟩ rfl rfl
    exact Effect.refl _
  clear_value bad_2
  refine ite_intro ?_ ?_
  · exact Effect.refl _
  · refine ite_intro ?_ ?_
    · exact hbad_2 _
    · refine ite_intro ?_ ?_
      · exact hbad_2 _
      · refine Effect.trans ?_ (hk _)
        refine Effect.put (x := s) ?_ (fun p hp => by cases p <;> first | exact absurd (Part.mem_of_within hw (by decide)) hp | rfl) rfl ⟨rfl, rfl, rfl⟩ ⟨rfl, rfl⟩ rfl rfl
        exact Effect.refl _

theorem State.takeHello_effect {versions : Nat} {second : Bool} {serial : Nat} {sealW : Word} {hash : List Byte} {layout : Nat} {mode : Nat} {s : State} : Effect (([.links, .seq, .mem, .pages, .clk, .boot, .mc, .ax, .drv, .coil, .watch, .fb, .gear, .cam, .ptlRun, .safe] : List Part) ++ ([.lsw, .lswg, .prg, .prgx, .hif, .recd, .pair, .pairx, .posted, .fresh] : List Part)) s (State.takeHello versions second serial sealW hash layout mode s) := by
  unfold State.takeHello
  extract_lets ver_1 bits_2 src_3 src_4 s1_5 src_6 src_7 s2_8 s2_9
  clear_value ver_1
  clear_value bits_2
  have hs1_5 : Effect (([.links, .seq, .mem, .pages, .clk, .boot, .mc, .ax, .drv, .coil, .watch, .fb, .gear, .cam, .ptlRun, .safe] : List Part) ++ ([.lsw, .lswg, .prg, .prgx, .hif, .recd, .pair, .pairx, .posted, .fresh] : List Part)) s s1_5 := by
    unfold s1_5
    refine Effect.put (x := s) ?_ (fun p hp => by cases p <;> first | exact absurd (by decide) hp | rfl) rfl ⟨rfl, rfl, rfl⟩ ⟨rfl, rfl⟩ rfl rfl
    exact Effect.refl _
  clear_value s1_5
  have hs2_8 : Effect (([.links, .seq, .mem, .pages, .clk, .boot, .mc, .ax, .drv, .coil, .watch, .fb, .gear, .cam, .ptlRun, .safe] : List Part) ++ ([.lsw, .lswg, .prg, .prgx, .hif, .recd, .pair, .pairx, .posted, .fresh] : List Part)) s s2_8 := by
    unfold s2_8
    refine Effect.put (x := s1_5) ?_ (fun p hp => by cases p <;> first | exact absurd (by decide) hp | rfl) rfl ⟨rfl, rfl, rfl⟩ ⟨rfl, rfl⟩ rfl rfl
    assumption
  clear_value s2_8
  have hs2_9 : Effect (([.links, .seq, .mem, .pages, .clk, .boot, .mc, .ax, .drv, .coil, .watch, .fb, .gear, .cam, .ptlRun, .safe] : List Part) ++ ([.lsw, .lswg, .prg, .prgx, .hif, .recd, .pair, .pairx, .posted, .fresh] : List Part)) s s2_9 := by
    unfold s2_9
    refine Effect.put (x := s1_5) ?_ (fun p hp => by cases p <;> first | exact absurd (by decide) hp | rfl) rfl ⟨rfl, rfl, rfl⟩ ⟨rfl, rfl⟩ rfl rfl
    assumption
  clear_value s2_9
  refine ite_intro ?_ ?_
  · refine ite_intro ?_ ?_
    · refine Effect.step State.elect_effect (by decide) ?_
      assumption
    · refine Effect.step State.elect_effect (by decide) ?_
      refine Effect.step State.ev_effect (by decide) ?_
      assumption
  · refine ite_intro ?_ ?_
    · assumption
    · refine Effect.step State.ev_effect (by decide) ?_
      refine Effect.step State.pairFlag_effect (by decide) ?_
      assumption

theorem State.takeStatus_effect {mode : Nat} {actO : Bool} {ok : Bool} {stale : Word} {cycle : Nat} {s : State} : Effect (([.links, .seq, .mem, .pages, .clk, .boot, .mc, .ax, .drv, .coil, .watch, .fb, .gear, .cam, .ptlRun, .safe] : List Part) ++ ([.lsw, .lswg, .prg, .prgx, .hif, .recd, .pair, .pairx, .posted, .fresh] : List Part)) s (State.takeStatus mode actO ok stale cycle s) := by
  unfold State.takeStatus
  extract_lets src_1 src_2 s1_3
  have hs1_3 : Effect (([.links, .seq, .mem, .pages, .clk, .boot, .mc, .ax, .drv, .coil, .watch, .fb, .gear, .cam, .ptlRun, .safe] : List Part) ++ ([.lsw, .lswg, .prg, .prgx, .hif, .recd, .pair, .pairx, .posted, .fresh] : List Part)) s s1_3 := by
    unfold s1_3
    refine Effect.put (x := s) ?_ (fun p hp => by cases p <;> first | exact absurd (by decide) hp | rfl) rfl ⟨rfl, rfl, rfl⟩ ⟨rfl, rfl⟩ rfl rfl
    exact Effect.refl _
  clear_value s1_3
  refine Effect.step State.elect_effect (by decide) ?_
  refine ite_intro ?_ ?_
  · refine Effect.forAll (fun a_4 t_5 => ?_) ?_
    · refine Effect.step State.sendQueue_effect (by decide) ?_
      exact Effect.refl _
    · assumption
  · assumption

theorem State.mirrors_effect {k : State → State} {s : State} {l : List Part} (hw : Part.within [] l = true) (hk : ∀ y0, Effect l y0 (k y0)) : Effect l s (State.mirrors k s) := by
  unfold State.mirrors
  refine ite_intro ?_ ?_
  · exact hk _
  · exact Effect.refl _

theorem State.takeMotion_effect {stamp : Nat} {l : List Byte} {s : State} : Effect [.ptl, .pair, .pairx] s (State.takeMotion stamp l s) := by
  unfold State.takeMotion
  extract_lets d_1 src_2 src_3 s1_4
  clear_value d_1
  have hs1_4 : Effect [.ptl, .pair, .pairx] s s1_4 := by
    unfold s1_4
    refine Effect.put (x := s) ?_ (fun p hp => by cases p <;> first | exact absurd (by decide) hp | rfl) rfl ⟨rfl, rfl, rfl⟩ ⟨rfl, rfl⟩ rfl rfl
    exact Effect.refl _
  clear_value s1_4
  refine ite_intro ?_ ?_
  · refine Effect.forAll (fun a_5 t_6 => ?_) ?_
    · extract_lets m_7
      clear_value m_7
      refine Effect.step State.modPtl_effect (by decide) ?_
      exact Effect.refl _
    · assumption
  · assumption

theorem State.mirrorCycle_effect {cycle : Nat} {image : List Byte} {s : State} : Effect [.links, .seq, .pages, .prg, .prgx, .hif, .posted] s (State.mirrorCycle cycle image s) := by
  unfold State.mirrorCycle
  refine ite_intro ?_ ?_
  · exact Effect.refl _
  · refine ite_intro ?_ ?_
    · refine Effect.step State.overrun_effect (by decide) ?_
      exact Effect.refl _
    · refine Effect.step State.beginCycle_effect (by decide) ?_
      exact Effect.refl _

theorem State.takeImage_effect {cycle : Nat} {frag : Nat} {data : List Byte} {s : State} : Effect [.links, .seq, .pages, .prg, .prgx, .hif, .pairx, .posted] s (State.takeImage cycle frag data s) := by
  unfold State.takeImage
  extract_lets l_1 part_2 src_3 t_4
  clear_value l_1
  clear_value part_2
  have ht_4 : Effect [.links, .seq, .pages, .prg, .prgx, .hif, .pairx, .posted] s t_4 := by
    unfold t_4
    refine Effect.put (x := s) ?_ (fun p hp => by cases p <;> first | exact absurd (by decide) hp | rfl) rfl ⟨rfl, rfl, rfl⟩ ⟨rfl, rfl⟩ rfl rfl
    exact Effect.refl _
  clear_value t_4
  split
  · rename_i z_5 z_6 z_7 z_8 z_9 z_10
    refine ite_intro ?_ ?_
    · refine Effect.step State.mirrorCycle_effect (by decide) ?_
      assumption
    · assumption
  · rename_i z_11 z_12 z_13
    refine Effect.put (x := s) ?_ (fun p hp => by cases p <;> first | exact absurd (by decide) hp | rfl) rfl ⟨rfl, rfl, rfl⟩ ⟨rfl, rfl⟩ rfl rfl
    exact Effect.refl _

theorem State.pairCutAll_effect {s : State} : Effect [.coil, .watch] s (State.pairCutAll s) := by
  unfold State.pairCutAll
  refine Effect.forAll (fun a_1 t_2 => ?_) ?_
  · refine Effect.step State.modCoil_effect (by decide) ?_
    refine Effect.step State.modWatch_effect (by decide) ?_
    exact Effect.refl _
  · exact Effect.refl _

theorem State.conflict_effect {s : State} : Effect (([.links, .seq, .mem, .pages, .mc, .ax, .drv, .coil, .watch, .fb, .gear, .cam, .ptlIn, .ptlRun, .side, .grd] : List Part) ++ ([.safe, .lsw, .lswg, .prg, .prgx, .hif, .pair, .pairx, .posted] : List Part)) s (State.conflict s) := by
  unfold State.conflict
  extract_lets s1_1
  have hs1_1 : Effect (([.links, .seq, .mem, .pages, .mc, .ax, .drv, .coil, .watch, .fb, .gear, .cam, .ptlIn, .ptlRun, .side, .grd] : List Part) ++ ([.safe, .lsw, .lswg, .prg, .prgx, .hif, .pair, .pairx, .posted] : List Part)) s s1_1 := by
    unfold s1_1
    refine Effect.step State.ev_effect (by decide) ?_
    refine Effect.step State.pairFlag_effect (by decide) ?_
    exact Effect.refl _
  clear_value s1_1
  refine ite_intro ?_ ?_
  · refine Effect.step State.toSafeHold_effect (by decide) ?_
    assumption
  · assumption

theorem State.pairCtl_effect {w : Word} {s : State} : Effect (([.links, .seq, .mem, .pages, .mc, .ax, .drv, .coil, .watch, .fb, .gear, .cam, .ptlIn, .ptlRun, .side, .grd] : List Part) ++ ([.safe, .lsw, .lswg, .prg, .prgx, .hif, .pair, .pairx, .posted] : List Part)) s (State.pairCtl w s) := by
  unfold State.pairCtl
  refine ite_intro ?_ ?_
  · refine Effect.step State.err_effect (by decide) ?_
    exact Effect.refl _
  · refine ite_intro ?_ ?_
    · exact Effect.refl _
    · refine ite_intro ?_ ?_
      · refine Effect.step State.toSafeHold_effect (by decide) ?_
        exact Effect.refl _
      · refine Effect.step State.err_effect (by decide) ?_
        exact Effect.refl _

theorem State.resumeEngine_effect {a : Fin 12} {q : QueueMsg} {s : State} : Effect [.pages, .ax, .gear, .cam] s (State.resumeEngine a q s) := by
  unfold State.resumeEngine
  split
  · rename_i z_1 z_2
    exact Effect.refl _
  · rename_i z_3 z_4 z_5 z_6 z_7 z_8 z_9 z_10
    extract_lets c_11 w_12 t_13
    clear_value c_11
    clear_value w_12
    have ht_13 : Effect [.pages, .ax, .gear, .cam] s t_13 := by
      unfold t_13
      refine dite_intro (fun w_14 => ?_) (fun w_14 => ?_)
      · refine Effect.step State.setCom_effect (by decide) ?_
        refine Effect.put (x := s) ?_ (fun p hp => by cases p <;> first | exact absurd (by decide) hp | rfl) rfl ⟨rfl, rfl, rfl⟩ ⟨rfl, rfl⟩ rfl rfl
        exact Effect.refl _
      · refine Effect.step State.setCom_effect (by decide) ?_
        refine Effect.put (x := s) ?_ (fun p hp => by cases p <;> first | exact absurd (by decide) hp | rfl) rfl ⟨rfl, rfl, rfl⟩ ⟨rfl, rfl⟩ rfl rfl
        exact Effect.refl _
    clear_value t_13
    refine Effect.step State.modAx_effect (by decide) ?_
    assumption

theorem State.resumeAxis_effect {a : Fin 12} {s0 : State} : Effect [.pages, .ax, .drv, .fb, .gear, .cam, .pairx] s0 (State.resumeAxis a s0) := by
  unfold State.resumeAxis
  extract_lets m_1 src_2 s_3 q_4 pos_5 f_6 s1_7 s2_8 plan_9 src_10
  clear_value m_1
  have hs_3 : Effect [.pages, .ax, .drv, .fb, .gear, .cam, .pairx] s0 s_3 := by
    unfold s_3
    refine Effect.put (x := s0) ?_ (fun p hp => by cases p <;> first | exact absurd (by decide) hp | rfl) rfl ⟨rfl, rfl, rfl⟩ ⟨rfl, rfl⟩ rfl rfl
    exact Effect.refl _
  clear_value s_3
  clear_value q_4
  clear_value pos_5
  clear_value f_6
  have hs1_7 : Effect [.pages, .ax, .drv, .fb, .gear, .cam, .pairx] s0 s1_7 := by
    unfold s1_7
    refine Effect.forAll (fun a_11 t_12 => ?_) ?_
    · refine Effect.step State.setCom_effect (by decide) ?_
      exact Effect.refl _
    · assumption
  clear_value s1_7
  have hs2_8 : Effect [.pages, .ax, .drv, .fb, .gear, .cam, .pairx] s0 s2_8 := by
    unfold s2_8
    refine Effect.step State.alignAxis_effect (by decide) ?_
    assumption
  clear_value s2_8
  clear_value plan_9
  refine ite_intro ?_ ?_
  · assumption
  · refine ite_intro ?_ ?_
    · refine Effect.step State.resumeEngine_effect (by decide) ?_
      assumption
    · refine Effect.step State.modAx_effect (by decide) ?_
      assumption

theorem State.landAxis_effect {n : Nat} {a : Fin 12} {s : State} : Effect [.ax, .drv, .fb, .pairx] s (State.landAxis n a s) := by
  unfold State.landAxis
  extract_lets x_1 src_2 s1_3 y_4 s2_5 r_6
  clear_value x_1
  have hs1_3 : Effect [.ax, .drv, .fb, .pairx] s s1_3 := by
    unfold s1_3
    refine Effect.put (x := s) ?_ (fun p hp => by cases p <;> first | exact absurd (by decide) hp | rfl) rfl ⟨rfl, rfl, rfl⟩ ⟨rfl, rfl⟩ rfl rfl
    exact Effect.refl _
  clear_value s1_3
  clear_value y_4
  have hs2_5 : Effect [.ax, .drv, .fb, .pairx] s s2_5 := by
    unfold s2_5
    refine Effect.step State.modAx_effect (by decide) ?_
    refine Effect.step State.alignAxis_effect (by decide) ?_
    assumption
  clear_value s2_5
  clear_value r_6
  refine ite_intro ?_ ?_
  · exact Effect.refl _
  · refine ite_intro ?_ ?_
    · assumption
    · refine Effect.step State.modDrv_effect (by decide) ?_
      refine Effect.step State.modAx_effect (by decide) ?_
      assumption

theorem State.takeoverTake_effect {m : Nat} {a : Fin 12} {s : State} : Effect [.pages, .ax, .drv, .fb, .gear, .cam, .pairx] s (State.takeoverTake m a s) := by
  unfold State.takeoverTake
  refine ite_intro ?_ ?_
  · refine Effect.step State.resumeAxis_effect (by decide) ?_
    exact Effect.refl _
  · exact Effect.refl _

theorem State.resumePtl_effect {p : Fin 8} {s : State} : Effect [.ptl, .ptlIn, .ptlRun, .cyc] s (State.resumePtl p s) := by
  unfold State.resumePtl
  extract_lets m_1 nudge_2 ref_3 at_4 left_5 h_6 moving_7
  clear_value m_1
  clear_value nudge_2
  clear_value ref_3
  clear_value at_4
  clear_value left_5
  clear_value h_6
  clear_value moving_7
  refine Effect.step State.modCyc_effect (by decide) ?_
  refine Effect.step State.modPin_effect (by decide) ?_
  refine Effect.step State.modRun_effect (by decide) ?_
  refine Effect.step State.modPtl_effect (by decide) ?_
  exact Effect.refl _

theorem State.takeoverLoads_effect {s : State} : Effect [.lsw, .lswg, .pair, .pairx, .posted] s (State.takeoverLoads s) := by
  unfold State.takeoverLoads
  extract_lets src_1
  refine ite_intro ?_ ?_
  · refine Effect.step State.lswDeliver_effect (by decide) ?_
    refine Effect.forAll (fun a_2 t_3 => ?_) ?_
    · extract_lets w_4
      clear_value w_4
      refine Effect.step State.lswSet_effect (by decide) ?_
      exact Effect.refl _
    · exact Effect.refl _
  · refine Effect.put (x := s) ?_ (fun p hp => by cases p <;> first | exact absurd (by decide) hp | rfl) rfl ⟨rfl, rfl, rfl⟩ ⟨rfl, rfl⟩ rfl rfl
    exact Effect.refl _

theorem State.takeoverCold_effect {s : State} : Effect (([.links, .seq, .mem, .pages, .clk, .ax, .drv, .coil, .watch, .fb, .gear, .cam, .ptl, .ptlIn, .ptlRun, .cyc] : List Part) ++ ([.lsw, .lswg, .prg, .prgx, .hif, .recd, .pair, .pairx, .posted, .fresh] : List Part)) s (State.takeoverCold s) := by
  unfold State.takeoverCold
  extract_lets s1_1
  have hs1_1 : Effect (([.links, .seq, .mem, .pages, .clk, .ax, .drv, .coil, .watch, .fb, .gear, .cam, .ptl, .ptlIn, .ptlRun, .cyc] : List Part) ++ ([.lsw, .lswg, .prg, .prgx, .hif, .recd, .pair, .pairx, .posted, .fresh] : List Part)) s s1_1 := by
    unfold s1_1
    refine Effect.forAll (fun a_2 t_3 => ?_) ?_
    · extract_lets u_4
      have hu_4 : Effect (([.links, .seq, .mem, .pages, .clk, .ax, .drv, .coil, .watch, .fb, .gear, .cam, .ptl, .ptlIn, .ptlRun, .cyc] : List Part) ++ ([.lsw, .lswg, .prg, .prgx, .hif, .recd, .pair, .pairx, .posted, .fresh] : List Part)) t_3 u_4 := by
        unfold u_4
        refine Effect.step State.modAx_effect (by decide) ?_
        exact Effect.refl _
      clear_value u_4
      refine ite_intro ?_ ?_
      · refine Effect.step State.alignAxis_effect (by decide) ?_
        assumption
      · refine Effect.step State.axFlag_effect (by decide) ?_
        assumption
    · exact Effect.refl _
  clear_value s1_1
  refine Effect.step State.prgRestart_effect (by decide) ?_
  refine Effect.step State.ptlEnterRun_effect (by decide) ?_
  assumption

end Sys2Proof.Machine
end

