-- ==== Sys2Proof/Laws/SecurityEffect.lean ====
section
/-! SUPPORT. What each operation of Machine/Security.lean can do: the parts of the state it may change, and what it never takes
back (`Effect`, Safety.lean). -/

namespace Sys2Proof.Machine

theorem State.unpend_effect {target : Nat} {s : State} : Effect [.sec] s (State.unpend target s) := by
  unfold State.unpend
  refine Effect.step State.modSec_effect (by decide) ?_
  exact Effect.refl _

theorem State.secLoadCtl_effect {w : Word} {s : State} : Effect [.pages, .hif, .sec, .posted] s (State.secLoadCtl w s) := by
  unfold State.secLoadCtl
  extract_lets x_1 target_2
  clear_value x_1
  clear_value target_2
  refine ite_intro ?_ ?_
  · refine Effect.step State.modSec_effect (by decide) ?_
    exact Effect.refl _
  · refine ite_intro ?_ ?_
    · refine Effect.step State.err_effect (by decide) ?_
      exact Effect.refl _
    · refine ite_intro ?_ ?_
      · refine Effect.step State.err_effect (by decide) ?_
        exact Effect.refl _
      · refine ite_intro ?_ ?_
        · refine Effect.step State.err_effect (by decide) ?_
          exact Effect.refl _
        · refine ite_intro ?_ ?_
          · exact Effect.refl _
          · refine Effect.step State.unpend_effect (by decide) ?_
            refine Effect.step State.modSec_effect (by decide) ?_
            exact Effect.refl _

theorem State.copyVerdict_effect {target : Nat} {copy : Nat} {s : State} : Effect [.links, .seq, .mem, .pages, .hif, .sec, .posted] s (State.copyVerdict target copy s) := by
  unfold State.copyVerdict
  extract_lets t_1
  have ht_1 : Effect [.links, .seq, .mem, .pages, .hif, .sec, .posted] s t_1 := by
    unfold t_1
    refine Effect.step State.guardVerdict_effect (by decide) ?_
    exact Effect.refl _
  clear_value t_1
  refine ite_intro ?_ ?_
  · refine ite_intro ?_ ?_
    · refine Effect.step State.guardVerdict_effect (by decide) ?_
      assumption
    · assumption
  · refine Effect.step State.guardVerdict_effect (by decide) ?_
    exact Effect.refl _

theorem State.rollbackReady_effect {s : State} : Effect [.links, .seq, .pages, .prg, .hif, .sec, .posted] s (State.rollbackReady s) := by
  unfold State.rollbackReady
  extract_lets refuse_1 s1_2 old_3
  have hrefuse_1 : ∀ y0 y1, Effect [.links, .seq, .pages, .prg, .hif, .sec, .posted] y1 (refuse_1 y0 y1) := by
    intro y4 y5
    unfold refuse_1
    refine Effect.step State.ev_effect (by decide) ?_
    refine Effect.step State.modSec_effect (by decide) ?_
    refine Effect.step State.secFlag_effect (by decide) ?_
    exact Effect.refl _
  clear_value refuse_1
  have hs1_2 : Effect [.links, .seq, .pages, .prg, .hif, .sec, .posted] s s1_2 := by
    unfold s1_2
    refine ite_intro ?_ ?_
    · refine Effect.trans ?_ (hrefuse_1 _ _)
      refine Effect.step State.prgFlag_effect (by decide) ?_
      refine Effect.step State.modPrg_effect (by decide) ?_
      exact Effect.refl _
    · exact Effect.refl _
  clear_value s1_2
  clear_value old_3
  refine ite_intro ?_ ?_
  · refine Effect.trans ?_ (hrefuse_1 _ _)
    refine Effect.step State.unpend_effect (by decide) ?_
    refine Effect.step State.modSec_effect (by decide) ?_
    assumption
  · assumption

theorem State.advance_effect {s : State} : Effect [.links, .seq, .pages, .prg, .hif, .fuses, .sec, .posted] s (State.advance s) := by
  unfold State.advance
  extract_lets rb prg cfg f t
  have ht : Effect [.links, .seq, .pages, .prg, .hif, .fuses, .sec, .posted] s t := by
    refine ⟨fun p hp => by cases p <;> first | exact absurd (by decide) hp | rfl,
      ⟨rfl, fun h => h, fun h => h, fun _ => Nat.le_refl _, ?_, fun _ h => h, fun h => h⟩, Nat.le_refl _⟩
    intro k
    match k with
    | ⟨0, _⟩ => exact Nat.le_max_left _ _
    | ⟨1, _⟩ => exact Nat.le_max_left _ _
    | ⟨2, _⟩ => exact Nat.le_max_left _ _
  clear_value t
  refine Effect.step State.rollbackReady_effect (by decide) ?_
  refine Effect.step State.ev_effect (by decide) ?_
  exact Effect.step State.secFlag_effect (by decide) ht

theorem State.attSeq_effect {seq : Nat} {s : State} : Effect [.links, .lost, .seq, .mem, .pages, .clk, .prg, .hif, .fuses, .sec, .posted, .fresh] s (State.attSeq seq s) := by
  unfold State.attSeq
  extract_lets b_1 body_2
  clear_value b_1
  clear_value body_2
  refine ite_intro ?_ ?_
  · exact Effect.refl _
  · refine Effect.step State.engineFree_effect (by decide) ?_
    refine Effect.step State.secFlag_effect (by decide) ?_
    refine Effect.step State.modSec_effect (by decide) ?_
    exact Effect.refl _

theorem State.secCommand_effect {cmd : Nat} {s : State} : EffectSnd [.links, .lost, .seq, .mem, .pages, .clk, .prg, .hif, .fuses, .sec, .posted, .fresh] s (State.secCommand cmd s) := by
  unfold State.secCommand
  have h0 : Effect [.links, .lost, .seq, .mem, .pages, .clk, .prg, .hif, .fuses, .sec, .posted, .fresh] s s := Effect.refl s
  extract_lets x
  split
  · exact EffectSnd.mk h0
  · split
    · exact EffectSnd.mk h0
    · split
      · exact EffectSnd.mk (Effect.step State.modSec_effect (by decide) (State.draw_effect.mono (by decide)))
      · split
        · exact EffectSnd.mk h0
        · split
          · exact EffectSnd.mk (Effect.step State.engineDo_effect (by decide) (Effect.step State.modSec_effect (by decide) h0))
          · exact EffectSnd.mk h0
      · split
        · exact EffectSnd.mk h0
        · exact EffectSnd.mk (Effect.step State.modSec_effect (by decide) h0)
      · exact EffectSnd.mk (Effect.step State.engineDo_effect (by decide) (Effect.step State.modSec_effect (by decide) h0))
      · split
        · exact EffectSnd.step State.secToken_effect (by decide) h0
        · exact EffectSnd.mk (Effect.step State.engineAsk_effect (by decide) (Effect.step State.modSec_effect (by decide) h0))
      · split
        · exact EffectSnd.mk (Effect.step State.advance_effect (by decide) h0)
        · exact EffectSnd.mk h0
      · split
        · exact EffectSnd.mk h0
        · split
          · rename_i k l e
            have hk : k ∈ fins 4 (fun k => decide (s.fuses.slots[k] = .empty)) := by rw [e]; exact List.mem_cons_self
            have hk := of_decide_eq_true (List.mem_filter.mp hk).2
            refine EffectSnd.mk (Effect.step (State.installKey_effect ?_) (by decide) h0)
            intro hr
            exact absurd (hk.symm.trans hr) (by decide)
          · exact EffectSnd.mk h0
      · split
        · exact EffectSnd.mk h0
        · split
          · exact EffectSnd.mk h0
          · refine EffectSnd.mk (Effect.step State.debugEvent_effect (by decide) ?_)
            exact ⟨fun p hp => by cases p <;> first | exact absurd (by decide) hp | rfl,
              ⟨rfl, fun h => h, fun h => h, fun _ => Nat.le_refl _, fun _ => Nat.le_refl _, fun _ h => h, fun _ => rfl⟩, Nat.le_refl _⟩
      · refine EffectSnd.mk (Effect.step State.unpend_effect (by decide) ?_)
        exact Effect.step State.modSec_effect (by decide) h0

theorem State.secCtl_effect {w : Word} {s : State} : Effect [.links, .lost, .seq, .mem, .pages, .clk, .prg, .hif, .fuses, .sec, .posted, .fresh] s (State.secCtl w s) := by
  unfold State.secCtl
  refine ite_intro ?_ ?_
  · refine Effect.step State.err_effect (by decide) ?_
    exact Effect.refl _
  · split
    · rename_i z_1 z_2 z_3 z_4
      refine Effect.step State.err_effect (by decide) ?_
      refine EffectSnd.of_eq z_4 ?_
      refine EffectSnd.step State.secCommand_effect (by decide) ?_
      exact Effect.refl _
    · rename_i z_5 z_6 z_7
      refine EffectSnd.of_eq z_7 ?_
      refine EffectSnd.step State.secCommand_effect (by decide) ?_
      exact Effect.refl _

theorem State.hostSec_effect {cmd : Nat} {s : State} : Effect [.links, .lost, .seq, .mem, .pages, .clk, .prg, .hif, .fuses, .sec, .posted, .fresh] s (State.hostSec cmd s) := by
  unfold State.hostSec
  extract_lets w_1
  clear_value w_1
  refine Effect.trans ?_ (State.gated_effect (l := [.links, .lost, .seq, .mem, .pages, .clk, .prg, .hif, .fuses, .sec, .posted, .fresh]) (by decide) ?_)
  · exact Effect.refl _
  · intro x2
    refine Effect.step State.secCtl_effect (by decide) ?_
    exact Effect.refl _

theorem State.runToken_effect {cmd : Nat} {s : State} : Effect [.links, .lost, .seq, .mem, .pages, .clk, .prg, .hif, .fuses, .sec, .posted, .fresh] s (State.runToken cmd s) := by
  unfold State.runToken
  refine ite_intro ?_ ?_
  · refine Effect.step State.hostSec_effect (by decide) ?_
    exact Effect.refl _
  · exact Effect.refl _

end Sys2Proof.Machine
end

