-- ==== Sys2Proof/Laws/EvqEffect.lean ====
section
/-! SUPPORT. What each operation of Machine/Evq.lean can do: the parts of the state it may change, and what it never takes
back (`Effect`, Safety.lean). -/

namespace Sys2Proof.Machine

theorem State.modEvq_effect {q : Fin 8} {f : Evq → Evq} {s : State} : Effect [.evq] s (State.modEvq q f s) := by
  unfold State.modEvq
  refine Effect.put (x := s) ?_ (fun p hp => by cases p <;> first | exact absurd (by decide) hp | rfl) rfl ⟨rfl, rfl, rfl⟩ ⟨rfl, rfl⟩ rfl rfl
  exact Effect.refl _

theorem State.evqSignal_effect {q : Fin 8} {s : State} : Effect [.evq, .hif, .posted] s (State.evqSignal q s) := by
  unfold State.evqSignal
  refine Effect.step State.vector_effect (by decide) ?_
  refine Effect.step State.modEvq_effect (by decide) ?_
  exact Effect.refl _

theorem State.evqTail_effect {q : Fin 8} {s : State} : Effect [.posted] s (State.evqTail q s) := by
  unfold State.evqTail
  refine Effect.step State.post_effect (by decide) ?_
  exact Effect.refl _

theorem State.evqSlot_effect {q : Fin 8} {rec : List Byte} {s : State} : Effect [.evq, .posted] s (State.evqSlot q rec s) := by
  unfold State.evqSlot
  extract_lets x_1
  clear_value x_1
  refine Effect.step State.modEvq_effect (by decide) ?_
  refine Effect.step State.post_effect (by decide) ?_
  exact Effect.refl _

theorem State.evqPut_effect {q : Fin 8} {recs : List (List Byte)} {seq : Nat} {coal : Word} {s : State} : Effect [.evq, .hif, .posted] s (State.evqPut q recs seq coal s) := by
  unfold State.evqPut
  extract_lets t_1 u_2 cnt_3
  have ht_1 : Effect [.evq, .hif, .posted] s t_1 := by
    unfold t_1
    refine Effect.forAll (fun a_4 t_5 => ?_) ?_
    · refine Effect.step State.evqSlot_effect (by decide) ?_
      exact Effect.refl _
    · exact Effect.refl _
  clear_value t_1
  have hu_2 : Effect [.evq, .hif, .posted] s u_2 := by
    unfold u_2
    refine Effect.step State.evqTail_effect (by decide) ?_
    refine Effect.step State.modEvq_effect (by decide) ?_
    assumption
  clear_value u_2
  clear_value cnt_3
  refine ite_intro ?_ ?_
  · refine Effect.step State.evqSignal_effect (by decide) ?_
    assumption
  · assumption

theorem State.evqLose_effect {q : Fin 8} {e : Event} {seq : Nat} {coal : Word} {behind : Nat} {s : State} : Effect [.pages, .evq, .hif, .posted] s (State.evqLose q e seq coal behind s) := by
  unfold State.evqLose
  extract_lets first_1 t_2
  clear_value first_1
  have ht_2 : Effect [.pages, .evq, .hif, .posted] s t_2 := by
    unfold t_2
    refine Effect.step State.modEvq_effect (by decide) ?_
    exact Effect.refl _
  clear_value t_2
  refine ite_intro ?_ ?_
  · refine Effect.step State.evqFlag_effect (by decide) ?_
    assumption
  · assumption

theorem State.evqTake_effect {q : Fin 8} {e : Event} {seq : Nat} {s : State} : Effect [.pages, .evq, .hif, .posted] s (State.evqTake q e seq s) := by
  unfold State.evqTake
  extract_lets x_1 s1_2 coal_3 count_4
  clear_value x_1
  have hs1_2 : Effect [.pages, .evq, .hif, .posted] s s1_2 := by
    unfold s1_2
    refine ite_intro ?_ ?_
    · exact Effect.refl _
    · refine Effect.step State.modEvq_effect (by decide) ?_
      exact Effect.refl _
  clear_value s1_2
  clear_value coal_3
  clear_value count_4
  refine ite_intro ?_ ?_
  · exact Effect.refl _
  · refine ite_intro ?_ ?_
    · refine Effect.step State.evqLose_effect (by decide) ?_
      assumption
    · refine Effect.step State.modEvq_effect (by decide) ?_
      assumption

theorem State.evqMark_effect {q : Fin 8} {s : State} : Effect [.evq, .hif, .posted] s (State.evqMark q s) := by
  unfold State.evqMark
  split
  · rename_i z_1 z_2
    exact Effect.refl _
  · rename_i z_3 z_4 z_5
    refine Effect.step State.modEvq_effect (by decide) ?_
    refine Effect.step State.evqPut_effect (by decide) ?_
    refine Effect.step State.modEvq_effect (by decide) ?_
    exact Effect.refl _

theorem State.evqWrite_effect {q : Fin 8} {s0 : State} : Effect [.pages, .evq, .hif, .posted] s0 (State.evqWrite q s0) := by
  unfold State.evqWrite
  extract_lets s_1 x_2
  have hs_1 : Effect [.pages, .evq, .hif, .posted] s0 s_1 := by
    unfold s_1
    refine Effect.step State.evqMark_effect (by decide) ?_
    exact Effect.refl _
  clear_value s_1
  clear_value x_2
  split
  · rename_i z_3 z_4
    assumption
  · rename_i z_5 z_6 z_7 z_8
    extract_lets t_9 recs_10
    have ht_9 : Effect [.pages, .evq, .hif, .posted] s0 t_9 := by
      unfold t_9
      refine Effect.step State.modEvq_effect (by decide) ?_
      assumption
    clear_value t_9
    clear_value recs_10
    refine ite_intro ?_ ?_
    · assumption
    · refine ite_intro ?_ ?_
      · refine Effect.step State.evqPut_effect (by decide) ?_
        assumption
      · refine Effect.step State.evqLose_effect (by decide) ?_
        assumption

theorem State.evqOff_effect {q : Fin 8} {s : State} : Effect [.pages, .evq] s (State.evqOff q s) := by
  unfold State.evqOff
  refine Effect.step State.modPg_effect (by decide) ?_
  refine Effect.step State.modEvq_effect (by decide) ?_
  exact Effect.refl _

theorem State.evqEnable_effect {q : Fin 8} {on : Bool} {s : State} : Effect [.pages, .evq, .hif, .posted] s (State.evqEnable q on s) := by
  unfold State.evqEnable
  extract_lets x_1
  clear_value x_1
  refine ite_intro ?_ ?_
  · exact Effect.refl _
  · refine ite_intro ?_ ?_
    · refine ite_intro ?_ ?_
      · refine Effect.step State.err_effect (by decide) ?_
        exact Effect.refl _
      · refine Effect.step State.modPg_effect (by decide) ?_
        refine Effect.step State.modEvq_effect (by decide) ?_
        exact Effect.refl _
    · refine ite_intro ?_ ?_
      · refine Effect.step State.evqOff_effect (by decide) ?_
        refine ite_intro ?_ ?_
        · refine Effect.step State.evqSignal_effect (by decide) ?_
          refine Effect.step State.evqTail_effect (by decide) ?_
          exact Effect.refl _
        · refine Effect.step State.evqTail_effect (by decide) ?_
          exact Effect.refl _
      · refine Effect.step State.modEvq_effect (by decide) ?_
        refine Effect.step State.evqOff_effect (by decide) ?_
        exact Effect.refl _

theorem State.evqHeadWrite_effect {q : Fin 8} {h : Nat} {s : State} : Effect [.pages, .evq, .hif, .posted] s (State.evqHeadWrite q h s) := by
  unfold State.evqHeadWrite
  extract_lets x_1 n_2
  clear_value x_1
  clear_value n_2
  refine ite_intro ?_ ?_
  · refine Effect.step State.modEvq_effect (by decide) ?_
    exact Effect.refl _
  · refine Effect.step State.evqFlag_effect (by decide) ?_
    refine Effect.step State.err_effect (by decide) ?_
    exact Effect.refl _

theorem State.evqResume_effect {s : State} : Effect [.evq, .hif, .posted] s (State.evqResume s) := by
  unfold State.evqResume
  refine Effect.forAll (fun a_1 t_2 => ?_) ?_
  · refine Effect.step State.evqSignal_effect (by decide) ?_
    exact Effect.refl _
  · exact Effect.refl _

theorem State.hspiTake_effect {e : Event} {seq : Nat} {s : State} : Effect [.hspi] s (State.hspiTake e seq s) := by
  unfold State.hspiTake
  extract_lets wants_1 src_2
  clear_value wants_1
  split
  · rename_i z_3 z_4
    exact Effect.refl _
  · rename_i z_5 z_6 z_7
    refine ite_intro ?_ ?_
    · refine Effect.put (x := s) ?_ (fun p hp => by cases p <;> first | exact absurd (by decide) hp | rfl) rfl ⟨rfl, rfl, rfl⟩ ⟨rfl, rfl⟩ rfl rfl
      exact Effect.refl _
    · refine Effect.put (x := s) ?_ (fun p hp => by cases p <;> first | exact absurd (by decide) hp | rfl) rfl ⟨rfl, rfl, rfl⟩ ⟨rfl, rfl⟩ rfl rfl
      exact Effect.refl _

theorem State.hspiPop_effect {s : State} : Effect [.hspi] s (State.hspiPop s) := by
  unfold State.hspiPop
  extract_lets src_1 t_2 src_3
  have ht_2 : Effect [.hspi] s t_2 := by
    unfold t_2
    refine Effect.put (x := s) ?_ (fun p hp => by cases p <;> first | exact absurd (by decide) hp | rfl) rfl ⟨rfl, rfl, rfl⟩ ⟨rfl, rfl⟩ rfl rfl
    exact Effect.refl _
  clear_value t_2
  split
  · rename_i z_4 z_5
    assumption
  · rename_i z_6 z_7 z_8
    split
    · rename_i z_9 z_10
      assumption
    · rename_i z_11 z_12 z_13
      refine Effect.put (x := t_2) ?_ (fun p hp => by cases p <;> first | exact absurd (by decide) hp | rfl) rfl ⟨rfl, rfl, rfl⟩ ⟨rfl, rfl⟩ rfl rfl
      assumption

theorem State.offerWrite_effect {w : Word} {s : State} : Effect [.pages, .hif, .posted] s (State.offerWrite w s) := by
  unfold State.offerWrite
  extract_lets src_1 src_2
  have hsrc_1 : Effect [.pages, .hif, .posted] s src_1 := by
    unfold src_1
    refine Effect.step State.setCom_effect (by decide) ?_
    exact Effect.refl _
  clear_value src_1
  split
  · rename_i z_3 z_4 z_5 z_6
    refine ite_intro ?_ ?_
    · refine Effect.step State.err_effect (by decide) ?_
      exact Effect.refl _
    · refine Effect.put (x := src_1) ?_ (fun p hp => by cases p <;> first | exact absurd (by decide) hp | rfl) rfl ⟨rfl, rfl, rfl⟩ ⟨rfl, rfl⟩ rfl rfl
      assumption

theorem State.flkCmd_effect {code : Nat} {s : State} : Effect [.pages, .ptlIn, .env, .envKept, .hif, .posted] s (State.flkCmd code s) := by
  unfold State.flkCmd
  refine ite_intro ?_ ?_
  · exact Effect.refl _
  · refine ite_intro ?_ ?_
    · refine Effect.step State.err_effect (by decide) ?_
      exact Effect.refl _
    · refine Effect.step State.ptlReqWrite_effect (by decide) ?_
      exact Effect.refl _

end Sys2Proof.Machine
end

