-- ==== Sys2Proof/Laws/ReleaseEffect.lean ====
section
/-! SUPPORT. What each operation of Machine/Release.lean can do: the parts of the state it may change, and what it never takes
back (`Effect`, Safety.lean). -/

namespace Sys2Proof.Machine

theorem State.relDin_effect {n : Fin 48} {level : Bool} {s : State} : Effect [.ax, .din] s (State.relDin n level s) := by
  unfold State.relDin
  extract_lets s1_1
  have hs1_1 : Effect [.ax, .din] s s1_1 := by
    unfold s1_1
    refine Effect.put (x := s) ?_ (fun p hp => by cases p <;> first | exact absurd (by decide) hp | rfl) rfl ⟨rfl, rfl, rfl⟩ ⟨rfl, rfl⟩ rfl rfl
    exact Effect.refl _
  clear_value s1_1
  refine ite_intro ?_ ?_
  · assumption
  · refine Effect.forAll (fun a_2 t_3 => ?_) ?_
    · refine Effect.step State.accept_effect (by decide) ?_
      exact Effect.refl _
    · assumption

theorem State.relSin_effect {n : Nat} {value : Bool} {at_ : Nat} {seq : Nat} {s : State} : Effect [.ptlIn, .safe] s (State.relSin n value at_ seq s) := by
  unfold State.relSin
  extract_lets src_1 s1_2
  have hs1_2 : Effect [.ptlIn, .safe] s s1_2 := by
    unfold s1_2
    refine Effect.put (x := s) ?_ (fun p hp => by cases p <;> first | exact absurd (by decide) hp | rfl) rfl ⟨rfl, rfl, rfl⟩ ⟨rfl, rfl⟩ rfl rfl
    exact Effect.refl _
  clear_value s1_2
  split
  · rename_i z_3 z_4
    assumption
  · rename_i z_5 z_6 z_7
    split
    · rename_i z_8 z_9 z_10
      refine Effect.step State.modPin_effect (by decide) ?_
      assumption
    · rename_i z_11 z_12 z_13
      refine Effect.step State.modPin_effect (by decide) ?_
      assumption
    · rename_i z_14 z_15 z_16
      refine Effect.step State.modPin_effect (by decide) ?_
      assumption
    · rename_i z_17 z_18 z_19
      refine ite_intro ?_ ?_
      · refine Effect.forAll (fun a_20 t_21 => ?_) ?_
        · refine Effect.step State.modPin_effect (by decide) ?_
          exact Effect.refl _
        · assumption
      · refine Effect.step State.modPin_effect (by decide) ?_
        assumption
    · rename_i z_22 z_23
      assumption
    · rename_i z_24 z_25 z_26
      assumption
    · rename_i z_27 z_28
      assumption

theorem State.relPtl_effect {p : Fin 8} {old : Nat} {new : Nat} {seq : Nat} {s : State} : Effect [.links, .seq, .mem, .cyc, .stat] s (State.relPtl p old new seq s) := by
  unfold State.relPtl
  refine ite_intro ?_ ?_
  · refine Effect.step State.modCyc_effect (by decide) ?_
    exact Effect.refl _
  · refine ite_intro ?_ ?_
    · refine Effect.step State.statPtlOpen_effect (by decide) ?_
      exact Effect.refl _
    · exact Effect.refl _

theorem State.relMember_effect {src : Nat} {stall : Bool} {s : State} : Effect [.ptlIn] s (State.relMember src stall s) := by
  unfold State.relMember
  split
  · rename_i z_1 z_2
    exact Effect.refl _
  · rename_i z_3 z_4 z_5
    split
    · rename_i z_6 z_7 z_8 z_9
      refine Effect.step State.modPin_effect (by decide) ?_
      exact Effect.refl _
    · rename_i z_10 z_11
      exact Effect.refl _

theorem State.relEffect_effect {e : Event} {seq : Nat} {s : State} : Effect (([.links, .lost, .seq, .mem, .pages, .clk, .mc, .ax, .din, .ptl, .ptlIn, .cyc, .side, .safe, .can, .stn] : List Part) ++ ([.prg, .prgx, .hif, .stat, .pair, .fuses, .sec, .posted, .fresh] : List Part)) s (State.relEffect e seq s) := by
  unfold State.relEffect
  extract_lets b_1 inst_2 src_3 src_4 t_5 src_6
  clear_value b_1
  clear_value inst_2
  have ht_5 : Effect (([.links, .lost, .seq, .mem, .pages, .clk, .mc, .ax, .din, .ptl, .ptlIn, .cyc, .side, .safe, .can, .stn] : List Part) ++ ([.prg, .prgx, .hif, .stat, .pair, .fuses, .sec, .posted, .fresh] : List Part)) s t_5 := by
    unfold t_5
    refine Effect.put (x := s) ?_ (fun p hp => by cases p <;> first | exact absurd (by decide) hp | rfl) rfl ⟨rfl, rfl, rfl⟩ ⟨rfl, rfl⟩ rfl rfl
    exact Effect.refl _
  clear_value t_5
  split
  · rename_i z_7 z_8
    refine Effect.step State.relDin_effect (by decide) ?_
    exact Effect.refl _
  · rename_i z_9 z_10
    refine Effect.put (x := s) ?_ (fun p hp => by cases p <;> first | exact absurd (by decide) hp | rfl) rfl ⟨rfl, rfl, rfl⟩ ⟨rfl, rfl⟩ rfl rfl
    exact Effect.refl _
  · rename_i z_11 z_12
    split
    · rename_i z_13 z_14 z_15
      refine Effect.step State.modPg_effect (by decide) ?_
      exact Effect.refl _
    · rename_i z_16 z_17
      exact Effect.refl _
  · rename_i z_18 z_19
    refine Effect.step State.relMember_effect (by decide) ?_
    exact Effect.refl _
  · rename_i z_20 z_21
    refine Effect.step State.relMember_effect (by decide) ?_
    exact Effect.refl _
  · rename_i z_22 z_23
    refine Effect.step State.relPtl_effect (by decide) ?_
    exact Effect.refl _
  · rename_i z_24 z_25
    refine Effect.step State.modPtl_effect (by decide) ?_
    exact Effect.refl _
  · rename_i z_26 z_27
    refine Effect.step State.modPin_effect (by decide) ?_
    exact Effect.refl _
  · rename_i z_28 z_29
    refine Effect.step State.modPin_effect (by decide) ?_
    exact Effect.refl _
  · rename_i z_30 z_31
    refine Effect.put (x := s) ?_ (fun p hp => by cases p <;> first | exact absurd (by decide) hp | rfl) rfl ⟨rfl, rfl, rfl⟩ ⟨rfl, rfl⟩ rfl rfl
    exact Effect.refl _
  · rename_i z_32 z_33
    refine Effect.step State.relSin_effect (by decide) ?_
    exact Effect.refl _
  · rename_i z_34 z_35
    refine Effect.step State.modCan_effect (by decide) ?_
    exact Effect.refl _
  · rename_i z_36 z_37
    refine ite_intro ?_ ?_
    · refine Effect.step State.errDue_effect (by decide) ?_
      exact Effect.refl _
    · exact Effect.refl _
  · rename_i z_38 z_39
    refine Effect.step State.modStn_effect (by decide) ?_
    exact Effect.refl _
  · rename_i z_40 z_41
    refine ite_intro ?_ ?_
    · assumption
    · refine Effect.step State.granWrite_effect (by decide) ?_
      assumption
  · rename_i z_42 z_43
    refine Effect.put (x := s) ?_ (fun p hp => by cases p <;> first | exact absurd (by decide) hp | rfl) rfl ⟨rfl, rfl, rfl⟩ ⟨rfl, rfl⟩ rfl rfl
    exact Effect.refl _
  · rename_i z_44 z_45
    refine Effect.step State.attSeq_effect (by decide) ?_
    exact Effect.refl _
  · rename_i z_46 z_47 z_48 z_49 z_50 z_51 z_52 z_53 z_54 z_55 z_56 z_57 z_58 z_59 z_60 z_61 z_62 z_63
    exact Effect.refl _

theorem State.relRecord_effect {e : Event} {seq : Nat} {s : State} : Effect [.links, .seq, .mem, .pages, .hif, .recd, .stat, .posted] s (State.relRecord e seq s) := by
  unfold State.relRecord
  extract_lets s1_1
  have hs1_1 : Effect [.links, .seq, .mem, .pages, .hif, .recd, .stat, .posted] s s1_1 := by
    unfold s1_1
    split
    · rename_i z_2 z_3
      exact Effect.refl _
    · rename_i z_4 z_5 z_6
      extract_lets src_7 t_8
      have ht_8 : Effect [.links, .seq, .mem, .pages, .hif, .recd, .stat, .posted] s t_8 := by
        unfold t_8
        refine Effect.step State.stageRec_effect (by decide) ?_
        refine Effect.step State.modRec_effect (by decide) ?_
        exact Effect.refl _
      clear_value t_8
      refine ite_intro ?_ ?_
      · refine Effect.step State.statPtlClose_effect (by decide) ?_
        assumption
      · assumption
  clear_value s1_1
  split
  · rename_i z_9 z_10 z_11 z_12 z_13
    refine Effect.step State.stageRec_effect (by decide) ?_
    assumption
  · rename_i z_14 z_15
    assumption

theorem State.relHold_effect {e : Event} {s : State} : Effect [.seq] s (State.relHold e s) := by
  unfold State.relHold
  extract_lets src_1
  refine Effect.put (x := s) ?_ (fun p hp => by cases p <;> first | exact absurd (by decide) hp | rfl) rfl ⟨rfl, rfl, rfl⟩ ⟨rfl, rfl⟩ rfl rfl
  exact Effect.refl _

theorem State.releaseOne_effect {e : Event} {s : State} : Effect (([.links, .lost, .seq, .mem, .pages, .clk, .mc, .ax, .din, .ptl, .ptlIn, .cyc, .side, .safe, .can, .stn] : List Part) ++ ([.prg, .prgx, .evq, .hif, .hspi, .recd, .stat, .pair, .fuses, .sec, .posted, .fresh] : List Part)) s (State.releaseOne e s) := by
  unfold State.releaseOne
  extract_lets r_1 s1_2 s2_3
  have hr_1 : EffectSnd (([.links, .lost, .seq, .mem, .pages, .clk, .mc, .ax, .din, .ptl, .ptlIn, .cyc, .side, .safe, .can, .stn] : List Part) ++ ([.prg, .prgx, .evq, .hif, .hspi, .recd, .stat, .pair, .fuses, .sec, .posted, .fresh] : List Part)) s r_1 := by
    unfold r_1
    refine EffectSnd.step State.takeSeq_effect (by decide) ?_
    refine Effect.step State.relHold_effect (by decide) ?_
    exact Effect.refl _
  clear_value r_1
  have hs1_2 : Effect (([.links, .lost, .seq, .mem, .pages, .clk, .mc, .ax, .din, .ptl, .ptlIn, .cyc, .side, .safe, .can, .stn] : List Part) ++ ([.prg, .prgx, .evq, .hif, .hspi, .recd, .stat, .pair, .fuses, .sec, .posted, .fresh] : List Part)) s s1_2 := by
    unfold s1_2
    refine Effect.step State.relRecord_effect (by decide) ?_
    refine Effect.step State.relEffect_effect (by decide) ?_
    assumption
  clear_value s1_2
  have hs2_3 : Effect (([.links, .lost, .seq, .mem, .pages, .clk, .mc, .ax, .din, .ptl, .ptlIn, .cyc, .side, .safe, .can, .stn] : List Part) ++ ([.prg, .prgx, .evq, .hif, .hspi, .recd, .stat, .pair, .fuses, .sec, .posted, .fresh] : List Part)) s s2_3 := by
    unfold s2_3
    refine Effect.forAll (fun a_4 t_5 => ?_) ?_
    · refine Effect.step State.evqTake_effect (by decide) ?_
      exact Effect.refl _
    · assumption
  clear_value s2_3
  refine Effect.step State.eventTasks_effect (by decide) ?_
  refine Effect.step State.hspiTake_effect (by decide) ?_
  assumption

end Sys2Proof.Machine
end

