-- ==== Sys2Proof/Laws/ClocksEffect.lean ====
section
/-! SUPPORT. What each operation of Machine/Clocks.lean can do: the parts of the state it may change, and what it never takes
back (`Effect`, Safety.lean). -/

namespace Sys2Proof.Machine

theorem State.modClk_effect {f : Clocks → Clocks} {s : State} : Effect [.clk] s (State.modClk f s) := by
  unfold State.modClk
  refine Effect.put (x := s) ?_ (fun p hp => by cases p <;> first | exact absurd (by decide) hp | rfl) rfl ⟨rfl, rfl, rfl⟩ ⟨rfl, rfl⟩ rfl rfl
  exact Effect.refl _

theorem State.snapStart_effect {t : Nat} {p : PageId} {s : State} : Effect [.pages] s (State.snapStart t p s) := by
  unfold State.snapStart
  refine Effect.step State.modPg_effect (by decide) ?_
  exact Effect.refl _

theorem State.snapWrite_effect {p : PageId} {w : Word} {s : State} : Effect [.pages, .clk] s (State.snapWrite p w s) := by
  unfold State.snapWrite
  refine ite_intro ?_ ?_
  · refine Effect.step State.modClk_effect (by decide) ?_
    refine Effect.step State.snapStart_effect (by decide) ?_
    exact Effect.refl _
  · refine Effect.step State.modPg_effect (by decide) ?_
    exact Effect.refl _

theorem State.snapAll_effect {w : Word} {s : State} : Effect [.pages, .clk] s (State.snapAll w s) := by
  unfold State.snapAll
  refine ite_intro ?_ ?_
  · exact Effect.refl _
  · refine Effect.step State.modClk_effect (by decide) ?_
    refine Effect.forAll (fun a_1 t_2 => ?_) ?_
    · refine Effect.step State.snapStart_effect (by decide) ?_
      exact Effect.refl _
    · exact Effect.refl _

theorem State.measure_effect {m : Meas} {s : State} : Effect [.pwr, .safe, .lswg] s (State.measure m s) := by
  unfold State.measure
  extract_lets src_1 src_2 src_3
  split
  · rename_i z_4
    exact Effect.refl _
  · rename_i z_5 z_6
    exact Effect.refl _
  · rename_i z_7 z_8
    exact Effect.refl _
  · rename_i z_9 z_10
    refine Effect.put (x := s) ?_ (fun p hp => by cases p <;> first | exact absurd (by decide) hp | rfl) rfl ⟨rfl, rfl, rfl⟩ ⟨rfl, rfl⟩ rfl rfl
    exact Effect.refl _
  · rename_i z_11 z_12 z_13 z_14 z_15
    refine Effect.put (x := s) ?_ (fun p hp => by cases p <;> first | exact absurd (by decide) hp | rfl) rfl ⟨rfl, rfl, rfl⟩ ⟨rfl, rfl⟩ rfl rfl
    exact Effect.refl _
  · rename_i z_16 z_17
    refine Effect.put (x := s) ?_ (fun p hp => by cases p <;> first | exact absurd (by decide) hp | rfl) rfl ⟨rfl, rfl, rfl⟩ ⟨rfl, rfl⟩ rfl rfl
    exact Effect.refl _
  · rename_i z_18 z_19
    exact Effect.refl _
  · rename_i z_20
    exact Effect.refl _

theorem State.measureLsw_effect {c : Fin 24} {m : Meas} {s : State} : Effect [.links, .seq, .pages, .pwr, .safe, .lsw, .lswx, .lswg, .hif, .posted] s (State.measureLsw c m s) := by
  unfold State.measureLsw
  split
  · rename_i z_1 z_2
    refine ite_intro ?_ ?_
    · exact Effect.refl _
    · refine Effect.step State.lswSamples_effect (by decide) ?_
      exact Effect.refl _
  · rename_i z_3 z_4
    refine Effect.step State.clampAdd_effect (by decide) ?_
    exact Effect.refl _
  · rename_i z_5
    refine Effect.step State.measure_effect (by decide) ?_
    exact Effect.refl _
  · rename_i z_6 z_7
    refine Effect.step State.measure_effect (by decide) ?_
    exact Effect.refl _
  · rename_i z_8 z_9 z_10 z_11 z_12
    refine Effect.step State.measure_effect (by decide) ?_
    exact Effect.refl _
  · rename_i z_13 z_14
    refine Effect.step State.measure_effect (by decide) ?_
    exact Effect.refl _
  · rename_i z_15 z_16
    refine Effect.step State.measure_effect (by decide) ?_
    exact Effect.refl _
  · rename_i z_17
    refine Effect.step State.measure_effect (by decide) ?_
    exact Effect.refl _

theorem State.measureCan_effect {n : Fin 4} {m : Meas} {s : State} : Effect [.links, .seq, .pages, .pwr, .safe, .lswg, .can, .canc, .stn, .hif, .posted] s (State.measureCan n m s) := by
  unfold State.measureCan
  extract_lets t_1
  have ht_1 : Effect [.links, .seq, .pages, .pwr, .safe, .lswg, .can, .canc, .stn, .hif, .posted] s t_1 := by
    unfold t_1
    refine Effect.step State.canError_effect (by decide) ?_
    exact Effect.refl _
  clear_value t_1
  split
  · rename_i z_2 z_3
    refine ite_intro ?_ ?_
    · exact Effect.refl _
    · refine ite_intro ?_ ?_
      · refine Effect.step State.modCanc_effect (by decide) ?_
        exact Effect.refl _
      · refine ite_intro ?_ ?_
        · refine Effect.step State.canAfterRx_effect (by decide) ?_
          refine Effect.step State.attemptFail_effect (by decide) ?_
          assumption
        · assumption
  · rename_i z_4
    refine ite_intro ?_ ?_
    · refine Effect.step State.modCan_effect (by decide) ?_
      exact Effect.refl _
    · exact Effect.refl _
  · rename_i z_5
    refine Effect.step State.measure_effect (by decide) ?_
    exact Effect.refl _
  · rename_i z_6 z_7
    refine Effect.step State.measure_effect (by decide) ?_
    exact Effect.refl _
  · rename_i z_8 z_9
    refine Effect.step State.measure_effect (by decide) ?_
    exact Effect.refl _
  · rename_i z_10 z_11
    refine Effect.step State.measure_effect (by decide) ?_
    exact Effect.refl _
  · rename_i z_12 z_13 z_14 z_15 z_16
    refine Effect.step State.measure_effect (by decide) ?_
    exact Effect.refl _
  · rename_i z_17 z_18
    refine Effect.step State.measure_effect (by decide) ?_
    exact Effect.refl _

end Sys2Proof.Machine
end

