-- ==== Sys2Proof/Laws/ResetsEffect.lean ====
section
/-! SUPPORT. What each operation of Machine/Resets.lean can do: the parts of the state it may change, and what it never takes
back (`Effect`, Safety.lean). -/

namespace Sys2Proof.Machine

theorem State.flushQueue_effect {p : PageId} {s : State} : Effect [.pages, .clk, .hif, .posted] s (State.flushQueue p s) := by
  unfold State.flushQueue
  extract_lets n_1
  clear_value n_1
  refine ite_intro ?_ ?_
  · exact Effect.refl _
  · refine Effect.step State.err_effect (by decide) ?_
    refine Effect.step State.modClk_effect (by decide) ?_
    refine Effect.step State.modPg_effect (by decide) ?_
    exact Effect.refl _

theorem State.gearReset_effect {a : Fin 12} {s : State} : Effect [.ax, .gear] s (State.gearReset a s) := by
  unfold State.gearReset
  extract_lets s1_1
  have hs1_1 : Effect [.ax, .gear] s s1_1 := by
    unfold s1_1
    refine Effect.step State.disengage_effect (by decide) ?_
    exact Effect.refl _
  clear_value s1_1
  refine Effect.step State.modGear_effect (by decide) ?_
  refine Effect.step State.unwait_effect (by decide) ?_
  assumption

theorem State.camEnd_effect {p : PageId} {s : State} : Effect [.ax] s (State.camEnd p s) := by
  unfold State.camEnd
  split
  · rename_i z_1 z_2
    refine dite_intro (fun w_3 => ?_) (fun w_3 => ?_)
    · refine Effect.step State.disengage_effect (by decide) ?_
      exact Effect.refl _
    · exact Effect.refl _
  · rename_i z_4
    exact Effect.refl _
  · rename_i z_5
    exact Effect.refl _
  · rename_i z_6
    exact Effect.refl _
  · rename_i z_7
    exact Effect.refl _
  · rename_i z_8
    exact Effect.refl _
  · rename_i z_9
    exact Effect.refl _
  · rename_i z_10 z_11
    exact Effect.refl _
  · rename_i z_12 z_13
    exact Effect.refl _
  · rename_i z_14 z_15
    exact Effect.refl _
  · rename_i z_16 z_17
    exact Effect.refl _
  · rename_i z_18 z_19
    exact Effect.refl _
  · rename_i z_20 z_21
    exact Effect.refl _
  · rename_i z_22 z_23
    exact Effect.refl _
  · rename_i z_24 z_25
    exact Effect.refl _
  · rename_i z_26
    exact Effect.refl _
  · rename_i z_27
    exact Effect.refl _
  · rename_i z_28 z_29
    exact Effect.refl _
  · rename_i z_30 z_31
    exact Effect.refl _
  · rename_i z_32
    exact Effect.refl _
  · rename_i z_33 z_34
    exact Effect.refl _
  · rename_i z_35
    exact Effect.refl _
  · rename_i z_36
    exact Effect.refl _
  · rename_i z_37
    exact Effect.refl _
  · rename_i z_38
    exact Effect.refl _
  · rename_i z_39
    exact Effect.refl _

theorem State.fbReset_effect {c : Fin 14} {s : State} : Effect [.ax, .fb, .fbx] s (State.fbReset c s) := by
  unfold State.fbReset
  extract_lets src_1
  refine Effect.step State.masterLost_effect (by decide) ?_
  refine Effect.step State.modFbx_effect (by decide) ?_
  refine Effect.step State.modFb_effect (by decide) ?_
  exact Effect.refl _

theorem State.canReset_effect {n : Fin 4} {s : State} : Effect [.can, .canc, .stn] s (State.canReset n s) := by
  unfold State.canReset
  extract_lets s1_1 src_2
  have hs1_1 : Effect [.can, .canc, .stn] s s1_1 := by
    unfold s1_1
    refine Effect.forAll (fun a_3 t_4 => ?_) ?_
    · refine Effect.step State.stnUnsent_effect (by decide) ?_
      exact Effect.refl _
    · refine Effect.step State.canInit_effect (by decide) ?_
      exact Effect.refl _
  clear_value s1_1
  refine Effect.step State.modCanc_effect (by decide) ?_
  refine Effect.step State.modCan_effect (by decide) ?_
  assumption

theorem State.resetBlock_effect {p : PageId} {s : State} : Effect (([.slept, .lost, .pwr, .clk, .rst, .mc, .ax, .drv, .coil, .watch, .fb, .fbx, .din, .gear, .cam, .ptl] : List Part) ++ ([.side, .safe, .lsw, .lswx, .lswg, .can, .canc, .stn, .prg, .prgx, .evq, .recd, .stat, .pair, .sec] : List Part)) s (State.resetBlock p s) := by
  unfold State.resetBlock
  extract_lets src_1 src_2 src_3 src_4 src_5 src_6 src_7 src_8 src_9 src_10 src_11 src_12
  split
  · rename_i z_13
    refine Effect.put (x := s) ?_ (fun p hp => by cases p <;> first | exact absurd (by decide) hp | rfl) rfl ⟨rfl, rfl, rfl⟩ ⟨rfl, rfl⟩ rfl rfl
    exact Effect.refl _
  · rename_i z_14
    refine Effect.step State.modClk_effect (by decide) ?_
    exact Effect.refl _
  · rename_i z_15
    refine Effect.put (x := s) ?_ (fun p hp => by cases p <;> first | exact absurd (by decide) hp | rfl) rfl ⟨rfl, rfl, rfl⟩ ⟨rfl, rfl⟩ rfl rfl
    exact Effect.refl _
  · rename_i z_16
    refine Effect.put (x := s) ?_ (fun p hp => by cases p <;> first | exact absurd (by decide) hp | rfl) rfl ⟨rfl, rfl, rfl⟩ ⟨rfl, rfl⟩ rfl rfl
    exact Effect.refl _
  · rename_i z_17
    refine Effect.put (x := s) ?_ (fun p hp => by cases p <;> first | exact absurd (by decide) hp | rfl) rfl ⟨rfl, rfl, rfl⟩ ⟨rfl, rfl⟩ rfl rfl
    exact Effect.refl _
  · rename_i z_18
    refine Effect.put (x := s) ?_ (fun p hp => by cases p <;> first | exact absurd (by decide) hp | rfl) rfl ⟨rfl, rfl, rfl⟩ ⟨rfl, rfl⟩ rfl rfl
    exact Effect.refl _
  · rename_i z_19 z_20
    refine Effect.step State.modEvq_effect (by decide) ?_
    exact Effect.refl _
  · rename_i z_21 z_22
    refine Effect.step State.modAx_effect (by decide) ?_
    refine Effect.step State.axEmpty_effect (by decide) ?_
    exact Effect.refl _
  · rename_i z_23 z_24
    refine Effect.step State.modWatch_effect (by decide) ?_
    refine Effect.step State.modCoil_effect (by decide) ?_
    exact Effect.refl _
  · rename_i z_25 z_26
    refine Effect.step State.fbReset_effect (by decide) ?_
    exact Effect.refl _
  · rename_i z_27 z_28
    refine Effect.step State.fbReset_effect (by decide) ?_
    exact Effect.refl _
  · rename_i z_29 z_30
    refine Effect.step State.gearReset_effect (by decide) ?_
    exact Effect.refl _
  · rename_i z_31 z_32
    refine Effect.step State.modCam_effect (by decide) ?_
    exact Effect.refl _
  · rename_i z_33 z_34
    refine Effect.step State.modPtl_effect (by decide) ?_
    exact Effect.refl _
  · rename_i z_35 z_36
    refine Effect.put (x := s) ?_ (fun p hp => by cases p <;> first | exact absurd (by decide) hp | rfl) rfl ⟨rfl, rfl, rfl⟩ ⟨rfl, rfl⟩ rfl rfl
    exact Effect.refl _
  · rename_i z_37
    refine Effect.put (x := s) ?_ (fun p hp => by cases p <;> first | exact absurd (by decide) hp | rfl) rfl ⟨rfl, rfl, rfl⟩ ⟨rfl, rfl⟩ rfl rfl
    exact Effect.refl _
  · rename_i z_38 z_39
    refine Effect.step State.modStn_effect (by decide) ?_
    exact Effect.refl _
  · rename_i z_40
    refine Effect.put (x := s) ?_ (fun p hp => by cases p <;> first | exact absurd (by decide) hp | rfl) rfl ⟨rfl, rfl, rfl⟩ ⟨rfl, rfl⟩ rfl rfl
    exact Effect.refl _
  · rename_i z_41
    refine Effect.step State.selectSense_effect (by decide) ?_
    refine Effect.put (x := s) ?_ (fun p hp => by cases p <;> first | exact absurd (by decide) hp | rfl) rfl ⟨rfl, rfl, rfl⟩ ⟨rfl, rfl⟩ rfl rfl
    exact Effect.refl _
  · rename_i z_42 z_43
    refine Effect.step State.modLswx_effect (by decide) ?_
    refine Effect.step State.modLsw_effect (by decide) ?_
    exact Effect.refl _
  · rename_i z_44 z_45
    refine Effect.step State.canReset_effect (by decide) ?_
    exact Effect.refl _
  · rename_i z_46
    refine Effect.put (x := s) ?_ (fun p hp => by cases p <;> first | exact absurd (by decide) hp | rfl) rfl ⟨rfl, rfl, rfl⟩ ⟨rfl, rfl⟩ rfl rfl
    exact Effect.refl _
  · rename_i z_47
    refine Effect.step State.modRec_effect (by decide) ?_
    exact Effect.refl _
  · rename_i z_48
    refine Effect.put (x := s) ?_ (fun p hp => by cases p <;> first | exact absurd (by decide) hp | rfl) rfl ⟨rfl, rfl, rfl⟩ ⟨rfl, rfl⟩ rfl rfl
    exact Effect.refl _
  · rename_i z_49
    refine Effect.step State.modSec_effect (by decide) ?_
    exact Effect.refl _
  · rename_i z_50
    exact Effect.refl _

theorem State.blockReset_effect {p : PageId} {s' : State} : Effect (([.slept, .links, .lost, .seq, .mem, .pages, .pwr, .clk, .rst, .mc, .ax, .drv, .coil, .watch, .fb, .fbx] : List Part) ++ ([.din, .gear, .cam, .ptl, .ptlIn, .ptlRun, .env, .envKept, .side, .safe, .lsw, .lswx, .lswg, .can, .canc, .stn] : List Part) ++ ([.prg, .prgx, .evq, .hif, .recd, .stat, .pair, .sec, .posted] : List Part)) s' (State.blockReset p s') := by
  unfold State.blockReset
  extract_lets s_1 lost_2 s0_3 n_4 s1_5 s2_6
  have hs_1 : Effect (([.slept, .links, .lost, .seq, .mem, .pages, .pwr, .clk, .rst, .mc, .ax, .drv, .coil, .watch, .fb, .fbx] : List Part) ++ ([.din, .gear, .cam, .ptl, .ptlIn, .ptlRun, .env, .envKept, .side, .safe, .lsw, .lswx, .lswg, .can, .canc, .stn] : List Part) ++ ([.prg, .prgx, .evq, .hif, .recd, .stat, .pair, .sec, .posted] : List Part)) s' s_1 := by
    unfold s_1
    refine Effect.step State.commitDueNow_effect (by decide) ?_
    exact Effect.refl _
  clear_value s_1
  have hs0_3 : Effect (([.slept, .links, .lost, .seq, .mem, .pages, .pwr, .clk, .rst, .mc, .ax, .drv, .coil, .watch, .fb, .fbx] : List Part) ++ ([.din, .gear, .cam, .ptl, .ptlIn, .ptlRun, .env, .envKept, .side, .safe, .lsw, .lswx, .lswg, .can, .canc, .stn] : List Part) ++ ([.prg, .prgx, .evq, .hif, .recd, .stat, .pair, .sec, .posted] : List Part)) s' s0_3 := by
    unfold s0_3
    refine Effect.step State.camEnd_effect (by decide) ?_
    split
    · rename_i z_7 z_8
      refine Effect.step State.evqEnable_effect (by decide) ?_
      assumption
    · rename_i z_9 z_10
      assumption
  clear_value s0_3
  clear_value n_4
  have hs1_5 : Effect (([.slept, .links, .lost, .seq, .mem, .pages, .pwr, .clk, .rst, .mc, .ax, .drv, .coil, .watch, .fb, .fbx] : List Part) ++ ([.din, .gear, .cam, .ptl, .ptlIn, .ptlRun, .env, .envKept, .side, .safe, .lsw, .lswx, .lswg, .can, .canc, .stn] : List Part) ++ ([.prg, .prgx, .evq, .hif, .recd, .stat, .pair, .sec, .posted] : List Part)) s' s1_5 := by
    unfold s1_5
    refine Effect.step State.resetBlock_effect (by decide) ?_
    refine Effect.step State.modPg_effect (by decide) ?_
    assumption
  clear_value s1_5
  have hs2_6 : Effect (([.slept, .links, .lost, .seq, .mem, .pages, .pwr, .clk, .rst, .mc, .ax, .drv, .coil, .watch, .fb, .fbx] : List Part) ++ ([.din, .gear, .cam, .ptl, .ptlIn, .ptlRun, .env, .envKept, .side, .safe, .lsw, .lswx, .lswg, .can, .canc, .stn] : List Part) ++ ([.prg, .prgx, .evq, .hif, .recd, .stat, .pair, .sec, .posted] : List Part)) s' s2_6 := by
    unfold s2_6
    refine ite_intro ?_ ?_
    · assumption
    · refine Effect.step State.err_effect (by decide) ?_
      refine Effect.step State.modClk_effect (by decide) ?_
      assumption
  clear_value s2_6
  split
  · rename_i z_11 z_12 z_13
    refine Effect.step State.err_effect (by decide) ?_
    assumption
  · rename_i z_14 z_15
    refine ite_intro ?_ ?_
    · refine Effect.step State.err_effect (by decide) ?_
      assumption
    · assumption

theorem State.coldBase_effect {s : State} : Effect Part.all s (State.coldBase s) where
  same := SameExcept.all _ _
  lasts := ⟨rfl, fun h => ⟨h.1, rfl, rfl⟩, fun _ => Nat.le_refl _, fun h => h,
    fun k => Nat.le_of_eq (congrArg (fun v : Vector Nat 3 => v[k]) (Fuses.cut_rb s.fuses s.tb).symm), fun _ h => Fuses.cut_slots h,
    fun h => (Fuses.cut_debugLock s.fuses s.tb).trans h⟩
  tb := Nat.le_refl _

theorem State.jctBase_effect {s : State} : Effect Part.all s (State.jctBase s) where
  same := SameExcept.all _ _
  lasts := ⟨rfl, fun h => h, fun _ => Nat.le_refl _, fun h => h, fun _ => Nat.le_refl _, fun _ h => h, fun h => h⟩
  tb := Nat.le_refl _

theorem State.lostReport_effect {s : State} : Effect [.links, .seq, .rst] s (State.lostReport s) := by
  unfold State.lostReport
  extract_lets n_1 src_2 src_3
  clear_value n_1
  refine ite_intro ?_ ?_
  · exact Effect.refl _
  · refine Effect.step State.ev_effect (by decide) ?_
    refine Effect.put (x := s) ?_ (fun p hp => by cases p <;> first | exact absurd (by decide) hp | rfl) rfl ⟨rfl, rfl, rfl⟩ ⟨rfl, rfl⟩ rfl rfl
    exact Effect.refl _

theorem State.pllLost_effect {s : State} : Effect [.mem, .clk] s (State.pllLost s) := by
  unfold State.pllLost
  extract_lets src_1 src_2
  refine Effect.put (x := s) ?_ (fun p hp => by cases p <;> first | exact absurd (by decide) hp | rfl) rfl ⟨rfl, rfl, rfl⟩ ⟨rfl, rfl⟩ rfl rfl
  exact Effect.refl _

theorem State.pllLock_effect {s : State} : Effect [.clk] s (State.pllLock s) := by
  unfold State.pllLock
  extract_lets src_1
  refine ite_intro ?_ ?_
  · exact Effect.refl _
  · refine Effect.put (x := s) ?_ (fun p hp => by cases p <;> first | exact absurd (by decide) hp | rfl) rfl ⟨rfl, rfl, rfl⟩ ⟨rfl, rfl⟩ rfl rfl
    exact Effect.refl _

theorem State.jctReset_effect {cause : Nat} {s : State} : Effect Part.all s (State.jctReset cause s) := by
  unfold State.jctReset
  extract_lets s1_1 c_2 src_3 src_4 s2_5
  have hs1_1 : Effect Part.all s s1_1 := by
    unfold s1_1
    refine ite_intro ?_ ?_
    · refine Effect.step State.giveUp_effect (by decide) ?_
      exact Effect.refl _
    · exact Effect.refl _
  clear_value s1_1
  have hc_2 : Effect Part.all s c_2 := by
    unfold c_2
    refine Effect.step State.jctBase_effect (by decide) ?_
    assumption
  clear_value c_2
  have hs2_5 : Effect Part.all s s2_5 := by
    unfold s2_5
    refine Effect.put (x := c_2) ?_ (fun p hp => by cases p <;> first | exact absurd (by decide) hp | rfl) rfl ⟨rfl, rfl, rfl⟩ ⟨rfl, rfl⟩ rfl rfl
    assumption
  clear_value s2_5
  refine ite_intro ?_ ?_
  · exact Effect.refl _
  · refine Effect.step State.lostReport_effect (by decide) ?_
    refine Effect.step State.ev_effect (by decide) ?_
    refine ite_intro ?_ ?_
    · refine Effect.step State.pllLost_effect (by decide) ?_
      assumption
    · assumption

theorem State.fullReset_effect {cause : Nat} {s : State} : Effect Part.all s (State.fullReset cause s) := by
  unfold State.fullReset
  extract_lets s1_1 c_2 src_3 src_4 src_5
  have hs1_1 : Effect Part.all s s1_1 := by
    unfold s1_1
    refine ite_intro ?_ ?_
    · refine Effect.step State.giveUp_effect (by decide) ?_
      exact Effect.refl _
    · exact Effect.refl _
  clear_value s1_1
  have hc_2 : Effect Part.all s c_2 := by
    unfold c_2
    refine Effect.step State.coldBase_effect (by decide) ?_
    assumption
  clear_value c_2
  refine Effect.put (x := c_2) ?_ (fun p hp => by cases p <;> first | exact absurd (by decide) hp | rfl) rfl ⟨rfl, rfl, rfl⟩ ⟨rfl, rfl⟩ rfl rfl
  assumption

theorem State.rstReqWrite_effect {w : Word} {s : State} : Effect Part.all s (State.rstReqWrite w s) := by
  unfold State.rstReqWrite
  refine ite_intro ?_ ?_
  · refine Effect.step State.jctReset_effect (by decide) ?_
    exact Effect.refl _
  · refine ite_intro ?_ ?_
    · refine Effect.step State.fullReset_effect (by decide) ?_
      exact Effect.refl _
    · refine Effect.step State.err_effect (by decide) ?_
      exact Effect.refl _

theorem State.clkConsequence_effect {k : Nat} {s : State} : Effect Part.all s (State.clkConsequence k s) := by
  unfold State.clkConsequence
  extract_lets src_1 src_2 src_3
  split
  · rename_i z_4
    refine Effect.step State.jctReset_effect (by decide) ?_
    exact Effect.refl _
  · rename_i z_5
    refine Effect.step State.jctReset_effect (by decide) ?_
    exact Effect.refl _
  · rename_i z_6
    refine Effect.step State.jctReset_effect (by decide) ?_
    exact Effect.refl _
  · rename_i z_7
    refine Effect.step State.jctReset_effect (by decide) ?_
    exact Effect.refl _
  · rename_i z_8
    refine Effect.step State.permitReport_effect (by decide) ?_
    refine Effect.put (x := s) ?_ (fun p hp => by cases p <;> first | exact absurd (by decide) hp | rfl) rfl ⟨rfl, rfl, rfl⟩ ⟨rfl, rfl⟩ rfl rfl
    exact Effect.refl _
  · rename_i z_9
    refine Effect.put (x := s) ?_ (fun p hp => by cases p <;> first | exact absurd (by decide) hp | rfl) rfl ⟨rfl, rfl, rfl⟩ ⟨rfl, rfl⟩ rfl rfl
    exact Effect.refl _
  · rename_i z_10
    refine Effect.step State.settleAll_effect (by decide) ?_
    refine Effect.put (x := s) ?_ (fun p hp => by cases p <;> first | exact absurd (by decide) hp | rfl) rfl ⟨rfl, rfl, rfl⟩ ⟨rfl, rfl⟩ rfl rfl
    exact Effect.refl _
  · rename_i z_11
    refine ite_intro ?_ ?_
    · exact Effect.refl _
    · refine Effect.step State.degrade_effect (by decide) ?_
      refine Effect.step State.granaryLost_effect (by decide) ?_
      refine Effect.put (x := s) ?_ (fun p hp => by cases p <;> first | exact absurd (by decide) hp | rfl) rfl ⟨rfl, rfl, rfl⟩ ⟨rfl, rfl⟩ rfl rfl
      exact Effect.refl _
  · rename_i z_12 z_13 z_14 z_15 z_16 z_17 z_18 z_19 z_20
    exact Effect.refl _

end Sys2Proof.Machine
end

