-- ==== Sys2Proof/Laws/SupplyEffect.lean ====
section
/-! SUPPORT. What each operation of Machine/Supply.lean can do: the parts of the state it may change, and what it never takes
back (`Effect`, Safety.lean). -/

namespace Sys2Proof.Machine

theorem State.modPwr_effect {f : Power → Power} {s : State} : Effect [.pwr] s (State.modPwr f s) := by
  unfold State.modPwr
  refine Effect.put (x := s) ?_ (fun p hp => by cases p <;> first | exact absurd (by decide) hp | rfl) rfl ⟨rfl, rfl, rfl⟩ ⟨rfl, rfl⟩ rfl rfl
  exact Effect.refl _

theorem State.supSet_effect {k : Nat} {on : Bool} {s : State} : Effect [.pwr] s (State.supSet k on s) := by
  unfold State.supSet
  refine Effect.step State.modPwr_effect (by decide) ?_
  exact Effect.refl _

theorem State.pwrEv_effect {inst : Nat} {code : Nat} {payload : List Byte} {s : State} : Effect [.links, .seq] s (State.pwrEv inst code payload s) := by
  unfold State.pwrEv
  refine Effect.step State.raise_effect (by decide) ?_
  exact Effect.refl _

theorem State.supHalts_effect {d : Fin 2} {s : State} : Effect [.links, .seq, .mem, .pages, .ax, .drv, .coil, .watch, .gear, .cam, .ptlRun, .hif, .posted] s (State.supHalts d s) := by
  unfold State.supHalts
  refine Effect.forAll (fun a_1 t_2 => ?_) ?_
  · refine ite_intro ?_ ?_
    · refine Effect.step State.haltDie_effect (by decide) ?_
      exact Effect.refl _
    · exact Effect.refl _
  · exact Effect.refl _

theorem State.thermalStop_effect {d : Fin 2} {s : State} : Effect [.links, .seq, .mem, .pages, .pwr, .ax, .drv, .coil, .watch, .fb, .gear, .cam, .ptlRun, .hif, .posted] s (State.thermalStop d s) := by
  unfold State.thermalStop
  split
  · rename_i z_1 z_2
    exact Effect.refl _
  · rename_i z_3 z_4 z_5
    refine ite_intro ?_ ?_
    · refine Effect.step State.pwrEv_effect (by decide) ?_
      refine Effect.step State.haltDie_effect (by decide) ?_
      refine Effect.step State.supSet_effect (by decide) ?_
      exact Effect.refl _
    · refine ite_intro ?_ ?_
      · refine Effect.step State.unhaltDie_effect (by decide) ?_
        refine Effect.step State.supSet_effect (by decide) ?_
        exact Effect.refl _
      · exact Effect.refl _

theorem State.setScale_effect {d : Fin 2} {k : Nat} {s : State} : Effect [.links, .seq, .pwr] s (State.setScale d k s) := by
  unfold State.setScale
  extract_lets s1_1
  have hs1_1 : Effect [.links, .seq, .pwr] s s1_1 := by
    unfold s1_1
    refine Effect.step State.supSet_effect (by decide) ?_
    refine Effect.step State.modPwr_effect (by decide) ?_
    exact Effect.refl _
  clear_value s1_1
  refine ite_intro ?_ ?_
  · refine Effect.step State.pwrEv_effect (by decide) ?_
    assumption
  · assumption

theorem State.thermalFall_effect {d : Fin 2} {s : State} : Effect [.links, .seq, .pwr] s (State.thermalFall d s) := by
  unfold State.thermalFall
  split
  · rename_i z_1 z_2 z_3
    refine ite_intro ?_ ?_
    · refine Effect.step State.setScale_effect (by decide) ?_
      exact Effect.refl _
    · exact Effect.refl _
  · rename_i z_4 z_5
    exact Effect.refl _

theorem State.pageOff_effect {p : PageId} {s : State} : Effect [.pages, .clk, .hif, .posted] s (State.pageOff p s) := by
  unfold State.pageOff
  refine Effect.step State.modPg_effect (by decide) ?_
  refine Effect.step State.flushQueue_effect (by decide) ?_
  exact Effect.refl _

theorem State.ploughOff_effect {d : Fin 2} {s : State} : Effect [.links, .present, .seq, .pages, .pwr, .clk, .ax, .drv, .coil, .watch, .fb, .fbx, .hif, .posted] s (State.ploughOff d s) := by
  unfold State.ploughOff
  extract_lets die_1 s0_2 src_3 s1_4 c_5 s1a_6 s2_7
  have hs0_2 : Effect [.links, .present, .seq, .pages, .pwr, .clk, .ax, .drv, .coil, .watch, .fb, .fbx, .hif, .posted] s s0_2 := by
    unfold s0_2
    refine Effect.step State.dieForgets_effect (by decide) ?_
    refine Effect.step State.setScale_effect (by decide) ?_
    exact Effect.refl _
  clear_value s0_2
  have hs1_4 : Effect [.links, .present, .seq, .pages, .pwr, .clk, .ax, .drv, .coil, .watch, .fb, .fbx, .hif, .posted] s s1_4 := by
    unfold s1_4
    refine Effect.put (x := s0_2) ?_ (fun p hp => by cases p <;> first | exact absurd (by decide) hp | rfl) rfl ⟨rfl, rfl, rfl⟩ ⟨rfl, rfl⟩ rfl rfl
    assumption
  clear_value s1_4
  have hs1a_6 : Effect [.links, .present, .seq, .pages, .pwr, .clk, .ax, .drv, .coil, .watch, .fb, .fbx, .hif, .posted] s s1a_6 := by
    unfold s1a_6
    refine Effect.forAll (fun a_8 t_9 => ?_) ?_
    · refine Effect.step State.masterLost_effect (by decide) ?_
      exact Effect.refl _
    · assumption
  clear_value s1a_6
  have hs2_7 : Effect [.links, .present, .seq, .pages, .pwr, .clk, .ax, .drv, .coil, .watch, .fb, .fbx, .hif, .posted] s s2_7 := by
    unfold s2_7
    refine Effect.forAll (fun a_10 t_11 => ?_) ?_
    · extract_lets src_12
      have hsrc_12 : Effect [.links, .present, .seq, .pages, .pwr, .clk, .ax, .drv, .coil, .watch, .fb, .fbx, .hif, .posted] t_11 src_12 := by
        unfold src_12
        refine Effect.step State.modAx_effect (by decide) ?_
        refine Effect.step State.modWatch_effect (by decide) ?_
        refine Effect.step State.modCoil_effect (by decide) ?_
        refine Effect.step State.modDrv_effect (by decide) ?_
        exact Effect.refl _
      clear_value src_12
      refine Effect.put (x := src_12) ?_ (fun p hp => by cases p <;> first | exact absurd (by decide) hp | rfl) rfl ⟨rfl, rfl, rfl⟩ ⟨rfl, rfl⟩ rfl rfl
      assumption
    · assumption
  clear_value s2_7
  refine Effect.forAll (fun a_13 t_14 => ?_) ?_
  · refine Effect.step State.pageOff_effect (by decide) ?_
    exact Effect.refl _
  · refine Effect.put (x := s2_7) ?_ (fun p hp => by cases p <;> first | exact absurd (by decide) hp | rfl) rfl ⟨rfl, rfl, rfl⟩ ⟨rfl, rfl⟩ rfl rfl
    assumption

theorem State.ploughOn_effect {d : Fin 2} {s : State} : Effect [.links, .seq, .mem, .pages, .pwr, .ax, .drv, .coil, .watch, .gear, .cam, .ptlRun, .hif, .posted] s (State.ploughOn d s) := by
  unfold State.ploughOn
  extract_lets src_1
  refine Effect.step State.supHalts_effect (by decide) ?_
  refine Effect.put (x := s) ?_ (fun p hp => by cases p <;> first | exact absurd (by decide) hp | rfl) rfl ⟨rfl, rfl, rfl⟩ ⟨rfl, rfl⟩ rfl rfl
  exact Effect.refl _

theorem State.keepOffWrite_effect {w : Word} {s : State} : Effect (([.links, .present, .seq, .mem, .pages, .pwr, .clk, .ax, .drv, .coil, .watch, .fb, .fbx, .gear, .cam, .ptlRun] : List Part) ++ ([.hif, .posted] : List Part)) s (State.keepOffWrite w s) := by
  unfold State.keepOffWrite
  extract_lets was_1 want_2
  clear_value was_1
  clear_value want_2
  refine ite_intro ?_ ?_
  · refine Effect.step State.err_effect (by decide) ?_
    exact Effect.refl _
  · refine Effect.forAll (fun a_3 t_4 => ?_) ?_
    · refine ite_intro ?_ ?_
      · refine Effect.step State.ploughOff_effect (by decide) ?_
        exact Effect.refl _
      · refine ite_intro ?_ ?_
        · refine Effect.step State.ploughOn_effect (by decide) ?_
          exact Effect.refl _
        · exact Effect.refl _
    · refine Effect.step State.setCom_effect (by decide) ?_
      exact Effect.refl _

end Sys2Proof.Machine
end

