-- ==== Sys2Proof/Laws/LinksEffect.lean ====
section
/-! SUPPORT. What each operation of Machine/Links.lean can do: the parts of the state it may change, and what it never takes
back (`Effect`, Safety.lean). -/

namespace Sys2Proof.Machine

theorem State.eventArrives_effect {d : Fin 8} {seq : Nat} {s : State} : Effect [.seq] s (State.eventArrives d seq s) := by
  unfold State.eventArrives
  extract_lets src_1
  refine Effect.put (x := s) ?_ (fun p hp => by cases p <;> first | exact absurd (by decide) hp | rfl) rfl ⟨rfl, rfl, rfl⟩ ⟨rfl, rfl⟩ rfl rfl
  exact Effect.refl _

theorem State.packet_effect {d : Fin 8} {toDie : Bool} {seq : Nat} {crcOk : Bool} {ack : Nat} {stamp : Option Nat} {s : State} : Effect [.links, .seq, .posted] s (State.packet d toDie seq crcOk ack stamp s) := by
  unfold State.packet
  extract_lets want_1 answer_2 s1_3 next_4 s2_5
  clear_value want_1
  clear_value answer_2
  have hs1_3 : Effect [.links, .seq, .posted] s s1_3 := by
    unfold s1_3
    refine Effect.step State.modLink_effect (by decide) ?_
    exact Effect.refl _
  clear_value s1_3
  clear_value next_4
  have hs2_5 : Effect [.links, .seq, .posted] s s2_5 := by
    unfold s2_5
    refine Effect.step State.modLink_effect (by decide) ?_
    assumption
  clear_value s2_5
  refine ite_intro ?_ ?_
  · refine Effect.step State.post_effect (by decide) ?_
    exact Effect.refl _
  · refine ite_intro ?_ ?_
    · refine Effect.step State.post_effect (by decide) ?_
      refine ite_intro ?_ ?_
      · assumption
      · refine Effect.step State.eventArrives_effect (by decide) ?_
        assumption
    · refine ite_intro ?_ ?_
      · refine Effect.step State.post_effect (by decide) ?_
        assumption
      · assumption

theorem State.resend_effect {d : Fin 8} {toDie : Bool} {s : State} : Effect [.links, .posted] s (State.resend d toDie s) := by
  unfold State.resend
  extract_lets l_1
  clear_value l_1
  refine ite_intro ?_ ?_
  · exact Effect.refl _
  · refine Effect.step State.post_effect (by decide) ?_
    refine Effect.step State.modLink_effect (by decide) ?_
    exact Effect.refl _

theorem State.discipline_effect {d : Fin 8} {s : State} : Effect [.links] s (State.discipline d s) := by
  unfold State.discipline
  refine Effect.step State.modLink_effect (by decide) ?_
  exact Effect.refl _

theorem State.idle_effect {s : State} : Effect [.tb] s (State.idle s) := by
  unfold State.idle
  refine ite_intro ?_ (Effect.refl s)
  exact ⟨fun p hp => by cases p <;> first | exact absurd (by decide) hp | rfl, Lasts.of_same rfl ⟨rfl, rfl, rfl⟩ ⟨rfl, rfl⟩ rfl, Nat.le_add_right _ _⟩

theorem State.eccReport_effect {s : State} : Effect [.links, .seq, .mem] s (State.eccReport s) := by
  unfold State.eccReport
  refine Effect.forAll (fun a_1 t_2 => ?_) ?_
  · extract_lets src_3
    refine Effect.step State.eccEvent_effect (by decide) ?_
    refine Effect.put (x := t_2) ?_ (fun p hp => by cases p <;> first | exact absurd (by decide) hp | rfl) rfl ⟨rfl, rfl, rfl⟩ ⟨rfl, rfl⟩ rfl rfl
    exact Effect.refl _
  · exact Effect.refl _

theorem State.garble_effect {k : Fin 3} {w : Nat} {s : State} : Effect [.links, .seq, .mem, .fresh] s (State.garble k w s) := by
  unfold State.garble
  extract_lets l_1 t_2
  clear_value l_1
  have ht_2 : Effect [.links, .seq, .mem, .fresh] s t_2 := by
    unfold t_2
    refine Effect.put (x := s) ?_ (fun p hp => by cases p <;> first | exact absurd (by decide) hp | rfl) rfl ⟨rfl, rfl, rfl⟩ ⟨rfl, rfl⟩ rfl rfl
    exact Effect.refl _
  clear_value t_2
  split
  · rename_i z_3 z_4
    refine Effect.step State.sramWrite_effect (by decide) ?_
    assumption
  · rename_i z_5 z_6
    refine Effect.step State.guardWrite_effect (by decide) ?_
    assumption
  · rename_i z_7 z_8 z_9
    refine Effect.step State.granWrite_effect (by decide) ?_
    assumption

theorem State.eccRead_effect {k : Fin 3} {w : Nat} {bits : Nat} {written : Bool} {s : State} : Effect [.links, .seq, .mem, .fresh] s (State.eccRead k w bits written s) := by
  unfold State.eccRead
  extract_lets n_1 r_2 t_3
  clear_value n_1
  have hr_2 : EffectSnd [.links, .seq, .mem, .fresh] s r_2 := by
    unfold r_2
    refine EffectSnd.step State.draw_effect (by decide) ?_
    exact Effect.refl _
  clear_value r_2
  have ht_3 : Effect [.links, .seq, .mem, .fresh] s t_3 := by
    unfold t_3
    refine ite_intro ?_ ?_
    · assumption
    · refine Effect.step State.garble_effect (by decide) ?_
      assumption
  clear_value t_3
  refine ite_intro ?_ ?_
  · refine Effect.step State.eccUncorr_effect (by decide) ?_
    exact Effect.refl _
  · refine ite_intro ?_ ?_
    · exact Effect.refl _
    · refine ite_intro ?_ ?_
      · refine Effect.step State.eccCorr_effect (by decide) ?_
        exact Effect.refl _
      · split
        · rename_i z_4 z_5
          assumption
        · rename_i z_6 z_7
          refine Effect.step State.eccCorr_effect (by decide) ?_
          assumption
        · rename_i z_8 z_9 z_10
          refine Effect.step State.eccUncorr_effect (by decide) ?_
          assumption

theorem State.tear_effect {k : Fin 3} {w : Nat} {s : State} : Effect [.mem] s (State.tear k w s) := by
  unfold State.tear
  extract_lets src_1
  refine Effect.put (x := s) ?_ (fun p hp => by cases p <;> first | exact absurd (by decide) hp | rfl) rfl ⟨rfl, rfl, rfl⟩ ⟨rfl, rfl⟩ rfl rfl
  exact Effect.refl _

theorem State.upset_effect {u : Upset} {s : State} : Effect [.links, .seq, .mem, .fresh] s (State.upset u s) := by
  unfold State.upset
  extract_lets n_1 keep_2 src_3 r_4
  clear_value n_1
  clear_value keep_2
  have hr_4 : EffectSnd [.links, .seq, .mem, .fresh] s r_4 := by
    unfold r_4
    refine EffectSnd.step State.draw_effect (by decide) ?_
    exact Effect.refl _
  clear_value r_4
  refine ite_intro ?_ ?_
  · exact Effect.refl _
  · refine ite_intro ?_ ?_
    · refine Effect.put (x := s) ?_ (fun p hp => by cases p <;> first | exact absurd (by decide) hp | rfl) rfl ⟨rfl, rfl, rfl⟩ ⟨rfl, rfl⟩ rfl rfl
      exact Effect.refl _
    · refine ite_intro ?_ ?_
      · refine Effect.step State.tear_effect (by decide) ?_
        exact Effect.refl _
      · split
        · rename_i z_5 z_6
          refine Effect.step State.garble_effect (by decide) ?_
          assumption
        · rename_i z_7 z_8
          refine Effect.step State.eccCorr_effect (by decide) ?_
          refine Effect.step State.garble_effect (by decide) ?_
          assumption
        · rename_i z_9 z_10 z_11
          refine Effect.step State.tear_effect (by decide) ?_
          assumption

end Sys2Proof.Machine
end

