-- ==== Sys2Proof/Laws/BusEffect.lean ====
section
/-! SUPPORT. What each operation of Machine/Bus.lean can do: the parts of the state it may change, and what it never takes
back (`Effect`, Safety.lean). -/

namespace Sys2Proof.Machine

theorem State.w1cWrite_effect {p : PageId} {o : Nat} {w : Word} {s : State} : Effect (([.slept, .links, .lost, .seq, .pages, .pwr, .clk, .rst, .mc, .ax, .drv, .coil, .watch, .fb, .fbx, .din] : List Part) ++ ([.gear, .cam, .ptl, .ptlRun, .side, .safe, .lsw, .lswx, .lswg, .can, .stn, .prg, .evq, .hif, .recd, .stat] : List Part) ++ ([.pair, .sec, .posted] : List Part)) s (State.w1cWrite p o w s) := by
  unfold State.w1cWrite
  extract_lets src_1 src_2 src_3 src_4 src_5 src_6 src_7
  split
  · rename_i z_8
    refine ite_intro ?_ ?_
    · refine Effect.put (x := s) ?_ (fun p hp => by cases p <;> first | exact absurd (by decide) hp | rfl) rfl ⟨rfl, rfl, rfl⟩ ⟨rfl, rfl⟩ rfl rfl
      exact Effect.refl _
    · refine Effect.put (x := s) ?_ (fun p hp => by cases p <;> first | exact absurd (by decide) hp | rfl) rfl ⟨rfl, rfl, rfl⟩ ⟨rfl, rfl⟩ rfl rfl
      exact Effect.refl _
  · rename_i z_9
    refine ite_intro ?_ ?_
    · refine Effect.put (x := s) ?_ (fun p hp => by cases p <;> first | exact absurd (by decide) hp | rfl) rfl ⟨rfl, rfl, rfl⟩ ⟨rfl, rfl⟩ rfl rfl
      exact Effect.refl _
    · exact Effect.refl _
  · rename_i z_10
    refine Effect.put (x := s) ?_ (fun p hp => by cases p <;> first | exact absurd (by decide) hp | rfl) rfl ⟨rfl, rfl, rfl⟩ ⟨rfl, rfl⟩ rfl rfl
    exact Effect.refl _
  · rename_i z_11
    refine Effect.step State.modClk_effect (by decide) ?_
    exact Effect.refl _
  · rename_i z_12
    refine Effect.put (x := s) ?_ (fun p hp => by cases p <;> first | exact absurd (by decide) hp | rfl) rfl ⟨rfl, rfl, rfl⟩ ⟨rfl, rfl⟩ rfl rfl
    exact Effect.refl _
  · rename_i z_13
    refine Effect.put (x := s) ?_ (fun p hp => by cases p <;> first | exact absurd (by decide) hp | rfl) rfl ⟨rfl, rfl, rfl⟩ ⟨rfl, rfl⟩ rfl rfl
    exact Effect.refl _
  · rename_i z_14 z_15
    refine Effect.step State.modEvq_effect (by decide) ?_
    exact Effect.refl _
  · rename_i z_16 z_17
    extract_lets s1_18
    have hs1_18 : Effect (([.slept, .links, .lost, .seq, .pages, .pwr, .clk, .rst, .mc, .ax, .drv, .coil, .watch, .fb, .fbx, .din] : List Part) ++ ([.gear, .cam, .ptl, .ptlRun, .side, .safe, .lsw, .lswx, .lswg, .can, .stn, .prg, .evq, .hif, .recd, .stat] : List Part) ++ ([.pair, .sec, .posted] : List Part)) s s1_18 := by
      unfold s1_18
      refine Effect.step State.modAx_effect (by decide) ?_
      exact Effect.refl _
    clear_value s1_18
    refine ite_intro ?_ ?_
    · refine Effect.step State.unhalt_effect (by decide) ?_
      assumption
    · assumption
  · rename_i z_19 z_20
    refine Effect.step State.drvFlagsWrite_effect (by decide) ?_
    exact Effect.refl _
  · rename_i z_21 z_22
    refine Effect.step State.fbFlagsWrite_effect (by decide) ?_
    exact Effect.refl _
  · rename_i z_23 z_24
    refine Effect.step State.fbFlagsWrite_effect (by decide) ?_
    exact Effect.refl _
  · rename_i z_25 z_26
    refine Effect.step State.modGear_effect (by decide) ?_
    exact Effect.refl _
  · rename_i z_27 z_28
    refine Effect.step State.modCam_effect (by decide) ?_
    exact Effect.refl _
  · rename_i z_29 z_30
    refine Effect.step State.ptlFlagsWrite_effect (by decide) ?_
    exact Effect.refl _
  · rename_i z_31 z_32
    refine Effect.step State.sideFlagsWrite_effect (by decide) ?_
    exact Effect.refl _
  · rename_i z_33
    refine ite_intro ?_ ?_
    · refine Effect.put (x := s) ?_ (fun p hp => by cases p <;> first | exact absurd (by decide) hp | rfl) rfl ⟨rfl, rfl, rfl⟩ ⟨rfl, rfl⟩ rfl rfl
      exact Effect.refl _
    · refine Effect.put (x := s) ?_ (fun p hp => by cases p <;> first | exact absurd (by decide) hp | rfl) rfl ⟨rfl, rfl, rfl⟩ ⟨rfl, rfl⟩ rfl rfl
      exact Effect.refl _
  · rename_i z_34
    refine Effect.put (x := s) ?_ (fun p hp => by cases p <;> first | exact absurd (by decide) hp | rfl) rfl ⟨rfl, rfl, rfl⟩ ⟨rfl, rfl⟩ rfl rfl
    exact Effect.refl _
  · rename_i z_35 z_36
    refine Effect.step State.lswFlagsWrite_effect (by decide) ?_
    exact Effect.refl _
  · rename_i z_37 z_38
    refine Effect.step State.modCan_effect (by decide) ?_
    exact Effect.refl _
  · rename_i z_39
    refine Effect.step State.modPrg_effect (by decide) ?_
    exact Effect.refl _
  · rename_i z_40 z_41
    refine Effect.step State.modStn_effect (by decide) ?_
    exact Effect.refl _
  · rename_i z_42
    refine Effect.step State.modRec_effect (by decide) ?_
    exact Effect.refl _
  · rename_i z_43
    refine Effect.put (x := s) ?_ (fun p hp => by cases p <;> first | exact absurd (by decide) hp | rfl) rfl ⟨rfl, rfl, rfl⟩ ⟨rfl, rfl⟩ rfl rfl
    exact Effect.refl _
  · rename_i z_44
    refine Effect.put (x := s) ?_ (fun p hp => by cases p <;> first | exact absurd (by decide) hp | rfl) rfl ⟨rfl, rfl, rfl⟩ ⟨rfl, rfl⟩ rfl rfl
    exact Effect.refl _
  · rename_i z_45
    refine Effect.step State.modSec_effect (by decide) ?_
    exact Effect.refl _
  · rename_i z_46
    exact Effect.refl _

theorem State.rwWrite_effect {p : PageId} {r : Reg} {o : Nat} {w : Word} {s : State} : Effect [.pages] s (State.rwWrite p r o w s) := by
  unfold State.rwWrite
  extract_lets m_1
  clear_value m_1
  refine ite_intro ?_ ?_
  · exact Effect.refl _
  · refine Effect.step State.setCom_effect (by decide) ?_
    exact Effect.refl _

theorem State.rwsWrite_effect {p : PageId} {r : Reg} {o : Nat} {w : Word} {s : State} : Effect [.pages] s (State.rwsWrite p r o w s) := by
  unfold State.rwsWrite
  extract_lets m_1
  clear_value m_1
  refine Effect.step State.modPg_effect (by decide) ?_
  exact Effect.refl _

theorem State.msixWrite_effect {o : Nat} {s : State} : Effect [.hif, .posted] s (State.msixWrite o s) := by
  unfold State.msixWrite
  extract_lets v_1 src_2
  clear_value v_1
  refine ite_intro ?_ ?_
  · refine Effect.step State.vector_effect (by decide) ?_
    refine Effect.put (x := s) ?_ (fun p hp => by cases p <;> first | exact absurd (by decide) hp | rfl) rfl ⟨rfl, rfl, rfl⟩ ⟨rfl, rfl⟩ rfl rfl
    exact Effect.refl _
  · exact Effect.refl _

theorem State.blockWrite_effect {p : PageId} {o : Nat} {w : Word} {s : State} : EffectOpt Part.all s (State.blockWrite p o w s) := by
  unfold State.blockWrite
  split
  · rename_i z_1
    refine ite_intro ?_ ?_
    · refine EffectOpt.some ?_
      refine Effect.step State.snapAll_effect (by decide) ?_
      exact Effect.refl _
    · exact EffectOpt.none
  · rename_i z_2
    refine ite_intro ?_ ?_
    · refine EffectOpt.some ?_
      refine Effect.step State.keepOffWrite_effect (by decide) ?_
      exact Effect.refl _
    · refine ite_intro ?_ ?_
      · refine EffectOpt.some ?_
        refine Effect.step State.modPwr_effect (by decide) ?_
        exact Effect.refl _
      · exact EffectOpt.none
  · rename_i z_3
    refine ite_intro ?_ ?_
    · refine EffectOpt.some ?_
      refine Effect.step State.rstReqWrite_effect (by decide) ?_
      exact Effect.refl _
    · exact EffectOpt.none
  · rename_i z_4
    refine ite_intro ?_ ?_
    · refine EffectOpt.some ?_
      refine Effect.step State.offerWrite_effect (by decide) ?_
      exact Effect.refl _
    · refine ite_intro ?_ ?_
      · refine EffectOpt.some ?_
        refine Effect.step State.modeReqWrite_effect (by decide) ?_
        exact Effect.refl _
      · refine ite_intro ?_ ?_
        · refine EffectOpt.some ?_
          refine Effect.step State.msixWrite_effect (by decide) ?_
          refine Effect.step State.setCom_effect (by decide) ?_
          exact Effect.refl _
        · exact EffectOpt.none
  · rename_i z_5 z_6
    refine ite_intro ?_ ?_
    · refine EffectOpt.some ?_
      refine Effect.step State.evqHeadWrite_effect (by decide) ?_
      exact Effect.refl _
    · exact EffectOpt.none
  · rename_i z_7 z_8
    refine ite_intro ?_ ?_
    · refine EffectOpt.some ?_
      refine Effect.step State.moveCtl_effect (by decide) ?_
      exact Effect.refl _
    · exact EffectOpt.none
  · rename_i z_9 z_10
    refine ite_intro ?_ ?_
    · refine EffectOpt.some ?_
      refine Effect.step State.presetWrite_effect (by decide) ?_
      exact Effect.refl _
    · exact EffectOpt.none
  · rename_i z_11 z_12
    refine ite_intro ?_ ?_
    · refine EffectOpt.some ?_
      refine Effect.step State.presetWrite_effect (by decide) ?_
      exact Effect.refl _
    · exact EffectOpt.none
  · rename_i z_13 z_14
    refine ite_intro ?_ ?_
    · refine EffectOpt.some ?_
      refine Effect.step State.engineCtl_effect (by decide) ?_
      exact Effect.refl _
    · exact EffectOpt.none
  · rename_i z_15 z_16
    refine ite_intro ?_ ?_
    · refine EffectOpt.some ?_
      refine Effect.step State.engineCtl_effect (by decide) ?_
      exact Effect.refl _
    · exact EffectOpt.none
  · rename_i z_17 z_18
    refine ite_intro ?_ ?_
    · refine EffectOpt.some ?_
      refine Effect.step State.ptlReqWrite_effect (by decide) ?_
      exact Effect.refl _
    · exact EffectOpt.none
  · rename_i z_19 z_20
    refine ite_intro ?_ ?_
    · refine EffectOpt.some ?_
      refine Effect.step State.sideReqWrite_effect (by decide) ?_
      exact Effect.refl _
    · exact EffectOpt.none
  · rename_i z_21
    refine ite_intro ?_ ?_
    · refine EffectOpt.some ?_
      refine Effect.step State.selectSense_effect (by decide) ?_
      refine Effect.step State.setCom_effect (by decide) ?_
      exact Effect.refl _
    · exact EffectOpt.none
  · rename_i z_22 z_23
    refine ite_intro ?_ ?_
    · refine EffectOpt.some ?_
      refine Effect.step State.lswCmdWrite_effect (by decide) ?_
      exact Effect.refl _
    · refine ite_intro ?_ ?_
      · refine EffectOpt.some ?_
        refine Effect.step State.lswDutyWrite_effect (by decide) ?_
        exact Effect.refl _
      · refine ite_intro ?_ ?_
        · refine EffectOpt.some ?_
          refine Effect.step State.olWrite_effect (by decide) ?_
          refine Effect.step State.setCom_effect (by decide) ?_
          exact Effect.refl _
        · exact EffectOpt.none
  · rename_i z_24 z_25
    refine ite_intro ?_ ?_
    · refine EffectOpt.some ?_
      refine ite_intro ?_ ?_
      · refine Effect.step State.canXcvr_effect (by decide) ?_
        exact Effect.refl _
      · exact Effect.refl _
    · refine ite_intro ?_ ?_
      · refine EffectOpt.some ?_
        refine Effect.step State.canCtl_effect (by decide) ?_
        exact Effect.refl _
      · exact EffectOpt.none
  · rename_i z_26
    refine ite_intro ?_ ?_
    · refine EffectOpt.some ?_
      refine Effect.step State.prgCtl_effect (by decide) ?_
      exact Effect.refl _
    · refine ite_intro ?_ ?_
      · refine EffectOpt.some ?_
        refine Effect.step State.prgLoadCtl_effect (by decide) ?_
        exact Effect.refl _
      · refine ite_intro ?_ ?_
        · refine EffectOpt.some ?_
          refine ite_intro ?_ ?_
          · refine Effect.step State.err_effect (by decide) ?_
            exact Effect.refl _
          · refine Effect.step State.setCom_effect (by decide) ?_
            exact Effect.refl _
        · refine ite_intro ?_ ?_
          · refine EffectOpt.some ?_
            refine Effect.step State.loadWrite_effect (by decide) ?_
            exact Effect.refl _
          · exact EffectOpt.none
  · rename_i z_27
    refine ite_intro ?_ ?_
    · refine EffectOpt.some ?_
      refine Effect.step State.recCtl_effect (by decide) ?_
      exact Effect.refl _
    · refine ite_intro ?_ ?_
      · refine EffectOpt.some ?_
        refine ite_intro ?_ ?_
        · refine Effect.step State.err_effect (by decide) ?_
          exact Effect.refl _
        · refine Effect.step State.setCom_effect (by decide) ?_
          exact Effect.refl _
      · refine ite_intro ?_ ?_
        · refine EffectOpt.some ?_
          refine Effect.step State.modRec_effect (by decide) ?_
          exact Effect.refl _
        · exact EffectOpt.none
  · rename_i z_28
    refine ite_intro ?_ ?_
    · refine EffectOpt.some ?_
      refine Effect.step State.pairCtl_effect (by decide) ?_
      exact Effect.refl _
    · exact EffectOpt.none
  · rename_i z_29
    refine ite_intro ?_ ?_
    · refine EffectOpt.some ?_
      refine Effect.step State.secCtl_effect (by decide) ?_
      exact Effect.refl _
    · refine ite_intro ?_ ?_
      · refine EffectOpt.some ?_
        refine Effect.step State.secLoadCtl_effect (by decide) ?_
        exact Effect.refl _
      · refine ite_intro ?_ ?_
        · refine EffectOpt.some ?_
          refine Effect.step State.modSec_effect (by decide) ?_
          exact Effect.refl _
        · exact EffectOpt.none
  · rename_i z_30
    exact EffectOpt.none
  · rename_i z_31
    exact EffectOpt.none
  · rename_i z_32 z_33
    exact EffectOpt.none
  · rename_i z_34
    exact EffectOpt.none
  · rename_i z_35 z_36
    exact EffectOpt.none
  · rename_i z_37
    exact EffectOpt.none
  · rename_i z_38
    exact EffectOpt.none

theorem State.wordWrite_effect {p : PageId} {o : Nat} {w : Word} {s : State} : Effect Part.all s (State.wordWrite p o w s) := by
  unfold State.wordWrite
  split
  · rename_i z_1 z_2
    exact Effect.refl _
  · rename_i z_3 z_4 z_5
    extract_lets s1_6 s2_7
    have hs1_6 : Effect Part.all s s1_6 := by
      unfold s1_6
      refine Effect.step State.rwWrite_effect (by decide) ?_
      exact Effect.refl _
    clear_value s1_6
    have hs2_7 : Effect Part.all s s2_7 := by
      unfold s2_7
      refine ite_intro ?_ ?_
      · assumption
      · refine Effect.step State.rwsWrite_effect (by decide) ?_
        assumption
    clear_value s2_7
    refine ite_intro ?_ ?_
    · refine Effect.step State.err_effect (by decide) ?_
      exact Effect.refl _
    · refine ite_intro ?_ ?_
      · refine Effect.step State.err_effect (by decide) ?_
        exact Effect.refl _
      · split
        · rename_i z_8 z_9 z_10
          refine EffectOpt.of_eq z_10 ?_
          refine EffectOpt.step State.blockWrite_effect (by decide) ?_
          exact Effect.refl _
        · rename_i z_11 z_12
          refine ite_intro ?_ ?_
          · assumption
          · refine Effect.step State.w1cWrite_effect (by decide) ?_
            assumption

theorem State.enWrite_effect {p : PageId} {on : Bool} {s : State} : Effect [.pages, .ax, .drv, .gear, .can, .evq, .hif, .posted] s (State.enWrite p on s) := by
  unfold State.enWrite
  extract_lets s1_1
  have hs1_1 : Effect [.pages, .ax, .drv, .gear, .can, .evq, .hif, .posted] s s1_1 := by
    unfold s1_1
    refine Effect.step State.modPg_effect (by decide) ?_
    exact Effect.refl _
  clear_value s1_1
  split
  · rename_i z_2 z_3
    refine ite_intro ?_ ?_
    · refine Effect.step State.axEmpty_effect (by decide) ?_
      assumption
    · assumption
  · rename_i z_4 z_5
    refine Effect.step State.evqEnable_effect (by decide) ?_
    exact Effect.refl _
  · rename_i z_6 z_7
    refine ite_intro ?_ ?_
    · exact Effect.refl _
    · refine Effect.step State.canEnable_effect (by decide) ?_
      exact Effect.refl _
  · rename_i z_8
    exact Effect.refl _
  · rename_i z_9
    exact Effect.refl _
  · rename_i z_10
    exact Effect.refl _
  · rename_i z_11
    exact Effect.refl _
  · rename_i z_12
    exact Effect.refl _
  · rename_i z_13
    exact Effect.refl _
  · rename_i z_14 z_15
    exact Effect.refl _
  · rename_i z_16 z_17
    exact Effect.refl _
  · rename_i z_18 z_19
    exact Effect.refl _
  · rename_i z_20 z_21
    exact Effect.refl _
  · rename_i z_22 z_23
    exact Effect.refl _
  · rename_i z_24 z_25
    exact Effect.refl _
  · rename_i z_26 z_27
    exact Effect.refl _
  · rename_i z_28
    exact Effect.refl _
  · rename_i z_29
    exact Effect.refl _
  · rename_i z_30 z_31
    exact Effect.refl _
  · rename_i z_32
    exact Effect.refl _
  · rename_i z_33 z_34
    exact Effect.refl _
  · rename_i z_35
    exact Effect.refl _
  · rename_i z_36
    exact Effect.refl _
  · rename_i z_37
    exact Effect.refl _
  · rename_i z_38
    exact Effect.refl _
  · rename_i z_39
    exact Effect.refl _

theorem State.ctlWrite_effect {p : PageId} {w : Word} {s : State} : Effect (([.slept, .links, .lost, .seq, .mem, .pages, .pwr, .clk, .rst, .mc, .ax, .drv, .coil, .watch, .fb, .fbx] : List Part) ++ ([.din, .gear, .cam, .ptl, .ptlIn, .ptlRun, .env, .envKept, .side, .safe, .lsw, .lswx, .lswg, .can, .canc, .stn] : List Part) ++ ([.prg, .prgx, .evq, .hif, .recd, .stat, .pair, .sec, .posted] : List Part)) s (State.ctlWrite p w s) := by
  unfold State.ctlWrite
  extract_lets s1_1 s2_2 s3_3
  have hs1_1 : Effect (([.slept, .links, .lost, .seq, .mem, .pages, .pwr, .clk, .rst, .mc, .ax, .drv, .coil, .watch, .fb, .fbx] : List Part) ++ ([.din, .gear, .cam, .ptl, .ptlIn, .ptlRun, .env, .envKept, .side, .safe, .lsw, .lswx, .lswg, .can, .canc, .stn] : List Part) ++ ([.prg, .prgx, .evq, .hif, .recd, .stat, .pair, .sec, .posted] : List Part)) s s1_1 := by
    unfold s1_1
    refine ite_intro ?_ ?_
    · refine Effect.step State.stageClr_effect (by decide) ?_
      exact Effect.refl _
    · exact Effect.refl _
  clear_value s1_1
  have hs2_2 : Effect (([.slept, .links, .lost, .seq, .mem, .pages, .pwr, .clk, .rst, .mc, .ax, .drv, .coil, .watch, .fb, .fbx] : List Part) ++ ([.din, .gear, .cam, .ptl, .ptlIn, .ptlRun, .env, .envKept, .side, .safe, .lsw, .lswx, .lswg, .can, .canc, .stn] : List Part) ++ ([.prg, .prgx, .evq, .hif, .recd, .stat, .pair, .sec, .posted] : List Part)) s s2_2 := by
    unfold s2_2
    refine Effect.step State.enWrite_effect (by decide) ?_
    refine Effect.step State.modPg_effect (by decide) ?_
    assumption
  clear_value s2_2
  have hs3_3 : Effect (([.slept, .links, .lost, .seq, .mem, .pages, .pwr, .clk, .rst, .mc, .ax, .drv, .coil, .watch, .fb, .fbx] : List Part) ++ ([.din, .gear, .cam, .ptl, .ptlIn, .ptlRun, .env, .envKept, .side, .safe, .lsw, .lswx, .lswg, .can, .canc, .stn] : List Part) ++ ([.prg, .prgx, .evq, .hif, .recd, .stat, .pair, .sec, .posted] : List Part)) s s3_3 := by
    unfold s3_3
    refine ite_intro ?_ ?_
    · refine Effect.step State.lockPage_effect (by decide) ?_
      assumption
    · assumption
  clear_value s3_3
  split
  · rename_i z_4 z_5 z_6
    refine Effect.step State.err_effect (by decide) ?_
    exact Effect.refl _
  · rename_i z_7 z_8
    refine ite_intro ?_ ?_
    · refine Effect.step State.blockReset_effect (by decide) ?_
      assumption
    · assumption

theorem State.headWrite_effect {p : PageId} {o : Nat} {w : Word} {s : State} : Effect (([.slept, .links, .lost, .seq, .mem, .pages, .pwr, .clk, .rst, .mc, .ax, .drv, .coil, .watch, .fb, .fbx] : List Part) ++ ([.din, .gear, .cam, .ptl, .ptlIn, .ptlRun, .env, .envKept, .side, .safe, .lsw, .lswx, .lswg, .can, .canc, .stn] : List Part) ++ ([.prg, .prgx, .evq, .hif, .recd, .stat, .pair, .sec, .posted] : List Part)) s (State.headWrite p o w s) := by
  unfold State.headWrite
  refine ite_intro ?_ ?_
  · refine Effect.step State.ctlWrite_effect (by decide) ?_
    exact Effect.refl _
  · refine ite_intro ?_ ?_
    · refine Effect.step State.modPg_effect (by decide) ?_
      exact Effect.refl _
    · refine ite_intro ?_ ?_
      · refine Effect.step State.modPg_effect (by decide) ?_
        exact Effect.refl _
      · refine ite_intro ?_ ?_
        · refine Effect.step State.irq_effect (by decide) ?_
          exact Effect.refl _
        · refine ite_intro ?_ ?_
          · refine Effect.step State.commitWrite_effect (by decide) ?_
            exact Effect.refl _
          · refine ite_intro ?_ ?_
            · refine Effect.step State.snapWrite_effect (by decide) ?_
              exact Effect.refl _
            · refine Effect.step State.err_effect (by decide) ?_
              exact Effect.refl _

theorem State.pageEffect_effect {p : PageId} {o : Nat} {w : Word} {s : State} : Effect Part.all s (State.pageEffect p o w s) := by
  unfold State.pageEffect
  refine ite_intro ?_ ?_
  · refine Effect.step State.headWrite_effect (by decide) ?_
    exact Effect.refl _
  · refine Effect.step State.wordWrite_effect (by decide) ?_
    exact Effect.refl _

theorem State.pageWrite_effect {p : PageId} {o : Nat} {x2 : Word} {s : State} : Effect Part.all s (State.pageWrite p o x2 s) := by
  unfold State.pageWrite
  exact State.gated_effect (l := Part.all) (by decide) (fun _ => State.pageEffect_effect.mono (by decide))

theorem State.drainOne_effect {p : PageId} {s : State} : Effect Part.all s (State.drainOne p s) := by
  unfold State.drainOne
  split
  · exact Effect.refl _
  · exact (State.modPg_effect.mono (by decide)).trans
      (State.unlessLocked_effect (l := Part.all) (by decide) (fun _ => State.pageEffect_effect.mono (by decide)))

theorem State.drain_effect {p : PageId} {n : Nat} {s : State} : Effect Part.all s (State.drain p n s) :=
  Effect.forAll (fun _ _ => State.drainOne_effect) (Effect.refl s)

theorem State.appIdle_effect {s : State} : Effect [.clk] s (State.appIdle s) := by
  unfold State.appIdle
  refine Effect.step State.modClk_effect (by decide) ?_
  exact Effect.refl _

theorem State.addrWrite_effect {a : Nat} {w : Word} {s : State} : Effect Part.all s (State.addrWrite a w s) := by
  unfold State.addrWrite
  split
  · rename_i z_1 z_2 z_3
    refine Effect.step State.pageWrite_effect (by decide) ?_
    exact Effect.refl _
  · rename_i z_4 z_5
    refine ite_intro ?_ ?_
    · refine Effect.step State.err_effect (by decide) ?_
      exact Effect.refl _
    · exact Effect.refl _

theorem State.busWrite_effect {a : Nat} {size : Nat} {data : Nat} {s : State} : Effect Part.all s (State.busWrite a size data s) := by
  unfold State.busWrite
  refine ite_intro ?_ ?_
  · refine Effect.step State.addrWrite_effect (by decide) ?_
    exact Effect.refl _
  · refine ite_intro ?_ ?_
    · refine Effect.step State.addrWrite_effect (by decide) ?_
      refine Effect.step State.addrWrite_effect (by decide) ?_
      exact Effect.refl _
    · refine ite_intro ?_ ?_
      · refine Effect.step State.err_effect (by decide) ?_
        exact Effect.refl _
      · exact Effect.refl _

theorem State.windowWrite_effect {off : Nat} {data : List Byte} {s : State} : Effect [.links, .seq, .mem, .pages, .prg, .hif, .sec, .posted] s (State.windowWrite off data s) := by
  unfold State.windowWrite
  refine ite_intro ?_ ?_
  · exact Effect.refl _
  · refine ite_intro ?_ ?_
    · refine ite_intro ?_ ?_
      · exact Effect.refl _
      · refine Effect.step State.granWrite_effect (by decide) ?_
        exact Effect.refl _
    · refine ite_intro ?_ ?_
      · refine Effect.step State.err_effect (by decide) ?_
        exact Effect.refl _
      · refine Effect.step State.loadWrite_effect (by decide) ?_
        exact Effect.refl _

theorem State.viewWrite_effect {y : Nat} {w : Word} {s : State} : Effect Part.all s (State.viewWrite y w s) := by
  unfold State.viewWrite
  refine ite_intro ?_ ?_
  · refine Effect.step State.windowWrite_effect (by decide) ?_
    exact Effect.refl _
  · refine Effect.step State.pageWrite_effect (by decide) ?_
    exact Effect.refl _

theorem State.capture_effect {p : PageId} {o : Nat} {s : State} : Effect [.pages] s (State.capture p o s) := by
  unfold State.capture
  refine Effect.step State.modPg_effect (by decide) ?_
  exact Effect.refl _

theorem State.readEffect_effect {p : PageId} {o : Nat} {s : State} : Effect [.links, .seq, .mem, .pages, .can] s (State.readEffect p o s) := by
  unfold State.readEffect
  extract_lets s0_1 s1_2
  have hs0_1 : Effect [.links, .seq, .mem, .pages, .can] s s0_1 := by
    unfold s0_1
    refine Effect.step State.capture_effect (by decide) ?_
    exact Effect.refl _
  clear_value s0_1
  have hs1_2 : Effect [.links, .seq, .mem, .pages, .can] s s1_2 := by
    unfold s1_2
    split
    · rename_i z_3 z_4 z_5
      refine Effect.step State.granUse_effect (by decide) ?_
      assumption
    · rename_i z_6 z_7
      assumption
  clear_value s1_2
  split
  · rename_i z_8 z_9
    refine ite_intro ?_ ?_
    · refine Effect.step State.windowRead_effect (by decide) ?_
      assumption
    · assumption
  · rename_i z_10
    assumption
  · rename_i z_11
    assumption
  · rename_i z_12
    assumption
  · rename_i z_13
    assumption
  · rename_i z_14
    assumption
  · rename_i z_15
    assumption
  · rename_i z_16 z_17
    assumption
  · rename_i z_18 z_19
    assumption
  · rename_i z_20 z_21
    assumption
  · rename_i z_22 z_23
    assumption
  · rename_i z_24 z_25
    assumption
  · rename_i z_26 z_27
    assumption
  · rename_i z_28 z_29
    assumption
  · rename_i z_30 z_31
    assumption
  · rename_i z_32 z_33
    assumption
  · rename_i z_34
    assumption
  · rename_i z_35
    assumption
  · rename_i z_36 z_37
    assumption
  · rename_i z_38
    assumption
  · rename_i z_39 z_40
    assumption
  · rename_i z_41
    assumption
  · rename_i z_42
    assumption
  · rename_i z_43
    assumption
  · rename_i z_44
    assumption
  · rename_i z_45
    assumption

theorem State.pageAnswer_effect {p : PageId} {o : Nat} {s : State} : EffectSnd [.links, .seq, .mem, .pages, .can, .hif, .posted] s (State.pageAnswer p o s) := by
  unfold State.pageAnswer
  refine ite_intro ?_ ?_
  · refine EffectSnd.mk ?_
    refine Effect.step State.err_effect (by decide) ?_
    exact Effect.refl _
  · refine ite_intro ?_ ?_
    · refine EffectSnd.mk ?_
      exact Effect.refl _
    · refine ite_intro ?_ ?_
      · refine EffectSnd.mk ?_
        refine Effect.step State.err_effect (by decide) ?_
        exact Effect.refl _
      · refine ite_intro ?_ ?_
        · refine EffectSnd.mk ?_
          refine Effect.step State.err_effect (by decide) ?_
          refine Effect.step State.granUse_effect (by decide) ?_
          exact Effect.refl _
        · refine EffectSnd.mk ?_
          refine Effect.step State.readEffect_effect (by decide) ?_
          exact Effect.refl _

theorem State.settled_effect {p : PageId} {s : State} : Effect Part.all s (State.settled p s) :=
  ite_intro (Effect.refl s) State.drain_effect

theorem State.pageRead_effect {p : PageId} {o : Nat} {s : State} : EffectSnd Part.all s (State.pageRead p o s) := by
  unfold State.pageRead
  refine ite_intro (Effect.refl s) ?_
  split
  · exact State.err_effect.mono (by decide)
  · exact (State.settled_effect.trans (State.pageAnswer_effect.mono (by decide))).trans (State.clkDemand_effect.mono (by decide))

theorem State.addrRead_effect {a : Nat} {s : State} : EffectSnd Part.all s (State.addrRead a s) := by
  unfold State.addrRead
  split
  · rename_i z_1 z_2 z_3
    refine EffectSnd.step State.pageRead_effect (by decide) ?_
    exact Effect.refl _
  · rename_i z_4 z_5
    refine EffectSnd.mk ?_
    refine ite_intro ?_ ?_
    · refine Effect.step State.err_effect (by decide) ?_
      exact Effect.refl _
    · exact Effect.refl _

theorem State.readOut_effect {r : Word × State} : Effect [.hspi] r.2 (State.readOut r) :=
  Effect.put (Effect.refl _) (fun p hp => by cases p <;> first | exact absurd (by decide) hp | rfl) rfl ⟨rfl, rfl, rfl⟩ ⟨rfl, rfl⟩ rfl rfl

theorem State.readBegin_effect {s : State} : Effect [.hspi] s (State.readBegin s) := by
  unfold State.readBegin
  extract_lets src_1
  refine Effect.put (x := s) ?_ (fun p hp => by cases p <;> first | exact absurd (by decide) hp | rfl) rfl ⟨rfl, rfl, rfl⟩ ⟨rfl, rfl⟩ rfl rfl
  exact Effect.refl _

theorem State.busRead_effect {a : Nat} {size : Nat} {s : State} : Effect Part.all s (State.busRead a size s) := by
  have word {k : Nat} {t : State} : Effect Part.all t (State.readOut (t.addrRead k)) :=
    Effect.trans (State.addrRead_effect.mono (by decide)) (State.readOut_effect.mono (by decide))
  unfold State.busRead
  refine ite_intro word (ite_intro (word.trans word) ?_)
  refine Effect.step State.readOut_effect (by decide) ?_
  exact ite_intro (State.err_effect.mono (by decide)) (Effect.refl s)

theorem State.bytesOut_effect {size : Nat} {l : List Byte} {s : State} : Effect [.hspi] s (State.bytesOut size l s) := by
  unfold State.bytesOut
  extract_lets src_1
  refine Effect.put (x := s) ?_ (fun p hp => by cases p <;> first | exact absurd (by decide) hp | rfl) rfl ⟨rfl, rfl, rfl⟩ ⟨rfl, rfl⟩ rfl rfl
  exact Effect.refl _

theorem State.bar2Fetch_effect {p : PageId} {a : Nat} {size : Nat} {s : State} : Effect [.links, .seq, .mem, .pages, .hif, .posted] s (State.bar2Fetch p a size s) := by
  unfold State.bar2Fetch
  extract_lets t_1
  have ht_1 : Effect [.links, .seq, .mem, .pages, .hif, .posted] s t_1 := by
    unfold t_1
    refine Effect.step State.granUse_effect (by decide) ?_
    exact Effect.refl _
  clear_value t_1
  refine ite_intro ?_ ?_
  · exact Effect.refl _
  · refine ite_intro ?_ ?_
    · assumption
    · refine Effect.step State.err_effect (by decide) ?_
      assumption

theorem State.bar2Read_effect {off : Nat} {size : Nat} {s : State} : Effect [.links, .seq, .mem, .pages, .hif, .hspi, .posted] s (State.bar2Read off size s) := by
  unfold State.bar2Read
  extract_lets l_1
  clear_value l_1
  refine ite_intro ?_ ?_
  · refine Effect.step State.bytesOut_effect (by decide) ?_
    exact Effect.refl _
  · split
    · rename_i z_2 z_3
      refine Effect.step State.bytesOut_effect (by decide) ?_
      exact Effect.refl _
    · rename_i z_4 z_5 z_6
      split
      · rename_i z_7 z_8 z_9
        refine Effect.step State.bytesOut_effect (by decide) ?_
        refine Effect.step State.err_effect (by decide) ?_
        exact Effect.refl _
      · rename_i z_10 z_11
        refine Effect.step State.bytesOut_effect (by decide) ?_
        refine ite_intro ?_ ?_
        · exact Effect.refl _
        · refine Effect.step State.bar2Fetch_effect (by decide) ?_
          exact Effect.refl _

theorem State.hspiWord_effect {a : Nat} {w : Word} {s : State} : Effect Part.all s (State.hspiWord a w s) := by
  unfold State.hspiWord
  extract_lets src_1
  refine ite_intro ?_ ?_
  · refine Effect.step State.err_effect (by decide) ?_
    exact Effect.refl _
  · refine ite_intro ?_ ?_
    · refine ite_intro ?_ ?_
      · refine Effect.step State.err_effect (by decide) ?_
        exact Effect.refl _
      · refine ite_intro ?_ ?_
        · refine Effect.put (x := s) ?_ (fun p hp => by cases p <;> first | exact absurd (by decide) hp | rfl) rfl ⟨rfl, rfl, rfl⟩ ⟨rfl, rfl⟩ rfl rfl
          exact Effect.refl _
        · refine ite_intro ?_ ?_
          · refine Effect.step State.flkCmd_effect (by decide) ?_
            exact Effect.refl _
          · refine ite_intro ?_ ?_
            · refine Effect.step State.err_effect (by decide) ?_
              exact Effect.refl _
            · exact Effect.refl _
    · refine ite_intro ?_ ?_
      · refine Effect.put (x := s) ?_ (fun p hp => by cases p <;> first | exact absurd (by decide) hp | rfl) rfl ⟨rfl, rfl, rfl⟩ ⟨rfl, rfl⟩ rfl rfl
        exact Effect.refl _
      · refine ite_intro ?_ ?_
        · refine Effect.put (x := s) ?_ (fun p hp => by cases p <;> first | exact absurd (by decide) hp | rfl) rfl ⟨rfl, rfl, rfl⟩ ⟨rfl, rfl⟩ rfl rfl
          exact Effect.refl _
        · refine ite_intro ?_ ?_
          · refine Effect.step State.err_effect (by decide) ?_
            exact Effect.refl _
          · refine ite_intro ?_ ?_
            · refine Effect.step State.addrWrite_effect (by decide) ?_
              exact Effect.refl _
            · refine Effect.step State.err_effect (by decide) ?_
              exact Effect.refl _

theorem State.hspiLoader_effect {a : Nat} {w : Word} {s : State} : Effect Part.all s (State.hspiLoader a w s) := by
  unfold State.hspiLoader
  extract_lets src_1
  refine ite_intro ?_ ?_
  · refine Effect.put (x := s) ?_ (fun p hp => by cases p <;> first | exact absurd (by decide) hp | rfl) rfl ⟨rfl, rfl, rfl⟩ ⟨rfl, rfl⟩ rfl rfl
    exact Effect.refl _
  · refine ite_intro ?_ ?_
    · exact Effect.refl _
    · refine ite_intro ?_ ?_
      · refine ite_intro ?_ ?_
        · exact Effect.refl _
        · refine Effect.step State.setCom_effect (by decide) ?_
          exact Effect.refl _
      · refine ite_intro ?_ ?_
        · refine Effect.step State.viewWrite_effect (by decide) ?_
          exact Effect.refl _
        · exact Effect.refl _

theorem State.hspiWrite_effect {a : Nat} {l : List Word} {s : State} : Effect Part.all s (State.hspiWrite a l s) := by
  unfold State.hspiWrite
  refine ite_intro ?_ ?_
  · exact Effect.refl _
  · refine Effect.foldlSnd (fun b t a => ?_) ?_
    · dsimp only
      refine ite_intro ?_ ?_
      · refine Effect.step State.hspiLoader_effect (by decide) ?_
        exact Effect.refl _
      · refine Effect.step State.hspiWord_effect (by decide) ?_
        exact Effect.refl _
    · dsimp only
      exact Effect.refl _

theorem State.evtRead_effect {k : Nat} {s : State} : EffectSnd [.hspi] s (State.evtRead k s) := by
  unfold State.evtRead
  refine EffectSnd.mk ?_
  refine ite_intro ?_ ?_
  · refine Effect.step State.hspiPop_effect (by decide) ?_
    exact Effect.refl _
  · exact Effect.refl _

theorem State.hspiPageRead_effect {p : PageId} {o : Nat} {s : State} : EffectSnd Part.all s (State.hspiPageRead p o s) := by
  unfold State.hspiPageRead
  extract_lets r_1
  have hr_1 : EffectSnd Part.all s r_1 := by
    unfold r_1
    refine EffectSnd.step State.pageRead_effect (by decide) ?_
    exact Effect.refl _
  clear_value r_1
  refine ite_intro ?_ ?_
  · refine EffectSnd.mk ?_
    assumption
  · assumption

theorem State.hspiReadWord_effect {a : Nat} {s : State} : EffectSnd Part.all s (State.hspiReadWord a s) := by
  unfold State.hspiReadWord
  refine ite_intro ?_ ?_
  · refine EffectSnd.mk ?_
    exact Effect.refl _
  · refine ite_intro ?_ ?_
    · refine EffectSnd.mk ?_
      refine Effect.step State.err_effect (by decide) ?_
      exact Effect.refl _
    · refine ite_intro ?_ ?_
      · refine ite_intro ?_ ?_
        · refine EffectSnd.mk ?_
          refine Effect.step State.err_effect (by decide) ?_
          exact Effect.refl _
        · refine ite_intro ?_ ?_
          · refine EffectSnd.step State.evtRead_effect (by decide) ?_
            exact Effect.refl _
          · refine EffectSnd.mk ?_
            exact Effect.refl _
      · refine ite_intro ?_ ?_
        · refine EffectSnd.mk ?_
          exact Effect.refl _
        · refine ite_intro ?_ ?_
          · refine EffectSnd.mk ?_
            exact Effect.refl _
          · refine ite_intro ?_ ?_
            · refine EffectSnd.mk ?_
              exact Effect.refl _
            · refine ite_intro ?_ ?_
              · refine EffectSnd.step State.evtRead_effect (by decide) ?_
                exact Effect.refl _
              · refine ite_intro ?_ ?_
                · split
                  · rename_i z_1 z_2 z_3
                    refine EffectSnd.step State.hspiPageRead_effect (by decide) ?_
                    exact Effect.refl _
                  · rename_i z_4 z_5
                    refine EffectSnd.mk ?_
                    refine Effect.step State.err_effect (by decide) ?_
                    exact Effect.refl _
                · refine EffectSnd.mk ?_
                  exact Effect.refl _

theorem State.hspiRead_effect {a : Nat} {n : Nat} {s : State} : Effect Part.all s (State.hspiRead a n s) := by
  unfold State.hspiRead
  extract_lets src_1 src_2
  have hsrc_1 : Effect Part.all s src_1 := by
    unfold src_1
    refine Effect.step State.readBegin_effect (by decide) ?_
    exact Effect.refl _
  clear_value src_1
  refine ite_intro ?_ ?_
  · refine Effect.put (x := src_1) ?_ (fun p hp => by cases p <;> first | exact absurd (by decide) hp | rfl) rfl ⟨rfl, rfl, rfl⟩ ⟨rfl, rfl⟩ rfl rfl
    assumption
  · refine Effect.foldlSnd (fun b t a => ?_) ?_
    · dsimp only
      refine Effect.step State.readOut_effect (by decide) ?_
      refine EffectSnd.step State.hspiReadWord_effect (by decide) ?_
      exact Effect.refl _
    · dsimp only
      refine Effect.step State.readBegin_effect (by decide) ?_
      exact Effect.refl _

theorem State.hspiTransaction_effect {op : Nat} {a : Nat} {l : List Word} {n : Nat} {s : State} : Effect Part.all s (State.hspiTransaction op a l n s) := by
  unfold State.hspiTransaction
  split
  · rename_i z_1
    refine Effect.step State.hspiWrite_effect (by decide) ?_
    exact Effect.refl _
  · rename_i z_2
    refine Effect.step State.hspiWrite_effect (by decide) ?_
    exact Effect.refl _
  · rename_i z_3
    refine Effect.step State.hspiRead_effect (by decide) ?_
    exact Effect.refl _
  · rename_i z_4
    refine Effect.step State.hspiRead_effect (by decide) ?_
    exact Effect.refl _
  · rename_i z_5 z_6 z_7 z_8 z_9
    refine ite_intro ?_ ?_
    · refine Effect.step State.err_effect (by decide) ?_
      exact Effect.refl _
    · exact Effect.refl _

end Sys2Proof.Machine
end

