-- ==== Sys2Proof/Laws/BootEffect.lean ====
section
/-! SUPPORT. What each operation of Machine/Boot.lean can do: the parts of the state it may change, and what it never takes
back (`Effect`, Safety.lean). -/

namespace Sys2Proof.Machine

theorem State.recognise_effect {k : Nat} {s : State} : Effect [.mc] s (State.recognise k s) := by
  unfold State.recognise
  extract_lets m_1 latched_2
  clear_value m_1
  clear_value latched_2
  refine ite_intro ?_ ?_
  · exact Effect.refl _
  · refine ite_intro ?_ ?_
    · refine Effect.put (x := s) ?_ (fun p hp => by cases p <;> first | exact absurd (by decide) hp | rfl) rfl ⟨rfl, rfl, rfl⟩ ⟨rfl, rfl⟩ rfl rfl
      exact Effect.refl _
    · split
      · rename_i z_3 z_4
        refine ite_intro ?_ ?_
        · refine Effect.put (x := s) ?_ (fun p hp => by cases p <;> first | exact absurd (by decide) hp | rfl) rfl ⟨rfl, rfl, rfl⟩ ⟨rfl, rfl⟩ rfl rfl
          exact Effect.refl _
        · refine Effect.put (x := s) ?_ (fun p hp => by cases p <;> first | exact absurd (by decide) hp | rfl) rfl ⟨rfl, rfl, rfl⟩ ⟨rfl, rfl⟩ rfl rfl
          exact Effect.refl _
      · rename_i z_5 z_6
        refine ite_intro ?_ ?_
        · exact Effect.refl _
        · refine Effect.put (x := s) ?_ (fun p hp => by cases p <;> first | exact absurd (by decide) hp | rfl) rfl ⟨rfl, rfl, rfl⟩ ⟨rfl, rfl⟩ rfl rfl
          exact Effect.refl _
      · rename_i z_7 z_8
        refine ite_intro ?_ ?_
        · exact Effect.refl _
        · refine Effect.put (x := s) ?_ (fun p hp => by cases p <;> first | exact absurd (by decide) hp | rfl) rfl ⟨rfl, rfl, rfl⟩ ⟨rfl, rfl⟩ rfl rfl
          exact Effect.refl _
      · rename_i z_9 z_10
        refine ite_intro ?_ ?_
        · exact Effect.refl _
        · refine Effect.put (x := s) ?_ (fun p hp => by cases p <;> first | exact absurd (by decide) hp | rfl) rfl ⟨rfl, rfl, rfl⟩ ⟨rfl, rfl⟩ rfl rfl
          exact Effect.refl _
      · rename_i z_11 z_12
        refine ite_intro ?_ ?_
        · exact Effect.refl _
        · refine Effect.put (x := s) ?_ (fun p hp => by cases p <;> first | exact absurd (by decide) hp | rfl) rfl ⟨rfl, rfl, rfl⟩ ⟨rfl, rfl⟩ rfl rfl
          exact Effect.refl _
      · rename_i z_13 z_14
        refine ite_intro ?_ ?_
        · exact Effect.refl _
        · refine Effect.put (x := s) ?_ (fun p hp => by cases p <;> first | exact absurd (by decide) hp | rfl) rfl ⟨rfl, rfl, rfl⟩ ⟨rfl, rfl⟩ rfl rfl
          exact Effect.refl _
      · rename_i z_15 z_16
        refine ite_intro ?_ ?_
        · exact Effect.refl _
        · refine Effect.put (x := s) ?_ (fun p hp => by cases p <;> first | exact absurd (by decide) hp | rfl) rfl ⟨rfl, rfl, rfl⟩ ⟨rfl, rfl⟩ rfl rfl
          exact Effect.refl _
      · rename_i z_17 z_18
        refine ite_intro ?_ ?_
        · exact Effect.refl _
        · refine Effect.put (x := s) ?_ (fun p hp => by cases p <;> first | exact absurd (by decide) hp | rfl) rfl ⟨rfl, rfl, rfl⟩ ⟨rfl, rfl⟩ rfl rfl
          exact Effect.refl _

theorem State.releaseAll_effect {n : Nat} {s : State} :
    Effect (([.links, .lost, .seq, .mem, .pages, .clk, .mc, .ax, .din, .ptl, .ptlIn, .cyc, .side, .safe, .can, .stn] : List Part) ++
      ([.prg, .prgx, .evq, .hif, .hspi, .recd, .stat, .pair, .fuses, .sec, .posted, .fresh] : List Part))
      s (State.releaseAll n s) := by
  induction n generalizing s with
  | zero => exact Effect.refl s
  | succ n ih =>
    unfold State.releaseAll
    split
    · exact Effect.trans (State.releaseOne_effect.mono (by decide)) ih
    · exact Effect.refl s

theorem State.writeAll_effect {n : Nat} {s : State} : Effect [.links, .seq, .mem, .pages, .hif, .recd, .posted] s (State.writeAll n s) := by
  induction n generalizing s with
  | zero => exact Effect.refl s
  | succ n ih =>
    unfold State.writeAll
    exact Effect.trans (State.recWriteNext_effect.mono (by decide)) ih

theorem State.sendSleep_effect {s : State} : Effect [.pages, .can, .stn, .prg, .hif, .posted] s (State.sendSleep s) := by
  unfold State.sendSleep
  extract_lets t_1
  have ht_1 : Effect [.pages, .can, .stn, .prg, .hif, .posted] s t_1 := by
    unfold t_1
    refine Effect.step State.stnSleep_effect (by decide) ?_
    exact Effect.refl _
  clear_value t_1
  refine Effect.forAll (fun a_2 t_3 => ?_) ?_
  · split
    · rename_i z_4 z_5 z_6
      refine Effect.step State.post_effect (by decide) ?_
      exact Effect.refl _
    · rename_i z_7 z_8
      exact Effect.refl _
  · assumption

theorem State.sleepSteps_effect {s : State} : Effect (([.tb, .links, .lost, .seq, .mem, .pages, .clk, .mc, .ax, .din, .ptl, .ptlIn, .cyc, .side, .safe, .lsw] : List Part) ++ ([.lswg, .can, .stn, .prg, .prgx, .evq, .hif, .hspi, .recd, .stat, .pair, .fuses, .sec, .posted, .fresh] : List Part)) s (State.sleepSteps s) := by
  unfold State.sleepSteps
  extract_lets s1_1 s2_2 s3_3 s4_4
  have hs1_1 : Effect (([.tb, .links, .lost, .seq, .mem, .pages, .clk, .mc, .ax, .din, .ptl, .ptlIn, .cyc, .side, .safe, .lsw] : List Part) ++ ([.lswg, .can, .stn, .prg, .prgx, .evq, .hif, .hspi, .recd, .stat, .pair, .fuses, .sec, .posted, .fresh] : List Part)) s s1_1 := by
    unfold s1_1
    refine Effect.step State.prgSuspend_effect (by decide) ?_
    refine Effect.step State.retDone_effect (by decide) ?_
    exact Effect.refl _
  clear_value s1_1
  have hs2_2 : Effect (([.tb, .links, .lost, .seq, .mem, .pages, .clk, .mc, .ax, .din, .ptl, .ptlIn, .cyc, .side, .safe, .lsw] : List Part) ++ ([.lswg, .can, .stn, .prg, .prgx, .evq, .hif, .hspi, .recd, .stat, .pair, .fuses, .sec, .posted, .fresh] : List Part)) s s2_2 := by
    unfold s2_2
    refine Effect.step State.statVeh_effect (by decide) ?_
    refine Effect.step State.ev_effect (by decide) ?_
    assumption
  clear_value s2_2
  have hs3_3 : Effect (([.tb, .links, .lost, .seq, .mem, .pages, .clk, .mc, .ax, .din, .ptl, .ptlIn, .cyc, .side, .safe, .lsw] : List Part) ++ ([.lswg, .can, .stn, .prg, .prgx, .evq, .hif, .hspi, .recd, .stat, .pair, .fuses, .sec, .posted, .fresh] : List Part)) s s3_3 := by
    unfold s3_3
    refine Effect.step State.releaseAll_effect (by decide) ?_
    assumption
  clear_value s3_3
  have hs4_4 : Effect (([.tb, .links, .lost, .seq, .mem, .pages, .clk, .mc, .ax, .din, .ptl, .ptlIn, .cyc, .side, .safe, .lsw] : List Part) ++ ([.lswg, .can, .stn, .prg, .prgx, .evq, .hif, .hspi, .recd, .stat, .pair, .fuses, .sec, .posted, .fresh] : List Part)) s s4_4 := by
    unfold s4_4
    refine Effect.step State.ownRec_effect (by decide) ?_
    assumption
  clear_value s4_4
  refine Effect.step State.lswSend_effect (by decide) ?_
  refine Effect.step State.sendSleep_effect (by decide) ?_
  refine Effect.step State.writeAll_effect (by decide) ?_
  assumption

theorem State.trainLink_effect {d : Fin 8} {s : State} : Effect [.links] s (State.trainLink d s) := by
  unfold State.trainLink
  refine Effect.step State.modLink_effect (by decide) ?_
  exact Effect.refl _

theorem State.powerUp_effect {s : State} : Effect [.links, .mem, .pwr, .clk] s (State.powerUp s) := by
  unfold State.powerUp
  extract_lets src_1 src_2 t_3
  have ht_3 : Effect [.links, .mem, .pwr, .clk] s t_3 := by
    unfold t_3
    refine Effect.put (x := s) ?_ (fun p hp => by cases p <;> first | exact absurd (by decide) hp | rfl) rfl ⟨rfl, rfl, rfl⟩ ⟨rfl, rfl⟩ rfl rfl
    exact Effect.refl _
  clear_value t_3
  refine Effect.step State.granTouch_effect (by decide) ?_
  refine Effect.forAll (fun a_4 t_5 => ?_) ?_
  · refine Effect.step State.trainLink_effect (by decide) ?_
    exact Effect.refl _
  · assumption

theorem State.fwInvalid_effect {s : State} : Effect (([.links, .seq, .mem, .pages, .boot, .mc, .ax, .drv, .coil, .watch, .fb, .gear, .cam, .ptlIn, .ptlRun, .side] : List Part) ++ ([.grd, .safe, .lsw, .lswg, .prg, .prgx, .hif, .pair, .pairx, .posted] : List Part)) s (State.fwInvalid s) := by
  unfold State.fwInvalid
  extract_lets src_1
  refine Effect.step State.toSafeHold_effect (by decide) ?_
  refine Effect.put (x := s) ?_ (fun p hp => by cases p <;> first | exact absurd (by decide) hp | rfl) rfl ⟨rfl, rfl, rfl⟩ ⟨rfl, rfl⟩ rfl rfl
  exact Effect.refl _

theorem State.fallBack_effect {s : State} : Effect [.links, .seq, .pages, .hif, .sec, .posted] s (State.fallBack s) := by
  unfold State.fallBack
  extract_lets copy_1
  clear_value copy_1
  refine Effect.step State.ev_effect (by decide) ?_
  refine Effect.step State.secFlag_effect (by decide) ?_
  refine Effect.step State.modSec_effect (by decide) ?_
  exact Effect.refl _

theorem State.otherVerdict_effect {s : State} : Effect [.links, .seq, .mem, .pages, .hif, .sec, .posted] s (State.otherVerdict s) := by
  unfold State.otherVerdict
  refine ite_intro ?_ ?_
  · refine Effect.step State.copyVerdict_effect (by decide) ?_
    exact Effect.refl _
  · refine Effect.step State.guardVerdict_effect (by decide) ?_
    exact Effect.refl _

theorem State.recBoot_effect {s : State} : Effect [.links, .seq, .mem, .pages, .clk, .hif, .recd, .posted] s (State.recBoot s) := by
  unfold State.recBoot
  extract_lets t_1 r_2 u_3 v_4
  have ht_1 : Effect [.links, .seq, .mem, .pages, .clk, .hif, .recd, .posted] s t_1 := by
    unfold t_1
    refine Effect.step State.statSetup_effect (by decide) ?_
    refine Effect.step State.recResume_effect (by decide) ?_
    exact Effect.refl _
  clear_value t_1
  clear_value r_2
  have hu_3 : Effect [.links, .seq, .mem, .pages, .clk, .hif, .recd, .posted] s u_3 := by
    unfold u_3
    refine Effect.step State.ownRec_effect (by decide) ?_
    assumption
  clear_value u_3
  have hv_4 : Effect [.links, .seq, .mem, .pages, .clk, .hif, .recd, .posted] s v_4 := by
    unfold v_4
    refine Effect.step State.statVeh_effect (by decide) ?_
    assumption
  clear_value v_4
  refine ite_intro ?_ ?_
  · refine Effect.step State.statVeh_effect (by decide) ?_
    assumption
  · refine Effect.step State.statVeh_effect (by decide) ?_
    assumption

theorem State.bootSix_effect {s : State} : Effect (([.links, .seq, .mem, .pages, .mc, .ax, .drv, .coil, .watch, .fb, .gear, .cam, .ptlIn, .ptlRun, .side, .grd] : List Part) ++ ([.safe, .lsw, .lswg, .prg, .prgx, .hif, .pair, .pairx, .posted] : List Part)) s (State.bootSix s) := by
  unfold State.bootSix
  refine ite_intro ?_ ?_
  · exact Effect.refl _
  · refine ite_intro ?_ ?_
    · refine Effect.step State.toSafeHold_effect (by decide) ?_
      exact Effect.refl _
    · refine ite_intro ?_ ?_
      · exact Effect.refl _
      · refine Effect.step State.toConfig_effect (by decide) ?_
        exact Effect.refl _

theorem State.powerRest_effect {s : State} : Effect [.links, .seq, .mem, .pages, .pwr, .clk, .boot, .ax, .drv, .coil, .watch, .gear, .cam, .ptlRun, .hif, .posted] s (State.powerRest s) := by
  unfold State.powerRest
  extract_lets src_1 src_2 src_3 t_4
  have ht_4 : Effect [.links, .seq, .mem, .pages, .pwr, .clk, .boot, .ax, .drv, .coil, .watch, .gear, .cam, .ptlRun, .hif, .posted] s t_4 := by
    unfold t_4
    refine Effect.put (x := s) ?_ (fun p hp => by cases p <;> first | exact absurd (by decide) hp | rfl) rfl ⟨rfl, rfl, rfl⟩ ⟨rfl, rfl⟩ rfl rfl
    exact Effect.refl _
  clear_value t_4
  refine ite_intro ?_ ?_
  · exact Effect.refl _
  · refine Effect.step State.supHalts_effect (by decide) ?_
    refine Effect.step State.supHalts_effect (by decide) ?_
    refine Effect.forAll (fun a_5 t_6 => ?_) ?_
    · refine Effect.step State.trainLink_effect (by decide) ?_
      exact Effect.refl _
    · assumption

theorem State.junctionStarts_effect {s : State} : Effect (([.links, .seq, .mem, .pages, .pwr, .clk, .boot, .mc, .ax, .drv, .coil, .watch, .fb, .gear, .cam, .ptlIn] : List Part) ++ ([.ptlRun, .env, .side, .grd, .safe, .lsw, .lswg, .prg, .prgx, .hif, .recd, .pair, .pairx, .sec, .posted] : List Part)) s (State.junctionStarts s) := by
  unfold State.junctionStarts
  extract_lets copy_1 g_2 src_3 src_4 src_5 t_6
  clear_value copy_1
  clear_value g_2
  have ht_6 : Effect (([.links, .seq, .mem, .pages, .pwr, .clk, .boot, .mc, .ax, .drv, .coil, .watch, .fb, .gear, .cam, .ptlIn] : List Part) ++ ([.ptlRun, .env, .side, .grd, .safe, .lsw, .lswg, .prg, .prgx, .hif, .recd, .pair, .pairx, .sec, .posted] : List Part)) s t_6 := by
    unfold t_6
    refine Effect.put (x := s) ?_ (fun p hp => by cases p <;> first | exact absurd (by decide) hp | rfl) rfl ⟨rfl, rfl, rfl⟩ ⟨rfl, rfl⟩ rfl rfl
    exact Effect.refl _
  clear_value t_6
  refine Effect.step State.bootSix_effect (by decide) ?_
  refine Effect.step State.recBoot_effect (by decide) ?_
  refine Effect.step State.powerRest_effect (by decide) ?_
  assumption

theorem State.imageKeepOff_effect {w : Word} {s : State} : Effect (([.links, .present, .seq, .mem, .pages, .pwr, .clk, .ax, .drv, .coil, .watch, .fb, .fbx, .gear, .cam, .ptlRun] : List Part) ++ ([.hif, .posted] : List Part)) s (State.imageKeepOff w s) := by
  unfold State.imageKeepOff
  refine Effect.forAll (fun a_1 t_2 => ?_) ?_
  · extract_lets off_3
    clear_value off_3
    refine ite_intro ?_ ?_
    · refine Effect.step State.ploughOff_effect (by decide) ?_
      exact Effect.refl _
    · refine ite_intro ?_ ?_
      · refine Effect.step State.ploughOn_effect (by decide) ?_
        exact Effect.refl _
      · exact Effect.refl _
  · refine Effect.step State.setCom_effect (by decide) ?_
    exact Effect.refl _

theorem State.applyRecords_effect {base : Nat} {word : Word} {s : State} : Effect (([.links, .present, .seq, .mem, .pages, .pwr, .clk, .ax, .drv, .coil, .watch, .fb, .fbx, .gear, .cam, .ptl] : List Part) ++ ([.ptlRun, .lsw, .lswx, .lswg, .stn, .hif, .recd, .cfg, .posted] : List Part)) s (State.applyRecords base word s) := by
  unfold State.applyRecords
  extract_lets c_1 dev_2 src_3 s1_4 s2_5 src_6 s3_7
  clear_value c_1
  clear_value dev_2
  have hs1_4 : Effect (([.links, .present, .seq, .mem, .pages, .pwr, .clk, .ax, .drv, .coil, .watch, .fb, .fbx, .gear, .cam, .ptl] : List Part) ++ ([.ptlRun, .lsw, .lswx, .lswg, .stn, .hif, .recd, .cfg, .posted] : List Part)) s s1_4 := by
    unfold s1_4
    refine Effect.put (x := s) ?_ (fun p hp => by cases p <;> first | exact absurd (by decide) hp | rfl) rfl ⟨rfl, rfl, rfl⟩ ⟨rfl, rfl⟩ rfl rfl
    exact Effect.refl _
  clear_value s1_4
  have hs2_5 : Effect (([.links, .present, .seq, .mem, .pages, .pwr, .clk, .ax, .drv, .coil, .watch, .fb, .fbx, .gear, .cam, .ptl] : List Part) ++ ([.ptlRun, .lsw, .lswx, .lswg, .stn, .hif, .recd, .cfg, .posted] : List Part)) s s2_5 := by
    unfold s2_5
    refine Effect.step State.imageKeepOff_effect (by decide) ?_
    assumption
  clear_value s2_5
  have hs3_7 : Effect (([.links, .present, .seq, .mem, .pages, .pwr, .clk, .ax, .drv, .coil, .watch, .fb, .fbx, .gear, .cam, .ptl] : List Part) ++ ([.ptlRun, .lsw, .lswx, .lswg, .stn, .hif, .recd, .cfg, .posted] : List Part)) s s3_7 := by
    unfold s3_7
    refine Effect.forAll (fun a_8 t_9 => ?_) ?_
    · refine Effect.step State.gateLsw_effect (by decide) ?_
      exact Effect.refl _
    · refine Effect.put (x := s2_5) ?_ (fun p hp => by cases p <;> first | exact absurd (by decide) hp | rfl) rfl ⟨rfl, rfl, rfl⟩ ⟨rfl, rfl⟩ rfl rfl
      assumption
  clear_value s3_7
  refine Effect.step State.recCommit_effect (by decide) ?_
  refine Effect.step State.setCom_effect (by decide) ?_
  assumption

theorem State.judged_effect {p : PageId} {o : Nat} {w : Word} {s : State} : EffectSnd Part.all s (State.judged p o w s) := by
  unfold State.judged
  extract_lets n_1 t_2
  clear_value n_1
  have ht_2 : Effect Part.all s t_2 := by
    unfold t_2
    refine Effect.step State.pageWrite_effect (by decide) ?_
    refine Effect.step State.modPg_effect (by decide) ?_
    exact Effect.refl _
  clear_value t_2
  refine ite_intro ?_ ?_
  · refine EffectSnd.mk ?_
    refine Effect.step State.modPg_effect (by decide) ?_
    assumption
  · refine EffectSnd.mk ?_
    refine Effect.step State.modPg_effect (by decide) ?_
    assumption

theorem pageInit_effect {l : List Part} (hl : Part.within Part.all l = true) {s : State} {r : Bool × State} {e : Nat × Nat} (h : Effect l s r.2) :
    Effect l s (pageInit r e).2 := by
  unfold pageInit
  extract_lets o w
  split
  · exact h
  · split
    · exact h
    · exact Effect.step State.judged_effect hl h

theorem State.commitAll_effect {s : State} {r : Bool × State} (h : Effect Part.all s r.2) : EffectSnd Part.all s (State.commitAll r) := by
  unfold State.commitAll
  refine Effect.foldlSnd (fun b t p => ?_) h
  show EffectSnd _ t _
  exact ite_intro State.judged_effect (Effect.refl t)

theorem State.boundaryNow_effect {s : State} : Effect (([.tb, .links, .seq, .mem, .pages, .ax, .drv, .coil, .watch, .fb, .fbx, .gear, .ptlIn, .ptlRun, .env, .envKept] : List Part) ++ ([.can, .evq, .hif, .recd, .posted] : List Part)) s (State.boundaryNow s) := by
  unfold State.boundaryNow
  split
  · rename_i z_1 z_2
    exact Effect.refl _
  · rename_i z_3 z_4
    refine Effect.forAll (fun a_5 t_6 => ?_) ?_
    · refine Effect.step State.commitNow_effect (by decide) ?_
      exact Effect.refl _
    · refine Effect.step State.to_effect (by decide) ?_
      exact Effect.refl _

theorem State.applyImage_effect {base : Nat} {word : Word} {s : State} : EffectSnd Part.all s (State.applyImage base word s) := by
  unfold State.applyImage
  extract_lets locks s1 src2 s2 l r t srct u
  have h1 : Effect Part.all s s1 := State.applyRecords_effect.mono (by decide)
  clear_value s1
  have h2 : Effect Part.all s s2 :=
    Effect.put (x := s1) h1 (fun p hp => absurd p.mem_all hp) rfl ⟨rfl, rfl, rfl⟩ ⟨rfl, rfl⟩ rfl rfl
  clear_value s2
  have hr : Effect Part.all s r.2 := by
    refine State.commitAll_effect ?_
    exact Effect.foldlSnd (fun b t e => pageInit_effect (by decide) (Effect.refl t)) h2
  clear_value r
  have ht : Effect Part.all s t := by
    unfold t
    split
    · exact Effect.step State.boundaryNow_effect (by decide) hr
    · exact hr
  clear_value t
  have hu : Effect Part.all s u :=
    Effect.put (x := t) ht (fun p hp => absurd p.mem_all hp) rfl ⟨rfl, rfl, rfl⟩ ⟨rfl, rfl⟩ rfl rfl
  clear_value u
  refine EffectSnd.mk ?_
  split
  · refine Effect.forAll (fun e v => ?_) hu
    split
    · exact State.lockPage_effect.mono (by decide)
    · exact Effect.refl v
  · exact hu

theorem State.bootFails_effect {cause : Nat} {s : State} : Effect (([.links, .seq, .mem, .pages, .mc, .ax, .drv, .coil, .watch, .fb, .gear, .cam, .ptlIn, .ptlRun, .side, .grd] : List Part) ++ ([.safe, .lsw, .lswg, .prg, .prgx, .hif, .pair, .pairx, .posted] : List Part)) s (State.bootFails cause s) := by
  unfold State.bootFails
  refine Effect.step State.causeTo_effect (by decide) ?_
  refine ite_intro ?_ ?_
  · refine Effect.step State.toConfig_effect (by decide) ?_
    exact Effect.refl _
  · exact Effect.refl _

theorem State.canBoot_effect {s : State} : Effect [.pages, .can, .posted] s (State.canBoot s) := by
  unfold State.canBoot
  extract_lets s1_1 s2_2
  have hs1_1 : Effect [.pages, .can, .posted] s s1_1 := by
    unfold s1_1
    refine Effect.step State.setCom_effect (by decide) ?_
    refine Effect.step State.setCom_effect (by decide) ?_
    exact Effect.refl _
  clear_value s1_1
  have hs2_2 : Effect [.pages, .can, .posted] s s2_2 := by
    unfold s2_2
    refine Effect.forAll (fun a_3 t_4 => ?_) ?_
    · refine ite_intro ?_ ?_
      · exact Effect.refl _
      · refine Effect.step State.canEnable_effect (by decide) ?_
        exact Effect.refl _
    · assumption
  clear_value s2_2
  refine Effect.forAll (fun a_5 t_6 => ?_) ?_
  · refine ite_intro ?_ ?_
    · refine Effect.step State.post_effect (by decide) ?_
      exact Effect.refl _
    · exact Effect.refl _
  · assumption

theorem State.holdAgain_effect {s : State} : Effect (([.links, .seq, .mem, .pages, .mc, .ax, .drv, .coil, .watch, .fb, .gear, .cam, .ptlIn, .ptlRun, .side, .grd] : List Part) ++ ([.safe, .lsw, .lswg, .prg, .prgx, .hif, .pair, .pairx, .posted] : List Part)) s (State.holdAgain s) := by
  unfold State.holdAgain
  split
  · rename_i z_1 z_2 z_3 z_4 z_5
    refine Effect.step State.toSafeHold_effect (by decide) ?_
    exact Effect.refl _
  · rename_i z_6 z_7 z_8
    exact Effect.refl _

end Sys2Proof.Machine
end

