-- ==== Sys2Proof/Laws/State.lean ====
section
/-! SUPPORT. The record updates of State, one lemma for each field and each update: no proof need unfold one. -/

namespace Sys2Proof.Machine

/-! ## Vectors -/

/-- The entry that was changed. -/
@[simp] theorem upd_self {α : Type} {n : Nat} (v : Vector α n) (i : Fin n) (f : α → α) : (upd v i f)[i] = f v[i] := by
  simp [upd]

/-- The same, by the index's number. -/
@[simp] theorem upd_self_val {α : Type} {n : Nat} (v : Vector α n) (i : Fin n) (f : α → α) : (upd v i f)[i.val] = f v[i.val] := by
  simp [upd]

/-- Any other entry. -/
theorem upd_other {α : Type} {n : Nat} (v : Vector α n) {i j : Fin n} (f : α → α) (h : j ≠ i) : (upd v i f)[j] = v[j] := by
  have k : i.val ≠ j.val := fun e => h (Fin.ext e.symm)
  simp [upd, k]

/-! ## Fields -/

@[simp] theorem State.modAx_tb (a : Fin 12) (f : Axis → Axis) (s : State) : (s.modAx a f).tb = s.tb := rfl
@[simp] theorem State.modAx_epoch (a : Fin 12) (f : Axis → Axis) (s : State) : (s.modAx a f).epoch = s.epoch := rfl
@[simp] theorem State.modAx_slept (a : Fin 12) (f : Axis → Axis) (s : State) : (s.modAx a f).slept = s.slept := rfl
@[simp] theorem State.modAx_frac (a : Fin 12) (f : Axis → Axis) (s : State) : (s.modAx a f).frac = s.frac := rfl
@[simp] theorem State.modAx_period (a : Fin 12) (f : Axis → Axis) (s : State) : (s.modAx a f).period = s.period := rfl
@[simp] theorem State.modAx_links (a : Fin 12) (f : Axis → Axis) (s : State) : (s.modAx a f).links = s.links := rfl
@[simp] theorem State.modAx_present (a : Fin 12) (f : Axis → Axis) (s : State) : (s.modAx a f).present = s.present := rfl
@[simp] theorem State.modAx_lost (a : Fin 12) (f : Axis → Axis) (s : State) : (s.modAx a f).lost = s.lost := rfl
@[simp] theorem State.modAx_seq (a : Fin 12) (f : Axis → Axis) (s : State) : (s.modAx a f).seq = s.seq := rfl
@[simp] theorem State.modAx_mem (a : Fin 12) (f : Axis → Axis) (s : State) : (s.modAx a f).mem = s.mem := rfl
@[simp] theorem State.modAx_pages (a : Fin 12) (f : Axis → Axis) (s : State) : (s.modAx a f).pages = s.pages := rfl
@[simp] theorem State.modAx_pwr (a : Fin 12) (f : Axis → Axis) (s : State) : (s.modAx a f).pwr = s.pwr := rfl
@[simp] theorem State.modAx_clk (a : Fin 12) (f : Axis → Axis) (s : State) : (s.modAx a f).clk = s.clk := rfl
@[simp] theorem State.modAx_rst (a : Fin 12) (f : Axis → Axis) (s : State) : (s.modAx a f).rst = s.rst := rfl
@[simp] theorem State.modAx_boot (a : Fin 12) (f : Axis → Axis) (s : State) : (s.modAx a f).boot = s.boot := rfl
@[simp] theorem State.modAx_mc (a : Fin 12) (f : Axis → Axis) (s : State) : (s.modAx a f).mc = s.mc := rfl
@[simp] theorem State.modAx_ax (a : Fin 12) (f : Axis → Axis) (s : State) : (s.modAx a f).ax = upd s.ax a f := rfl
@[simp] theorem State.modAx_drv (a : Fin 12) (f : Axis → Axis) (s : State) : (s.modAx a f).drv = s.drv := rfl
@[simp] theorem State.modAx_coil (a : Fin 12) (f : Axis → Axis) (s : State) : (s.modAx a f).coil = s.coil := rfl
@[simp] theorem State.modAx_watch (a : Fin 12) (f : Axis → Axis) (s : State) : (s.modAx a f).watch = s.watch := rfl
@[simp] theorem State.modAx_fb (a : Fin 12) (f : Axis → Axis) (s : State) : (s.modAx a f).fb = s.fb := rfl
@[simp] theorem State.modAx_fbx (a : Fin 12) (f : Axis → Axis) (s : State) : (s.modAx a f).fbx = s.fbx := rfl
@[simp] theorem State.modAx_din (a : Fin 12) (f : Axis → Axis) (s : State) : (s.modAx a f).din = s.din := rfl
@[simp] theorem State.modAx_gear (a : Fin 12) (f : Axis → Axis) (s : State) : (s.modAx a f).gear = s.gear := rfl
@[simp] theorem State.modAx_cam (a : Fin 12) (f : Axis → Axis) (s : State) : (s.modAx a f).cam = s.cam := rfl
@[simp] theorem State.modAx_ptl (a : Fin 12) (f : Axis → Axis) (s : State) : (s.modAx a f).ptl = s.ptl := rfl
@[simp] theorem State.modAx_ptlIn (a : Fin 12) (f : Axis → Axis) (s : State) : (s.modAx a f).ptlIn = s.ptlIn := rfl
@[simp] theorem State.modAx_ptlRun (a : Fin 12) (f : Axis → Axis) (s : State) : (s.modAx a f).ptlRun = s.ptlRun := rfl
@[simp] theorem State.modAx_cyc (a : Fin 12) (f : Axis → Axis) (s : State) : (s.modAx a f).cyc = s.cyc := rfl
@[simp] theorem State.modAx_cycEnd (a : Fin 12) (f : Axis → Axis) (s : State) : (s.modAx a f).cycEnd = s.cycEnd := rfl
@[simp] theorem State.modAx_doorAt (a : Fin 12) (f : Axis → Axis) (s : State) : (s.modAx a f).doorAt = s.doorAt := rfl
@[simp] theorem State.modAx_env (a : Fin 12) (f : Axis → Axis) (s : State) : (s.modAx a f).env = s.env := rfl
@[simp] theorem State.modAx_envKept (a : Fin 12) (f : Axis → Axis) (s : State) : (s.modAx a f).envKept = s.envKept := rfl
@[simp] theorem State.modAx_edges (a : Fin 12) (f : Axis → Axis) (s : State) : (s.modAx a f).edges = s.edges := rfl
@[simp] theorem State.modAx_side (a : Fin 12) (f : Axis → Axis) (s : State) : (s.modAx a f).side = s.side := rfl
@[simp] theorem State.modAx_grd (a : Fin 12) (f : Axis → Axis) (s : State) : (s.modAx a f).grd = s.grd := rfl
@[simp] theorem State.modAx_sbx (a : Fin 12) (f : Axis → Axis) (s : State) : (s.modAx a f).sbx = s.sbx := rfl
@[simp] theorem State.modAx_safe (a : Fin 12) (f : Axis → Axis) (s : State) : (s.modAx a f).safe = s.safe := rfl
@[simp] theorem State.modAx_lsw (a : Fin 12) (f : Axis → Axis) (s : State) : (s.modAx a f).lsw = s.lsw := rfl
@[simp] theorem State.modAx_lswx (a : Fin 12) (f : Axis → Axis) (s : State) : (s.modAx a f).lswx = s.lswx := rfl
@[simp] theorem State.modAx_lswg (a : Fin 12) (f : Axis → Axis) (s : State) : (s.modAx a f).lswg = s.lswg := rfl
@[simp] theorem State.modAx_can (a : Fin 12) (f : Axis → Axis) (s : State) : (s.modAx a f).can = s.can := rfl
@[simp] theorem State.modAx_canc (a : Fin 12) (f : Axis → Axis) (s : State) : (s.modAx a f).canc = s.canc := rfl
@[simp] theorem State.modAx_stn (a : Fin 12) (f : Axis → Axis) (s : State) : (s.modAx a f).stn = s.stn := rfl
@[simp] theorem State.modAx_prg (a : Fin 12) (f : Axis → Axis) (s : State) : (s.modAx a f).prg = s.prg := rfl
@[simp] theorem State.modAx_prgx (a : Fin 12) (f : Axis → Axis) (s : State) : (s.modAx a f).prgx = s.prgx := rfl
@[simp] theorem State.modAx_evq (a : Fin 12) (f : Axis → Axis) (s : State) : (s.modAx a f).evq = s.evq := rfl
@[simp] theorem State.modAx_hif (a : Fin 12) (f : Axis → Axis) (s : State) : (s.modAx a f).hif = s.hif := rfl
@[simp] theorem State.modAx_hspi (a : Fin 12) (f : Axis → Axis) (s : State) : (s.modAx a f).hspi = s.hspi := rfl
@[simp] theorem State.modAx_recd (a : Fin 12) (f : Axis → Axis) (s : State) : (s.modAx a f).recd = s.recd := rfl
@[simp] theorem State.modAx_stat (a : Fin 12) (f : Axis → Axis) (s : State) : (s.modAx a f).stat = s.stat := rfl
@[simp] theorem State.modAx_pair (a : Fin 12) (f : Axis → Axis) (s : State) : (s.modAx a f).pair = s.pair := rfl
@[simp] theorem State.modAx_pairx (a : Fin 12) (f : Axis → Axis) (s : State) : (s.modAx a f).pairx = s.pairx := rfl
@[simp] theorem State.modAx_fuses (a : Fin 12) (f : Axis → Axis) (s : State) : (s.modAx a f).fuses = s.fuses := rfl
@[simp] theorem State.modAx_sec (a : Fin 12) (f : Axis → Axis) (s : State) : (s.modAx a f).sec = s.sec := rfl
@[simp] theorem State.modAx_cfg (a : Fin 12) (f : Axis → Axis) (s : State) : (s.modAx a f).cfg = s.cfg := rfl
@[simp] theorem State.modAx_posted (a : Fin 12) (f : Axis → Axis) (s : State) : (s.modAx a f).posted = s.posted := rfl
@[simp] theorem State.modAx_fresh (a : Fin 12) (f : Axis → Axis) (s : State) : (s.modAx a f).fresh = s.fresh := rfl
@[simp] theorem State.modAx_pending (a : Fin 12) (f : Axis → Axis) (s : State) : (s.modAx a f).pending = s.pending := rfl

@[simp] theorem State.modDrv_tb (a : Fin 12) (f : Drive → Drive) (s : State) : (s.modDrv a f).tb = s.tb := rfl
@[simp] theorem State.modDrv_epoch (a : Fin 12) (f : Drive → Drive) (s : State) : (s.modDrv a f).epoch = s.epoch := rfl
@[simp] theorem State.modDrv_slept (a : Fin 12) (f : Drive → Drive) (s : State) : (s.modDrv a f).slept = s.slept := rfl
@[simp] theorem State.modDrv_frac (a : Fin 12) (f : Drive → Drive) (s : State) : (s.modDrv a f).frac = s.frac := rfl
@[simp] theorem State.modDrv_period (a : Fin 12) (f : Drive → Drive) (s : State) : (s.modDrv a f).period = s.period := rfl
@[simp] theorem State.modDrv_links (a : Fin 12) (f : Drive → Drive) (s : State) : (s.modDrv a f).links = s.links := rfl
@[simp] theorem State.modDrv_present (a : Fin 12) (f : Drive → Drive) (s : State) : (s.modDrv a f).present = s.present := rfl
@[simp] theorem State.modDrv_lost (a : Fin 12) (f : Drive → Drive) (s : State) : (s.modDrv a f).lost = s.lost := rfl
@[simp] theorem State.modDrv_seq (a : Fin 12) (f : Drive → Drive) (s : State) : (s.modDrv a f).seq = s.seq := rfl
@[simp] theorem State.modDrv_mem (a : Fin 12) (f : Drive → Drive) (s : State) : (s.modDrv a f).mem = s.mem := rfl
@[simp] theorem State.modDrv_pages (a : Fin 12) (f : Drive → Drive) (s : State) : (s.modDrv a f).pages = s.pages := rfl
@[simp] theorem State.modDrv_pwr (a : Fin 12) (f : Drive → Drive) (s : State) : (s.modDrv a f).pwr = s.pwr := rfl
@[simp] theorem State.modDrv_clk (a : Fin 12) (f : Drive → Drive) (s : State) : (s.modDrv a f).clk = s.clk := rfl
@[simp] theorem State.modDrv_rst (a : Fin 12) (f : Drive → Drive) (s : State) : (s.modDrv a f).rst = s.rst := rfl
@[simp] theorem State.modDrv_boot (a : Fin 12) (f : Drive → Drive) (s : State) : (s.modDrv a f).boot = s.boot := rfl
@[simp] theorem State.modDrv_mc (a : Fin 12) (f : Drive → Drive) (s : State) : (s.modDrv a f).mc = s.mc := rfl
@[simp] theorem State.modDrv_ax (a : Fin 12) (f : Drive → Drive) (s : State) : (s.modDrv a f).ax = s.ax := rfl
@[simp] theorem State.modDrv_drv (a : Fin 12) (f : Drive → Drive) (s : State) : (s.modDrv a f).drv = upd s.drv a f := rfl
@[simp] theorem State.modDrv_coil (a : Fin 12) (f : Drive → Drive) (s : State) : (s.modDrv a f).coil = s.coil := rfl
@[simp] theorem State.modDrv_watch (a : Fin 12) (f : Drive → Drive) (s : State) : (s.modDrv a f).watch = s.watch := rfl
@[simp] theorem State.modDrv_fb (a : Fin 12) (f : Drive → Drive) (s : State) : (s.modDrv a f).fb = s.fb := rfl
@[simp] theorem State.modDrv_fbx (a : Fin 12) (f : Drive → Drive) (s : State) : (s.modDrv a f).fbx = s.fbx := rfl
@[simp] theorem State.modDrv_din (a : Fin 12) (f : Drive → Drive) (s : State) : (s.modDrv a f).din = s.din := rfl
@[simp] theorem State.modDrv_gear (a : Fin 12) (f : Drive → Drive) (s : State) : (s.modDrv a f).gear = s.gear := rfl
@[simp] theorem State.modDrv_cam (a : Fin 12) (f : Drive → Drive) (s : State) : (s.modDrv a f).cam = s.cam := rfl
@[simp] theorem State.modDrv_ptl (a : Fin 12) (f : Drive → Drive) (s : State) : (s.modDrv a f).ptl = s.ptl := rfl
@[simp] theorem State.modDrv_ptlIn (a : Fin 12) (f : Drive → Drive) (s : State) : (s.modDrv a f).ptlIn = s.ptlIn := rfl
@[simp] theorem State.modDrv_ptlRun (a : Fin 12) (f : Drive → Drive) (s : State) : (s.modDrv a f).ptlRun = s.ptlRun := rfl
@[simp] theorem State.modDrv_cyc (a : Fin 12) (f : Drive → Drive) (s : State) : (s.modDrv a f).cyc = s.cyc := rfl
@[simp] theorem State.modDrv_cycEnd (a : Fin 12) (f : Drive → Drive) (s : State) : (s.modDrv a f).cycEnd = s.cycEnd := rfl
@[simp] theorem State.modDrv_doorAt (a : Fin 12) (f : Drive → Drive) (s : State) : (s.modDrv a f).doorAt = s.doorAt := rfl
@[simp] theorem State.modDrv_env (a : Fin 12) (f : Drive → Drive) (s : State) : (s.modDrv a f).env = s.env := rfl
@[simp] theorem State.modDrv_envKept (a : Fin 12) (f : Drive → Drive) (s : State) : (s.modDrv a f).envKept = s.envKept := rfl
@[simp] theorem State.modDrv_edges (a : Fin 12) (f : Drive → Drive) (s : State) : (s.modDrv a f).edges = s.edges := rfl
@[simp] theorem State.modDrv_side (a : Fin 12) (f : Drive → Drive) (s : State) : (s.modDrv a f).side = s.side := rfl
@[simp] theorem State.modDrv_grd (a : Fin 12) (f : Drive → Drive) (s : State) : (s.modDrv a f).grd = s.grd := rfl
@[simp] theorem State.modDrv_sbx (a : Fin 12) (f : Drive → Drive) (s : State) : (s.modDrv a f).sbx = s.sbx := rfl
@[simp] theorem State.modDrv_safe (a : Fin 12) (f : Drive → Drive) (s : State) : (s.modDrv a f).safe = s.safe := rfl
@[simp] theorem State.modDrv_lsw (a : Fin 12) (f : Drive → Drive) (s : State) : (s.modDrv a f).lsw = s.lsw := rfl
@[simp] theorem State.modDrv_lswx (a : Fin 12) (f : Drive → Drive) (s : State) : (s.modDrv a f).lswx = s.lswx := rfl
@[simp] theorem State.modDrv_lswg (a : Fin 12) (f : Drive → Drive) (s : State) : (s.modDrv a f).lswg = s.lswg := rfl
@[simp] theorem State.modDrv_can (a : Fin 12) (f : Drive → Drive) (s : State) : (s.modDrv a f).can = s.can := rfl
@[simp] theorem State.modDrv_canc (a : Fin 12) (f : Drive → Drive) (s : State) : (s.modDrv a f).canc = s.canc := rfl
@[simp] theorem State.modDrv_stn (a : Fin 12) (f : Drive → Drive) (s : State) : (s.modDrv a f).stn = s.stn := rfl
@[simp] theorem State.modDrv_prg (a : Fin 12) (f : Drive → Drive) (s : State) : (s.modDrv a f).prg = s.prg := rfl
@[simp] theorem State.modDrv_prgx (a : Fin 12) (f : Drive → Drive) (s : State) : (s.modDrv a f).prgx = s.prgx := rfl
@[simp] theorem State.modDrv_evq (a : Fin 12) (f : Drive → Drive) (s : State) : (s.modDrv a f).evq = s.evq := rfl
@[simp] theorem State.modDrv_hif (a : Fin 12) (f : Drive → Drive) (s : State) : (s.modDrv a f).hif = s.hif := rfl
@[simp] theorem State.modDrv_hspi (a : Fin 12) (f : Drive → Drive) (s : State) : (s.modDrv a f).hspi = s.hspi := rfl
@[simp] theorem State.modDrv_recd (a : Fin 12) (f : Drive → Drive) (s : State) : (s.modDrv a f).recd = s.recd := rfl
@[simp] theorem State.modDrv_stat (a : Fin 12) (f : Drive → Drive) (s : State) : (s.modDrv a f).stat = s.stat := rfl
@[simp] theorem State.modDrv_pair (a : Fin 12) (f : Drive → Drive) (s : State) : (s.modDrv a f).pair = s.pair := rfl
@[simp] theorem State.modDrv_pairx (a : Fin 12) (f : Drive → Drive) (s : State) : (s.modDrv a f).pairx = s.pairx := rfl
@[simp] theorem State.modDrv_fuses (a : Fin 12) (f : Drive → Drive) (s : State) : (s.modDrv a f).fuses = s.fuses := rfl
@[simp] theorem State.modDrv_sec (a : Fin 12) (f : Drive → Drive) (s : State) : (s.modDrv a f).sec = s.sec := rfl
@[simp] theorem State.modDrv_cfg (a : Fin 12) (f : Drive → Drive) (s : State) : (s.modDrv a f).cfg = s.cfg := rfl
@[simp] theorem State.modDrv_posted (a : Fin 12) (f : Drive → Drive) (s : State) : (s.modDrv a f).posted = s.posted := rfl
@[simp] theorem State.modDrv_fresh (a : Fin 12) (f : Drive → Drive) (s : State) : (s.modDrv a f).fresh = s.fresh := rfl
@[simp] theorem State.modDrv_pending (a : Fin 12) (f : Drive → Drive) (s : State) : (s.modDrv a f).pending = s.pending := rfl

@[simp] theorem State.modCoil_tb (a : Fin 12) (f : Coils → Coils) (s : State) : (s.modCoil a f).tb = s.tb := rfl
@[simp] theorem State.modCoil_epoch (a : Fin 12) (f : Coils → Coils) (s : State) : (s.modCoil a f).epoch = s.epoch := rfl
@[simp] theorem State.modCoil_slept (a : Fin 12) (f : Coils → Coils) (s : State) : (s.modCoil a f).slept = s.slept := rfl
@[simp] theorem State.modCoil_frac (a : Fin 12) (f : Coils → Coils) (s : State) : (s.modCoil a f).frac = s.frac := rfl
@[simp] theorem State.modCoil_period (a : Fin 12) (f : Coils → Coils) (s : State) : (s.modCoil a f).period = s.period := rfl
@[simp] theorem State.modCoil_links (a : Fin 12) (f : Coils → Coils) (s : State) : (s.modCoil a f).links = s.links := rfl
@[simp] theorem State.modCoil_present (a : Fin 12) (f : Coils → Coils) (s : State) : (s.modCoil a f).present = s.present := rfl
@[simp] theorem State.modCoil_lost (a : Fin 12) (f : Coils → Coils) (s : State) : (s.modCoil a f).lost = s.lost := rfl
@[simp] theorem State.modCoil_seq (a : Fin 12) (f : Coils → Coils) (s : State) : (s.modCoil a f).seq = s.seq := rfl
@[simp] theorem State.modCoil_mem (a : Fin 12) (f : Coils → Coils) (s : State) : (s.modCoil a f).mem = s.mem := rfl
@[simp] theorem State.modCoil_pages (a : Fin 12) (f : Coils → Coils) (s : State) : (s.modCoil a f).pages = s.pages := rfl
@[simp] theorem State.modCoil_pwr (a : Fin 12) (f : Coils → Coils) (s : State) : (s.modCoil a f).pwr = s.pwr := rfl
@[simp] theorem State.modCoil_clk (a : Fin 12) (f : Coils → Coils) (s : State) : (s.modCoil a f).clk = s.clk := rfl
@[simp] theorem State.modCoil_rst (a : Fin 12) (f : Coils → Coils) (s : State) : (s.modCoil a f).rst = s.rst := rfl
@[simp] theorem State.modCoil_boot (a : Fin 12) (f : Coils → Coils) (s : State) : (s.modCoil a f).boot = s.boot := rfl
@[simp] theorem State.modCoil_mc (a : Fin 12) (f : Coils → Coils) (s : State) : (s.modCoil a f).mc = s.mc := rfl
@[simp] theorem State.modCoil_ax (a : Fin 12) (f : Coils → Coils) (s : State) : (s.modCoil a f).ax = s.ax := rfl
@[simp] theorem State.modCoil_drv (a : Fin 12) (f : Coils → Coils) (s : State) : (s.modCoil a f).drv = s.drv := rfl
@[simp] theorem State.modCoil_coil (a : Fin 12) (f : Coils → Coils) (s : State) : (s.modCoil a f).coil = upd s.coil a f := rfl
@[simp] theorem State.modCoil_watch (a : Fin 12) (f : Coils → Coils) (s : State) : (s.modCoil a f).watch = s.watch := rfl
@[simp] theorem State.modCoil_fb (a : Fin 12) (f : Coils → Coils) (s : State) : (s.modCoil a f).fb = s.fb := rfl
@[simp] theorem State.modCoil_fbx (a : Fin 12) (f : Coils → Coils) (s : State) : (s.modCoil a f).fbx = s.fbx := rfl
@[simp] theorem State.modCoil_din (a : Fin 12) (f : Coils → Coils) (s : State) : (s.modCoil a f).din = s.din := rfl
@[simp] theorem State.modCoil_gear (a : Fin 12) (f : Coils → Coils) (s : State) : (s.modCoil a f).gear = s.gear := rfl
@[simp] theorem State.modCoil_cam (a : Fin 12) (f : Coils → Coils) (s : State) : (s.modCoil a f).cam = s.cam := rfl
@[simp] theorem State.modCoil_ptl (a : Fin 12) (f : Coils → Coils) (s : State) : (s.modCoil a f).ptl = s.ptl := rfl
@[simp] theorem State.modCoil_ptlIn (a : Fin 12) (f : Coils → Coils) (s : State) : (s.modCoil a f).ptlIn = s.ptlIn := rfl
@[simp] theorem State.modCoil_ptlRun (a : Fin 12) (f : Coils → Coils) (s : State) : (s.modCoil a f).ptlRun = s.ptlRun := rfl
@[simp] theorem State.modCoil_cyc (a : Fin 12) (f : Coils → Coils) (s : State) : (s.modCoil a f).cyc = s.cyc := rfl
@[simp] theorem State.modCoil_cycEnd (a : Fin 12) (f : Coils → Coils) (s : State) : (s.modCoil a f).cycEnd = s.cycEnd := rfl
@[simp] theorem State.modCoil_doorAt (a : Fin 12) (f : Coils → Coils) (s : State) : (s.modCoil a f).doorAt = s.doorAt := rfl
@[simp] theorem State.modCoil_env (a : Fin 12) (f : Coils → Coils) (s : State) : (s.modCoil a f).env = s.env := rfl
@[simp] theorem State.modCoil_envKept (a : Fin 12) (f : Coils → Coils) (s : State) : (s.modCoil a f).envKept = s.envKept := rfl
@[simp] theorem State.modCoil_edges (a : Fin 12) (f : Coils → Coils) (s : State) : (s.modCoil a f).edges = s.edges := rfl
@[simp] theorem State.modCoil_side (a : Fin 12) (f : Coils → Coils) (s : State) : (s.modCoil a f).side = s.side := rfl
@[simp] theorem State.modCoil_grd (a : Fin 12) (f : Coils → Coils) (s : State) : (s.modCoil a f).grd = s.grd := rfl
@[simp] theorem State.modCoil_sbx (a : Fin 12) (f : Coils → Coils) (s : State) : (s.modCoil a f).sbx = s.sbx := rfl
@[simp] theorem State.modCoil_safe (a : Fin 12) (f : Coils → Coils) (s : State) : (s.modCoil a f).safe = s.safe := rfl
@[simp] theorem State.modCoil_lsw (a : Fin 12) (f : Coils → Coils) (s : State) : (s.modCoil a f).lsw = s.lsw := rfl
@[simp] theorem State.modCoil_lswx (a : Fin 12) (f : Coils → Coils) (s : State) : (s.modCoil a f).lswx = s.lswx := rfl
@[simp] theorem State.modCoil_lswg (a : Fin 12) (f : Coils → Coils) (s : State) : (s.modCoil a f).lswg = s.lswg := rfl
@[simp] theorem State.modCoil_can (a : Fin 12) (f : Coils → Coils) (s : State) : (s.modCoil a f).can = s.can := rfl
@[simp] theorem State.modCoil_canc (a : Fin 12) (f : Coils → Coils) (s : State) : (s.modCoil a f).canc = s.canc := rfl
@[simp] theorem State.modCoil_stn (a : Fin 12) (f : Coils → Coils) (s : State) : (s.modCoil a f).stn = s.stn := rfl
@[simp] theorem State.modCoil_prg (a : Fin 12) (f : Coils → Coils) (s : State) : (s.modCoil a f).prg = s.prg := rfl
@[simp] theorem State.modCoil_prgx (a : Fin 12) (f : Coils → Coils) (s : State) : (s.modCoil a f).prgx = s.prgx := rfl
@[simp] theorem State.modCoil_evq (a : Fin 12) (f : Coils → Coils) (s : State) : (s.modCoil a f).evq = s.evq := rfl
@[simp] theorem State.modCoil_hif (a : Fin 12) (f : Coils → Coils) (s : State) : (s.modCoil a f).hif = s.hif := rfl
@[simp] theorem State.modCoil_hspi (a : Fin 12) (f : Coils → Coils) (s : State) : (s.modCoil a f).hspi = s.hspi := rfl
@[simp] theorem State.modCoil_recd (a : Fin 12) (f : Coils → Coils) (s : State) : (s.modCoil a f).recd = s.recd := rfl
@[simp] theorem State.modCoil_stat (a : Fin 12) (f : Coils → Coils) (s : State) : (s.modCoil a f).stat = s.stat := rfl
@[simp] theorem State.modCoil_pair (a : Fin 12) (f : Coils → Coils) (s : State) : (s.modCoil a f).pair = s.pair := rfl
@[simp] theorem State.modCoil_pairx (a : Fin 12) (f : Coils → Coils) (s : State) : (s.modCoil a f).pairx = s.pairx := rfl
@[simp] theorem State.modCoil_fuses (a : Fin 12) (f : Coils → Coils) (s : State) : (s.modCoil a f).fuses = s.fuses := rfl
@[simp] theorem State.modCoil_sec (a : Fin 12) (f : Coils → Coils) (s : State) : (s.modCoil a f).sec = s.sec := rfl
@[simp] theorem State.modCoil_cfg (a : Fin 12) (f : Coils → Coils) (s : State) : (s.modCoil a f).cfg = s.cfg := rfl
@[simp] theorem State.modCoil_posted (a : Fin 12) (f : Coils → Coils) (s : State) : (s.modCoil a f).posted = s.posted := rfl
@[simp] theorem State.modCoil_fresh (a : Fin 12) (f : Coils → Coils) (s : State) : (s.modCoil a f).fresh = s.fresh := rfl
@[simp] theorem State.modCoil_pending (a : Fin 12) (f : Coils → Coils) (s : State) : (s.modCoil a f).pending = s.pending := rfl

@[simp] theorem State.modWatch_tb (a : Fin 12) (f : Watch → Watch) (s : State) : (s.modWatch a f).tb = s.tb := rfl
@[simp] theorem State.modWatch_epoch (a : Fin 12) (f : Watch → Watch) (s : State) : (s.modWatch a f).epoch = s.epoch := rfl
@[simp] theorem State.modWatch_slept (a : Fin 12) (f : Watch → Watch) (s : State) : (s.modWatch a f).slept = s.slept := rfl
@[simp] theorem State.modWatch_frac (a : Fin 12) (f : Watch → Watch) (s : State) : (s.modWatch a f).frac = s.frac := rfl
@[simp] theorem State.modWatch_period (a : Fin 12) (f : Watch → Watch) (s : State) : (s.modWatch a f).period = s.period := rfl
@[simp] theorem State.modWatch_links (a : Fin 12) (f : Watch → Watch) (s : State) : (s.modWatch a f).links = s.links := rfl
@[simp] theorem State.modWatch_present (a : Fin 12) (f : Watch → Watch) (s : State) : (s.modWatch a f).present = s.present := rfl
@[simp] theorem State.modWatch_lost (a : Fin 12) (f : Watch → Watch) (s : State) : (s.modWatch a f).lost = s.lost := rfl
@[simp] theorem State.modWatch_seq (a : Fin 12) (f : Watch → Watch) (s : State) : (s.modWatch a f).seq = s.seq := rfl
@[simp] theorem State.modWatch_mem (a : Fin 12) (f : Watch → Watch) (s : State) : (s.modWatch a f).mem = s.mem := rfl
@[simp] theorem State.modWatch_pages (a : Fin 12) (f : Watch → Watch) (s : State) : (s.modWatch a f).pages = s.pages := rfl
@[simp] theorem State.modWatch_pwr (a : Fin 12) (f : Watch → Watch) (s : State) : (s.modWatch a f).pwr = s.pwr := rfl
@[simp] theorem State.modWatch_clk (a : Fin 12) (f : Watch → Watch) (s : State) : (s.modWatch a f).clk = s.clk := rfl
@[simp] theorem State.modWatch_rst (a : Fin 12) (f : Watch → Watch) (s : State) : (s.modWatch a f).rst = s.rst := rfl
@[simp] theorem State.modWatch_boot (a : Fin 12) (f : Watch → Watch) (s : State) : (s.modWatch a f).boot = s.boot := rfl
@[simp] theorem State.modWatch_mc (a : Fin 12) (f : Watch → Watch) (s : State) : (s.modWatch a f).mc = s.mc := rfl
@[simp] theorem State.modWatch_ax (a : Fin 12) (f : Watch → Watch) (s : State) : (s.modWatch a f).ax = s.ax := rfl
@[simp] theorem State.modWatch_drv (a : Fin 12) (f : Watch → Watch) (s : State) : (s.modWatch a f).drv = s.drv := rfl
@[simp] theorem State.modWatch_coil (a : Fin 12) (f : Watch → Watch) (s : State) : (s.modWatch a f).coil = s.coil := rfl
@[simp] theorem State.modWatch_watch (a : Fin 12) (f : Watch → Watch) (s : State) : (s.modWatch a f).watch = upd s.watch a f := rfl
@[simp] theorem State.modWatch_fb (a : Fin 12) (f : Watch → Watch) (s : State) : (s.modWatch a f).fb = s.fb := rfl
@[simp] theorem State.modWatch_fbx (a : Fin 12) (f : Watch → Watch) (s : State) : (s.modWatch a f).fbx = s.fbx := rfl
@[simp] theorem State.modWatch_din (a : Fin 12) (f : Watch → Watch) (s : State) : (s.modWatch a f).din = s.din := rfl
@[simp] theorem State.modWatch_gear (a : Fin 12) (f : Watch → Watch) (s : State) : (s.modWatch a f).gear = s.gear := rfl
@[simp] theorem State.modWatch_cam (a : Fin 12) (f : Watch → Watch) (s : State) : (s.modWatch a f).cam = s.cam := rfl
@[simp] theorem State.modWatch_ptl (a : Fin 12) (f : Watch → Watch) (s : State) : (s.modWatch a f).ptl = s.ptl := rfl
@[simp] theorem State.modWatch_ptlIn (a : Fin 12) (f : Watch → Watch) (s : State) : (s.modWatch a f).ptlIn = s.ptlIn := rfl
@[simp] theorem State.modWatch_ptlRun (a : Fin 12) (f : Watch → Watch) (s : State) : (s.modWatch a f).ptlRun = s.ptlRun := rfl
@[simp] theorem State.modWatch_cyc (a : Fin 12) (f : Watch → Watch) (s : State) : (s.modWatch a f).cyc = s.cyc := rfl
@[simp] theorem State.modWatch_cycEnd (a : Fin 12) (f : Watch → Watch) (s : State) : (s.modWatch a f).cycEnd = s.cycEnd := rfl
@[simp] theorem State.modWatch_doorAt (a : Fin 12) (f : Watch → Watch) (s : State) : (s.modWatch a f).doorAt = s.doorAt := rfl
@[simp] theorem State.modWatch_env (a : Fin 12) (f : Watch → Watch) (s : State) : (s.modWatch a f).env = s.env := rfl
@[simp] theorem State.modWatch_envKept (a : Fin 12) (f : Watch → Watch) (s : State) : (s.modWatch a f).envKept = s.envKept := rfl
@[simp] theorem State.modWatch_edges (a : Fin 12) (f : Watch → Watch) (s : State) : (s.modWatch a f).edges = s.edges := rfl
@[simp] theorem State.modWatch_side (a : Fin 12) (f : Watch → Watch) (s : State) : (s.modWatch a f).side = s.side := rfl
@[simp] theorem State.modWatch_grd (a : Fin 12) (f : Watch → Watch) (s : State) : (s.modWatch a f).grd = s.grd := rfl
@[simp] theorem State.modWatch_sbx (a : Fin 12) (f : Watch → Watch) (s : State) : (s.modWatch a f).sbx = s.sbx := rfl
@[simp] theorem State.modWatch_safe (a : Fin 12) (f : Watch → Watch) (s : State) : (s.modWatch a f).safe = s.safe := rfl
@[simp] theorem State.modWatch_lsw (a : Fin 12) (f : Watch → Watch) (s : State) : (s.modWatch a f).lsw = s.lsw := rfl
@[simp] theorem State.modWatch_lswx (a : Fin 12) (f : Watch → Watch) (s : State) : (s.modWatch a f).lswx = s.lswx := rfl
@[simp] theorem State.modWatch_lswg (a : Fin 12) (f : Watch → Watch) (s : State) : (s.modWatch a f).lswg = s.lswg := rfl
@[simp] theorem State.modWatch_can (a : Fin 12) (f : Watch → Watch) (s : State) : (s.modWatch a f).can = s.can := rfl
@[simp] theorem State.modWatch_canc (a : Fin 12) (f : Watch → Watch) (s : State) : (s.modWatch a f).canc = s.canc := rfl
@[simp] theorem State.modWatch_stn (a : Fin 12) (f : Watch → Watch) (s : State) : (s.modWatch a f).stn = s.stn := rfl
@[simp] theorem State.modWatch_prg (a : Fin 12) (f : Watch → Watch) (s : State) : (s.modWatch a f).prg = s.prg := rfl
@[simp] theorem State.modWatch_prgx (a : Fin 12) (f : Watch → Watch) (s : State) : (s.modWatch a f).prgx = s.prgx := rfl
@[simp] theorem State.modWatch_evq (a : Fin 12) (f : Watch → Watch) (s : State) : (s.modWatch a f).evq = s.evq := rfl
@[simp] theorem State.modWatch_hif (a : Fin 12) (f : Watch → Watch) (s : State) : (s.modWatch a f).hif = s.hif := rfl
@[simp] theorem State.modWatch_hspi (a : Fin 12) (f : Watch → Watch) (s : State) : (s.modWatch a f).hspi = s.hspi := rfl
@[simp] theorem State.modWatch_recd (a : Fin 12) (f : Watch → Watch) (s : State) : (s.modWatch a f).recd = s.recd := rfl
@[simp] theorem State.modWatch_stat (a : Fin 12) (f : Watch → Watch) (s : State) : (s.modWatch a f).stat = s.stat := rfl
@[simp] theorem State.modWatch_pair (a : Fin 12) (f : Watch → Watch) (s : State) : (s.modWatch a f).pair = s.pair := rfl
@[simp] theorem State.modWatch_pairx (a : Fin 12) (f : Watch → Watch) (s : State) : (s.modWatch a f).pairx = s.pairx := rfl
@[simp] theorem State.modWatch_fuses (a : Fin 12) (f : Watch → Watch) (s : State) : (s.modWatch a f).fuses = s.fuses := rfl
@[simp] theorem State.modWatch_sec (a : Fin 12) (f : Watch → Watch) (s : State) : (s.modWatch a f).sec = s.sec := rfl
@[simp] theorem State.modWatch_cfg (a : Fin 12) (f : Watch → Watch) (s : State) : (s.modWatch a f).cfg = s.cfg := rfl
@[simp] theorem State.modWatch_posted (a : Fin 12) (f : Watch → Watch) (s : State) : (s.modWatch a f).posted = s.posted := rfl
@[simp] theorem State.modWatch_fresh (a : Fin 12) (f : Watch → Watch) (s : State) : (s.modWatch a f).fresh = s.fresh := rfl
@[simp] theorem State.modWatch_pending (a : Fin 12) (f : Watch → Watch) (s : State) : (s.modWatch a f).pending = s.pending := rfl

@[simp] theorem State.modCan_tb (n : Fin 4) (f : Can → Can) (s : State) : (s.modCan n f).tb = s.tb := rfl
@[simp] theorem State.modCan_epoch (n : Fin 4) (f : Can → Can) (s : State) : (s.modCan n f).epoch = s.epoch := rfl
@[simp] theorem State.modCan_slept (n : Fin 4) (f : Can → Can) (s : State) : (s.modCan n f).slept = s.slept := rfl
@[simp] theorem State.modCan_frac (n : Fin 4) (f : Can → Can) (s : State) : (s.modCan n f).frac = s.frac := rfl
@[simp] theorem State.modCan_period (n : Fin 4) (f : Can → Can) (s : State) : (s.modCan n f).period = s.period := rfl
@[simp] theorem State.modCan_links (n : Fin 4) (f : Can → Can) (s : State) : (s.modCan n f).links = s.links := rfl
@[simp] theorem State.modCan_present (n : Fin 4) (f : Can → Can) (s : State) : (s.modCan n f).present = s.present := rfl
@[simp] theorem State.modCan_lost (n : Fin 4) (f : Can → Can) (s : State) : (s.modCan n f).lost = s.lost := rfl
@[simp] theorem State.modCan_seq (n : Fin 4) (f : Can → Can) (s : State) : (s.modCan n f).seq = s.seq := rfl
@[simp] theorem State.modCan_mem (n : Fin 4) (f : Can → Can) (s : State) : (s.modCan n f).mem = s.mem := rfl
@[simp] theorem State.modCan_pages (n : Fin 4) (f : Can → Can) (s : State) : (s.modCan n f).pages = s.pages := rfl
@[simp] theorem State.modCan_pwr (n : Fin 4) (f : Can → Can) (s : State) : (s.modCan n f).pwr = s.pwr := rfl
@[simp] theorem State.modCan_clk (n : Fin 4) (f : Can → Can) (s : State) : (s.modCan n f).clk = s.clk := rfl
@[simp] theorem State.modCan_rst (n : Fin 4) (f : Can → Can) (s : State) : (s.modCan n f).rst = s.rst := rfl
@[simp] theorem State.modCan_boot (n : Fin 4) (f : Can → Can) (s : State) : (s.modCan n f).boot = s.boot := rfl
@[simp] theorem State.modCan_mc (n : Fin 4) (f : Can → Can) (s : State) : (s.modCan n f).mc = s.mc := rfl
@[simp] theorem State.modCan_ax (n : Fin 4) (f : Can → Can) (s : State) : (s.modCan n f).ax = s.ax := rfl
@[simp] theorem State.modCan_drv (n : Fin 4) (f : Can → Can) (s : State) : (s.modCan n f).drv = s.drv := rfl
@[simp] theorem State.modCan_coil (n : Fin 4) (f : Can → Can) (s : State) : (s.modCan n f).coil = s.coil := rfl
@[simp] theorem State.modCan_watch (n : Fin 4) (f : Can → Can) (s : State) : (s.modCan n f).watch = s.watch := rfl
@[simp] theorem State.modCan_fb (n : Fin 4) (f : Can → Can) (s : State) : (s.modCan n f).fb = s.fb := rfl
@[simp] theorem State.modCan_fbx (n : Fin 4) (f : Can → Can) (s : State) : (s.modCan n f).fbx = s.fbx := rfl
@[simp] theorem State.modCan_din (n : Fin 4) (f : Can → Can) (s : State) : (s.modCan n f).din = s.din := rfl
@[simp] theorem State.modCan_gear (n : Fin 4) (f : Can → Can) (s : State) : (s.modCan n f).gear = s.gear := rfl
@[simp] theorem State.modCan_cam (n : Fin 4) (f : Can → Can) (s : State) : (s.modCan n f).cam = s.cam := rfl
@[simp] theorem State.modCan_ptl (n : Fin 4) (f : Can → Can) (s : State) : (s.modCan n f).ptl = s.ptl := rfl
@[simp] theorem State.modCan_ptlIn (n : Fin 4) (f : Can → Can) (s : State) : (s.modCan n f).ptlIn = s.ptlIn := rfl
@[simp] theorem State.modCan_ptlRun (n : Fin 4) (f : Can → Can) (s : State) : (s.modCan n f).ptlRun = s.ptlRun := rfl
@[simp] theorem State.modCan_cyc (n : Fin 4) (f : Can → Can) (s : State) : (s.modCan n f).cyc = s.cyc := rfl
@[simp] theorem State.modCan_cycEnd (n : Fin 4) (f : Can → Can) (s : State) : (s.modCan n f).cycEnd = s.cycEnd := rfl
@[simp] theorem State.modCan_doorAt (n : Fin 4) (f : Can → Can) (s : State) : (s.modCan n f).doorAt = s.doorAt := rfl
@[simp] theorem State.modCan_env (n : Fin 4) (f : Can → Can) (s : State) : (s.modCan n f).env = s.env := rfl
@[simp] theorem State.modCan_envKept (n : Fin 4) (f : Can → Can) (s : State) : (s.modCan n f).envKept = s.envKept := rfl
@[simp] theorem State.modCan_edges (n : Fin 4) (f : Can → Can) (s : State) : (s.modCan n f).edges = s.edges := rfl
@[simp] theorem State.modCan_side (n : Fin 4) (f : Can → Can) (s : State) : (s.modCan n f).side = s.side := rfl
@[simp] theorem State.modCan_grd (n : Fin 4) (f : Can → Can) (s : State) : (s.modCan n f).grd = s.grd := rfl
@[simp] theorem State.modCan_sbx (n : Fin 4) (f : Can → Can) (s : State) : (s.modCan n f).sbx = s.sbx := rfl
@[simp] theorem State.modCan_safe (n : Fin 4) (f : Can → Can) (s : State) : (s.modCan n f).safe = s.safe := rfl
@[simp] theorem State.modCan_lsw (n : Fin 4) (f : Can → Can) (s : State) : (s.modCan n f).lsw = s.lsw := rfl
@[simp] theorem State.modCan_lswx (n : Fin 4) (f : Can → Can) (s : State) : (s.modCan n f).lswx = s.lswx := rfl
@[simp] theorem State.modCan_lswg (n : Fin 4) (f : Can → Can) (s : State) : (s.modCan n f).lswg = s.lswg := rfl
@[simp] theorem State.modCan_can (n : Fin 4) (f : Can → Can) (s : State) : (s.modCan n f).can = upd s.can n f := rfl
@[simp] theorem State.modCan_canc (n : Fin 4) (f : Can → Can) (s : State) : (s.modCan n f).canc = s.canc := rfl
@[simp] theorem State.modCan_stn (n : Fin 4) (f : Can → Can) (s : State) : (s.modCan n f).stn = s.stn := rfl
@[simp] theorem State.modCan_prg (n : Fin 4) (f : Can → Can) (s : State) : (s.modCan n f).prg = s.prg := rfl
@[simp] theorem State.modCan_prgx (n : Fin 4) (f : Can → Can) (s : State) : (s.modCan n f).prgx = s.prgx := rfl
@[simp] theorem State.modCan_evq (n : Fin 4) (f : Can → Can) (s : State) : (s.modCan n f).evq = s.evq := rfl
@[simp] theorem State.modCan_hif (n : Fin 4) (f : Can → Can) (s : State) : (s.modCan n f).hif = s.hif := rfl
@[simp] theorem State.modCan_hspi (n : Fin 4) (f : Can → Can) (s : State) : (s.modCan n f).hspi = s.hspi := rfl
@[simp] theorem State.modCan_recd (n : Fin 4) (f : Can → Can) (s : State) : (s.modCan n f).recd = s.recd := rfl
@[simp] theorem State.modCan_stat (n : Fin 4) (f : Can → Can) (s : State) : (s.modCan n f).stat = s.stat := rfl
@[simp] theorem State.modCan_pair (n : Fin 4) (f : Can → Can) (s : State) : (s.modCan n f).pair = s.pair := rfl
@[simp] theorem State.modCan_pairx (n : Fin 4) (f : Can → Can) (s : State) : (s.modCan n f).pairx = s.pairx := rfl
@[simp] theorem State.modCan_fuses (n : Fin 4) (f : Can → Can) (s : State) : (s.modCan n f).fuses = s.fuses := rfl
@[simp] theorem State.modCan_sec (n : Fin 4) (f : Can → Can) (s : State) : (s.modCan n f).sec = s.sec := rfl
@[simp] theorem State.modCan_cfg (n : Fin 4) (f : Can → Can) (s : State) : (s.modCan n f).cfg = s.cfg := rfl
@[simp] theorem State.modCan_posted (n : Fin 4) (f : Can → Can) (s : State) : (s.modCan n f).posted = s.posted := rfl
@[simp] theorem State.modCan_fresh (n : Fin 4) (f : Can → Can) (s : State) : (s.modCan n f).fresh = s.fresh := rfl
@[simp] theorem State.modCan_pending (n : Fin 4) (f : Can → Can) (s : State) : (s.modCan n f).pending = s.pending := rfl

@[simp] theorem State.modCanc_tb (n : Fin 4) (f : CanCnt → CanCnt) (s : State) : (s.modCanc n f).tb = s.tb := rfl
@[simp] theorem State.modCanc_epoch (n : Fin 4) (f : CanCnt → CanCnt) (s : State) : (s.modCanc n f).epoch = s.epoch := rfl
@[simp] theorem State.modCanc_slept (n : Fin 4) (f : CanCnt → CanCnt) (s : State) : (s.modCanc n f).slept = s.slept := rfl
@[simp] theorem State.modCanc_frac (n : Fin 4) (f : CanCnt → CanCnt) (s : State) : (s.modCanc n f).frac = s.frac := rfl
@[simp] theorem State.modCanc_period (n : Fin 4) (f : CanCnt → CanCnt) (s : State) : (s.modCanc n f).period = s.period := rfl
@[simp] theorem State.modCanc_links (n : Fin 4) (f : CanCnt → CanCnt) (s : State) : (s.modCanc n f).links = s.links := rfl
@[simp] theorem State.modCanc_present (n : Fin 4) (f : CanCnt → CanCnt) (s : State) : (s.modCanc n f).present = s.present := rfl
@[simp] theorem State.modCanc_lost (n : Fin 4) (f : CanCnt → CanCnt) (s : State) : (s.modCanc n f).lost = s.lost := rfl
@[simp] theorem State.modCanc_seq (n : Fin 4) (f : CanCnt → CanCnt) (s : State) : (s.modCanc n f).seq = s.seq := rfl
@[simp] theorem State.modCanc_mem (n : Fin 4) (f : CanCnt → CanCnt) (s : State) : (s.modCanc n f).mem = s.mem := rfl
@[simp] theorem State.modCanc_pages (n : Fin 4) (f : CanCnt → CanCnt) (s : State) : (s.modCanc n f).pages = s.pages := rfl
@[simp] theorem State.modCanc_pwr (n : Fin 4) (f : CanCnt → CanCnt) (s : State) : (s.modCanc n f).pwr = s.pwr := rfl
@[simp] theorem State.modCanc_clk (n : Fin 4) (f : CanCnt → CanCnt) (s : State) : (s.modCanc n f).clk = s.clk := rfl
@[simp] theorem State.modCanc_rst (n : Fin 4) (f : CanCnt → CanCnt) (s : State) : (s.modCanc n f).rst = s.rst := rfl
@[simp] theorem State.modCanc_boot (n : Fin 4) (f : CanCnt → CanCnt) (s : State) : (s.modCanc n f).boot = s.boot := rfl
@[simp] theorem State.modCanc_mc (n : Fin 4) (f : CanCnt → CanCnt) (s : State) : (s.modCanc n f).mc = s.mc := rfl
@[simp] theorem State.modCanc_ax (n : Fin 4) (f : CanCnt → CanCnt) (s : State) : (s.modCanc n f).ax = s.ax := rfl
@[simp] theorem State.modCanc_drv (n : Fin 4) (f : CanCnt → CanCnt) (s : State) : (s.modCanc n f).drv = s.drv := rfl
@[simp] theorem State.modCanc_coil (n : Fin 4) (f : CanCnt → CanCnt) (s : State) : (s.modCanc n f).coil = s.coil := rfl
@[simp] theorem State.modCanc_watch (n : Fin 4) (f : CanCnt → CanCnt) (s : State) : (s.modCanc n f).watch = s.watch := rfl
@[simp] theorem State.modCanc_fb (n : Fin 4) (f : CanCnt → CanCnt) (s : State) : (s.modCanc n f).fb = s.fb := rfl
@[simp] theorem State.modCanc_fbx (n : Fin 4) (f : CanCnt → CanCnt) (s : State) : (s.modCanc n f).fbx = s.fbx := rfl
@[simp] theorem State.modCanc_din (n : Fin 4) (f : CanCnt → CanCnt) (s : State) : (s.modCanc n f).din = s.din := rfl
@[simp] theorem State.modCanc_gear (n : Fin 4) (f : CanCnt → CanCnt) (s : State) : (s.modCanc n f).gear = s.gear := rfl
@[simp] theorem State.modCanc_cam (n : Fin 4) (f : CanCnt → CanCnt) (s : State) : (s.modCanc n f).cam = s.cam := rfl
@[simp] theorem State.modCanc_ptl (n : Fin 4) (f : CanCnt → CanCnt) (s : State) : (s.modCanc n f).ptl = s.ptl := rfl
@[simp] theorem State.modCanc_ptlIn (n : Fin 4) (f : CanCnt → CanCnt) (s : State) : (s.modCanc n f).ptlIn = s.ptlIn := rfl
@[simp] theorem State.modCanc_ptlRun (n : Fin 4) (f : CanCnt → CanCnt) (s : State) : (s.modCanc n f).ptlRun = s.ptlRun := rfl
@[simp] theorem State.modCanc_cyc (n : Fin 4) (f : CanCnt → CanCnt) (s : State) : (s.modCanc n f).cyc = s.cyc := rfl
@[simp] theorem State.modCanc_cycEnd (n : Fin 4) (f : CanCnt → CanCnt) (s : State) : (s.modCanc n f).cycEnd = s.cycEnd := rfl
@[simp] theorem State.modCanc_doorAt (n : Fin 4) (f : CanCnt → CanCnt) (s : State) : (s.modCanc n f).doorAt = s.doorAt := rfl
@[simp] theorem State.modCanc_env (n : Fin 4) (f : CanCnt → CanCnt) (s : State) : (s.modCanc n f).env = s.env := rfl
@[simp] theorem State.modCanc_envKept (n : Fin 4) (f : CanCnt → CanCnt) (s : State) : (s.modCanc n f).envKept = s.envKept := rfl
@[simp] theorem State.modCanc_edges (n : Fin 4) (f : CanCnt → CanCnt) (s : State) : (s.modCanc n f).edges = s.edges := rfl
@[simp] theorem State.modCanc_side (n : Fin 4) (f : CanCnt → CanCnt) (s : State) : (s.modCanc n f).side = s.side := rfl
@[simp] theorem State.modCanc_grd (n : Fin 4) (f : CanCnt → CanCnt) (s : State) : (s.modCanc n f).grd = s.grd := rfl
@[simp] theorem State.modCanc_sbx (n : Fin 4) (f : CanCnt → CanCnt) (s : State) : (s.modCanc n f).sbx = s.sbx := rfl
@[simp] theorem State.modCanc_safe (n : Fin 4) (f : CanCnt → CanCnt) (s : State) : (s.modCanc n f).safe = s.safe := rfl
@[simp] theorem State.modCanc_lsw (n : Fin 4) (f : CanCnt → CanCnt) (s : State) : (s.modCanc n f).lsw = s.lsw := rfl
@[simp] theorem State.modCanc_lswx (n : Fin 4) (f : CanCnt → CanCnt) (s : State) : (s.modCanc n f).lswx = s.lswx := rfl
@[simp] theorem State.modCanc_lswg (n : Fin 4) (f : CanCnt → CanCnt) (s : State) : (s.modCanc n f).lswg = s.lswg := rfl
@[simp] theorem State.modCanc_can (n : Fin 4) (f : CanCnt → CanCnt) (s : State) : (s.modCanc n f).can = s.can := rfl
@[simp] theorem State.modCanc_canc (n : Fin 4) (f : CanCnt → CanCnt) (s : State) : (s.modCanc n f).canc = upd s.canc n f := rfl
@[simp] theorem State.modCanc_stn (n : Fin 4) (f : CanCnt → CanCnt) (s : State) : (s.modCanc n f).stn = s.stn := rfl
@[simp] theorem State.modCanc_prg (n : Fin 4) (f : CanCnt → CanCnt) (s : State) : (s.modCanc n f).prg = s.prg := rfl
@[simp] theorem State.modCanc_prgx (n : Fin 4) (f : CanCnt → CanCnt) (s : State) : (s.modCanc n f).prgx = s.prgx := rfl
@[simp] theorem State.modCanc_evq (n : Fin 4) (f : CanCnt → CanCnt) (s : State) : (s.modCanc n f).evq = s.evq := rfl
@[simp] theorem State.modCanc_hif (n : Fin 4) (f : CanCnt → CanCnt) (s : State) : (s.modCanc n f).hif = s.hif := rfl
@[simp] theorem State.modCanc_hspi (n : Fin 4) (f : CanCnt → CanCnt) (s : State) : (s.modCanc n f).hspi = s.hspi := rfl
@[simp] theorem State.modCanc_recd (n : Fin 4) (f : CanCnt → CanCnt) (s : State) : (s.modCanc n f).recd = s.recd := rfl
@[simp] theorem State.modCanc_stat (n : Fin 4) (f : CanCnt → CanCnt) (s : State) : (s.modCanc n f).stat = s.stat := rfl
@[simp] theorem State.modCanc_pair (n : Fin 4) (f : CanCnt → CanCnt) (s : State) : (s.modCanc n f).pair = s.pair := rfl
@[simp] theorem State.modCanc_pairx (n : Fin 4) (f : CanCnt → CanCnt) (s : State) : (s.modCanc n f).pairx = s.pairx := rfl
@[simp] theorem State.modCanc_fuses (n : Fin 4) (f : CanCnt → CanCnt) (s : State) : (s.modCanc n f).fuses = s.fuses := rfl
@[simp] theorem State.modCanc_sec (n : Fin 4) (f : CanCnt → CanCnt) (s : State) : (s.modCanc n f).sec = s.sec := rfl
@[simp] theorem State.modCanc_cfg (n : Fin 4) (f : CanCnt → CanCnt) (s : State) : (s.modCanc n f).cfg = s.cfg := rfl
@[simp] theorem State.modCanc_posted (n : Fin 4) (f : CanCnt → CanCnt) (s : State) : (s.modCanc n f).posted = s.posted := rfl
@[simp] theorem State.modCanc_fresh (n : Fin 4) (f : CanCnt → CanCnt) (s : State) : (s.modCanc n f).fresh = s.fresh := rfl
@[simp] theorem State.modCanc_pending (n : Fin 4) (f : CanCnt → CanCnt) (s : State) : (s.modCanc n f).pending = s.pending := rfl

@[simp] theorem State.modClk_tb (f : Clocks → Clocks) (s : State) : (s.modClk f).tb = s.tb := rfl
@[simp] theorem State.modClk_epoch (f : Clocks → Clocks) (s : State) : (s.modClk f).epoch = s.epoch := rfl
@[simp] theorem State.modClk_slept (f : Clocks → Clocks) (s : State) : (s.modClk f).slept = s.slept := rfl
@[simp] theorem State.modClk_frac (f : Clocks → Clocks) (s : State) : (s.modClk f).frac = s.frac := rfl
@[simp] theorem State.modClk_period (f : Clocks → Clocks) (s : State) : (s.modClk f).period = s.period := rfl
@[simp] theorem State.modClk_links (f : Clocks → Clocks) (s : State) : (s.modClk f).links = s.links := rfl
@[simp] theorem State.modClk_present (f : Clocks → Clocks) (s : State) : (s.modClk f).present = s.present := rfl
@[simp] theorem State.modClk_lost (f : Clocks → Clocks) (s : State) : (s.modClk f).lost = s.lost := rfl
@[simp] theorem State.modClk_seq (f : Clocks → Clocks) (s : State) : (s.modClk f).seq = s.seq := rfl
@[simp] theorem State.modClk_mem (f : Clocks → Clocks) (s : State) : (s.modClk f).mem = s.mem := rfl
@[simp] theorem State.modClk_pages (f : Clocks → Clocks) (s : State) : (s.modClk f).pages = s.pages := rfl
@[simp] theorem State.modClk_pwr (f : Clocks → Clocks) (s : State) : (s.modClk f).pwr = s.pwr := rfl
@[simp] theorem State.modClk_clk (f : Clocks → Clocks) (s : State) : (s.modClk f).clk = f s.clk := rfl
@[simp] theorem State.modClk_rst (f : Clocks → Clocks) (s : State) : (s.modClk f).rst = s.rst := rfl
@[simp] theorem State.modClk_boot (f : Clocks → Clocks) (s : State) : (s.modClk f).boot = s.boot := rfl
@[simp] theorem State.modClk_mc (f : Clocks → Clocks) (s : State) : (s.modClk f).mc = s.mc := rfl
@[simp] theorem State.modClk_ax (f : Clocks → Clocks) (s : State) : (s.modClk f).ax = s.ax := rfl
@[simp] theorem State.modClk_drv (f : Clocks → Clocks) (s : State) : (s.modClk f).drv = s.drv := rfl
@[simp] theorem State.modClk_coil (f : Clocks → Clocks) (s : State) : (s.modClk f).coil = s.coil := rfl
@[simp] theorem State.modClk_watch (f : Clocks → Clocks) (s : State) : (s.modClk f).watch = s.watch := rfl
@[simp] theorem State.modClk_fb (f : Clocks → Clocks) (s : State) : (s.modClk f).fb = s.fb := rfl
@[simp] theorem State.modClk_fbx (f : Clocks → Clocks) (s : State) : (s.modClk f).fbx = s.fbx := rfl
@[simp] theorem State.modClk_din (f : Clocks → Clocks) (s : State) : (s.modClk f).din = s.din := rfl
@[simp] theorem State.modClk_gear (f : Clocks → Clocks) (s : State) : (s.modClk f).gear = s.gear := rfl
@[simp] theorem State.modClk_cam (f : Clocks → Clocks) (s : State) : (s.modClk f).cam = s.cam := rfl
@[simp] theorem State.modClk_ptl (f : Clocks → Clocks) (s : State) : (s.modClk f).ptl = s.ptl := rfl
@[simp] theorem State.modClk_ptlIn (f : Clocks → Clocks) (s : State) : (s.modClk f).ptlIn = s.ptlIn := rfl
@[simp] theorem State.modClk_ptlRun (f : Clocks → Clocks) (s : State) : (s.modClk f).ptlRun = s.ptlRun := rfl
@[simp] theorem State.modClk_cyc (f : Clocks → Clocks) (s : State) : (s.modClk f).cyc = s.cyc := rfl
@[simp] theorem State.modClk_cycEnd (f : Clocks → Clocks) (s : State) : (s.modClk f).cycEnd = s.cycEnd := rfl
@[simp] theorem State.modClk_doorAt (f : Clocks → Clocks) (s : State) : (s.modClk f).doorAt = s.doorAt := rfl
@[simp] theorem State.modClk_env (f : Clocks → Clocks) (s : State) : (s.modClk f).env = s.env := rfl
@[simp] theorem State.modClk_envKept (f : Clocks → Clocks) (s : State) : (s.modClk f).envKept = s.envKept := rfl
@[simp] theorem State.modClk_edges (f : Clocks → Clocks) (s : State) : (s.modClk f).edges = s.edges := rfl
@[simp] theorem State.modClk_side (f : Clocks → Clocks) (s : State) : (s.modClk f).side = s.side := rfl
@[simp] theorem State.modClk_grd (f : Clocks → Clocks) (s : State) : (s.modClk f).grd = s.grd := rfl
@[simp] theorem State.modClk_sbx (f : Clocks → Clocks) (s : State) : (s.modClk f).sbx = s.sbx := rfl
@[simp] theorem State.modClk_safe (f : Clocks → Clocks) (s : State) : (s.modClk f).safe = s.safe := rfl
@[simp] theorem State.modClk_lsw (f : Clocks → Clocks) (s : State) : (s.modClk f).lsw = s.lsw := rfl
@[simp] theorem State.modClk_lswx (f : Clocks → Clocks) (s : State) : (s.modClk f).lswx = s.lswx := rfl
@[simp] theorem State.modClk_lswg (f : Clocks → Clocks) (s : State) : (s.modClk f).lswg = s.lswg := rfl
@[simp] theorem State.modClk_can (f : Clocks → Clocks) (s : State) : (s.modClk f).can = s.can := rfl
@[simp] theorem State.modClk_canc (f : Clocks → Clocks) (s : State) : (s.modClk f).canc = s.canc := rfl
@[simp] theorem State.modClk_stn (f : Clocks → Clocks) (s : State) : (s.modClk f).stn = s.stn := rfl
@[simp] theorem State.modClk_prg (f : Clocks → Clocks) (s : State) : (s.modClk f).prg = s.prg := rfl
@[simp] theorem State.modClk_prgx (f : Clocks → Clocks) (s : State) : (s.modClk f).prgx = s.prgx := rfl
@[simp] theorem State.modClk_evq (f : Clocks → Clocks) (s : State) : (s.modClk f).evq = s.evq := rfl
@[simp] theorem State.modClk_hif (f : Clocks → Clocks) (s : State) : (s.modClk f).hif = s.hif := rfl
@[simp] theorem State.modClk_hspi (f : Clocks → Clocks) (s : State) : (s.modClk f).hspi = s.hspi := rfl
@[simp] theorem State.modClk_recd (f : Clocks → Clocks) (s : State) : (s.modClk f).recd = s.recd := rfl
@[simp] theorem State.modClk_stat (f : Clocks → Clocks) (s : State) : (s.modClk f).stat = s.stat := rfl
@[simp] theorem State.modClk_pair (f : Clocks → Clocks) (s : State) : (s.modClk f).pair = s.pair := rfl
@[simp] theorem State.modClk_pairx (f : Clocks → Clocks) (s : State) : (s.modClk f).pairx = s.pairx := rfl
@[simp] theorem State.modClk_fuses (f : Clocks → Clocks) (s : State) : (s.modClk f).fuses = s.fuses := rfl
@[simp] theorem State.modClk_sec (f : Clocks → Clocks) (s : State) : (s.modClk f).sec = s.sec := rfl
@[simp] theorem State.modClk_cfg (f : Clocks → Clocks) (s : State) : (s.modClk f).cfg = s.cfg := rfl
@[simp] theorem State.modClk_posted (f : Clocks → Clocks) (s : State) : (s.modClk f).posted = s.posted := rfl
@[simp] theorem State.modClk_fresh (f : Clocks → Clocks) (s : State) : (s.modClk f).fresh = s.fresh := rfl
@[simp] theorem State.modClk_pending (f : Clocks → Clocks) (s : State) : (s.modClk f).pending = s.pending := rfl

@[simp] theorem State.modGear_tb (a : Fin 12) (f : Gear → Gear) (s : State) : (s.modGear a f).tb = s.tb := rfl
@[simp] theorem State.modGear_epoch (a : Fin 12) (f : Gear → Gear) (s : State) : (s.modGear a f).epoch = s.epoch := rfl
@[simp] theorem State.modGear_slept (a : Fin 12) (f : Gear → Gear) (s : State) : (s.modGear a f).slept = s.slept := rfl
@[simp] theorem State.modGear_frac (a : Fin 12) (f : Gear → Gear) (s : State) : (s.modGear a f).frac = s.frac := rfl
@[simp] theorem State.modGear_period (a : Fin 12) (f : Gear → Gear) (s : State) : (s.modGear a f).period = s.period := rfl
@[simp] theorem State.modGear_links (a : Fin 12) (f : Gear → Gear) (s : State) : (s.modGear a f).links = s.links := rfl
@[simp] theorem State.modGear_present (a : Fin 12) (f : Gear → Gear) (s : State) : (s.modGear a f).present = s.present := rfl
@[simp] theorem State.modGear_lost (a : Fin 12) (f : Gear → Gear) (s : State) : (s.modGear a f).lost = s.lost := rfl
@[simp] theorem State.modGear_seq (a : Fin 12) (f : Gear → Gear) (s : State) : (s.modGear a f).seq = s.seq := rfl
@[simp] theorem State.modGear_mem (a : Fin 12) (f : Gear → Gear) (s : State) : (s.modGear a f).mem = s.mem := rfl
@[simp] theorem State.modGear_pages (a : Fin 12) (f : Gear → Gear) (s : State) : (s.modGear a f).pages = s.pages := rfl
@[simp] theorem State.modGear_pwr (a : Fin 12) (f : Gear → Gear) (s : State) : (s.modGear a f).pwr = s.pwr := rfl
@[simp] theorem State.modGear_clk (a : Fin 12) (f : Gear → Gear) (s : State) : (s.modGear a f).clk = s.clk := rfl
@[simp] theorem State.modGear_rst (a : Fin 12) (f : Gear → Gear) (s : State) : (s.modGear a f).rst = s.rst := rfl
@[simp] theorem State.modGear_boot (a : Fin 12) (f : Gear → Gear) (s : State) : (s.modGear a f).boot = s.boot := rfl
@[simp] theorem State.modGear_mc (a : Fin 12) (f : Gear → Gear) (s : State) : (s.modGear a f).mc = s.mc := rfl
@[simp] theorem State.modGear_ax (a : Fin 12) (f : Gear → Gear) (s : State) : (s.modGear a f).ax = s.ax := rfl
@[simp] theorem State.modGear_drv (a : Fin 12) (f : Gear → Gear) (s : State) : (s.modGear a f).drv = s.drv := rfl
@[simp] theorem State.modGear_coil (a : Fin 12) (f : Gear → Gear) (s : State) : (s.modGear a f).coil = s.coil := rfl
@[simp] theorem State.modGear_watch (a : Fin 12) (f : Gear → Gear) (s : State) : (s.modGear a f).watch = s.watch := rfl
@[simp] theorem State.modGear_fb (a : Fin 12) (f : Gear → Gear) (s : State) : (s.modGear a f).fb = s.fb := rfl
@[simp] theorem State.modGear_fbx (a : Fin 12) (f : Gear → Gear) (s : State) : (s.modGear a f).fbx = s.fbx := rfl
@[simp] theorem State.modGear_din (a : Fin 12) (f : Gear → Gear) (s : State) : (s.modGear a f).din = s.din := rfl
@[simp] theorem State.modGear_gear (a : Fin 12) (f : Gear → Gear) (s : State) : (s.modGear a f).gear = upd s.gear a f := rfl
@[simp] theorem State.modGear_cam (a : Fin 12) (f : Gear → Gear) (s : State) : (s.modGear a f).cam = s.cam := rfl
@[simp] theorem State.modGear_ptl (a : Fin 12) (f : Gear → Gear) (s : State) : (s.modGear a f).ptl = s.ptl := rfl
@[simp] theorem State.modGear_ptlIn (a : Fin 12) (f : Gear → Gear) (s : State) : (s.modGear a f).ptlIn = s.ptlIn := rfl
@[simp] theorem State.modGear_ptlRun (a : Fin 12) (f : Gear → Gear) (s : State) : (s.modGear a f).ptlRun = s.ptlRun := rfl
@[simp] theorem State.modGear_cyc (a : Fin 12) (f : Gear → Gear) (s : State) : (s.modGear a f).cyc = s.cyc := rfl
@[simp] theorem State.modGear_cycEnd (a : Fin 12) (f : Gear → Gear) (s : State) : (s.modGear a f).cycEnd = s.cycEnd := rfl
@[simp] theorem State.modGear_doorAt (a : Fin 12) (f : Gear → Gear) (s : State) : (s.modGear a f).doorAt = s.doorAt := rfl
@[simp] theorem State.modGear_env (a : Fin 12) (f : Gear → Gear) (s : State) : (s.modGear a f).env = s.env := rfl
@[simp] theorem State.modGear_envKept (a : Fin 12) (f : Gear → Gear) (s : State) : (s.modGear a f).envKept = s.envKept := rfl
@[simp] theorem State.modGear_edges (a : Fin 12) (f : Gear → Gear) (s : State) : (s.modGear a f).edges = s.edges := rfl
@[simp] theorem State.modGear_side (a : Fin 12) (f : Gear → Gear) (s : State) : (s.modGear a f).side = s.side := rfl
@[simp] theorem State.modGear_grd (a : Fin 12) (f : Gear → Gear) (s : State) : (s.modGear a f).grd = s.grd := rfl
@[simp] theorem State.modGear_sbx (a : Fin 12) (f : Gear → Gear) (s : State) : (s.modGear a f).sbx = s.sbx := rfl
@[simp] theorem State.modGear_safe (a : Fin 12) (f : Gear → Gear) (s : State) : (s.modGear a f).safe = s.safe := rfl
@[simp] theorem State.modGear_lsw (a : Fin 12) (f : Gear → Gear) (s : State) : (s.modGear a f).lsw = s.lsw := rfl
@[simp] theorem State.modGear_lswx (a : Fin 12) (f : Gear → Gear) (s : State) : (s.modGear a f).lswx = s.lswx := rfl
@[simp] theorem State.modGear_lswg (a : Fin 12) (f : Gear → Gear) (s : State) : (s.modGear a f).lswg = s.lswg := rfl
@[simp] theorem State.modGear_can (a : Fin 12) (f : Gear → Gear) (s : State) : (s.modGear a f).can = s.can := rfl
@[simp] theorem State.modGear_canc (a : Fin 12) (f : Gear → Gear) (s : State) : (s.modGear a f).canc = s.canc := rfl
@[simp] theorem State.modGear_stn (a : Fin 12) (f : Gear → Gear) (s : State) : (s.modGear a f).stn = s.stn := rfl
@[simp] theorem State.modGear_prg (a : Fin 12) (f : Gear → Gear) (s : State) : (s.modGear a f).prg = s.prg := rfl
@[simp] theorem State.modGear_prgx (a : Fin 12) (f : Gear → Gear) (s : State) : (s.modGear a f).prgx = s.prgx := rfl
@[simp] theorem State.modGear_evq (a : Fin 12) (f : Gear → Gear) (s : State) : (s.modGear a f).evq = s.evq := rfl
@[simp] theorem State.modGear_hif (a : Fin 12) (f : Gear → Gear) (s : State) : (s.modGear a f).hif = s.hif := rfl
@[simp] theorem State.modGear_hspi (a : Fin 12) (f : Gear → Gear) (s : State) : (s.modGear a f).hspi = s.hspi := rfl
@[simp] theorem State.modGear_recd (a : Fin 12) (f : Gear → Gear) (s : State) : (s.modGear a f).recd = s.recd := rfl
@[simp] theorem State.modGear_stat (a : Fin 12) (f : Gear → Gear) (s : State) : (s.modGear a f).stat = s.stat := rfl
@[simp] theorem State.modGear_pair (a : Fin 12) (f : Gear → Gear) (s : State) : (s.modGear a f).pair = s.pair := rfl
@[simp] theorem State.modGear_pairx (a : Fin 12) (f : Gear → Gear) (s : State) : (s.modGear a f).pairx = s.pairx := rfl
@[simp] theorem State.modGear_fuses (a : Fin 12) (f : Gear → Gear) (s : State) : (s.modGear a f).fuses = s.fuses := rfl
@[simp] theorem State.modGear_sec (a : Fin 12) (f : Gear → Gear) (s : State) : (s.modGear a f).sec = s.sec := rfl
@[simp] theorem State.modGear_cfg (a : Fin 12) (f : Gear → Gear) (s : State) : (s.modGear a f).cfg = s.cfg := rfl
@[simp] theorem State.modGear_posted (a : Fin 12) (f : Gear → Gear) (s : State) : (s.modGear a f).posted = s.posted := rfl
@[simp] theorem State.modGear_fresh (a : Fin 12) (f : Gear → Gear) (s : State) : (s.modGear a f).fresh = s.fresh := rfl
@[simp] theorem State.modGear_pending (a : Fin 12) (f : Gear → Gear) (s : State) : (s.modGear a f).pending = s.pending := rfl

@[simp] theorem State.modCam_tb (c : Fin 4) (f : Cam → Cam) (s : State) : (s.modCam c f).tb = s.tb := rfl
@[simp] theorem State.modCam_epoch (c : Fin 4) (f : Cam → Cam) (s : State) : (s.modCam c f).epoch = s.epoch := rfl
@[simp] theorem State.modCam_slept (c : Fin 4) (f : Cam → Cam) (s : State) : (s.modCam c f).slept = s.slept := rfl
@[simp] theorem State.modCam_frac (c : Fin 4) (f : Cam → Cam) (s : State) : (s.modCam c f).frac = s.frac := rfl
@[simp] theorem State.modCam_period (c : Fin 4) (f : Cam → Cam) (s : State) : (s.modCam c f).period = s.period := rfl
@[simp] theorem State.modCam_links (c : Fin 4) (f : Cam → Cam) (s : State) : (s.modCam c f).links = s.links := rfl
@[simp] theorem State.modCam_present (c : Fin 4) (f : Cam → Cam) (s : State) : (s.modCam c f).present = s.present := rfl
@[simp] theorem State.modCam_lost (c : Fin 4) (f : Cam → Cam) (s : State) : (s.modCam c f).lost = s.lost := rfl
@[simp] theorem State.modCam_seq (c : Fin 4) (f : Cam → Cam) (s : State) : (s.modCam c f).seq = s.seq := rfl
@[simp] theorem State.modCam_mem (c : Fin 4) (f : Cam → Cam) (s : State) : (s.modCam c f).mem = s.mem := rfl
@[simp] theorem State.modCam_pages (c : Fin 4) (f : Cam → Cam) (s : State) : (s.modCam c f).pages = s.pages := rfl
@[simp] theorem State.modCam_pwr (c : Fin 4) (f : Cam → Cam) (s : State) : (s.modCam c f).pwr = s.pwr := rfl
@[simp] theorem State.modCam_clk (c : Fin 4) (f : Cam → Cam) (s : State) : (s.modCam c f).clk = s.clk := rfl
@[simp] theorem State.modCam_rst (c : Fin 4) (f : Cam → Cam) (s : State) : (s.modCam c f).rst = s.rst := rfl
@[simp] theorem State.modCam_boot (c : Fin 4) (f : Cam → Cam) (s : State) : (s.modCam c f).boot = s.boot := rfl
@[simp] theorem State.modCam_mc (c : Fin 4) (f : Cam → Cam) (s : State) : (s.modCam c f).mc = s.mc := rfl
@[simp] theorem State.modCam_ax (c : Fin 4) (f : Cam → Cam) (s : State) : (s.modCam c f).ax = s.ax := rfl
@[simp] theorem State.modCam_drv (c : Fin 4) (f : Cam → Cam) (s : State) : (s.modCam c f).drv = s.drv := rfl
@[simp] theorem State.modCam_coil (c : Fin 4) (f : Cam → Cam) (s : State) : (s.modCam c f).coil = s.coil := rfl
@[simp] theorem State.modCam_watch (c : Fin 4) (f : Cam → Cam) (s : State) : (s.modCam c f).watch = s.watch := rfl
@[simp] theorem State.modCam_fb (c : Fin 4) (f : Cam → Cam) (s : State) : (s.modCam c f).fb = s.fb := rfl
@[simp] theorem State.modCam_fbx (c : Fin 4) (f : Cam → Cam) (s : State) : (s.modCam c f).fbx = s.fbx := rfl
@[simp] theorem State.modCam_din (c : Fin 4) (f : Cam → Cam) (s : State) : (s.modCam c f).din = s.din := rfl
@[simp] theorem State.modCam_gear (c : Fin 4) (f : Cam → Cam) (s : State) : (s.modCam c f).gear = s.gear := rfl
@[simp] theorem State.modCam_cam (c : Fin 4) (f : Cam → Cam) (s : State) : (s.modCam c f).cam = upd s.cam c f := rfl
@[simp] theorem State.modCam_ptl (c : Fin 4) (f : Cam → Cam) (s : State) : (s.modCam c f).ptl = s.ptl := rfl
@[simp] theorem State.modCam_ptlIn (c : Fin 4) (f : Cam → Cam) (s : State) : (s.modCam c f).ptlIn = s.ptlIn := rfl
@[simp] theorem State.modCam_ptlRun (c : Fin 4) (f : Cam → Cam) (s : State) : (s.modCam c f).ptlRun = s.ptlRun := rfl
@[simp] theorem State.modCam_cyc (c : Fin 4) (f : Cam → Cam) (s : State) : (s.modCam c f).cyc = s.cyc := rfl
@[simp] theorem State.modCam_cycEnd (c : Fin 4) (f : Cam → Cam) (s : State) : (s.modCam c f).cycEnd = s.cycEnd := rfl
@[simp] theorem State.modCam_doorAt (c : Fin 4) (f : Cam → Cam) (s : State) : (s.modCam c f).doorAt = s.doorAt := rfl
@[simp] theorem State.modCam_env (c : Fin 4) (f : Cam → Cam) (s : State) : (s.modCam c f).env = s.env := rfl
@[simp] theorem State.modCam_envKept (c : Fin 4) (f : Cam → Cam) (s : State) : (s.modCam c f).envKept = s.envKept := rfl
@[simp] theorem State.modCam_edges (c : Fin 4) (f : Cam → Cam) (s : State) : (s.modCam c f).edges = s.edges := rfl
@[simp] theorem State.modCam_side (c : Fin 4) (f : Cam → Cam) (s : State) : (s.modCam c f).side = s.side := rfl
@[simp] theorem State.modCam_grd (c : Fin 4) (f : Cam → Cam) (s : State) : (s.modCam c f).grd = s.grd := rfl
@[simp] theorem State.modCam_sbx (c : Fin 4) (f : Cam → Cam) (s : State) : (s.modCam c f).sbx = s.sbx := rfl
@[simp] theorem State.modCam_safe (c : Fin 4) (f : Cam → Cam) (s : State) : (s.modCam c f).safe = s.safe := rfl
@[simp] theorem State.modCam_lsw (c : Fin 4) (f : Cam → Cam) (s : State) : (s.modCam c f).lsw = s.lsw := rfl
@[simp] theorem State.modCam_lswx (c : Fin 4) (f : Cam → Cam) (s : State) : (s.modCam c f).lswx = s.lswx := rfl
@[simp] theorem State.modCam_lswg (c : Fin 4) (f : Cam → Cam) (s : State) : (s.modCam c f).lswg = s.lswg := rfl
@[simp] theorem State.modCam_can (c : Fin 4) (f : Cam → Cam) (s : State) : (s.modCam c f).can = s.can := rfl
@[simp] theorem State.modCam_canc (c : Fin 4) (f : Cam → Cam) (s : State) : (s.modCam c f).canc = s.canc := rfl
@[simp] theorem State.modCam_stn (c : Fin 4) (f : Cam → Cam) (s : State) : (s.modCam c f).stn = s.stn := rfl
@[simp] theorem State.modCam_prg (c : Fin 4) (f : Cam → Cam) (s : State) : (s.modCam c f).prg = s.prg := rfl
@[simp] theorem State.modCam_prgx (c : Fin 4) (f : Cam → Cam) (s : State) : (s.modCam c f).prgx = s.prgx := rfl
@[simp] theorem State.modCam_evq (c : Fin 4) (f : Cam → Cam) (s : State) : (s.modCam c f).evq = s.evq := rfl
@[simp] theorem State.modCam_hif (c : Fin 4) (f : Cam → Cam) (s : State) : (s.modCam c f).hif = s.hif := rfl
@[simp] theorem State.modCam_hspi (c : Fin 4) (f : Cam → Cam) (s : State) : (s.modCam c f).hspi = s.hspi := rfl
@[simp] theorem State.modCam_recd (c : Fin 4) (f : Cam → Cam) (s : State) : (s.modCam c f).recd = s.recd := rfl
@[simp] theorem State.modCam_stat (c : Fin 4) (f : Cam → Cam) (s : State) : (s.modCam c f).stat = s.stat := rfl
@[simp] theorem State.modCam_pair (c : Fin 4) (f : Cam → Cam) (s : State) : (s.modCam c f).pair = s.pair := rfl
@[simp] theorem State.modCam_pairx (c : Fin 4) (f : Cam → Cam) (s : State) : (s.modCam c f).pairx = s.pairx := rfl
@[simp] theorem State.modCam_fuses (c : Fin 4) (f : Cam → Cam) (s : State) : (s.modCam c f).fuses = s.fuses := rfl
@[simp] theorem State.modCam_sec (c : Fin 4) (f : Cam → Cam) (s : State) : (s.modCam c f).sec = s.sec := rfl
@[simp] theorem State.modCam_cfg (c : Fin 4) (f : Cam → Cam) (s : State) : (s.modCam c f).cfg = s.cfg := rfl
@[simp] theorem State.modCam_posted (c : Fin 4) (f : Cam → Cam) (s : State) : (s.modCam c f).posted = s.posted := rfl
@[simp] theorem State.modCam_fresh (c : Fin 4) (f : Cam → Cam) (s : State) : (s.modCam c f).fresh = s.fresh := rfl
@[simp] theorem State.modCam_pending (c : Fin 4) (f : Cam → Cam) (s : State) : (s.modCam c f).pending = s.pending := rfl

@[simp] theorem State.modEvq_tb (q : Fin 8) (f : Evq → Evq) (s : State) : (s.modEvq q f).tb = s.tb := rfl
@[simp] theorem State.modEvq_epoch (q : Fin 8) (f : Evq → Evq) (s : State) : (s.modEvq q f).epoch = s.epoch := rfl
@[simp] theorem State.modEvq_slept (q : Fin 8) (f : Evq → Evq) (s : State) : (s.modEvq q f).slept = s.slept := rfl
@[simp] theorem State.modEvq_frac (q : Fin 8) (f : Evq → Evq) (s : State) : (s.modEvq q f).frac = s.frac := rfl
@[simp] theorem State.modEvq_period (q : Fin 8) (f : Evq → Evq) (s : State) : (s.modEvq q f).period = s.period := rfl
@[simp] theorem State.modEvq_links (q : Fin 8) (f : Evq → Evq) (s : State) : (s.modEvq q f).links = s.links := rfl
@[simp] theorem State.modEvq_present (q : Fin 8) (f : Evq → Evq) (s : State) : (s.modEvq q f).present = s.present := rfl
@[simp] theorem State.modEvq_lost (q : Fin 8) (f : Evq → Evq) (s : State) : (s.modEvq q f).lost = s.lost := rfl
@[simp] theorem State.modEvq_seq (q : Fin 8) (f : Evq → Evq) (s : State) : (s.modEvq q f).seq = s.seq := rfl
@[simp] theorem State.modEvq_mem (q : Fin 8) (f : Evq → Evq) (s : State) : (s.modEvq q f).mem = s.mem := rfl
@[simp] theorem State.modEvq_pages (q : Fin 8) (f : Evq → Evq) (s : State) : (s.modEvq q f).pages = s.pages := rfl
@[simp] theorem State.modEvq_pwr (q : Fin 8) (f : Evq → Evq) (s : State) : (s.modEvq q f).pwr = s.pwr := rfl
@[simp] theorem State.modEvq_clk (q : Fin 8) (f : Evq → Evq) (s : State) : (s.modEvq q f).clk = s.clk := rfl
@[simp] theorem State.modEvq_rst (q : Fin 8) (f : Evq → Evq) (s : State) : (s.modEvq q f).rst = s.rst := rfl
@[simp] theorem State.modEvq_boot (q : Fin 8) (f : Evq → Evq) (s : State) : (s.modEvq q f).boot = s.boot := rfl
@[simp] theorem State.modEvq_mc (q : Fin 8) (f : Evq → Evq) (s : State) : (s.modEvq q f).mc = s.mc := rfl
@[simp] theorem State.modEvq_ax (q : Fin 8) (f : Evq → Evq) (s : State) : (s.modEvq q f).ax = s.ax := rfl
@[simp] theorem State.modEvq_drv (q : Fin 8) (f : Evq → Evq) (s : State) : (s.modEvq q f).drv = s.drv := rfl
@[simp] theorem State.modEvq_coil (q : Fin 8) (f : Evq → Evq) (s : State) : (s.modEvq q f).coil = s.coil := rfl
@[simp] theorem State.modEvq_watch (q : Fin 8) (f : Evq → Evq) (s : State) : (s.modEvq q f).watch = s.watch := rfl
@[simp] theorem State.modEvq_fb (q : Fin 8) (f : Evq → Evq) (s : State) : (s.modEvq q f).fb = s.fb := rfl
@[simp] theorem State.modEvq_fbx (q : Fin 8) (f : Evq → Evq) (s : State) : (s.modEvq q f).fbx = s.fbx := rfl
@[simp] theorem State.modEvq_din (q : Fin 8) (f : Evq → Evq) (s : State) : (s.modEvq q f).din = s.din := rfl
@[simp] theorem State.modEvq_gear (q : Fin 8) (f : Evq → Evq) (s : State) : (s.modEvq q f).gear = s.gear := rfl
@[simp] theorem State.modEvq_cam (q : Fin 8) (f : Evq → Evq) (s : State) : (s.modEvq q f).cam = s.cam := rfl
@[simp] theorem State.modEvq_ptl (q : Fin 8) (f : Evq → Evq) (s : State) : (s.modEvq q f).ptl = s.ptl := rfl
@[simp] theorem State.modEvq_ptlIn (q : Fin 8) (f : Evq → Evq) (s : State) : (s.modEvq q f).ptlIn = s.ptlIn := rfl
@[simp] theorem State.modEvq_ptlRun (q : Fin 8) (f : Evq → Evq) (s : State) : (s.modEvq q f).ptlRun = s.ptlRun := rfl
@[simp] theorem State.modEvq_cyc (q : Fin 8) (f : Evq → Evq) (s : State) : (s.modEvq q f).cyc = s.cyc := rfl
@[simp] theorem State.modEvq_cycEnd (q : Fin 8) (f : Evq → Evq) (s : State) : (s.modEvq q f).cycEnd = s.cycEnd := rfl
@[simp] theorem State.modEvq_doorAt (q : Fin 8) (f : Evq → Evq) (s : State) : (s.modEvq q f).doorAt = s.doorAt := rfl
@[simp] theorem State.modEvq_env (q : Fin 8) (f : Evq → Evq) (s : State) : (s.modEvq q f).env = s.env := rfl
@[simp] theorem State.modEvq_envKept (q : Fin 8) (f : Evq → Evq) (s : State) : (s.modEvq q f).envKept = s.envKept := rfl
@[simp] theorem State.modEvq_edges (q : Fin 8) (f : Evq → Evq) (s : State) : (s.modEvq q f).edges = s.edges := rfl
@[simp] theorem State.modEvq_side (q : Fin 8) (f : Evq → Evq) (s : State) : (s.modEvq q f).side = s.side := rfl
@[simp] theorem State.modEvq_grd (q : Fin 8) (f : Evq → Evq) (s : State) : (s.modEvq q f).grd = s.grd := rfl
@[simp] theorem State.modEvq_sbx (q : Fin 8) (f : Evq → Evq) (s : State) : (s.modEvq q f).sbx = s.sbx := rfl
@[simp] theorem State.modEvq_safe (q : Fin 8) (f : Evq → Evq) (s : State) : (s.modEvq q f).safe = s.safe := rfl
@[simp] theorem State.modEvq_lsw (q : Fin 8) (f : Evq → Evq) (s : State) : (s.modEvq q f).lsw = s.lsw := rfl
@[simp] theorem State.modEvq_lswx (q : Fin 8) (f : Evq → Evq) (s : State) : (s.modEvq q f).lswx = s.lswx := rfl
@[simp] theorem State.modEvq_lswg (q : Fin 8) (f : Evq → Evq) (s : State) : (s.modEvq q f).lswg = s.lswg := rfl
@[simp] theorem State.modEvq_can (q : Fin 8) (f : Evq → Evq) (s : State) : (s.modEvq q f).can = s.can := rfl
@[simp] theorem State.modEvq_canc (q : Fin 8) (f : Evq → Evq) (s : State) : (s.modEvq q f).canc = s.canc := rfl
@[simp] theorem State.modEvq_stn (q : Fin 8) (f : Evq → Evq) (s : State) : (s.modEvq q f).stn = s.stn := rfl
@[simp] theorem State.modEvq_prg (q : Fin 8) (f : Evq → Evq) (s : State) : (s.modEvq q f).prg = s.prg := rfl
@[simp] theorem State.modEvq_prgx (q : Fin 8) (f : Evq → Evq) (s : State) : (s.modEvq q f).prgx = s.prgx := rfl
@[simp] theorem State.modEvq_evq (q : Fin 8) (f : Evq → Evq) (s : State) : (s.modEvq q f).evq = upd s.evq q f := rfl
@[simp] theorem State.modEvq_hif (q : Fin 8) (f : Evq → Evq) (s : State) : (s.modEvq q f).hif = s.hif := rfl
@[simp] theorem State.modEvq_hspi (q : Fin 8) (f : Evq → Evq) (s : State) : (s.modEvq q f).hspi = s.hspi := rfl
@[simp] theorem State.modEvq_recd (q : Fin 8) (f : Evq → Evq) (s : State) : (s.modEvq q f).recd = s.recd := rfl
@[simp] theorem State.modEvq_stat (q : Fin 8) (f : Evq → Evq) (s : State) : (s.modEvq q f).stat = s.stat := rfl
@[simp] theorem State.modEvq_pair (q : Fin 8) (f : Evq → Evq) (s : State) : (s.modEvq q f).pair = s.pair := rfl
@[simp] theorem State.modEvq_pairx (q : Fin 8) (f : Evq → Evq) (s : State) : (s.modEvq q f).pairx = s.pairx := rfl
@[simp] theorem State.modEvq_fuses (q : Fin 8) (f : Evq → Evq) (s : State) : (s.modEvq q f).fuses = s.fuses := rfl
@[simp] theorem State.modEvq_sec (q : Fin 8) (f : Evq → Evq) (s : State) : (s.modEvq q f).sec = s.sec := rfl
@[simp] theorem State.modEvq_cfg (q : Fin 8) (f : Evq → Evq) (s : State) : (s.modEvq q f).cfg = s.cfg := rfl
@[simp] theorem State.modEvq_posted (q : Fin 8) (f : Evq → Evq) (s : State) : (s.modEvq q f).posted = s.posted := rfl
@[simp] theorem State.modEvq_fresh (q : Fin 8) (f : Evq → Evq) (s : State) : (s.modEvq q f).fresh = s.fresh := rfl
@[simp] theorem State.modEvq_pending (q : Fin 8) (f : Evq → Evq) (s : State) : (s.modEvq q f).pending = s.pending := rfl

@[simp] theorem State.modFb_tb (c : Fin 14) (f : Fb → Fb) (s : State) : (s.modFb c f).tb = s.tb := rfl
@[simp] theorem State.modFb_epoch (c : Fin 14) (f : Fb → Fb) (s : State) : (s.modFb c f).epoch = s.epoch := rfl
@[simp] theorem State.modFb_slept (c : Fin 14) (f : Fb → Fb) (s : State) : (s.modFb c f).slept = s.slept := rfl
@[simp] theorem State.modFb_frac (c : Fin 14) (f : Fb → Fb) (s : State) : (s.modFb c f).frac = s.frac := rfl
@[simp] theorem State.modFb_period (c : Fin 14) (f : Fb → Fb) (s : State) : (s.modFb c f).period = s.period := rfl
@[simp] theorem State.modFb_links (c : Fin 14) (f : Fb → Fb) (s : State) : (s.modFb c f).links = s.links := rfl
@[simp] theorem State.modFb_present (c : Fin 14) (f : Fb → Fb) (s : State) : (s.modFb c f).present = s.present := rfl
@[simp] theorem State.modFb_lost (c : Fin 14) (f : Fb → Fb) (s : State) : (s.modFb c f).lost = s.lost := rfl
@[simp] theorem State.modFb_seq (c : Fin 14) (f : Fb → Fb) (s : State) : (s.modFb c f).seq = s.seq := rfl
@[simp] theorem State.modFb_mem (c : Fin 14) (f : Fb → Fb) (s : State) : (s.modFb c f).mem = s.mem := rfl
@[simp] theorem State.modFb_pages (c : Fin 14) (f : Fb → Fb) (s : State) : (s.modFb c f).pages = s.pages := rfl
@[simp] theorem State.modFb_pwr (c : Fin 14) (f : Fb → Fb) (s : State) : (s.modFb c f).pwr = s.pwr := rfl
@[simp] theorem State.modFb_clk (c : Fin 14) (f : Fb → Fb) (s : State) : (s.modFb c f).clk = s.clk := rfl
@[simp] theorem State.modFb_rst (c : Fin 14) (f : Fb → Fb) (s : State) : (s.modFb c f).rst = s.rst := rfl
@[simp] theorem State.modFb_boot (c : Fin 14) (f : Fb → Fb) (s : State) : (s.modFb c f).boot = s.boot := rfl
@[simp] theorem State.modFb_mc (c : Fin 14) (f : Fb → Fb) (s : State) : (s.modFb c f).mc = s.mc := rfl
@[simp] theorem State.modFb_ax (c : Fin 14) (f : Fb → Fb) (s : State) : (s.modFb c f).ax = s.ax := rfl
@[simp] theorem State.modFb_drv (c : Fin 14) (f : Fb → Fb) (s : State) : (s.modFb c f).drv = s.drv := rfl
@[simp] theorem State.modFb_coil (c : Fin 14) (f : Fb → Fb) (s : State) : (s.modFb c f).coil = s.coil := rfl
@[simp] theorem State.modFb_watch (c : Fin 14) (f : Fb → Fb) (s : State) : (s.modFb c f).watch = s.watch := rfl
@[simp] theorem State.modFb_fb (c : Fin 14) (f : Fb → Fb) (s : State) : (s.modFb c f).fb = upd s.fb c f := rfl
@[simp] theorem State.modFb_fbx (c : Fin 14) (f : Fb → Fb) (s : State) : (s.modFb c f).fbx = s.fbx := rfl
@[simp] theorem State.modFb_din (c : Fin 14) (f : Fb → Fb) (s : State) : (s.modFb c f).din = s.din := rfl
@[simp] theorem State.modFb_gear (c : Fin 14) (f : Fb → Fb) (s : State) : (s.modFb c f).gear = s.gear := rfl
@[simp] theorem State.modFb_cam (c : Fin 14) (f : Fb → Fb) (s : State) : (s.modFb c f).cam = s.cam := rfl
@[simp] theorem State.modFb_ptl (c : Fin 14) (f : Fb → Fb) (s : State) : (s.modFb c f).ptl = s.ptl := rfl
@[simp] theorem State.modFb_ptlIn (c : Fin 14) (f : Fb → Fb) (s : State) : (s.modFb c f).ptlIn = s.ptlIn := rfl
@[simp] theorem State.modFb_ptlRun (c : Fin 14) (f : Fb → Fb) (s : State) : (s.modFb c f).ptlRun = s.ptlRun := rfl
@[simp] theorem State.modFb_cyc (c : Fin 14) (f : Fb → Fb) (s : State) : (s.modFb c f).cyc = s.cyc := rfl
@[simp] theorem State.modFb_cycEnd (c : Fin 14) (f : Fb → Fb) (s : State) : (s.modFb c f).cycEnd = s.cycEnd := rfl
@[simp] theorem State.modFb_doorAt (c : Fin 14) (f : Fb → Fb) (s : State) : (s.modFb c f).doorAt = s.doorAt := rfl
@[simp] theorem State.modFb_env (c : Fin 14) (f : Fb → Fb) (s : State) : (s.modFb c f).env = s.env := rfl
@[simp] theorem State.modFb_envKept (c : Fin 14) (f : Fb → Fb) (s : State) : (s.modFb c f).envKept = s.envKept := rfl
@[simp] theorem State.modFb_edges (c : Fin 14) (f : Fb → Fb) (s : State) : (s.modFb c f).edges = s.edges := rfl
@[simp] theorem State.modFb_side (c : Fin 14) (f : Fb → Fb) (s : State) : (s.modFb c f).side = s.side := rfl
@[simp] theorem State.modFb_grd (c : Fin 14) (f : Fb → Fb) (s : State) : (s.modFb c f).grd = s.grd := rfl
@[simp] theorem State.modFb_sbx (c : Fin 14) (f : Fb → Fb) (s : State) : (s.modFb c f).sbx = s.sbx := rfl
@[simp] theorem State.modFb_safe (c : Fin 14) (f : Fb → Fb) (s : State) : (s.modFb c f).safe = s.safe := rfl
@[simp] theorem State.modFb_lsw (c : Fin 14) (f : Fb → Fb) (s : State) : (s.modFb c f).lsw = s.lsw := rfl
@[simp] theorem State.modFb_lswx (c : Fin 14) (f : Fb → Fb) (s : State) : (s.modFb c f).lswx = s.lswx := rfl
@[simp] theorem State.modFb_lswg (c : Fin 14) (f : Fb → Fb) (s : State) : (s.modFb c f).lswg = s.lswg := rfl
@[simp] theorem State.modFb_can (c : Fin 14) (f : Fb → Fb) (s : State) : (s.modFb c f).can = s.can := rfl
@[simp] theorem State.modFb_canc (c : Fin 14) (f : Fb → Fb) (s : State) : (s.modFb c f).canc = s.canc := rfl
@[simp] theorem State.modFb_stn (c : Fin 14) (f : Fb → Fb) (s : State) : (s.modFb c f).stn = s.stn := rfl
@[simp] theorem State.modFb_prg (c : Fin 14) (f : Fb → Fb) (s : State) : (s.modFb c f).prg = s.prg := rfl
@[simp] theorem State.modFb_prgx (c : Fin 14) (f : Fb → Fb) (s : State) : (s.modFb c f).prgx = s.prgx := rfl
@[simp] theorem State.modFb_evq (c : Fin 14) (f : Fb → Fb) (s : State) : (s.modFb c f).evq = s.evq := rfl
@[simp] theorem State.modFb_hif (c : Fin 14) (f : Fb → Fb) (s : State) : (s.modFb c f).hif = s.hif := rfl
@[simp] theorem State.modFb_hspi (c : Fin 14) (f : Fb → Fb) (s : State) : (s.modFb c f).hspi = s.hspi := rfl
@[simp] theorem State.modFb_recd (c : Fin 14) (f : Fb → Fb) (s : State) : (s.modFb c f).recd = s.recd := rfl
@[simp] theorem State.modFb_stat (c : Fin 14) (f : Fb → Fb) (s : State) : (s.modFb c f).stat = s.stat := rfl
@[simp] theorem State.modFb_pair (c : Fin 14) (f : Fb → Fb) (s : State) : (s.modFb c f).pair = s.pair := rfl
@[simp] theorem State.modFb_pairx (c : Fin 14) (f : Fb → Fb) (s : State) : (s.modFb c f).pairx = s.pairx := rfl
@[simp] theorem State.modFb_fuses (c : Fin 14) (f : Fb → Fb) (s : State) : (s.modFb c f).fuses = s.fuses := rfl
@[simp] theorem State.modFb_sec (c : Fin 14) (f : Fb → Fb) (s : State) : (s.modFb c f).sec = s.sec := rfl
@[simp] theorem State.modFb_cfg (c : Fin 14) (f : Fb → Fb) (s : State) : (s.modFb c f).cfg = s.cfg := rfl
@[simp] theorem State.modFb_posted (c : Fin 14) (f : Fb → Fb) (s : State) : (s.modFb c f).posted = s.posted := rfl
@[simp] theorem State.modFb_fresh (c : Fin 14) (f : Fb → Fb) (s : State) : (s.modFb c f).fresh = s.fresh := rfl
@[simp] theorem State.modFb_pending (c : Fin 14) (f : Fb → Fb) (s : State) : (s.modFb c f).pending = s.pending := rfl

@[simp] theorem State.modFbx_tb (c : Fin 14) (f : FbAux → FbAux) (s : State) : (s.modFbx c f).tb = s.tb := rfl
@[simp] theorem State.modFbx_epoch (c : Fin 14) (f : FbAux → FbAux) (s : State) : (s.modFbx c f).epoch = s.epoch := rfl
@[simp] theorem State.modFbx_slept (c : Fin 14) (f : FbAux → FbAux) (s : State) : (s.modFbx c f).slept = s.slept := rfl
@[simp] theorem State.modFbx_frac (c : Fin 14) (f : FbAux → FbAux) (s : State) : (s.modFbx c f).frac = s.frac := rfl
@[simp] theorem State.modFbx_period (c : Fin 14) (f : FbAux → FbAux) (s : State) : (s.modFbx c f).period = s.period := rfl
@[simp] theorem State.modFbx_links (c : Fin 14) (f : FbAux → FbAux) (s : State) : (s.modFbx c f).links = s.links := rfl
@[simp] theorem State.modFbx_present (c : Fin 14) (f : FbAux → FbAux) (s : State) : (s.modFbx c f).present = s.present := rfl
@[simp] theorem State.modFbx_lost (c : Fin 14) (f : FbAux → FbAux) (s : State) : (s.modFbx c f).lost = s.lost := rfl
@[simp] theorem State.modFbx_seq (c : Fin 14) (f : FbAux → FbAux) (s : State) : (s.modFbx c f).seq = s.seq := rfl
@[simp] theorem State.modFbx_mem (c : Fin 14) (f : FbAux → FbAux) (s : State) : (s.modFbx c f).mem = s.mem := rfl
@[simp] theorem State.modFbx_pages (c : Fin 14) (f : FbAux → FbAux) (s : State) : (s.modFbx c f).pages = s.pages := rfl
@[simp] theorem State.modFbx_pwr (c : Fin 14) (f : FbAux → FbAux) (s : State) : (s.modFbx c f).pwr = s.pwr := rfl
@[simp] theorem State.modFbx_clk (c : Fin 14) (f : FbAux → FbAux) (s : State) : (s.modFbx c f).clk = s.clk := rfl
@[simp] theorem State.modFbx_rst (c : Fin 14) (f : FbAux → FbAux) (s : State) : (s.modFbx c f).rst = s.rst := rfl
@[simp] theorem State.modFbx_boot (c : Fin 14) (f : FbAux → FbAux) (s : State) : (s.modFbx c f).boot = s.boot := rfl
@[simp] theorem State.modFbx_mc (c : Fin 14) (f : FbAux → FbAux) (s : State) : (s.modFbx c f).mc = s.mc := rfl
@[simp] theorem State.modFbx_ax (c : Fin 14) (f : FbAux → FbAux) (s : State) : (s.modFbx c f).ax = s.ax := rfl
@[simp] theorem State.modFbx_drv (c : Fin 14) (f : FbAux → FbAux) (s : State) : (s.modFbx c f).drv = s.drv := rfl
@[simp] theorem State.modFbx_coil (c : Fin 14) (f : FbAux → FbAux) (s : State) : (s.modFbx c f).coil = s.coil := rfl
@[simp] theorem State.modFbx_watch (c : Fin 14) (f : FbAux → FbAux) (s : State) : (s.modFbx c f).watch = s.watch := rfl
@[simp] theorem State.modFbx_fb (c : Fin 14) (f : FbAux → FbAux) (s : State) : (s.modFbx c f).fb = s.fb := rfl
@[simp] theorem State.modFbx_fbx (c : Fin 14) (f : FbAux → FbAux) (s : State) : (s.modFbx c f).fbx = upd s.fbx c f := rfl
@[simp] theorem State.modFbx_din (c : Fin 14) (f : FbAux → FbAux) (s : State) : (s.modFbx c f).din = s.din := rfl
@[simp] theorem State.modFbx_gear (c : Fin 14) (f : FbAux → FbAux) (s : State) : (s.modFbx c f).gear = s.gear := rfl
@[simp] theorem State.modFbx_cam (c : Fin 14) (f : FbAux → FbAux) (s : State) : (s.modFbx c f).cam = s.cam := rfl
@[simp] theorem State.modFbx_ptl (c : Fin 14) (f : FbAux → FbAux) (s : State) : (s.modFbx c f).ptl = s.ptl := rfl
@[simp] theorem State.modFbx_ptlIn (c : Fin 14) (f : FbAux → FbAux) (s : State) : (s.modFbx c f).ptlIn = s.ptlIn := rfl
@[simp] theorem State.modFbx_ptlRun (c : Fin 14) (f : FbAux → FbAux) (s : State) : (s.modFbx c f).ptlRun = s.ptlRun := rfl
@[simp] theorem State.modFbx_cyc (c : Fin 14) (f : FbAux → FbAux) (s : State) : (s.modFbx c f).cyc = s.cyc := rfl
@[simp] theorem State.modFbx_cycEnd (c : Fin 14) (f : FbAux → FbAux) (s : State) : (s.modFbx c f).cycEnd = s.cycEnd := rfl
@[simp] theorem State.modFbx_doorAt (c : Fin 14) (f : FbAux → FbAux) (s : State) : (s.modFbx c f).doorAt = s.doorAt := rfl
@[simp] theorem State.modFbx_env (c : Fin 14) (f : FbAux → FbAux) (s : State) : (s.modFbx c f).env = s.env := rfl
@[simp] theorem State.modFbx_envKept (c : Fin 14) (f : FbAux → FbAux) (s : State) : (s.modFbx c f).envKept = s.envKept := rfl
@[simp] theorem State.modFbx_edges (c : Fin 14) (f : FbAux → FbAux) (s : State) : (s.modFbx c f).edges = s.edges := rfl
@[simp] theorem State.modFbx_side (c : Fin 14) (f : FbAux → FbAux) (s : State) : (s.modFbx c f).side = s.side := rfl
@[simp] theorem State.modFbx_grd (c : Fin 14) (f : FbAux → FbAux) (s : State) : (s.modFbx c f).grd = s.grd := rfl
@[simp] theorem State.modFbx_sbx (c : Fin 14) (f : FbAux → FbAux) (s : State) : (s.modFbx c f).sbx = s.sbx := rfl
@[simp] theorem State.modFbx_safe (c : Fin 14) (f : FbAux → FbAux) (s : State) : (s.modFbx c f).safe = s.safe := rfl
@[simp] theorem State.modFbx_lsw (c : Fin 14) (f : FbAux → FbAux) (s : State) : (s.modFbx c f).lsw = s.lsw := rfl
@[simp] theorem State.modFbx_lswx (c : Fin 14) (f : FbAux → FbAux) (s : State) : (s.modFbx c f).lswx = s.lswx := rfl
@[simp] theorem State.modFbx_lswg (c : Fin 14) (f : FbAux → FbAux) (s : State) : (s.modFbx c f).lswg = s.lswg := rfl
@[simp] theorem State.modFbx_can (c : Fin 14) (f : FbAux → FbAux) (s : State) : (s.modFbx c f).can = s.can := rfl
@[simp] theorem State.modFbx_canc (c : Fin 14) (f : FbAux → FbAux) (s : State) : (s.modFbx c f).canc = s.canc := rfl
@[simp] theorem State.modFbx_stn (c : Fin 14) (f : FbAux → FbAux) (s : State) : (s.modFbx c f).stn = s.stn := rfl
@[simp] theorem State.modFbx_prg (c : Fin 14) (f : FbAux → FbAux) (s : State) : (s.modFbx c f).prg = s.prg := rfl
@[simp] theorem State.modFbx_prgx (c : Fin 14) (f : FbAux → FbAux) (s : State) : (s.modFbx c f).prgx = s.prgx := rfl
@[simp] theorem State.modFbx_evq (c : Fin 14) (f : FbAux → FbAux) (s : State) : (s.modFbx c f).evq = s.evq := rfl
@[simp] theorem State.modFbx_hif (c : Fin 14) (f : FbAux → FbAux) (s : State) : (s.modFbx c f).hif = s.hif := rfl
@[simp] theorem State.modFbx_hspi (c : Fin 14) (f : FbAux → FbAux) (s : State) : (s.modFbx c f).hspi = s.hspi := rfl
@[simp] theorem State.modFbx_recd (c : Fin 14) (f : FbAux → FbAux) (s : State) : (s.modFbx c f).recd = s.recd := rfl
@[simp] theorem State.modFbx_stat (c : Fin 14) (f : FbAux → FbAux) (s : State) : (s.modFbx c f).stat = s.stat := rfl
@[simp] theorem State.modFbx_pair (c : Fin 14) (f : FbAux → FbAux) (s : State) : (s.modFbx c f).pair = s.pair := rfl
@[simp] theorem State.modFbx_pairx (c : Fin 14) (f : FbAux → FbAux) (s : State) : (s.modFbx c f).pairx = s.pairx := rfl
@[simp] theorem State.modFbx_fuses (c : Fin 14) (f : FbAux → FbAux) (s : State) : (s.modFbx c f).fuses = s.fuses := rfl
@[simp] theorem State.modFbx_sec (c : Fin 14) (f : FbAux → FbAux) (s : State) : (s.modFbx c f).sec = s.sec := rfl
@[simp] theorem State.modFbx_cfg (c : Fin 14) (f : FbAux → FbAux) (s : State) : (s.modFbx c f).cfg = s.cfg := rfl
@[simp] theorem State.modFbx_posted (c : Fin 14) (f : FbAux → FbAux) (s : State) : (s.modFbx c f).posted = s.posted := rfl
@[simp] theorem State.modFbx_fresh (c : Fin 14) (f : FbAux → FbAux) (s : State) : (s.modFbx c f).fresh = s.fresh := rfl
@[simp] theorem State.modFbx_pending (c : Fin 14) (f : FbAux → FbAux) (s : State) : (s.modFbx c f).pending = s.pending := rfl

@[simp] theorem State.modLink_tb (d : Fin 8) (f : Link → Link) (s : State) : (s.modLink d f).tb = s.tb := rfl
@[simp] theorem State.modLink_epoch (d : Fin 8) (f : Link → Link) (s : State) : (s.modLink d f).epoch = s.epoch := rfl
@[simp] theorem State.modLink_slept (d : Fin 8) (f : Link → Link) (s : State) : (s.modLink d f).slept = s.slept := rfl
@[simp] theorem State.modLink_frac (d : Fin 8) (f : Link → Link) (s : State) : (s.modLink d f).frac = s.frac := rfl
@[simp] theorem State.modLink_period (d : Fin 8) (f : Link → Link) (s : State) : (s.modLink d f).period = s.period := rfl
@[simp] theorem State.modLink_links (d : Fin 8) (f : Link → Link) (s : State) : (s.modLink d f).links = upd s.links d f := rfl
@[simp] theorem State.modLink_present (d : Fin 8) (f : Link → Link) (s : State) : (s.modLink d f).present = s.present := rfl
@[simp] theorem State.modLink_lost (d : Fin 8) (f : Link → Link) (s : State) : (s.modLink d f).lost = s.lost := rfl
@[simp] theorem State.modLink_seq (d : Fin 8) (f : Link → Link) (s : State) : (s.modLink d f).seq = s.seq := rfl
@[simp] theorem State.modLink_mem (d : Fin 8) (f : Link → Link) (s : State) : (s.modLink d f).mem = s.mem := rfl
@[simp] theorem State.modLink_pages (d : Fin 8) (f : Link → Link) (s : State) : (s.modLink d f).pages = s.pages := rfl
@[simp] theorem State.modLink_pwr (d : Fin 8) (f : Link → Link) (s : State) : (s.modLink d f).pwr = s.pwr := rfl
@[simp] theorem State.modLink_clk (d : Fin 8) (f : Link → Link) (s : State) : (s.modLink d f).clk = s.clk := rfl
@[simp] theorem State.modLink_rst (d : Fin 8) (f : Link → Link) (s : State) : (s.modLink d f).rst = s.rst := rfl
@[simp] theorem State.modLink_boot (d : Fin 8) (f : Link → Link) (s : State) : (s.modLink d f).boot = s.boot := rfl
@[simp] theorem State.modLink_mc (d : Fin 8) (f : Link → Link) (s : State) : (s.modLink d f).mc = s.mc := rfl
@[simp] theorem State.modLink_ax (d : Fin 8) (f : Link → Link) (s : State) : (s.modLink d f).ax = s.ax := rfl
@[simp] theorem State.modLink_drv (d : Fin 8) (f : Link → Link) (s : State) : (s.modLink d f).drv = s.drv := rfl
@[simp] theorem State.modLink_coil (d : Fin 8) (f : Link → Link) (s : State) : (s.modLink d f).coil = s.coil := rfl
@[simp] theorem State.modLink_watch (d : Fin 8) (f : Link → Link) (s : State) : (s.modLink d f).watch = s.watch := rfl
@[simp] theorem State.modLink_fb (d : Fin 8) (f : Link → Link) (s : State) : (s.modLink d f).fb = s.fb := rfl
@[simp] theorem State.modLink_fbx (d : Fin 8) (f : Link → Link) (s : State) : (s.modLink d f).fbx = s.fbx := rfl
@[simp] theorem State.modLink_din (d : Fin 8) (f : Link → Link) (s : State) : (s.modLink d f).din = s.din := rfl
@[simp] theorem State.modLink_gear (d : Fin 8) (f : Link → Link) (s : State) : (s.modLink d f).gear = s.gear := rfl
@[simp] theorem State.modLink_cam (d : Fin 8) (f : Link → Link) (s : State) : (s.modLink d f).cam = s.cam := rfl
@[simp] theorem State.modLink_ptl (d : Fin 8) (f : Link → Link) (s : State) : (s.modLink d f).ptl = s.ptl := rfl
@[simp] theorem State.modLink_ptlIn (d : Fin 8) (f : Link → Link) (s : State) : (s.modLink d f).ptlIn = s.ptlIn := rfl
@[simp] theorem State.modLink_ptlRun (d : Fin 8) (f : Link → Link) (s : State) : (s.modLink d f).ptlRun = s.ptlRun := rfl
@[simp] theorem State.modLink_cyc (d : Fin 8) (f : Link → Link) (s : State) : (s.modLink d f).cyc = s.cyc := rfl
@[simp] theorem State.modLink_cycEnd (d : Fin 8) (f : Link → Link) (s : State) : (s.modLink d f).cycEnd = s.cycEnd := rfl
@[simp] theorem State.modLink_doorAt (d : Fin 8) (f : Link → Link) (s : State) : (s.modLink d f).doorAt = s.doorAt := rfl
@[simp] theorem State.modLink_env (d : Fin 8) (f : Link → Link) (s : State) : (s.modLink d f).env = s.env := rfl
@[simp] theorem State.modLink_envKept (d : Fin 8) (f : Link → Link) (s : State) : (s.modLink d f).envKept = s.envKept := rfl
@[simp] theorem State.modLink_edges (d : Fin 8) (f : Link → Link) (s : State) : (s.modLink d f).edges = s.edges := rfl
@[simp] theorem State.modLink_side (d : Fin 8) (f : Link → Link) (s : State) : (s.modLink d f).side = s.side := rfl
@[simp] theorem State.modLink_grd (d : Fin 8) (f : Link → Link) (s : State) : (s.modLink d f).grd = s.grd := rfl
@[simp] theorem State.modLink_sbx (d : Fin 8) (f : Link → Link) (s : State) : (s.modLink d f).sbx = s.sbx := rfl
@[simp] theorem State.modLink_safe (d : Fin 8) (f : Link → Link) (s : State) : (s.modLink d f).safe = s.safe := rfl
@[simp] theorem State.modLink_lsw (d : Fin 8) (f : Link → Link) (s : State) : (s.modLink d f).lsw = s.lsw := rfl
@[simp] theorem State.modLink_lswx (d : Fin 8) (f : Link → Link) (s : State) : (s.modLink d f).lswx = s.lswx := rfl
@[simp] theorem State.modLink_lswg (d : Fin 8) (f : Link → Link) (s : State) : (s.modLink d f).lswg = s.lswg := rfl
@[simp] theorem State.modLink_can (d : Fin 8) (f : Link → Link) (s : State) : (s.modLink d f).can = s.can := rfl
@[simp] theorem State.modLink_canc (d : Fin 8) (f : Link → Link) (s : State) : (s.modLink d f).canc = s.canc := rfl
@[simp] theorem State.modLink_stn (d : Fin 8) (f : Link → Link) (s : State) : (s.modLink d f).stn = s.stn := rfl
@[simp] theorem State.modLink_prg (d : Fin 8) (f : Link → Link) (s : State) : (s.modLink d f).prg = s.prg := rfl
@[simp] theorem State.modLink_prgx (d : Fin 8) (f : Link → Link) (s : State) : (s.modLink d f).prgx = s.prgx := rfl
@[simp] theorem State.modLink_evq (d : Fin 8) (f : Link → Link) (s : State) : (s.modLink d f).evq = s.evq := rfl
@[simp] theorem State.modLink_hif (d : Fin 8) (f : Link → Link) (s : State) : (s.modLink d f).hif = s.hif := rfl
@[simp] theorem State.modLink_hspi (d : Fin 8) (f : Link → Link) (s : State) : (s.modLink d f).hspi = s.hspi := rfl
@[simp] theorem State.modLink_recd (d : Fin 8) (f : Link → Link) (s : State) : (s.modLink d f).recd = s.recd := rfl
@[simp] theorem State.modLink_stat (d : Fin 8) (f : Link → Link) (s : State) : (s.modLink d f).stat = s.stat := rfl
@[simp] theorem State.modLink_pair (d : Fin 8) (f : Link → Link) (s : State) : (s.modLink d f).pair = s.pair := rfl
@[simp] theorem State.modLink_pairx (d : Fin 8) (f : Link → Link) (s : State) : (s.modLink d f).pairx = s.pairx := rfl
@[simp] theorem State.modLink_fuses (d : Fin 8) (f : Link → Link) (s : State) : (s.modLink d f).fuses = s.fuses := rfl
@[simp] theorem State.modLink_sec (d : Fin 8) (f : Link → Link) (s : State) : (s.modLink d f).sec = s.sec := rfl
@[simp] theorem State.modLink_cfg (d : Fin 8) (f : Link → Link) (s : State) : (s.modLink d f).cfg = s.cfg := rfl
@[simp] theorem State.modLink_posted (d : Fin 8) (f : Link → Link) (s : State) : (s.modLink d f).posted = s.posted := rfl
@[simp] theorem State.modLink_fresh (d : Fin 8) (f : Link → Link) (s : State) : (s.modLink d f).fresh = s.fresh := rfl
@[simp] theorem State.modLink_pending (d : Fin 8) (f : Link → Link) (s : State) : (s.modLink d f).pending = s.pending := rfl

@[simp] theorem State.modLsw_tb (c : Fin 24) (f : Lsw → Lsw) (s : State) : (s.modLsw c f).tb = s.tb := rfl
@[simp] theorem State.modLsw_epoch (c : Fin 24) (f : Lsw → Lsw) (s : State) : (s.modLsw c f).epoch = s.epoch := rfl
@[simp] theorem State.modLsw_slept (c : Fin 24) (f : Lsw → Lsw) (s : State) : (s.modLsw c f).slept = s.slept := rfl
@[simp] theorem State.modLsw_frac (c : Fin 24) (f : Lsw → Lsw) (s : State) : (s.modLsw c f).frac = s.frac := rfl
@[simp] theorem State.modLsw_period (c : Fin 24) (f : Lsw → Lsw) (s : State) : (s.modLsw c f).period = s.period := rfl
@[simp] theorem State.modLsw_links (c : Fin 24) (f : Lsw → Lsw) (s : State) : (s.modLsw c f).links = s.links := rfl
@[simp] theorem State.modLsw_present (c : Fin 24) (f : Lsw → Lsw) (s : State) : (s.modLsw c f).present = s.present := rfl
@[simp] theorem State.modLsw_lost (c : Fin 24) (f : Lsw → Lsw) (s : State) : (s.modLsw c f).lost = s.lost := rfl
@[simp] theorem State.modLsw_seq (c : Fin 24) (f : Lsw → Lsw) (s : State) : (s.modLsw c f).seq = s.seq := rfl
@[simp] theorem State.modLsw_mem (c : Fin 24) (f : Lsw → Lsw) (s : State) : (s.modLsw c f).mem = s.mem := rfl
@[simp] theorem State.modLsw_pages (c : Fin 24) (f : Lsw → Lsw) (s : State) : (s.modLsw c f).pages = s.pages := rfl
@[simp] theorem State.modLsw_pwr (c : Fin 24) (f : Lsw → Lsw) (s : State) : (s.modLsw c f).pwr = s.pwr := rfl
@[simp] theorem State.modLsw_clk (c : Fin 24) (f : Lsw → Lsw) (s : State) : (s.modLsw c f).clk = s.clk := rfl
@[simp] theorem State.modLsw_rst (c : Fin 24) (f : Lsw → Lsw) (s : State) : (s.modLsw c f).rst = s.rst := rfl
@[simp] theorem State.modLsw_boot (c : Fin 24) (f : Lsw → Lsw) (s : State) : (s.modLsw c f).boot = s.boot := rfl
@[simp] theorem State.modLsw_mc (c : Fin 24) (f : Lsw → Lsw) (s : State) : (s.modLsw c f).mc = s.mc := rfl
@[simp] theorem State.modLsw_ax (c : Fin 24) (f : Lsw → Lsw) (s : State) : (s.modLsw c f).ax = s.ax := rfl
@[simp] theorem State.modLsw_drv (c : Fin 24) (f : Lsw → Lsw) (s : State) : (s.modLsw c f).drv = s.drv := rfl
@[simp] theorem State.modLsw_coil (c : Fin 24) (f : Lsw → Lsw) (s : State) : (s.modLsw c f).coil = s.coil := rfl
@[simp] theorem State.modLsw_watch (c : Fin 24) (f : Lsw → Lsw) (s : State) : (s.modLsw c f).watch = s.watch := rfl
@[simp] theorem State.modLsw_fb (c : Fin 24) (f : Lsw → Lsw) (s : State) : (s.modLsw c f).fb = s.fb := rfl
@[simp] theorem State.modLsw_fbx (c : Fin 24) (f : Lsw → Lsw) (s : State) : (s.modLsw c f).fbx = s.fbx := rfl
@[simp] theorem State.modLsw_din (c : Fin 24) (f : Lsw → Lsw) (s : State) : (s.modLsw c f).din = s.din := rfl
@[simp] theorem State.modLsw_gear (c : Fin 24) (f : Lsw → Lsw) (s : State) : (s.modLsw c f).gear = s.gear := rfl
@[simp] theorem State.modLsw_cam (c : Fin 24) (f : Lsw → Lsw) (s : State) : (s.modLsw c f).cam = s.cam := rfl
@[simp] theorem State.modLsw_ptl (c : Fin 24) (f : Lsw → Lsw) (s : State) : (s.modLsw c f).ptl = s.ptl := rfl
@[simp] theorem State.modLsw_ptlIn (c : Fin 24) (f : Lsw → Lsw) (s : State) : (s.modLsw c f).ptlIn = s.ptlIn := rfl
@[simp] theorem State.modLsw_ptlRun (c : Fin 24) (f : Lsw → Lsw) (s : State) : (s.modLsw c f).ptlRun = s.ptlRun := rfl
@[simp] theorem State.modLsw_cyc (c : Fin 24) (f : Lsw → Lsw) (s : State) : (s.modLsw c f).cyc = s.cyc := rfl
@[simp] theorem State.modLsw_cycEnd (c : Fin 24) (f : Lsw → Lsw) (s : State) : (s.modLsw c f).cycEnd = s.cycEnd := rfl
@[simp] theorem State.modLsw_doorAt (c : Fin 24) (f : Lsw → Lsw) (s : State) : (s.modLsw c f).doorAt = s.doorAt := rfl
@[simp] theorem State.modLsw_env (c : Fin 24) (f : Lsw → Lsw) (s : State) : (s.modLsw c f).env = s.env := rfl
@[simp] theorem State.modLsw_envKept (c : Fin 24) (f : Lsw → Lsw) (s : State) : (s.modLsw c f).envKept = s.envKept := rfl
@[simp] theorem State.modLsw_edges (c : Fin 24) (f : Lsw → Lsw) (s : State) : (s.modLsw c f).edges = s.edges := rfl
@[simp] theorem State.modLsw_side (c : Fin 24) (f : Lsw → Lsw) (s : State) : (s.modLsw c f).side = s.side := rfl
@[simp] theorem State.modLsw_grd (c : Fin 24) (f : Lsw → Lsw) (s : State) : (s.modLsw c f).grd = s.grd := rfl
@[simp] theorem State.modLsw_sbx (c : Fin 24) (f : Lsw → Lsw) (s : State) : (s.modLsw c f).sbx = s.sbx := rfl
@[simp] theorem State.modLsw_safe (c : Fin 24) (f : Lsw → Lsw) (s : State) : (s.modLsw c f).safe = s.safe := rfl
@[simp] theorem State.modLsw_lsw (c : Fin 24) (f : Lsw → Lsw) (s : State) : (s.modLsw c f).lsw = upd s.lsw c f := rfl
@[simp] theorem State.modLsw_lswx (c : Fin 24) (f : Lsw → Lsw) (s : State) : (s.modLsw c f).lswx = s.lswx := rfl
@[simp] theorem State.modLsw_lswg (c : Fin 24) (f : Lsw → Lsw) (s : State) : (s.modLsw c f).lswg = s.lswg := rfl
@[simp] theorem State.modLsw_can (c : Fin 24) (f : Lsw → Lsw) (s : State) : (s.modLsw c f).can = s.can := rfl
@[simp] theorem State.modLsw_canc (c : Fin 24) (f : Lsw → Lsw) (s : State) : (s.modLsw c f).canc = s.canc := rfl
@[simp] theorem State.modLsw_stn (c : Fin 24) (f : Lsw → Lsw) (s : State) : (s.modLsw c f).stn = s.stn := rfl
@[simp] theorem State.modLsw_prg (c : Fin 24) (f : Lsw → Lsw) (s : State) : (s.modLsw c f).prg = s.prg := rfl
@[simp] theorem State.modLsw_prgx (c : Fin 24) (f : Lsw → Lsw) (s : State) : (s.modLsw c f).prgx = s.prgx := rfl
@[simp] theorem State.modLsw_evq (c : Fin 24) (f : Lsw → Lsw) (s : State) : (s.modLsw c f).evq = s.evq := rfl
@[simp] theorem State.modLsw_hif (c : Fin 24) (f : Lsw → Lsw) (s : State) : (s.modLsw c f).hif = s.hif := rfl
@[simp] theorem State.modLsw_hspi (c : Fin 24) (f : Lsw → Lsw) (s : State) : (s.modLsw c f).hspi = s.hspi := rfl
@[simp] theorem State.modLsw_recd (c : Fin 24) (f : Lsw → Lsw) (s : State) : (s.modLsw c f).recd = s.recd := rfl
@[simp] theorem State.modLsw_stat (c : Fin 24) (f : Lsw → Lsw) (s : State) : (s.modLsw c f).stat = s.stat := rfl
@[simp] theorem State.modLsw_pair (c : Fin 24) (f : Lsw → Lsw) (s : State) : (s.modLsw c f).pair = s.pair := rfl
@[simp] theorem State.modLsw_pairx (c : Fin 24) (f : Lsw → Lsw) (s : State) : (s.modLsw c f).pairx = s.pairx := rfl
@[simp] theorem State.modLsw_fuses (c : Fin 24) (f : Lsw → Lsw) (s : State) : (s.modLsw c f).fuses = s.fuses := rfl
@[simp] theorem State.modLsw_sec (c : Fin 24) (f : Lsw → Lsw) (s : State) : (s.modLsw c f).sec = s.sec := rfl
@[simp] theorem State.modLsw_cfg (c : Fin 24) (f : Lsw → Lsw) (s : State) : (s.modLsw c f).cfg = s.cfg := rfl
@[simp] theorem State.modLsw_posted (c : Fin 24) (f : Lsw → Lsw) (s : State) : (s.modLsw c f).posted = s.posted := rfl
@[simp] theorem State.modLsw_fresh (c : Fin 24) (f : Lsw → Lsw) (s : State) : (s.modLsw c f).fresh = s.fresh := rfl
@[simp] theorem State.modLsw_pending (c : Fin 24) (f : Lsw → Lsw) (s : State) : (s.modLsw c f).pending = s.pending := rfl

@[simp] theorem State.modLswx_tb (c : Fin 24) (f : LswAux → LswAux) (s : State) : (s.modLswx c f).tb = s.tb := rfl
@[simp] theorem State.modLswx_epoch (c : Fin 24) (f : LswAux → LswAux) (s : State) : (s.modLswx c f).epoch = s.epoch := rfl
@[simp] theorem State.modLswx_slept (c : Fin 24) (f : LswAux → LswAux) (s : State) : (s.modLswx c f).slept = s.slept := rfl
@[simp] theorem State.modLswx_frac (c : Fin 24) (f : LswAux → LswAux) (s : State) : (s.modLswx c f).frac = s.frac := rfl
@[simp] theorem State.modLswx_period (c : Fin 24) (f : LswAux → LswAux) (s : State) : (s.modLswx c f).period = s.period := rfl
@[simp] theorem State.modLswx_links (c : Fin 24) (f : LswAux → LswAux) (s : State) : (s.modLswx c f).links = s.links := rfl
@[simp] theorem State.modLswx_present (c : Fin 24) (f : LswAux → LswAux) (s : State) : (s.modLswx c f).present = s.present := rfl
@[simp] theorem State.modLswx_lost (c : Fin 24) (f : LswAux → LswAux) (s : State) : (s.modLswx c f).lost = s.lost := rfl
@[simp] theorem State.modLswx_seq (c : Fin 24) (f : LswAux → LswAux) (s : State) : (s.modLswx c f).seq = s.seq := rfl
@[simp] theorem State.modLswx_mem (c : Fin 24) (f : LswAux → LswAux) (s : State) : (s.modLswx c f).mem = s.mem := rfl
@[simp] theorem State.modLswx_pages (c : Fin 24) (f : LswAux → LswAux) (s : State) : (s.modLswx c f).pages = s.pages := rfl
@[simp] theorem State.modLswx_pwr (c : Fin 24) (f : LswAux → LswAux) (s : State) : (s.modLswx c f).pwr = s.pwr := rfl
@[simp] theorem State.modLswx_clk (c : Fin 24) (f : LswAux → LswAux) (s : State) : (s.modLswx c f).clk = s.clk := rfl
@[simp] theorem State.modLswx_rst (c : Fin 24) (f : LswAux → LswAux) (s : State) : (s.modLswx c f).rst = s.rst := rfl
@[simp] theorem State.modLswx_boot (c : Fin 24) (f : LswAux → LswAux) (s : State) : (s.modLswx c f).boot = s.boot := rfl
@[simp] theorem State.modLswx_mc (c : Fin 24) (f : LswAux → LswAux) (s : State) : (s.modLswx c f).mc = s.mc := rfl
@[simp] theorem State.modLswx_ax (c : Fin 24) (f : LswAux → LswAux) (s : State) : (s.modLswx c f).ax = s.ax := rfl
@[simp] theorem State.modLswx_drv (c : Fin 24) (f : LswAux → LswAux) (s : State) : (s.modLswx c f).drv = s.drv := rfl
@[simp] theorem State.modLswx_coil (c : Fin 24) (f : LswAux → LswAux) (s : State) : (s.modLswx c f).coil = s.coil := rfl
@[simp] theorem State.modLswx_watch (c : Fin 24) (f : LswAux → LswAux) (s : State) : (s.modLswx c f).watch = s.watch := rfl
@[simp] theorem State.modLswx_fb (c : Fin 24) (f : LswAux → LswAux) (s : State) : (s.modLswx c f).fb = s.fb := rfl
@[simp] theorem State.modLswx_fbx (c : Fin 24) (f : LswAux → LswAux) (s : State) : (s.modLswx c f).fbx = s.fbx := rfl
@[simp] theorem State.modLswx_din (c : Fin 24) (f : LswAux → LswAux) (s : State) : (s.modLswx c f).din = s.din := rfl
@[simp] theorem State.modLswx_gear (c : Fin 24) (f : LswAux → LswAux) (s : State) : (s.modLswx c f).gear = s.gear := rfl
@[simp] theorem State.modLswx_cam (c : Fin 24) (f : LswAux → LswAux) (s : State) : (s.modLswx c f).cam = s.cam := rfl
@[simp] theorem State.modLswx_ptl (c : Fin 24) (f : LswAux → LswAux) (s : State) : (s.modLswx c f).ptl = s.ptl := rfl
@[simp] theorem State.modLswx_ptlIn (c : Fin 24) (f : LswAux → LswAux) (s : State) : (s.modLswx c f).ptlIn = s.ptlIn := rfl
@[simp] theorem State.modLswx_ptlRun (c : Fin 24) (f : LswAux → LswAux) (s : State) : (s.modLswx c f).ptlRun = s.ptlRun := rfl
@[simp] theorem State.modLswx_cyc (c : Fin 24) (f : LswAux → LswAux) (s : State) : (s.modLswx c f).cyc = s.cyc := rfl
@[simp] theorem State.modLswx_cycEnd (c : Fin 24) (f : LswAux → LswAux) (s : State) : (s.modLswx c f).cycEnd = s.cycEnd := rfl
@[simp] theorem State.modLswx_doorAt (c : Fin 24) (f : LswAux → LswAux) (s : State) : (s.modLswx c f).doorAt = s.doorAt := rfl
@[simp] theorem State.modLswx_env (c : Fin 24) (f : LswAux → LswAux) (s : State) : (s.modLswx c f).env = s.env := rfl
@[simp] theorem State.modLswx_envKept (c : Fin 24) (f : LswAux → LswAux) (s : State) : (s.modLswx c f).envKept = s.envKept := rfl
@[simp] theorem State.modLswx_edges (c : Fin 24) (f : LswAux → LswAux) (s : State) : (s.modLswx c f).edges = s.edges := rfl
@[simp] theorem State.modLswx_side (c : Fin 24) (f : LswAux → LswAux) (s : State) : (s.modLswx c f).side = s.side := rfl
@[simp] theorem State.modLswx_grd (c : Fin 24) (f : LswAux → LswAux) (s : State) : (s.modLswx c f).grd = s.grd := rfl
@[simp] theorem State.modLswx_sbx (c : Fin 24) (f : LswAux → LswAux) (s : State) : (s.modLswx c f).sbx = s.sbx := rfl
@[simp] theorem State.modLswx_safe (c : Fin 24) (f : LswAux → LswAux) (s : State) : (s.modLswx c f).safe = s.safe := rfl
@[simp] theorem State.modLswx_lsw (c : Fin 24) (f : LswAux → LswAux) (s : State) : (s.modLswx c f).lsw = s.lsw := rfl
@[simp] theorem State.modLswx_lswx (c : Fin 24) (f : LswAux → LswAux) (s : State) : (s.modLswx c f).lswx = upd s.lswx c f := rfl
@[simp] theorem State.modLswx_lswg (c : Fin 24) (f : LswAux → LswAux) (s : State) : (s.modLswx c f).lswg = s.lswg := rfl
@[simp] theorem State.modLswx_can (c : Fin 24) (f : LswAux → LswAux) (s : State) : (s.modLswx c f).can = s.can := rfl
@[simp] theorem State.modLswx_canc (c : Fin 24) (f : LswAux → LswAux) (s : State) : (s.modLswx c f).canc = s.canc := rfl
@[simp] theorem State.modLswx_stn (c : Fin 24) (f : LswAux → LswAux) (s : State) : (s.modLswx c f).stn = s.stn := rfl
@[simp] theorem State.modLswx_prg (c : Fin 24) (f : LswAux → LswAux) (s : State) : (s.modLswx c f).prg = s.prg := rfl
@[simp] theorem State.modLswx_prgx (c : Fin 24) (f : LswAux → LswAux) (s : State) : (s.modLswx c f).prgx = s.prgx := rfl
@[simp] theorem State.modLswx_evq (c : Fin 24) (f : LswAux → LswAux) (s : State) : (s.modLswx c f).evq = s.evq := rfl
@[simp] theorem State.modLswx_hif (c : Fin 24) (f : LswAux → LswAux) (s : State) : (s.modLswx c f).hif = s.hif := rfl
@[simp] theorem State.modLswx_hspi (c : Fin 24) (f : LswAux → LswAux) (s : State) : (s.modLswx c f).hspi = s.hspi := rfl
@[simp] theorem State.modLswx_recd (c : Fin 24) (f : LswAux → LswAux) (s : State) : (s.modLswx c f).recd = s.recd := rfl
@[simp] theorem State.modLswx_stat (c : Fin 24) (f : LswAux → LswAux) (s : State) : (s.modLswx c f).stat = s.stat := rfl
@[simp] theorem State.modLswx_pair (c : Fin 24) (f : LswAux → LswAux) (s : State) : (s.modLswx c f).pair = s.pair := rfl
@[simp] theorem State.modLswx_pairx (c : Fin 24) (f : LswAux → LswAux) (s : State) : (s.modLswx c f).pairx = s.pairx := rfl
@[simp] theorem State.modLswx_fuses (c : Fin 24) (f : LswAux → LswAux) (s : State) : (s.modLswx c f).fuses = s.fuses := rfl
@[simp] theorem State.modLswx_sec (c : Fin 24) (f : LswAux → LswAux) (s : State) : (s.modLswx c f).sec = s.sec := rfl
@[simp] theorem State.modLswx_cfg (c : Fin 24) (f : LswAux → LswAux) (s : State) : (s.modLswx c f).cfg = s.cfg := rfl
@[simp] theorem State.modLswx_posted (c : Fin 24) (f : LswAux → LswAux) (s : State) : (s.modLswx c f).posted = s.posted := rfl
@[simp] theorem State.modLswx_fresh (c : Fin 24) (f : LswAux → LswAux) (s : State) : (s.modLswx c f).fresh = s.fresh := rfl
@[simp] theorem State.modLswx_pending (c : Fin 24) (f : LswAux → LswAux) (s : State) : (s.modLswx c f).pending = s.pending := rfl

@[simp] theorem State.modPtl_tb (p : Fin 8) (f : Ptl → Ptl) (s : State) : (s.modPtl p f).tb = s.tb := rfl
@[simp] theorem State.modPtl_epoch (p : Fin 8) (f : Ptl → Ptl) (s : State) : (s.modPtl p f).epoch = s.epoch := rfl
@[simp] theorem State.modPtl_slept (p : Fin 8) (f : Ptl → Ptl) (s : State) : (s.modPtl p f).slept = s.slept := rfl
@[simp] theorem State.modPtl_frac (p : Fin 8) (f : Ptl → Ptl) (s : State) : (s.modPtl p f).frac = s.frac := rfl
@[simp] theorem State.modPtl_period (p : Fin 8) (f : Ptl → Ptl) (s : State) : (s.modPtl p f).period = s.period := rfl
@[simp] theorem State.modPtl_links (p : Fin 8) (f : Ptl → Ptl) (s : State) : (s.modPtl p f).links = s.links := rfl
@[simp] theorem State.modPtl_present (p : Fin 8) (f : Ptl → Ptl) (s : State) : (s.modPtl p f).present = s.present := rfl
@[simp] theorem State.modPtl_lost (p : Fin 8) (f : Ptl → Ptl) (s : State) : (s.modPtl p f).lost = s.lost := rfl
@[simp] theorem State.modPtl_seq (p : Fin 8) (f : Ptl → Ptl) (s : State) : (s.modPtl p f).seq = s.seq := rfl
@[simp] theorem State.modPtl_mem (p : Fin 8) (f : Ptl → Ptl) (s : State) : (s.modPtl p f).mem = s.mem := rfl
@[simp] theorem State.modPtl_pages (p : Fin 8) (f : Ptl → Ptl) (s : State) : (s.modPtl p f).pages = s.pages := rfl
@[simp] theorem State.modPtl_pwr (p : Fin 8) (f : Ptl → Ptl) (s : State) : (s.modPtl p f).pwr = s.pwr := rfl
@[simp] theorem State.modPtl_clk (p : Fin 8) (f : Ptl → Ptl) (s : State) : (s.modPtl p f).clk = s.clk := rfl
@[simp] theorem State.modPtl_rst (p : Fin 8) (f : Ptl → Ptl) (s : State) : (s.modPtl p f).rst = s.rst := rfl
@[simp] theorem State.modPtl_boot (p : Fin 8) (f : Ptl → Ptl) (s : State) : (s.modPtl p f).boot = s.boot := rfl
@[simp] theorem State.modPtl_mc (p : Fin 8) (f : Ptl → Ptl) (s : State) : (s.modPtl p f).mc = s.mc := rfl
@[simp] theorem State.modPtl_ax (p : Fin 8) (f : Ptl → Ptl) (s : State) : (s.modPtl p f).ax = s.ax := rfl
@[simp] theorem State.modPtl_drv (p : Fin 8) (f : Ptl → Ptl) (s : State) : (s.modPtl p f).drv = s.drv := rfl
@[simp] theorem State.modPtl_coil (p : Fin 8) (f : Ptl → Ptl) (s : State) : (s.modPtl p f).coil = s.coil := rfl
@[simp] theorem State.modPtl_watch (p : Fin 8) (f : Ptl → Ptl) (s : State) : (s.modPtl p f).watch = s.watch := rfl
@[simp] theorem State.modPtl_fb (p : Fin 8) (f : Ptl → Ptl) (s : State) : (s.modPtl p f).fb = s.fb := rfl
@[simp] theorem State.modPtl_fbx (p : Fin 8) (f : Ptl → Ptl) (s : State) : (s.modPtl p f).fbx = s.fbx := rfl
@[simp] theorem State.modPtl_din (p : Fin 8) (f : Ptl → Ptl) (s : State) : (s.modPtl p f).din = s.din := rfl
@[simp] theorem State.modPtl_gear (p : Fin 8) (f : Ptl → Ptl) (s : State) : (s.modPtl p f).gear = s.gear := rfl
@[simp] theorem State.modPtl_cam (p : Fin 8) (f : Ptl → Ptl) (s : State) : (s.modPtl p f).cam = s.cam := rfl
@[simp] theorem State.modPtl_ptl (p : Fin 8) (f : Ptl → Ptl) (s : State) : (s.modPtl p f).ptl = upd s.ptl p f := rfl
@[simp] theorem State.modPtl_ptlIn (p : Fin 8) (f : Ptl → Ptl) (s : State) : (s.modPtl p f).ptlIn = s.ptlIn := rfl
@[simp] theorem State.modPtl_ptlRun (p : Fin 8) (f : Ptl → Ptl) (s : State) : (s.modPtl p f).ptlRun = s.ptlRun := rfl
@[simp] theorem State.modPtl_cyc (p : Fin 8) (f : Ptl → Ptl) (s : State) : (s.modPtl p f).cyc = s.cyc := rfl
@[simp] theorem State.modPtl_cycEnd (p : Fin 8) (f : Ptl → Ptl) (s : State) : (s.modPtl p f).cycEnd = s.cycEnd := rfl
@[simp] theorem State.modPtl_doorAt (p : Fin 8) (f : Ptl → Ptl) (s : State) : (s.modPtl p f).doorAt = s.doorAt := rfl
@[simp] theorem State.modPtl_env (p : Fin 8) (f : Ptl → Ptl) (s : State) : (s.modPtl p f).env = s.env := rfl
@[simp] theorem State.modPtl_envKept (p : Fin 8) (f : Ptl → Ptl) (s : State) : (s.modPtl p f).envKept = s.envKept := rfl
@[simp] theorem State.modPtl_edges (p : Fin 8) (f : Ptl → Ptl) (s : State) : (s.modPtl p f).edges = s.edges := rfl
@[simp] theorem State.modPtl_side (p : Fin 8) (f : Ptl → Ptl) (s : State) : (s.modPtl p f).side = s.side := rfl
@[simp] theorem State.modPtl_grd (p : Fin 8) (f : Ptl → Ptl) (s : State) : (s.modPtl p f).grd = s.grd := rfl
@[simp] theorem State.modPtl_sbx (p : Fin 8) (f : Ptl → Ptl) (s : State) : (s.modPtl p f).sbx = s.sbx := rfl
@[simp] theorem State.modPtl_safe (p : Fin 8) (f : Ptl → Ptl) (s : State) : (s.modPtl p f).safe = s.safe := rfl
@[simp] theorem State.modPtl_lsw (p : Fin 8) (f : Ptl → Ptl) (s : State) : (s.modPtl p f).lsw = s.lsw := rfl
@[simp] theorem State.modPtl_lswx (p : Fin 8) (f : Ptl → Ptl) (s : State) : (s.modPtl p f).lswx = s.lswx := rfl
@[simp] theorem State.modPtl_lswg (p : Fin 8) (f : Ptl → Ptl) (s : State) : (s.modPtl p f).lswg = s.lswg := rfl
@[simp] theorem State.modPtl_can (p : Fin 8) (f : Ptl → Ptl) (s : State) : (s.modPtl p f).can = s.can := rfl
@[simp] theorem State.modPtl_canc (p : Fin 8) (f : Ptl → Ptl) (s : State) : (s.modPtl p f).canc = s.canc := rfl
@[simp] theorem State.modPtl_stn (p : Fin 8) (f : Ptl → Ptl) (s : State) : (s.modPtl p f).stn = s.stn := rfl
@[simp] theorem State.modPtl_prg (p : Fin 8) (f : Ptl → Ptl) (s : State) : (s.modPtl p f).prg = s.prg := rfl
@[simp] theorem State.modPtl_prgx (p : Fin 8) (f : Ptl → Ptl) (s : State) : (s.modPtl p f).prgx = s.prgx := rfl
@[simp] theorem State.modPtl_evq (p : Fin 8) (f : Ptl → Ptl) (s : State) : (s.modPtl p f).evq = s.evq := rfl
@[simp] theorem State.modPtl_hif (p : Fin 8) (f : Ptl → Ptl) (s : State) : (s.modPtl p f).hif = s.hif := rfl
@[simp] theorem State.modPtl_hspi (p : Fin 8) (f : Ptl → Ptl) (s : State) : (s.modPtl p f).hspi = s.hspi := rfl
@[simp] theorem State.modPtl_recd (p : Fin 8) (f : Ptl → Ptl) (s : State) : (s.modPtl p f).recd = s.recd := rfl
@[simp] theorem State.modPtl_stat (p : Fin 8) (f : Ptl → Ptl) (s : State) : (s.modPtl p f).stat = s.stat := rfl
@[simp] theorem State.modPtl_pair (p : Fin 8) (f : Ptl → Ptl) (s : State) : (s.modPtl p f).pair = s.pair := rfl
@[simp] theorem State.modPtl_pairx (p : Fin 8) (f : Ptl → Ptl) (s : State) : (s.modPtl p f).pairx = s.pairx := rfl
@[simp] theorem State.modPtl_fuses (p : Fin 8) (f : Ptl → Ptl) (s : State) : (s.modPtl p f).fuses = s.fuses := rfl
@[simp] theorem State.modPtl_sec (p : Fin 8) (f : Ptl → Ptl) (s : State) : (s.modPtl p f).sec = s.sec := rfl
@[simp] theorem State.modPtl_cfg (p : Fin 8) (f : Ptl → Ptl) (s : State) : (s.modPtl p f).cfg = s.cfg := rfl
@[simp] theorem State.modPtl_posted (p : Fin 8) (f : Ptl → Ptl) (s : State) : (s.modPtl p f).posted = s.posted := rfl
@[simp] theorem State.modPtl_fresh (p : Fin 8) (f : Ptl → Ptl) (s : State) : (s.modPtl p f).fresh = s.fresh := rfl
@[simp] theorem State.modPtl_pending (p : Fin 8) (f : Ptl → Ptl) (s : State) : (s.modPtl p f).pending = s.pending := rfl

@[simp] theorem State.modPin_tb (p : Fin 8) (f : PtlIn → PtlIn) (s : State) : (s.modPin p f).tb = s.tb := rfl
@[simp] theorem State.modPin_epoch (p : Fin 8) (f : PtlIn → PtlIn) (s : State) : (s.modPin p f).epoch = s.epoch := rfl
@[simp] theorem State.modPin_slept (p : Fin 8) (f : PtlIn → PtlIn) (s : State) : (s.modPin p f).slept = s.slept := rfl
@[simp] theorem State.modPin_frac (p : Fin 8) (f : PtlIn → PtlIn) (s : State) : (s.modPin p f).frac = s.frac := rfl
@[simp] theorem State.modPin_period (p : Fin 8) (f : PtlIn → PtlIn) (s : State) : (s.modPin p f).period = s.period := rfl
@[simp] theorem State.modPin_links (p : Fin 8) (f : PtlIn → PtlIn) (s : State) : (s.modPin p f).links = s.links := rfl
@[simp] theorem State.modPin_present (p : Fin 8) (f : PtlIn → PtlIn) (s : State) : (s.modPin p f).present = s.present := rfl
@[simp] theorem State.modPin_lost (p : Fin 8) (f : PtlIn → PtlIn) (s : State) : (s.modPin p f).lost = s.lost := rfl
@[simp] theorem State.modPin_seq (p : Fin 8) (f : PtlIn → PtlIn) (s : State) : (s.modPin p f).seq = s.seq := rfl
@[simp] theorem State.modPin_mem (p : Fin 8) (f : PtlIn → PtlIn) (s : State) : (s.modPin p f).mem = s.mem := rfl
@[simp] theorem State.modPin_pages (p : Fin 8) (f : PtlIn → PtlIn) (s : State) : (s.modPin p f).pages = s.pages := rfl
@[simp] theorem State.modPin_pwr (p : Fin 8) (f : PtlIn → PtlIn) (s : State) : (s.modPin p f).pwr = s.pwr := rfl
@[simp] theorem State.modPin_clk (p : Fin 8) (f : PtlIn → PtlIn) (s : State) : (s.modPin p f).clk = s.clk := rfl
@[simp] theorem State.modPin_rst (p : Fin 8) (f : PtlIn → PtlIn) (s : State) : (s.modPin p f).rst = s.rst := rfl
@[simp] theorem State.modPin_boot (p : Fin 8) (f : PtlIn → PtlIn) (s : State) : (s.modPin p f).boot = s.boot := rfl
@[simp] theorem State.modPin_mc (p : Fin 8) (f : PtlIn → PtlIn) (s : State) : (s.modPin p f).mc = s.mc := rfl
@[simp] theorem State.modPin_ax (p : Fin 8) (f : PtlIn → PtlIn) (s : State) : (s.modPin p f).ax = s.ax := rfl
@[simp] theorem State.modPin_drv (p : Fin 8) (f : PtlIn → PtlIn) (s : State) : (s.modPin p f).drv = s.drv := rfl
@[simp] theorem State.modPin_coil (p : Fin 8) (f : PtlIn → PtlIn) (s : State) : (s.modPin p f).coil = s.coil := rfl
@[simp] theorem State.modPin_watch (p : Fin 8) (f : PtlIn → PtlIn) (s : State) : (s.modPin p f).watch = s.watch := rfl
@[simp] theorem State.modPin_fb (p : Fin 8) (f : PtlIn → PtlIn) (s : State) : (s.modPin p f).fb = s.fb := rfl
@[simp] theorem State.modPin_fbx (p : Fin 8) (f : PtlIn → PtlIn) (s : State) : (s.modPin p f).fbx = s.fbx := rfl
@[simp] theorem State.modPin_din (p : Fin 8) (f : PtlIn → PtlIn) (s : State) : (s.modPin p f).din = s.din := rfl
@[simp] theorem State.modPin_gear (p : Fin 8) (f : PtlIn → PtlIn) (s : State) : (s.modPin p f).gear = s.gear := rfl
@[simp] theorem State.modPin_cam (p : Fin 8) (f : PtlIn → PtlIn) (s : State) : (s.modPin p f).cam = s.cam := rfl
@[simp] theorem State.modPin_ptl (p : Fin 8) (f : PtlIn → PtlIn) (s : State) : (s.modPin p f).ptl = s.ptl := rfl
@[simp] theorem State.modPin_ptlIn (p : Fin 8) (f : PtlIn → PtlIn) (s : State) : (s.modPin p f).ptlIn = upd s.ptlIn p f := rfl
@[simp] theorem State.modPin_ptlRun (p : Fin 8) (f : PtlIn → PtlIn) (s : State) : (s.modPin p f).ptlRun = s.ptlRun := rfl
@[simp] theorem State.modPin_cyc (p : Fin 8) (f : PtlIn → PtlIn) (s : State) : (s.modPin p f).cyc = s.cyc := rfl
@[simp] theorem State.modPin_cycEnd (p : Fin 8) (f : PtlIn → PtlIn) (s : State) : (s.modPin p f).cycEnd = s.cycEnd := rfl
@[simp] theorem State.modPin_doorAt (p : Fin 8) (f : PtlIn → PtlIn) (s : State) : (s.modPin p f).doorAt = s.doorAt := rfl
@[simp] theorem State.modPin_env (p : Fin 8) (f : PtlIn → PtlIn) (s : State) : (s.modPin p f).env = s.env := rfl
@[simp] theorem State.modPin_envKept (p : Fin 8) (f : PtlIn → PtlIn) (s : State) : (s.modPin p f).envKept = s.envKept := rfl
@[simp] theorem State.modPin_edges (p : Fin 8) (f : PtlIn → PtlIn) (s : State) : (s.modPin p f).edges = s.edges := rfl
@[simp] theorem State.modPin_side (p : Fin 8) (f : PtlIn → PtlIn) (s : State) : (s.modPin p f).side = s.side := rfl
@[simp] theorem State.modPin_grd (p : Fin 8) (f : PtlIn → PtlIn) (s : State) : (s.modPin p f).grd = s.grd := rfl
@[simp] theorem State.modPin_sbx (p : Fin 8) (f : PtlIn → PtlIn) (s : State) : (s.modPin p f).sbx = s.sbx := rfl
@[simp] theorem State.modPin_safe (p : Fin 8) (f : PtlIn → PtlIn) (s : State) : (s.modPin p f).safe = s.safe := rfl
@[simp] theorem State.modPin_lsw (p : Fin 8) (f : PtlIn → PtlIn) (s : State) : (s.modPin p f).lsw = s.lsw := rfl
@[simp] theorem State.modPin_lswx (p : Fin 8) (f : PtlIn → PtlIn) (s : State) : (s.modPin p f).lswx = s.lswx := rfl
@[simp] theorem State.modPin_lswg (p : Fin 8) (f : PtlIn → PtlIn) (s : State) : (s.modPin p f).lswg = s.lswg := rfl
@[simp] theorem State.modPin_can (p : Fin 8) (f : PtlIn → PtlIn) (s : State) : (s.modPin p f).can = s.can := rfl
@[simp] theorem State.modPin_canc (p : Fin 8) (f : PtlIn → PtlIn) (s : State) : (s.modPin p f).canc = s.canc := rfl
@[simp] theorem State.modPin_stn (p : Fin 8) (f : PtlIn → PtlIn) (s : State) : (s.modPin p f).stn = s.stn := rfl
@[simp] theorem State.modPin_prg (p : Fin 8) (f : PtlIn → PtlIn) (s : State) : (s.modPin p f).prg = s.prg := rfl
@[simp] theorem State.modPin_prgx (p : Fin 8) (f : PtlIn → PtlIn) (s : State) : (s.modPin p f).prgx = s.prgx := rfl
@[simp] theorem State.modPin_evq (p : Fin 8) (f : PtlIn → PtlIn) (s : State) : (s.modPin p f).evq = s.evq := rfl
@[simp] theorem State.modPin_hif (p : Fin 8) (f : PtlIn → PtlIn) (s : State) : (s.modPin p f).hif = s.hif := rfl
@[simp] theorem State.modPin_hspi (p : Fin 8) (f : PtlIn → PtlIn) (s : State) : (s.modPin p f).hspi = s.hspi := rfl
@[simp] theorem State.modPin_recd (p : Fin 8) (f : PtlIn → PtlIn) (s : State) : (s.modPin p f).recd = s.recd := rfl
@[simp] theorem State.modPin_stat (p : Fin 8) (f : PtlIn → PtlIn) (s : State) : (s.modPin p f).stat = s.stat := rfl
@[simp] theorem State.modPin_pair (p : Fin 8) (f : PtlIn → PtlIn) (s : State) : (s.modPin p f).pair = s.pair := rfl
@[simp] theorem State.modPin_pairx (p : Fin 8) (f : PtlIn → PtlIn) (s : State) : (s.modPin p f).pairx = s.pairx := rfl
@[simp] theorem State.modPin_fuses (p : Fin 8) (f : PtlIn → PtlIn) (s : State) : (s.modPin p f).fuses = s.fuses := rfl
@[simp] theorem State.modPin_sec (p : Fin 8) (f : PtlIn → PtlIn) (s : State) : (s.modPin p f).sec = s.sec := rfl
@[simp] theorem State.modPin_cfg (p : Fin 8) (f : PtlIn → PtlIn) (s : State) : (s.modPin p f).cfg = s.cfg := rfl
@[simp] theorem State.modPin_posted (p : Fin 8) (f : PtlIn → PtlIn) (s : State) : (s.modPin p f).posted = s.posted := rfl
@[simp] theorem State.modPin_fresh (p : Fin 8) (f : PtlIn → PtlIn) (s : State) : (s.modPin p f).fresh = s.fresh := rfl
@[simp] theorem State.modPin_pending (p : Fin 8) (f : PtlIn → PtlIn) (s : State) : (s.modPin p f).pending = s.pending := rfl

@[simp] theorem State.modRun_tb (p : Fin 8) (f : PtlRun → PtlRun) (s : State) : (s.modRun p f).tb = s.tb := rfl
@[simp] theorem State.modRun_epoch (p : Fin 8) (f : PtlRun → PtlRun) (s : State) : (s.modRun p f).epoch = s.epoch := rfl
@[simp] theorem State.modRun_slept (p : Fin 8) (f : PtlRun → PtlRun) (s : State) : (s.modRun p f).slept = s.slept := rfl
@[simp] theorem State.modRun_frac (p : Fin 8) (f : PtlRun → PtlRun) (s : State) : (s.modRun p f).frac = s.frac := rfl
@[simp] theorem State.modRun_period (p : Fin 8) (f : PtlRun → PtlRun) (s : State) : (s.modRun p f).period = s.period := rfl
@[simp] theorem State.modRun_links (p : Fin 8) (f : PtlRun → PtlRun) (s : State) : (s.modRun p f).links = s.links := rfl
@[simp] theorem State.modRun_present (p : Fin 8) (f : PtlRun → PtlRun) (s : State) : (s.modRun p f).present = s.present := rfl
@[simp] theorem State.modRun_lost (p : Fin 8) (f : PtlRun → PtlRun) (s : State) : (s.modRun p f).lost = s.lost := rfl
@[simp] theorem State.modRun_seq (p : Fin 8) (f : PtlRun → PtlRun) (s : State) : (s.modRun p f).seq = s.seq := rfl
@[simp] theorem State.modRun_mem (p : Fin 8) (f : PtlRun → PtlRun) (s : State) : (s.modRun p f).mem = s.mem := rfl
@[simp] theorem State.modRun_pages (p : Fin 8) (f : PtlRun → PtlRun) (s : State) : (s.modRun p f).pages = s.pages := rfl
@[simp] theorem State.modRun_pwr (p : Fin 8) (f : PtlRun → PtlRun) (s : State) : (s.modRun p f).pwr = s.pwr := rfl
@[simp] theorem State.modRun_clk (p : Fin 8) (f : PtlRun → PtlRun) (s : State) : (s.modRun p f).clk = s.clk := rfl
@[simp] theorem State.modRun_rst (p : Fin 8) (f : PtlRun → PtlRun) (s : State) : (s.modRun p f).rst = s.rst := rfl
@[simp] theorem State.modRun_boot (p : Fin 8) (f : PtlRun → PtlRun) (s : State) : (s.modRun p f).boot = s.boot := rfl
@[simp] theorem State.modRun_mc (p : Fin 8) (f : PtlRun → PtlRun) (s : State) : (s.modRun p f).mc = s.mc := rfl
@[simp] theorem State.modRun_ax (p : Fin 8) (f : PtlRun → PtlRun) (s : State) : (s.modRun p f).ax = s.ax := rfl
@[simp] theorem State.modRun_drv (p : Fin 8) (f : PtlRun → PtlRun) (s : State) : (s.modRun p f).drv = s.drv := rfl
@[simp] theorem State.modRun_coil (p : Fin 8) (f : PtlRun → PtlRun) (s : State) : (s.modRun p f).coil = s.coil := rfl
@[simp] theorem State.modRun_watch (p : Fin 8) (f : PtlRun → PtlRun) (s : State) : (s.modRun p f).watch = s.watch := rfl
@[simp] theorem State.modRun_fb (p : Fin 8) (f : PtlRun → PtlRun) (s : State) : (s.modRun p f).fb = s.fb := rfl
@[simp] theorem State.modRun_fbx (p : Fin 8) (f : PtlRun → PtlRun) (s : State) : (s.modRun p f).fbx = s.fbx := rfl
@[simp] theorem State.modRun_din (p : Fin 8) (f : PtlRun → PtlRun) (s : State) : (s.modRun p f).din = s.din := rfl
@[simp] theorem State.modRun_gear (p : Fin 8) (f : PtlRun → PtlRun) (s : State) : (s.modRun p f).gear = s.gear := rfl
@[simp] theorem State.modRun_cam (p : Fin 8) (f : PtlRun → PtlRun) (s : State) : (s.modRun p f).cam = s.cam := rfl
@[simp] theorem State.modRun_ptl (p : Fin 8) (f : PtlRun → PtlRun) (s : State) : (s.modRun p f).ptl = s.ptl := rfl
@[simp] theorem State.modRun_ptlIn (p : Fin 8) (f : PtlRun → PtlRun) (s : State) : (s.modRun p f).ptlIn = s.ptlIn := rfl
@[simp] theorem State.modRun_ptlRun (p : Fin 8) (f : PtlRun → PtlRun) (s : State) : (s.modRun p f).ptlRun = upd s.ptlRun p f := rfl
@[simp] theorem State.modRun_cyc (p : Fin 8) (f : PtlRun → PtlRun) (s : State) : (s.modRun p f).cyc = s.cyc := rfl
@[simp] theorem State.modRun_cycEnd (p : Fin 8) (f : PtlRun → PtlRun) (s : State) : (s.modRun p f).cycEnd = s.cycEnd := rfl
@[simp] theorem State.modRun_doorAt (p : Fin 8) (f : PtlRun → PtlRun) (s : State) : (s.modRun p f).doorAt = s.doorAt := rfl
@[simp] theorem State.modRun_env (p : Fin 8) (f : PtlRun → PtlRun) (s : State) : (s.modRun p f).env = s.env := rfl
@[simp] theorem State.modRun_envKept (p : Fin 8) (f : PtlRun → PtlRun) (s : State) : (s.modRun p f).envKept = s.envKept := rfl
@[simp] theorem State.modRun_edges (p : Fin 8) (f : PtlRun → PtlRun) (s : State) : (s.modRun p f).edges = s.edges := rfl
@[simp] theorem State.modRun_side (p : Fin 8) (f : PtlRun → PtlRun) (s : State) : (s.modRun p f).side = s.side := rfl
@[simp] theorem State.modRun_grd (p : Fin 8) (f : PtlRun → PtlRun) (s : State) : (s.modRun p f).grd = s.grd := rfl
@[simp] theorem State.modRun_sbx (p : Fin 8) (f : PtlRun → PtlRun) (s : State) : (s.modRun p f).sbx = s.sbx := rfl
@[simp] theorem State.modRun_safe (p : Fin 8) (f : PtlRun → PtlRun) (s : State) : (s.modRun p f).safe = s.safe := rfl
@[simp] theorem State.modRun_lsw (p : Fin 8) (f : PtlRun → PtlRun) (s : State) : (s.modRun p f).lsw = s.lsw := rfl
@[simp] theorem State.modRun_lswx (p : Fin 8) (f : PtlRun → PtlRun) (s : State) : (s.modRun p f).lswx = s.lswx := rfl
@[simp] theorem State.modRun_lswg (p : Fin 8) (f : PtlRun → PtlRun) (s : State) : (s.modRun p f).lswg = s.lswg := rfl
@[simp] theorem State.modRun_can (p : Fin 8) (f : PtlRun → PtlRun) (s : State) : (s.modRun p f).can = s.can := rfl
@[simp] theorem State.modRun_canc (p : Fin 8) (f : PtlRun → PtlRun) (s : State) : (s.modRun p f).canc = s.canc := rfl
@[simp] theorem State.modRun_stn (p : Fin 8) (f : PtlRun → PtlRun) (s : State) : (s.modRun p f).stn = s.stn := rfl
@[simp] theorem State.modRun_prg (p : Fin 8) (f : PtlRun → PtlRun) (s : State) : (s.modRun p f).prg = s.prg := rfl
@[simp] theorem State.modRun_prgx (p : Fin 8) (f : PtlRun → PtlRun) (s : State) : (s.modRun p f).prgx = s.prgx := rfl
@[simp] theorem State.modRun_evq (p : Fin 8) (f : PtlRun → PtlRun) (s : State) : (s.modRun p f).evq = s.evq := rfl
@[simp] theorem State.modRun_hif (p : Fin 8) (f : PtlRun → PtlRun) (s : State) : (s.modRun p f).hif = s.hif := rfl
@[simp] theorem State.modRun_hspi (p : Fin 8) (f : PtlRun → PtlRun) (s : State) : (s.modRun p f).hspi = s.hspi := rfl
@[simp] theorem State.modRun_recd (p : Fin 8) (f : PtlRun → PtlRun) (s : State) : (s.modRun p f).recd = s.recd := rfl
@[simp] theorem State.modRun_stat (p : Fin 8) (f : PtlRun → PtlRun) (s : State) : (s.modRun p f).stat = s.stat := rfl
@[simp] theorem State.modRun_pair (p : Fin 8) (f : PtlRun → PtlRun) (s : State) : (s.modRun p f).pair = s.pair := rfl
@[simp] theorem State.modRun_pairx (p : Fin 8) (f : PtlRun → PtlRun) (s : State) : (s.modRun p f).pairx = s.pairx := rfl
@[simp] theorem State.modRun_fuses (p : Fin 8) (f : PtlRun → PtlRun) (s : State) : (s.modRun p f).fuses = s.fuses := rfl
@[simp] theorem State.modRun_sec (p : Fin 8) (f : PtlRun → PtlRun) (s : State) : (s.modRun p f).sec = s.sec := rfl
@[simp] theorem State.modRun_cfg (p : Fin 8) (f : PtlRun → PtlRun) (s : State) : (s.modRun p f).cfg = s.cfg := rfl
@[simp] theorem State.modRun_posted (p : Fin 8) (f : PtlRun → PtlRun) (s : State) : (s.modRun p f).posted = s.posted := rfl
@[simp] theorem State.modRun_fresh (p : Fin 8) (f : PtlRun → PtlRun) (s : State) : (s.modRun p f).fresh = s.fresh := rfl
@[simp] theorem State.modRun_pending (p : Fin 8) (f : PtlRun → PtlRun) (s : State) : (s.modRun p f).pending = s.pending := rfl

@[simp] theorem State.modCyc_tb (p : Fin 8) (f : CycleRec → CycleRec) (s : State) : (s.modCyc p f).tb = s.tb := rfl
@[simp] theorem State.modCyc_epoch (p : Fin 8) (f : CycleRec → CycleRec) (s : State) : (s.modCyc p f).epoch = s.epoch := rfl
@[simp] theorem State.modCyc_slept (p : Fin 8) (f : CycleRec → CycleRec) (s : State) : (s.modCyc p f).slept = s.slept := rfl
@[simp] theorem State.modCyc_frac (p : Fin 8) (f : CycleRec → CycleRec) (s : State) : (s.modCyc p f).frac = s.frac := rfl
@[simp] theorem State.modCyc_period (p : Fin 8) (f : CycleRec → CycleRec) (s : State) : (s.modCyc p f).period = s.period := rfl
@[simp] theorem State.modCyc_links (p : Fin 8) (f : CycleRec → CycleRec) (s : State) : (s.modCyc p f).links = s.links := rfl
@[simp] theorem State.modCyc_present (p : Fin 8) (f : CycleRec → CycleRec) (s : State) : (s.modCyc p f).present = s.present := rfl
@[simp] theorem State.modCyc_lost (p : Fin 8) (f : CycleRec → CycleRec) (s : State) : (s.modCyc p f).lost = s.lost := rfl
@[simp] theorem State.modCyc_seq (p : Fin 8) (f : CycleRec → CycleRec) (s : State) : (s.modCyc p f).seq = s.seq := rfl
@[simp] theorem State.modCyc_mem (p : Fin 8) (f : CycleRec → CycleRec) (s : State) : (s.modCyc p f).mem = s.mem := rfl
@[simp] theorem State.modCyc_pages (p : Fin 8) (f : CycleRec → CycleRec) (s : State) : (s.modCyc p f).pages = s.pages := rfl
@[simp] theorem State.modCyc_pwr (p : Fin 8) (f : CycleRec → CycleRec) (s : State) : (s.modCyc p f).pwr = s.pwr := rfl
@[simp] theorem State.modCyc_clk (p : Fin 8) (f : CycleRec → CycleRec) (s : State) : (s.modCyc p f).clk = s.clk := rfl
@[simp] theorem State.modCyc_rst (p : Fin 8) (f : CycleRec → CycleRec) (s : State) : (s.modCyc p f).rst = s.rst := rfl
@[simp] theorem State.modCyc_boot (p : Fin 8) (f : CycleRec → CycleRec) (s : State) : (s.modCyc p f).boot = s.boot := rfl
@[simp] theorem State.modCyc_mc (p : Fin 8) (f : CycleRec → CycleRec) (s : State) : (s.modCyc p f).mc = s.mc := rfl
@[simp] theorem State.modCyc_ax (p : Fin 8) (f : CycleRec → CycleRec) (s : State) : (s.modCyc p f).ax = s.ax := rfl
@[simp] theorem State.modCyc_drv (p : Fin 8) (f : CycleRec → CycleRec) (s : State) : (s.modCyc p f).drv = s.drv := rfl
@[simp] theorem State.modCyc_coil (p : Fin 8) (f : CycleRec → CycleRec) (s : State) : (s.modCyc p f).coil = s.coil := rfl
@[simp] theorem State.modCyc_watch (p : Fin 8) (f : CycleRec → CycleRec) (s : State) : (s.modCyc p f).watch = s.watch := rfl
@[simp] theorem State.modCyc_fb (p : Fin 8) (f : CycleRec → CycleRec) (s : State) : (s.modCyc p f).fb = s.fb := rfl
@[simp] theorem State.modCyc_fbx (p : Fin 8) (f : CycleRec → CycleRec) (s : State) : (s.modCyc p f).fbx = s.fbx := rfl
@[simp] theorem State.modCyc_din (p : Fin 8) (f : CycleRec → CycleRec) (s : State) : (s.modCyc p f).din = s.din := rfl
@[simp] theorem State.modCyc_gear (p : Fin 8) (f : CycleRec → CycleRec) (s : State) : (s.modCyc p f).gear = s.gear := rfl
@[simp] theorem State.modCyc_cam (p : Fin 8) (f : CycleRec → CycleRec) (s : State) : (s.modCyc p f).cam = s.cam := rfl
@[simp] theorem State.modCyc_ptl (p : Fin 8) (f : CycleRec → CycleRec) (s : State) : (s.modCyc p f).ptl = s.ptl := rfl
@[simp] theorem State.modCyc_ptlIn (p : Fin 8) (f : CycleRec → CycleRec) (s : State) : (s.modCyc p f).ptlIn = s.ptlIn := rfl
@[simp] theorem State.modCyc_ptlRun (p : Fin 8) (f : CycleRec → CycleRec) (s : State) : (s.modCyc p f).ptlRun = s.ptlRun := rfl
@[simp] theorem State.modCyc_cyc (p : Fin 8) (f : CycleRec → CycleRec) (s : State) : (s.modCyc p f).cyc = upd s.cyc p f := rfl
@[simp] theorem State.modCyc_cycEnd (p : Fin 8) (f : CycleRec → CycleRec) (s : State) : (s.modCyc p f).cycEnd = s.cycEnd := rfl
@[simp] theorem State.modCyc_doorAt (p : Fin 8) (f : CycleRec → CycleRec) (s : State) : (s.modCyc p f).doorAt = s.doorAt := rfl
@[simp] theorem State.modCyc_env (p : Fin 8) (f : CycleRec → CycleRec) (s : State) : (s.modCyc p f).env = s.env := rfl
@[simp] theorem State.modCyc_envKept (p : Fin 8) (f : CycleRec → CycleRec) (s : State) : (s.modCyc p f).envKept = s.envKept := rfl
@[simp] theorem State.modCyc_edges (p : Fin 8) (f : CycleRec → CycleRec) (s : State) : (s.modCyc p f).edges = s.edges := rfl
@[simp] theorem State.modCyc_side (p : Fin 8) (f : CycleRec → CycleRec) (s : State) : (s.modCyc p f).side = s.side := rfl
@[simp] theorem State.modCyc_grd (p : Fin 8) (f : CycleRec → CycleRec) (s : State) : (s.modCyc p f).grd = s.grd := rfl
@[simp] theorem State.modCyc_sbx (p : Fin 8) (f : CycleRec → CycleRec) (s : State) : (s.modCyc p f).sbx = s.sbx := rfl
@[simp] theorem State.modCyc_safe (p : Fin 8) (f : CycleRec → CycleRec) (s : State) : (s.modCyc p f).safe = s.safe := rfl
@[simp] theorem State.modCyc_lsw (p : Fin 8) (f : CycleRec → CycleRec) (s : State) : (s.modCyc p f).lsw = s.lsw := rfl
@[simp] theorem State.modCyc_lswx (p : Fin 8) (f : CycleRec → CycleRec) (s : State) : (s.modCyc p f).lswx = s.lswx := rfl
@[simp] theorem State.modCyc_lswg (p : Fin 8) (f : CycleRec → CycleRec) (s : State) : (s.modCyc p f).lswg = s.lswg := rfl
@[simp] theorem State.modCyc_can (p : Fin 8) (f : CycleRec → CycleRec) (s : State) : (s.modCyc p f).can = s.can := rfl
@[simp] theorem State.modCyc_canc (p : Fin 8) (f : CycleRec → CycleRec) (s : State) : (s.modCyc p f).canc = s.canc := rfl
@[simp] theorem State.modCyc_stn (p : Fin 8) (f : CycleRec → CycleRec) (s : State) : (s.modCyc p f).stn = s.stn := rfl
@[simp] theorem State.modCyc_prg (p : Fin 8) (f : CycleRec → CycleRec) (s : State) : (s.modCyc p f).prg = s.prg := rfl
@[simp] theorem State.modCyc_prgx (p : Fin 8) (f : CycleRec → CycleRec) (s : State) : (s.modCyc p f).prgx = s.prgx := rfl
@[simp] theorem State.modCyc_evq (p : Fin 8) (f : CycleRec → CycleRec) (s : State) : (s.modCyc p f).evq = s.evq := rfl
@[simp] theorem State.modCyc_hif (p : Fin 8) (f : CycleRec → CycleRec) (s : State) : (s.modCyc p f).hif = s.hif := rfl
@[simp] theorem State.modCyc_hspi (p : Fin 8) (f : CycleRec → CycleRec) (s : State) : (s.modCyc p f).hspi = s.hspi := rfl
@[simp] theorem State.modCyc_recd (p : Fin 8) (f : CycleRec → CycleRec) (s : State) : (s.modCyc p f).recd = s.recd := rfl
@[simp] theorem State.modCyc_stat (p : Fin 8) (f : CycleRec → CycleRec) (s : State) : (s.modCyc p f).stat = s.stat := rfl
@[simp] theorem State.modCyc_pair (p : Fin 8) (f : CycleRec → CycleRec) (s : State) : (s.modCyc p f).pair = s.pair := rfl
@[simp] theorem State.modCyc_pairx (p : Fin 8) (f : CycleRec → CycleRec) (s : State) : (s.modCyc p f).pairx = s.pairx := rfl
@[simp] theorem State.modCyc_fuses (p : Fin 8) (f : CycleRec → CycleRec) (s : State) : (s.modCyc p f).fuses = s.fuses := rfl
@[simp] theorem State.modCyc_sec (p : Fin 8) (f : CycleRec → CycleRec) (s : State) : (s.modCyc p f).sec = s.sec := rfl
@[simp] theorem State.modCyc_cfg (p : Fin 8) (f : CycleRec → CycleRec) (s : State) : (s.modCyc p f).cfg = s.cfg := rfl
@[simp] theorem State.modCyc_posted (p : Fin 8) (f : CycleRec → CycleRec) (s : State) : (s.modCyc p f).posted = s.posted := rfl
@[simp] theorem State.modCyc_fresh (p : Fin 8) (f : CycleRec → CycleRec) (s : State) : (s.modCyc p f).fresh = s.fresh := rfl
@[simp] theorem State.modCyc_pending (p : Fin 8) (f : CycleRec → CycleRec) (s : State) : (s.modCyc p f).pending = s.pending := rfl

@[simp] theorem State.modEdge_tb (e : Fin 16) (f : Edge → Edge) (s : State) : (s.modEdge e f).tb = s.tb := rfl
@[simp] theorem State.modEdge_epoch (e : Fin 16) (f : Edge → Edge) (s : State) : (s.modEdge e f).epoch = s.epoch := rfl
@[simp] theorem State.modEdge_slept (e : Fin 16) (f : Edge → Edge) (s : State) : (s.modEdge e f).slept = s.slept := rfl
@[simp] theorem State.modEdge_frac (e : Fin 16) (f : Edge → Edge) (s : State) : (s.modEdge e f).frac = s.frac := rfl
@[simp] theorem State.modEdge_period (e : Fin 16) (f : Edge → Edge) (s : State) : (s.modEdge e f).period = s.period := rfl
@[simp] theorem State.modEdge_links (e : Fin 16) (f : Edge → Edge) (s : State) : (s.modEdge e f).links = s.links := rfl
@[simp] theorem State.modEdge_present (e : Fin 16) (f : Edge → Edge) (s : State) : (s.modEdge e f).present = s.present := rfl
@[simp] theorem State.modEdge_lost (e : Fin 16) (f : Edge → Edge) (s : State) : (s.modEdge e f).lost = s.lost := rfl
@[simp] theorem State.modEdge_seq (e : Fin 16) (f : Edge → Edge) (s : State) : (s.modEdge e f).seq = s.seq := rfl
@[simp] theorem State.modEdge_mem (e : Fin 16) (f : Edge → Edge) (s : State) : (s.modEdge e f).mem = s.mem := rfl
@[simp] theorem State.modEdge_pages (e : Fin 16) (f : Edge → Edge) (s : State) : (s.modEdge e f).pages = s.pages := rfl
@[simp] theorem State.modEdge_pwr (e : Fin 16) (f : Edge → Edge) (s : State) : (s.modEdge e f).pwr = s.pwr := rfl
@[simp] theorem State.modEdge_clk (e : Fin 16) (f : Edge → Edge) (s : State) : (s.modEdge e f).clk = s.clk := rfl
@[simp] theorem State.modEdge_rst (e : Fin 16) (f : Edge → Edge) (s : State) : (s.modEdge e f).rst = s.rst := rfl
@[simp] theorem State.modEdge_boot (e : Fin 16) (f : Edge → Edge) (s : State) : (s.modEdge e f).boot = s.boot := rfl
@[simp] theorem State.modEdge_mc (e : Fin 16) (f : Edge → Edge) (s : State) : (s.modEdge e f).mc = s.mc := rfl
@[simp] theorem State.modEdge_ax (e : Fin 16) (f : Edge → Edge) (s : State) : (s.modEdge e f).ax = s.ax := rfl
@[simp] theorem State.modEdge_drv (e : Fin 16) (f : Edge → Edge) (s : State) : (s.modEdge e f).drv = s.drv := rfl
@[simp] theorem State.modEdge_coil (e : Fin 16) (f : Edge → Edge) (s : State) : (s.modEdge e f).coil = s.coil := rfl
@[simp] theorem State.modEdge_watch (e : Fin 16) (f : Edge → Edge) (s : State) : (s.modEdge e f).watch = s.watch := rfl
@[simp] theorem State.modEdge_fb (e : Fin 16) (f : Edge → Edge) (s : State) : (s.modEdge e f).fb = s.fb := rfl
@[simp] theorem State.modEdge_fbx (e : Fin 16) (f : Edge → Edge) (s : State) : (s.modEdge e f).fbx = s.fbx := rfl
@[simp] theorem State.modEdge_din (e : Fin 16) (f : Edge → Edge) (s : State) : (s.modEdge e f).din = s.din := rfl
@[simp] theorem State.modEdge_gear (e : Fin 16) (f : Edge → Edge) (s : State) : (s.modEdge e f).gear = s.gear := rfl
@[simp] theorem State.modEdge_cam (e : Fin 16) (f : Edge → Edge) (s : State) : (s.modEdge e f).cam = s.cam := rfl
@[simp] theorem State.modEdge_ptl (e : Fin 16) (f : Edge → Edge) (s : State) : (s.modEdge e f).ptl = s.ptl := rfl
@[simp] theorem State.modEdge_ptlIn (e : Fin 16) (f : Edge → Edge) (s : State) : (s.modEdge e f).ptlIn = s.ptlIn := rfl
@[simp] theorem State.modEdge_ptlRun (e : Fin 16) (f : Edge → Edge) (s : State) : (s.modEdge e f).ptlRun = s.ptlRun := rfl
@[simp] theorem State.modEdge_cyc (e : Fin 16) (f : Edge → Edge) (s : State) : (s.modEdge e f).cyc = s.cyc := rfl
@[simp] theorem State.modEdge_cycEnd (e : Fin 16) (f : Edge → Edge) (s : State) : (s.modEdge e f).cycEnd = s.cycEnd := rfl
@[simp] theorem State.modEdge_doorAt (e : Fin 16) (f : Edge → Edge) (s : State) : (s.modEdge e f).doorAt = s.doorAt := rfl
@[simp] theorem State.modEdge_env (e : Fin 16) (f : Edge → Edge) (s : State) : (s.modEdge e f).env = s.env := rfl
@[simp] theorem State.modEdge_envKept (e : Fin 16) (f : Edge → Edge) (s : State) : (s.modEdge e f).envKept = s.envKept := rfl
@[simp] theorem State.modEdge_edges (e : Fin 16) (f : Edge → Edge) (s : State) : (s.modEdge e f).edges = upd s.edges e f := rfl
@[simp] theorem State.modEdge_side (e : Fin 16) (f : Edge → Edge) (s : State) : (s.modEdge e f).side = s.side := rfl
@[simp] theorem State.modEdge_grd (e : Fin 16) (f : Edge → Edge) (s : State) : (s.modEdge e f).grd = s.grd := rfl
@[simp] theorem State.modEdge_sbx (e : Fin 16) (f : Edge → Edge) (s : State) : (s.modEdge e f).sbx = s.sbx := rfl
@[simp] theorem State.modEdge_safe (e : Fin 16) (f : Edge → Edge) (s : State) : (s.modEdge e f).safe = s.safe := rfl
@[simp] theorem State.modEdge_lsw (e : Fin 16) (f : Edge → Edge) (s : State) : (s.modEdge e f).lsw = s.lsw := rfl
@[simp] theorem State.modEdge_lswx (e : Fin 16) (f : Edge → Edge) (s : State) : (s.modEdge e f).lswx = s.lswx := rfl
@[simp] theorem State.modEdge_lswg (e : Fin 16) (f : Edge → Edge) (s : State) : (s.modEdge e f).lswg = s.lswg := rfl
@[simp] theorem State.modEdge_can (e : Fin 16) (f : Edge → Edge) (s : State) : (s.modEdge e f).can = s.can := rfl
@[simp] theorem State.modEdge_canc (e : Fin 16) (f : Edge → Edge) (s : State) : (s.modEdge e f).canc = s.canc := rfl
@[simp] theorem State.modEdge_stn (e : Fin 16) (f : Edge → Edge) (s : State) : (s.modEdge e f).stn = s.stn := rfl
@[simp] theorem State.modEdge_prg (e : Fin 16) (f : Edge → Edge) (s : State) : (s.modEdge e f).prg = s.prg := rfl
@[simp] theorem State.modEdge_prgx (e : Fin 16) (f : Edge → Edge) (s : State) : (s.modEdge e f).prgx = s.prgx := rfl
@[simp] theorem State.modEdge_evq (e : Fin 16) (f : Edge → Edge) (s : State) : (s.modEdge e f).evq = s.evq := rfl
@[simp] theorem State.modEdge_hif (e : Fin 16) (f : Edge → Edge) (s : State) : (s.modEdge e f).hif = s.hif := rfl
@[simp] theorem State.modEdge_hspi (e : Fin 16) (f : Edge → Edge) (s : State) : (s.modEdge e f).hspi = s.hspi := rfl
@[simp] theorem State.modEdge_recd (e : Fin 16) (f : Edge → Edge) (s : State) : (s.modEdge e f).recd = s.recd := rfl
@[simp] theorem State.modEdge_stat (e : Fin 16) (f : Edge → Edge) (s : State) : (s.modEdge e f).stat = s.stat := rfl
@[simp] theorem State.modEdge_pair (e : Fin 16) (f : Edge → Edge) (s : State) : (s.modEdge e f).pair = s.pair := rfl
@[simp] theorem State.modEdge_pairx (e : Fin 16) (f : Edge → Edge) (s : State) : (s.modEdge e f).pairx = s.pairx := rfl
@[simp] theorem State.modEdge_fuses (e : Fin 16) (f : Edge → Edge) (s : State) : (s.modEdge e f).fuses = s.fuses := rfl
@[simp] theorem State.modEdge_sec (e : Fin 16) (f : Edge → Edge) (s : State) : (s.modEdge e f).sec = s.sec := rfl
@[simp] theorem State.modEdge_cfg (e : Fin 16) (f : Edge → Edge) (s : State) : (s.modEdge e f).cfg = s.cfg := rfl
@[simp] theorem State.modEdge_posted (e : Fin 16) (f : Edge → Edge) (s : State) : (s.modEdge e f).posted = s.posted := rfl
@[simp] theorem State.modEdge_fresh (e : Fin 16) (f : Edge → Edge) (s : State) : (s.modEdge e f).fresh = s.fresh := rfl
@[simp] theorem State.modEdge_pending (e : Fin 16) (f : Edge → Edge) (s : State) : (s.modEdge e f).pending = s.pending := rfl

@[simp] theorem State.modPrg_tb (f : Prg → Prg) (s : State) : (s.modPrg f).tb = s.tb := rfl
@[simp] theorem State.modPrg_epoch (f : Prg → Prg) (s : State) : (s.modPrg f).epoch = s.epoch := rfl
@[simp] theorem State.modPrg_slept (f : Prg → Prg) (s : State) : (s.modPrg f).slept = s.slept := rfl
@[simp] theorem State.modPrg_frac (f : Prg → Prg) (s : State) : (s.modPrg f).frac = s.frac := rfl
@[simp] theorem State.modPrg_period (f : Prg → Prg) (s : State) : (s.modPrg f).period = s.period := rfl
@[simp] theorem State.modPrg_links (f : Prg → Prg) (s : State) : (s.modPrg f).links = s.links := rfl
@[simp] theorem State.modPrg_present (f : Prg → Prg) (s : State) : (s.modPrg f).present = s.present := rfl
@[simp] theorem State.modPrg_lost (f : Prg → Prg) (s : State) : (s.modPrg f).lost = s.lost := rfl
@[simp] theorem State.modPrg_seq (f : Prg → Prg) (s : State) : (s.modPrg f).seq = s.seq := rfl
@[simp] theorem State.modPrg_mem (f : Prg → Prg) (s : State) : (s.modPrg f).mem = s.mem := rfl
@[simp] theorem State.modPrg_pages (f : Prg → Prg) (s : State) : (s.modPrg f).pages = s.pages := rfl
@[simp] theorem State.modPrg_pwr (f : Prg → Prg) (s : State) : (s.modPrg f).pwr = s.pwr := rfl
@[simp] theorem State.modPrg_clk (f : Prg → Prg) (s : State) : (s.modPrg f).clk = s.clk := rfl
@[simp] theorem State.modPrg_rst (f : Prg → Prg) (s : State) : (s.modPrg f).rst = s.rst := rfl
@[simp] theorem State.modPrg_boot (f : Prg → Prg) (s : State) : (s.modPrg f).boot = s.boot := rfl
@[simp] theorem State.modPrg_mc (f : Prg → Prg) (s : State) : (s.modPrg f).mc = s.mc := rfl
@[simp] theorem State.modPrg_ax (f : Prg → Prg) (s : State) : (s.modPrg f).ax = s.ax := rfl
@[simp] theorem State.modPrg_drv (f : Prg → Prg) (s : State) : (s.modPrg f).drv = s.drv := rfl
@[simp] theorem State.modPrg_coil (f : Prg → Prg) (s : State) : (s.modPrg f).coil = s.coil := rfl
@[simp] theorem State.modPrg_watch (f : Prg → Prg) (s : State) : (s.modPrg f).watch = s.watch := rfl
@[simp] theorem State.modPrg_fb (f : Prg → Prg) (s : State) : (s.modPrg f).fb = s.fb := rfl
@[simp] theorem State.modPrg_fbx (f : Prg → Prg) (s : State) : (s.modPrg f).fbx = s.fbx := rfl
@[simp] theorem State.modPrg_din (f : Prg → Prg) (s : State) : (s.modPrg f).din = s.din := rfl
@[simp] theorem State.modPrg_gear (f : Prg → Prg) (s : State) : (s.modPrg f).gear = s.gear := rfl
@[simp] theorem State.modPrg_cam (f : Prg → Prg) (s : State) : (s.modPrg f).cam = s.cam := rfl
@[simp] theorem State.modPrg_ptl (f : Prg → Prg) (s : State) : (s.modPrg f).ptl = s.ptl := rfl
@[simp] theorem State.modPrg_ptlIn (f : Prg → Prg) (s : State) : (s.modPrg f).ptlIn = s.ptlIn := rfl
@[simp] theorem State.modPrg_ptlRun (f : Prg → Prg) (s : State) : (s.modPrg f).ptlRun = s.ptlRun := rfl
@[simp] theorem State.modPrg_cyc (f : Prg → Prg) (s : State) : (s.modPrg f).cyc = s.cyc := rfl
@[simp] theorem State.modPrg_cycEnd (f : Prg → Prg) (s : State) : (s.modPrg f).cycEnd = s.cycEnd := rfl
@[simp] theorem State.modPrg_doorAt (f : Prg → Prg) (s : State) : (s.modPrg f).doorAt = s.doorAt := rfl
@[simp] theorem State.modPrg_env (f : Prg → Prg) (s : State) : (s.modPrg f).env = s.env := rfl
@[simp] theorem State.modPrg_envKept (f : Prg → Prg) (s : State) : (s.modPrg f).envKept = s.envKept := rfl
@[simp] theorem State.modPrg_edges (f : Prg → Prg) (s : State) : (s.modPrg f).edges = s.edges := rfl
@[simp] theorem State.modPrg_side (f : Prg → Prg) (s : State) : (s.modPrg f).side = s.side := rfl
@[simp] theorem State.modPrg_grd (f : Prg → Prg) (s : State) : (s.modPrg f).grd = s.grd := rfl
@[simp] theorem State.modPrg_sbx (f : Prg → Prg) (s : State) : (s.modPrg f).sbx = s.sbx := rfl
@[simp] theorem State.modPrg_safe (f : Prg → Prg) (s : State) : (s.modPrg f).safe = s.safe := rfl
@[simp] theorem State.modPrg_lsw (f : Prg → Prg) (s : State) : (s.modPrg f).lsw = s.lsw := rfl
@[simp] theorem State.modPrg_lswx (f : Prg → Prg) (s : State) : (s.modPrg f).lswx = s.lswx := rfl
@[simp] theorem State.modPrg_lswg (f : Prg → Prg) (s : State) : (s.modPrg f).lswg = s.lswg := rfl
@[simp] theorem State.modPrg_can (f : Prg → Prg) (s : State) : (s.modPrg f).can = s.can := rfl
@[simp] theorem State.modPrg_canc (f : Prg → Prg) (s : State) : (s.modPrg f).canc = s.canc := rfl
@[simp] theorem State.modPrg_stn (f : Prg → Prg) (s : State) : (s.modPrg f).stn = s.stn := rfl
@[simp] theorem State.modPrg_prg (f : Prg → Prg) (s : State) : (s.modPrg f).prg = f s.prg := rfl
@[simp] theorem State.modPrg_prgx (f : Prg → Prg) (s : State) : (s.modPrg f).prgx = s.prgx := rfl
@[simp] theorem State.modPrg_evq (f : Prg → Prg) (s : State) : (s.modPrg f).evq = s.evq := rfl
@[simp] theorem State.modPrg_hif (f : Prg → Prg) (s : State) : (s.modPrg f).hif = s.hif := rfl
@[simp] theorem State.modPrg_hspi (f : Prg → Prg) (s : State) : (s.modPrg f).hspi = s.hspi := rfl
@[simp] theorem State.modPrg_recd (f : Prg → Prg) (s : State) : (s.modPrg f).recd = s.recd := rfl
@[simp] theorem State.modPrg_stat (f : Prg → Prg) (s : State) : (s.modPrg f).stat = s.stat := rfl
@[simp] theorem State.modPrg_pair (f : Prg → Prg) (s : State) : (s.modPrg f).pair = s.pair := rfl
@[simp] theorem State.modPrg_pairx (f : Prg → Prg) (s : State) : (s.modPrg f).pairx = s.pairx := rfl
@[simp] theorem State.modPrg_fuses (f : Prg → Prg) (s : State) : (s.modPrg f).fuses = s.fuses := rfl
@[simp] theorem State.modPrg_sec (f : Prg → Prg) (s : State) : (s.modPrg f).sec = s.sec := rfl
@[simp] theorem State.modPrg_cfg (f : Prg → Prg) (s : State) : (s.modPrg f).cfg = s.cfg := rfl
@[simp] theorem State.modPrg_posted (f : Prg → Prg) (s : State) : (s.modPrg f).posted = s.posted := rfl
@[simp] theorem State.modPrg_fresh (f : Prg → Prg) (s : State) : (s.modPrg f).fresh = s.fresh := rfl
@[simp] theorem State.modPrg_pending (f : Prg → Prg) (s : State) : (s.modPrg f).pending = s.pending := rfl

@[simp] theorem State.modRec_tb (f : Recorder → Recorder) (s : State) : (s.modRec f).tb = s.tb := rfl
@[simp] theorem State.modRec_epoch (f : Recorder → Recorder) (s : State) : (s.modRec f).epoch = s.epoch := rfl
@[simp] theorem State.modRec_slept (f : Recorder → Recorder) (s : State) : (s.modRec f).slept = s.slept := rfl
@[simp] theorem State.modRec_frac (f : Recorder → Recorder) (s : State) : (s.modRec f).frac = s.frac := rfl
@[simp] theorem State.modRec_period (f : Recorder → Recorder) (s : State) : (s.modRec f).period = s.period := rfl
@[simp] theorem State.modRec_links (f : Recorder → Recorder) (s : State) : (s.modRec f).links = s.links := rfl
@[simp] theorem State.modRec_present (f : Recorder → Recorder) (s : State) : (s.modRec f).present = s.present := rfl
@[simp] theorem State.modRec_lost (f : Recorder → Recorder) (s : State) : (s.modRec f).lost = s.lost := rfl
@[simp] theorem State.modRec_seq (f : Recorder → Recorder) (s : State) : (s.modRec f).seq = s.seq := rfl
@[simp] theorem State.modRec_mem (f : Recorder → Recorder) (s : State) : (s.modRec f).mem = s.mem := rfl
@[simp] theorem State.modRec_pages (f : Recorder → Recorder) (s : State) : (s.modRec f).pages = s.pages := rfl
@[simp] theorem State.modRec_pwr (f : Recorder → Recorder) (s : State) : (s.modRec f).pwr = s.pwr := rfl
@[simp] theorem State.modRec_clk (f : Recorder → Recorder) (s : State) : (s.modRec f).clk = s.clk := rfl
@[simp] theorem State.modRec_rst (f : Recorder → Recorder) (s : State) : (s.modRec f).rst = s.rst := rfl
@[simp] theorem State.modRec_boot (f : Recorder → Recorder) (s : State) : (s.modRec f).boot = s.boot := rfl
@[simp] theorem State.modRec_mc (f : Recorder → Recorder) (s : State) : (s.modRec f).mc = s.mc := rfl
@[simp] theorem State.modRec_ax (f : Recorder → Recorder) (s : State) : (s.modRec f).ax = s.ax := rfl
@[simp] theorem State.modRec_drv (f : Recorder → Recorder) (s : State) : (s.modRec f).drv = s.drv := rfl
@[simp] theorem State.modRec_coil (f : Recorder → Recorder) (s : State) : (s.modRec f).coil = s.coil := rfl
@[simp] theorem State.modRec_watch (f : Recorder → Recorder) (s : State) : (s.modRec f).watch = s.watch := rfl
@[simp] theorem State.modRec_fb (f : Recorder → Recorder) (s : State) : (s.modRec f).fb = s.fb := rfl
@[simp] theorem State.modRec_fbx (f : Recorder → Recorder) (s : State) : (s.modRec f).fbx = s.fbx := rfl
@[simp] theorem State.modRec_din (f : Recorder → Recorder) (s : State) : (s.modRec f).din = s.din := rfl
@[simp] theorem State.modRec_gear (f : Recorder → Recorder) (s : State) : (s.modRec f).gear = s.gear := rfl
@[simp] theorem State.modRec_cam (f : Recorder → Recorder) (s : State) : (s.modRec f).cam = s.cam := rfl
@[simp] theorem State.modRec_ptl (f : Recorder → Recorder) (s : State) : (s.modRec f).ptl = s.ptl := rfl
@[simp] theorem State.modRec_ptlIn (f : Recorder → Recorder) (s : State) : (s.modRec f).ptlIn = s.ptlIn := rfl
@[simp] theorem State.modRec_ptlRun (f : Recorder → Recorder) (s : State) : (s.modRec f).ptlRun = s.ptlRun := rfl
@[simp] theorem State.modRec_cyc (f : Recorder → Recorder) (s : State) : (s.modRec f).cyc = s.cyc := rfl
@[simp] theorem State.modRec_cycEnd (f : Recorder → Recorder) (s : State) : (s.modRec f).cycEnd = s.cycEnd := rfl
@[simp] theorem State.modRec_doorAt (f : Recorder → Recorder) (s : State) : (s.modRec f).doorAt = s.doorAt := rfl
@[simp] theorem State.modRec_env (f : Recorder → Recorder) (s : State) : (s.modRec f).env = s.env := rfl
@[simp] theorem State.modRec_envKept (f : Recorder → Recorder) (s : State) : (s.modRec f).envKept = s.envKept := rfl
@[simp] theorem State.modRec_edges (f : Recorder → Recorder) (s : State) : (s.modRec f).edges = s.edges := rfl
@[simp] theorem State.modRec_side (f : Recorder → Recorder) (s : State) : (s.modRec f).side = s.side := rfl
@[simp] theorem State.modRec_grd (f : Recorder → Recorder) (s : State) : (s.modRec f).grd = s.grd := rfl
@[simp] theorem State.modRec_sbx (f : Recorder → Recorder) (s : State) : (s.modRec f).sbx = s.sbx := rfl
@[simp] theorem State.modRec_safe (f : Recorder → Recorder) (s : State) : (s.modRec f).safe = s.safe := rfl
@[simp] theorem State.modRec_lsw (f : Recorder → Recorder) (s : State) : (s.modRec f).lsw = s.lsw := rfl
@[simp] theorem State.modRec_lswx (f : Recorder → Recorder) (s : State) : (s.modRec f).lswx = s.lswx := rfl
@[simp] theorem State.modRec_lswg (f : Recorder → Recorder) (s : State) : (s.modRec f).lswg = s.lswg := rfl
@[simp] theorem State.modRec_can (f : Recorder → Recorder) (s : State) : (s.modRec f).can = s.can := rfl
@[simp] theorem State.modRec_canc (f : Recorder → Recorder) (s : State) : (s.modRec f).canc = s.canc := rfl
@[simp] theorem State.modRec_stn (f : Recorder → Recorder) (s : State) : (s.modRec f).stn = s.stn := rfl
@[simp] theorem State.modRec_prg (f : Recorder → Recorder) (s : State) : (s.modRec f).prg = s.prg := rfl
@[simp] theorem State.modRec_prgx (f : Recorder → Recorder) (s : State) : (s.modRec f).prgx = s.prgx := rfl
@[simp] theorem State.modRec_evq (f : Recorder → Recorder) (s : State) : (s.modRec f).evq = s.evq := rfl
@[simp] theorem State.modRec_hif (f : Recorder → Recorder) (s : State) : (s.modRec f).hif = s.hif := rfl
@[simp] theorem State.modRec_hspi (f : Recorder → Recorder) (s : State) : (s.modRec f).hspi = s.hspi := rfl
@[simp] theorem State.modRec_recd (f : Recorder → Recorder) (s : State) : (s.modRec f).recd = f s.recd := rfl
@[simp] theorem State.modRec_stat (f : Recorder → Recorder) (s : State) : (s.modRec f).stat = s.stat := rfl
@[simp] theorem State.modRec_pair (f : Recorder → Recorder) (s : State) : (s.modRec f).pair = s.pair := rfl
@[simp] theorem State.modRec_pairx (f : Recorder → Recorder) (s : State) : (s.modRec f).pairx = s.pairx := rfl
@[simp] theorem State.modRec_fuses (f : Recorder → Recorder) (s : State) : (s.modRec f).fuses = s.fuses := rfl
@[simp] theorem State.modRec_sec (f : Recorder → Recorder) (s : State) : (s.modRec f).sec = s.sec := rfl
@[simp] theorem State.modRec_cfg (f : Recorder → Recorder) (s : State) : (s.modRec f).cfg = s.cfg := rfl
@[simp] theorem State.modRec_posted (f : Recorder → Recorder) (s : State) : (s.modRec f).posted = s.posted := rfl
@[simp] theorem State.modRec_fresh (f : Recorder → Recorder) (s : State) : (s.modRec f).fresh = s.fresh := rfl
@[simp] theorem State.modRec_pending (f : Recorder → Recorder) (s : State) : (s.modRec f).pending = s.pending := rfl

@[simp] theorem State.modPg_tb (p : PageId) (f : Page → Page) (s : State) : (s.modPg p f).tb = s.tb := rfl
@[simp] theorem State.modPg_epoch (p : PageId) (f : Page → Page) (s : State) : (s.modPg p f).epoch = s.epoch := rfl
@[simp] theorem State.modPg_slept (p : PageId) (f : Page → Page) (s : State) : (s.modPg p f).slept = s.slept := rfl
@[simp] theorem State.modPg_frac (p : PageId) (f : Page → Page) (s : State) : (s.modPg p f).frac = s.frac := rfl
@[simp] theorem State.modPg_period (p : PageId) (f : Page → Page) (s : State) : (s.modPg p f).period = s.period := rfl
@[simp] theorem State.modPg_links (p : PageId) (f : Page → Page) (s : State) : (s.modPg p f).links = s.links := rfl
@[simp] theorem State.modPg_present (p : PageId) (f : Page → Page) (s : State) : (s.modPg p f).present = s.present := rfl
@[simp] theorem State.modPg_lost (p : PageId) (f : Page → Page) (s : State) : (s.modPg p f).lost = s.lost := rfl
@[simp] theorem State.modPg_seq (p : PageId) (f : Page → Page) (s : State) : (s.modPg p f).seq = s.seq := rfl
@[simp] theorem State.modPg_mem (p : PageId) (f : Page → Page) (s : State) : (s.modPg p f).mem = s.mem := rfl
@[simp] theorem State.modPg_pages (p : PageId) (f : Page → Page) (s : State) : (s.modPg p f).pages = upd s.pages (pageFin p) f := rfl
@[simp] theorem State.modPg_pwr (p : PageId) (f : Page → Page) (s : State) : (s.modPg p f).pwr = s.pwr := rfl
@[simp] theorem State.modPg_clk (p : PageId) (f : Page → Page) (s : State) : (s.modPg p f).clk = s.clk := rfl
@[simp] theorem State.modPg_rst (p : PageId) (f : Page → Page) (s : State) : (s.modPg p f).rst = s.rst := rfl
@[simp] theorem State.modPg_boot (p : PageId) (f : Page → Page) (s : State) : (s.modPg p f).boot = s.boot := rfl
@[simp] theorem State.modPg_mc (p : PageId) (f : Page → Page) (s : State) : (s.modPg p f).mc = s.mc := rfl
@[simp] theorem State.modPg_ax (p : PageId) (f : Page → Page) (s : State) : (s.modPg p f).ax = s.ax := rfl
@[simp] theorem State.modPg_drv (p : PageId) (f : Page → Page) (s : State) : (s.modPg p f).drv = s.drv := rfl
@[simp] theorem State.modPg_coil (p : PageId) (f : Page → Page) (s : State) : (s.modPg p f).coil = s.coil := rfl
@[simp] theorem State.modPg_watch (p : PageId) (f : Page → Page) (s : State) : (s.modPg p f).watch = s.watch := rfl
@[simp] theorem State.modPg_fb (p : PageId) (f : Page → Page) (s : State) : (s.modPg p f).fb = s.fb := rfl
@[simp] theorem State.modPg_fbx (p : PageId) (f : Page → Page) (s : State) : (s.modPg p f).fbx = s.fbx := rfl
@[simp] theorem State.modPg_din (p : PageId) (f : Page → Page) (s : State) : (s.modPg p f).din = s.din := rfl
@[simp] theorem State.modPg_gear (p : PageId) (f : Page → Page) (s : State) : (s.modPg p f).gear = s.gear := rfl
@[simp] theorem State.modPg_cam (p : PageId) (f : Page → Page) (s : State) : (s.modPg p f).cam = s.cam := rfl
@[simp] theorem State.modPg_ptl (p : PageId) (f : Page → Page) (s : State) : (s.modPg p f).ptl = s.ptl := rfl
@[simp] theorem State.modPg_ptlIn (p : PageId) (f : Page → Page) (s : State) : (s.modPg p f).ptlIn = s.ptlIn := rfl
@[simp] theorem State.modPg_ptlRun (p : PageId) (f : Page → Page) (s : State) : (s.modPg p f).ptlRun = s.ptlRun := rfl
@[simp] theorem State.modPg_cyc (p : PageId) (f : Page → Page) (s : State) : (s.modPg p f).cyc = s.cyc := rfl
@[simp] theorem State.modPg_cycEnd (p : PageId) (f : Page → Page) (s : State) : (s.modPg p f).cycEnd = s.cycEnd := rfl
@[simp] theorem State.modPg_doorAt (p : PageId) (f : Page → Page) (s : State) : (s.modPg p f).doorAt = s.doorAt := rfl
@[simp] theorem State.modPg_env (p : PageId) (f : Page → Page) (s : State) : (s.modPg p f).env = s.env := rfl
@[simp] theorem State.modPg_envKept (p : PageId) (f : Page → Page) (s : State) : (s.modPg p f).envKept = s.envKept := rfl
@[simp] theorem State.modPg_edges (p : PageId) (f : Page → Page) (s : State) : (s.modPg p f).edges = s.edges := rfl
@[simp] theorem State.modPg_side (p : PageId) (f : Page → Page) (s : State) : (s.modPg p f).side = s.side := rfl
@[simp] theorem State.modPg_grd (p : PageId) (f : Page → Page) (s : State) : (s.modPg p f).grd = s.grd := rfl
@[simp] theorem State.modPg_sbx (p : PageId) (f : Page → Page) (s : State) : (s.modPg p f).sbx = s.sbx := rfl
@[simp] theorem State.modPg_safe (p : PageId) (f : Page → Page) (s : State) : (s.modPg p f).safe = s.safe := rfl
@[simp] theorem State.modPg_lsw (p : PageId) (f : Page → Page) (s : State) : (s.modPg p f).lsw = s.lsw := rfl
@[simp] theorem State.modPg_lswx (p : PageId) (f : Page → Page) (s : State) : (s.modPg p f).lswx = s.lswx := rfl
@[simp] theorem State.modPg_lswg (p : PageId) (f : Page → Page) (s : State) : (s.modPg p f).lswg = s.lswg := rfl
@[simp] theorem State.modPg_can (p : PageId) (f : Page → Page) (s : State) : (s.modPg p f).can = s.can := rfl
@[simp] theorem State.modPg_canc (p : PageId) (f : Page → Page) (s : State) : (s.modPg p f).canc = s.canc := rfl
@[simp] theorem State.modPg_stn (p : PageId) (f : Page → Page) (s : State) : (s.modPg p f).stn = s.stn := rfl
@[simp] theorem State.modPg_prg (p : PageId) (f : Page → Page) (s : State) : (s.modPg p f).prg = s.prg := rfl
@[simp] theorem State.modPg_prgx (p : PageId) (f : Page → Page) (s : State) : (s.modPg p f).prgx = s.prgx := rfl
@[simp] theorem State.modPg_evq (p : PageId) (f : Page → Page) (s : State) : (s.modPg p f).evq = s.evq := rfl
@[simp] theorem State.modPg_hif (p : PageId) (f : Page → Page) (s : State) : (s.modPg p f).hif = s.hif := rfl
@[simp] theorem State.modPg_hspi (p : PageId) (f : Page → Page) (s : State) : (s.modPg p f).hspi = s.hspi := rfl
@[simp] theorem State.modPg_recd (p : PageId) (f : Page → Page) (s : State) : (s.modPg p f).recd = s.recd := rfl
@[simp] theorem State.modPg_stat (p : PageId) (f : Page → Page) (s : State) : (s.modPg p f).stat = s.stat := rfl
@[simp] theorem State.modPg_pair (p : PageId) (f : Page → Page) (s : State) : (s.modPg p f).pair = s.pair := rfl
@[simp] theorem State.modPg_pairx (p : PageId) (f : Page → Page) (s : State) : (s.modPg p f).pairx = s.pairx := rfl
@[simp] theorem State.modPg_fuses (p : PageId) (f : Page → Page) (s : State) : (s.modPg p f).fuses = s.fuses := rfl
@[simp] theorem State.modPg_sec (p : PageId) (f : Page → Page) (s : State) : (s.modPg p f).sec = s.sec := rfl
@[simp] theorem State.modPg_cfg (p : PageId) (f : Page → Page) (s : State) : (s.modPg p f).cfg = s.cfg := rfl
@[simp] theorem State.modPg_posted (p : PageId) (f : Page → Page) (s : State) : (s.modPg p f).posted = s.posted := rfl
@[simp] theorem State.modPg_fresh (p : PageId) (f : Page → Page) (s : State) : (s.modPg p f).fresh = s.fresh := rfl
@[simp] theorem State.modPg_pending (p : PageId) (f : Page → Page) (s : State) : (s.modPg p f).pending = s.pending := rfl

@[simp] theorem State.modStn_tb (i : Fin 16) (f : Stn → Stn) (s : State) : (s.modStn i f).tb = s.tb := rfl
@[simp] theorem State.modStn_epoch (i : Fin 16) (f : Stn → Stn) (s : State) : (s.modStn i f).epoch = s.epoch := rfl
@[simp] theorem State.modStn_slept (i : Fin 16) (f : Stn → Stn) (s : State) : (s.modStn i f).slept = s.slept := rfl
@[simp] theorem State.modStn_frac (i : Fin 16) (f : Stn → Stn) (s : State) : (s.modStn i f).frac = s.frac := rfl
@[simp] theorem State.modStn_period (i : Fin 16) (f : Stn → Stn) (s : State) : (s.modStn i f).period = s.period := rfl
@[simp] theorem State.modStn_links (i : Fin 16) (f : Stn → Stn) (s : State) : (s.modStn i f).links = s.links := rfl
@[simp] theorem State.modStn_present (i : Fin 16) (f : Stn → Stn) (s : State) : (s.modStn i f).present = s.present := rfl
@[simp] theorem State.modStn_lost (i : Fin 16) (f : Stn → Stn) (s : State) : (s.modStn i f).lost = s.lost := rfl
@[simp] theorem State.modStn_seq (i : Fin 16) (f : Stn → Stn) (s : State) : (s.modStn i f).seq = s.seq := rfl
@[simp] theorem State.modStn_mem (i : Fin 16) (f : Stn → Stn) (s : State) : (s.modStn i f).mem = s.mem := rfl
@[simp] theorem State.modStn_pages (i : Fin 16) (f : Stn → Stn) (s : State) : (s.modStn i f).pages = s.pages := rfl
@[simp] theorem State.modStn_pwr (i : Fin 16) (f : Stn → Stn) (s : State) : (s.modStn i f).pwr = s.pwr := rfl
@[simp] theorem State.modStn_clk (i : Fin 16) (f : Stn → Stn) (s : State) : (s.modStn i f).clk = s.clk := rfl
@[simp] theorem State.modStn_rst (i : Fin 16) (f : Stn → Stn) (s : State) : (s.modStn i f).rst = s.rst := rfl
@[simp] theorem State.modStn_boot (i : Fin 16) (f : Stn → Stn) (s : State) : (s.modStn i f).boot = s.boot := rfl
@[simp] theorem State.modStn_mc (i : Fin 16) (f : Stn → Stn) (s : State) : (s.modStn i f).mc = s.mc := rfl
@[simp] theorem State.modStn_ax (i : Fin 16) (f : Stn → Stn) (s : State) : (s.modStn i f).ax = s.ax := rfl
@[simp] theorem State.modStn_drv (i : Fin 16) (f : Stn → Stn) (s : State) : (s.modStn i f).drv = s.drv := rfl
@[simp] theorem State.modStn_coil (i : Fin 16) (f : Stn → Stn) (s : State) : (s.modStn i f).coil = s.coil := rfl
@[simp] theorem State.modStn_watch (i : Fin 16) (f : Stn → Stn) (s : State) : (s.modStn i f).watch = s.watch := rfl
@[simp] theorem State.modStn_fb (i : Fin 16) (f : Stn → Stn) (s : State) : (s.modStn i f).fb = s.fb := rfl
@[simp] theorem State.modStn_fbx (i : Fin 16) (f : Stn → Stn) (s : State) : (s.modStn i f).fbx = s.fbx := rfl
@[simp] theorem State.modStn_din (i : Fin 16) (f : Stn → Stn) (s : State) : (s.modStn i f).din = s.din := rfl
@[simp] theorem State.modStn_gear (i : Fin 16) (f : Stn → Stn) (s : State) : (s.modStn i f).gear = s.gear := rfl
@[simp] theorem State.modStn_cam (i : Fin 16) (f : Stn → Stn) (s : State) : (s.modStn i f).cam = s.cam := rfl
@[simp] theorem State.modStn_ptl (i : Fin 16) (f : Stn → Stn) (s : State) : (s.modStn i f).ptl = s.ptl := rfl
@[simp] theorem State.modStn_ptlIn (i : Fin 16) (f : Stn → Stn) (s : State) : (s.modStn i f).ptlIn = s.ptlIn := rfl
@[simp] theorem State.modStn_ptlRun (i : Fin 16) (f : Stn → Stn) (s : State) : (s.modStn i f).ptlRun = s.ptlRun := rfl
@[simp] theorem State.modStn_cyc (i : Fin 16) (f : Stn → Stn) (s : State) : (s.modStn i f).cyc = s.cyc := rfl
@[simp] theorem State.modStn_cycEnd (i : Fin 16) (f : Stn → Stn) (s : State) : (s.modStn i f).cycEnd = s.cycEnd := rfl
@[simp] theorem State.modStn_doorAt (i : Fin 16) (f : Stn → Stn) (s : State) : (s.modStn i f).doorAt = s.doorAt := rfl
@[simp] theorem State.modStn_env (i : Fin 16) (f : Stn → Stn) (s : State) : (s.modStn i f).env = s.env := rfl
@[simp] theorem State.modStn_envKept (i : Fin 16) (f : Stn → Stn) (s : State) : (s.modStn i f).envKept = s.envKept := rfl
@[simp] theorem State.modStn_edges (i : Fin 16) (f : Stn → Stn) (s : State) : (s.modStn i f).edges = s.edges := rfl
@[simp] theorem State.modStn_side (i : Fin 16) (f : Stn → Stn) (s : State) : (s.modStn i f).side = s.side := rfl
@[simp] theorem State.modStn_grd (i : Fin 16) (f : Stn → Stn) (s : State) : (s.modStn i f).grd = s.grd := rfl
@[simp] theorem State.modStn_sbx (i : Fin 16) (f : Stn → Stn) (s : State) : (s.modStn i f).sbx = s.sbx := rfl
@[simp] theorem State.modStn_safe (i : Fin 16) (f : Stn → Stn) (s : State) : (s.modStn i f).safe = s.safe := rfl
@[simp] theorem State.modStn_lsw (i : Fin 16) (f : Stn → Stn) (s : State) : (s.modStn i f).lsw = s.lsw := rfl
@[simp] theorem State.modStn_lswx (i : Fin 16) (f : Stn → Stn) (s : State) : (s.modStn i f).lswx = s.lswx := rfl
@[simp] theorem State.modStn_lswg (i : Fin 16) (f : Stn → Stn) (s : State) : (s.modStn i f).lswg = s.lswg := rfl
@[simp] theorem State.modStn_can (i : Fin 16) (f : Stn → Stn) (s : State) : (s.modStn i f).can = s.can := rfl
@[simp] theorem State.modStn_canc (i : Fin 16) (f : Stn → Stn) (s : State) : (s.modStn i f).canc = s.canc := rfl
@[simp] theorem State.modStn_stn (i : Fin 16) (f : Stn → Stn) (s : State) : (s.modStn i f).stn = upd s.stn i f := rfl
@[simp] theorem State.modStn_prg (i : Fin 16) (f : Stn → Stn) (s : State) : (s.modStn i f).prg = s.prg := rfl
@[simp] theorem State.modStn_prgx (i : Fin 16) (f : Stn → Stn) (s : State) : (s.modStn i f).prgx = s.prgx := rfl
@[simp] theorem State.modStn_evq (i : Fin 16) (f : Stn → Stn) (s : State) : (s.modStn i f).evq = s.evq := rfl
@[simp] theorem State.modStn_hif (i : Fin 16) (f : Stn → Stn) (s : State) : (s.modStn i f).hif = s.hif := rfl
@[simp] theorem State.modStn_hspi (i : Fin 16) (f : Stn → Stn) (s : State) : (s.modStn i f).hspi = s.hspi := rfl
@[simp] theorem State.modStn_recd (i : Fin 16) (f : Stn → Stn) (s : State) : (s.modStn i f).recd = s.recd := rfl
@[simp] theorem State.modStn_stat (i : Fin 16) (f : Stn → Stn) (s : State) : (s.modStn i f).stat = s.stat := rfl
@[simp] theorem State.modStn_pair (i : Fin 16) (f : Stn → Stn) (s : State) : (s.modStn i f).pair = s.pair := rfl
@[simp] theorem State.modStn_pairx (i : Fin 16) (f : Stn → Stn) (s : State) : (s.modStn i f).pairx = s.pairx := rfl
@[simp] theorem State.modStn_fuses (i : Fin 16) (f : Stn → Stn) (s : State) : (s.modStn i f).fuses = s.fuses := rfl
@[simp] theorem State.modStn_sec (i : Fin 16) (f : Stn → Stn) (s : State) : (s.modStn i f).sec = s.sec := rfl
@[simp] theorem State.modStn_cfg (i : Fin 16) (f : Stn → Stn) (s : State) : (s.modStn i f).cfg = s.cfg := rfl
@[simp] theorem State.modStn_posted (i : Fin 16) (f : Stn → Stn) (s : State) : (s.modStn i f).posted = s.posted := rfl
@[simp] theorem State.modStn_fresh (i : Fin 16) (f : Stn → Stn) (s : State) : (s.modStn i f).fresh = s.fresh := rfl
@[simp] theorem State.modStn_pending (i : Fin 16) (f : Stn → Stn) (s : State) : (s.modStn i f).pending = s.pending := rfl

@[simp] theorem State.modPwr_tb (f : Power → Power) (s : State) : (s.modPwr f).tb = s.tb := rfl
@[simp] theorem State.modPwr_epoch (f : Power → Power) (s : State) : (s.modPwr f).epoch = s.epoch := rfl
@[simp] theorem State.modPwr_slept (f : Power → Power) (s : State) : (s.modPwr f).slept = s.slept := rfl
@[simp] theorem State.modPwr_frac (f : Power → Power) (s : State) : (s.modPwr f).frac = s.frac := rfl
@[simp] theorem State.modPwr_period (f : Power → Power) (s : State) : (s.modPwr f).period = s.period := rfl
@[simp] theorem State.modPwr_links (f : Power → Power) (s : State) : (s.modPwr f).links = s.links := rfl
@[simp] theorem State.modPwr_present (f : Power → Power) (s : State) : (s.modPwr f).present = s.present := rfl
@[simp] theorem State.modPwr_lost (f : Power → Power) (s : State) : (s.modPwr f).lost = s.lost := rfl
@[simp] theorem State.modPwr_seq (f : Power → Power) (s : State) : (s.modPwr f).seq = s.seq := rfl
@[simp] theorem State.modPwr_mem (f : Power → Power) (s : State) : (s.modPwr f).mem = s.mem := rfl
@[simp] theorem State.modPwr_pages (f : Power → Power) (s : State) : (s.modPwr f).pages = s.pages := rfl
@[simp] theorem State.modPwr_pwr (f : Power → Power) (s : State) : (s.modPwr f).pwr = f s.pwr := rfl
@[simp] theorem State.modPwr_clk (f : Power → Power) (s : State) : (s.modPwr f).clk = s.clk := rfl
@[simp] theorem State.modPwr_rst (f : Power → Power) (s : State) : (s.modPwr f).rst = s.rst := rfl
@[simp] theorem State.modPwr_boot (f : Power → Power) (s : State) : (s.modPwr f).boot = s.boot := rfl
@[simp] theorem State.modPwr_mc (f : Power → Power) (s : State) : (s.modPwr f).mc = s.mc := rfl
@[simp] theorem State.modPwr_ax (f : Power → Power) (s : State) : (s.modPwr f).ax = s.ax := rfl
@[simp] theorem State.modPwr_drv (f : Power → Power) (s : State) : (s.modPwr f).drv = s.drv := rfl
@[simp] theorem State.modPwr_coil (f : Power → Power) (s : State) : (s.modPwr f).coil = s.coil := rfl
@[simp] theorem State.modPwr_watch (f : Power → Power) (s : State) : (s.modPwr f).watch = s.watch := rfl
@[simp] theorem State.modPwr_fb (f : Power → Power) (s : State) : (s.modPwr f).fb = s.fb := rfl
@[simp] theorem State.modPwr_fbx (f : Power → Power) (s : State) : (s.modPwr f).fbx = s.fbx := rfl
@[simp] theorem State.modPwr_din (f : Power → Power) (s : State) : (s.modPwr f).din = s.din := rfl
@[simp] theorem State.modPwr_gear (f : Power → Power) (s : State) : (s.modPwr f).gear = s.gear := rfl
@[simp] theorem State.modPwr_cam (f : Power → Power) (s : State) : (s.modPwr f).cam = s.cam := rfl
@[simp] theorem State.modPwr_ptl (f : Power → Power) (s : State) : (s.modPwr f).ptl = s.ptl := rfl
@[simp] theorem State.modPwr_ptlIn (f : Power → Power) (s : State) : (s.modPwr f).ptlIn = s.ptlIn := rfl
@[simp] theorem State.modPwr_ptlRun (f : Power → Power) (s : State) : (s.modPwr f).ptlRun = s.ptlRun := rfl
@[simp] theorem State.modPwr_cyc (f : Power → Power) (s : State) : (s.modPwr f).cyc = s.cyc := rfl
@[simp] theorem State.modPwr_cycEnd (f : Power → Power) (s : State) : (s.modPwr f).cycEnd = s.cycEnd := rfl
@[simp] theorem State.modPwr_doorAt (f : Power → Power) (s : State) : (s.modPwr f).doorAt = s.doorAt := rfl
@[simp] theorem State.modPwr_env (f : Power → Power) (s : State) : (s.modPwr f).env = s.env := rfl
@[simp] theorem State.modPwr_envKept (f : Power → Power) (s : State) : (s.modPwr f).envKept = s.envKept := rfl
@[simp] theorem State.modPwr_edges (f : Power → Power) (s : State) : (s.modPwr f).edges = s.edges := rfl
@[simp] theorem State.modPwr_side (f : Power → Power) (s : State) : (s.modPwr f).side = s.side := rfl
@[simp] theorem State.modPwr_grd (f : Power → Power) (s : State) : (s.modPwr f).grd = s.grd := rfl
@[simp] theorem State.modPwr_sbx (f : Power → Power) (s : State) : (s.modPwr f).sbx = s.sbx := rfl
@[simp] theorem State.modPwr_safe (f : Power → Power) (s : State) : (s.modPwr f).safe = s.safe := rfl
@[simp] theorem State.modPwr_lsw (f : Power → Power) (s : State) : (s.modPwr f).lsw = s.lsw := rfl
@[simp] theorem State.modPwr_lswx (f : Power → Power) (s : State) : (s.modPwr f).lswx = s.lswx := rfl
@[simp] theorem State.modPwr_lswg (f : Power → Power) (s : State) : (s.modPwr f).lswg = s.lswg := rfl
@[simp] theorem State.modPwr_can (f : Power → Power) (s : State) : (s.modPwr f).can = s.can := rfl
@[simp] theorem State.modPwr_canc (f : Power → Power) (s : State) : (s.modPwr f).canc = s.canc := rfl
@[simp] theorem State.modPwr_stn (f : Power → Power) (s : State) : (s.modPwr f).stn = s.stn := rfl
@[simp] theorem State.modPwr_prg (f : Power → Power) (s : State) : (s.modPwr f).prg = s.prg := rfl
@[simp] theorem State.modPwr_prgx (f : Power → Power) (s : State) : (s.modPwr f).prgx = s.prgx := rfl
@[simp] theorem State.modPwr_evq (f : Power → Power) (s : State) : (s.modPwr f).evq = s.evq := rfl
@[simp] theorem State.modPwr_hif (f : Power → Power) (s : State) : (s.modPwr f).hif = s.hif := rfl
@[simp] theorem State.modPwr_hspi (f : Power → Power) (s : State) : (s.modPwr f).hspi = s.hspi := rfl
@[simp] theorem State.modPwr_recd (f : Power → Power) (s : State) : (s.modPwr f).recd = s.recd := rfl
@[simp] theorem State.modPwr_stat (f : Power → Power) (s : State) : (s.modPwr f).stat = s.stat := rfl
@[simp] theorem State.modPwr_pair (f : Power → Power) (s : State) : (s.modPwr f).pair = s.pair := rfl
@[simp] theorem State.modPwr_pairx (f : Power → Power) (s : State) : (s.modPwr f).pairx = s.pairx := rfl
@[simp] theorem State.modPwr_fuses (f : Power → Power) (s : State) : (s.modPwr f).fuses = s.fuses := rfl
@[simp] theorem State.modPwr_sec (f : Power → Power) (s : State) : (s.modPwr f).sec = s.sec := rfl
@[simp] theorem State.modPwr_cfg (f : Power → Power) (s : State) : (s.modPwr f).cfg = s.cfg := rfl
@[simp] theorem State.modPwr_posted (f : Power → Power) (s : State) : (s.modPwr f).posted = s.posted := rfl
@[simp] theorem State.modPwr_fresh (f : Power → Power) (s : State) : (s.modPwr f).fresh = s.fresh := rfl
@[simp] theorem State.modPwr_pending (f : Power → Power) (s : State) : (s.modPwr f).pending = s.pending := rfl

@[simp] theorem State.modSec_tb (f : Sec → Sec) (s : State) : (s.modSec f).tb = s.tb := rfl
@[simp] theorem State.modSec_epoch (f : Sec → Sec) (s : State) : (s.modSec f).epoch = s.epoch := rfl
@[simp] theorem State.modSec_slept (f : Sec → Sec) (s : State) : (s.modSec f).slept = s.slept := rfl
@[simp] theorem State.modSec_frac (f : Sec → Sec) (s : State) : (s.modSec f).frac = s.frac := rfl
@[simp] theorem State.modSec_period (f : Sec → Sec) (s : State) : (s.modSec f).period = s.period := rfl
@[simp] theorem State.modSec_links (f : Sec → Sec) (s : State) : (s.modSec f).links = s.links := rfl
@[simp] theorem State.modSec_present (f : Sec → Sec) (s : State) : (s.modSec f).present = s.present := rfl
@[simp] theorem State.modSec_lost (f : Sec → Sec) (s : State) : (s.modSec f).lost = s.lost := rfl
@[simp] theorem State.modSec_seq (f : Sec → Sec) (s : State) : (s.modSec f).seq = s.seq := rfl
@[simp] theorem State.modSec_mem (f : Sec → Sec) (s : State) : (s.modSec f).mem = s.mem := rfl
@[simp] theorem State.modSec_pages (f : Sec → Sec) (s : State) : (s.modSec f).pages = s.pages := rfl
@[simp] theorem State.modSec_pwr (f : Sec → Sec) (s : State) : (s.modSec f).pwr = s.pwr := rfl
@[simp] theorem State.modSec_clk (f : Sec → Sec) (s : State) : (s.modSec f).clk = s.clk := rfl
@[simp] theorem State.modSec_rst (f : Sec → Sec) (s : State) : (s.modSec f).rst = s.rst := rfl
@[simp] theorem State.modSec_boot (f : Sec → Sec) (s : State) : (s.modSec f).boot = s.boot := rfl
@[simp] theorem State.modSec_mc (f : Sec → Sec) (s : State) : (s.modSec f).mc = s.mc := rfl
@[simp] theorem State.modSec_ax (f : Sec → Sec) (s : State) : (s.modSec f).ax = s.ax := rfl
@[simp] theorem State.modSec_drv (f : Sec → Sec) (s : State) : (s.modSec f).drv = s.drv := rfl
@[simp] theorem State.modSec_coil (f : Sec → Sec) (s : State) : (s.modSec f).coil = s.coil := rfl
@[simp] theorem State.modSec_watch (f : Sec → Sec) (s : State) : (s.modSec f).watch = s.watch := rfl
@[simp] theorem State.modSec_fb (f : Sec → Sec) (s : State) : (s.modSec f).fb = s.fb := rfl
@[simp] theorem State.modSec_fbx (f : Sec → Sec) (s : State) : (s.modSec f).fbx = s.fbx := rfl
@[simp] theorem State.modSec_din (f : Sec → Sec) (s : State) : (s.modSec f).din = s.din := rfl
@[simp] theorem State.modSec_gear (f : Sec → Sec) (s : State) : (s.modSec f).gear = s.gear := rfl
@[simp] theorem State.modSec_cam (f : Sec → Sec) (s : State) : (s.modSec f).cam = s.cam := rfl
@[simp] theorem State.modSec_ptl (f : Sec → Sec) (s : State) : (s.modSec f).ptl = s.ptl := rfl
@[simp] theorem State.modSec_ptlIn (f : Sec → Sec) (s : State) : (s.modSec f).ptlIn = s.ptlIn := rfl
@[simp] theorem State.modSec_ptlRun (f : Sec → Sec) (s : State) : (s.modSec f).ptlRun = s.ptlRun := rfl
@[simp] theorem State.modSec_cyc (f : Sec → Sec) (s : State) : (s.modSec f).cyc = s.cyc := rfl
@[simp] theorem State.modSec_cycEnd (f : Sec → Sec) (s : State) : (s.modSec f).cycEnd = s.cycEnd := rfl
@[simp] theorem State.modSec_doorAt (f : Sec → Sec) (s : State) : (s.modSec f).doorAt = s.doorAt := rfl
@[simp] theorem State.modSec_env (f : Sec → Sec) (s : State) : (s.modSec f).env = s.env := rfl
@[simp] theorem State.modSec_envKept (f : Sec → Sec) (s : State) : (s.modSec f).envKept = s.envKept := rfl
@[simp] theorem State.modSec_edges (f : Sec → Sec) (s : State) : (s.modSec f).edges = s.edges := rfl
@[simp] theorem State.modSec_side (f : Sec → Sec) (s : State) : (s.modSec f).side = s.side := rfl
@[simp] theorem State.modSec_grd (f : Sec → Sec) (s : State) : (s.modSec f).grd = s.grd := rfl
@[simp] theorem State.modSec_sbx (f : Sec → Sec) (s : State) : (s.modSec f).sbx = s.sbx := rfl
@[simp] theorem State.modSec_safe (f : Sec → Sec) (s : State) : (s.modSec f).safe = s.safe := rfl
@[simp] theorem State.modSec_lsw (f : Sec → Sec) (s : State) : (s.modSec f).lsw = s.lsw := rfl
@[simp] theorem State.modSec_lswx (f : Sec → Sec) (s : State) : (s.modSec f).lswx = s.lswx := rfl
@[simp] theorem State.modSec_lswg (f : Sec → Sec) (s : State) : (s.modSec f).lswg = s.lswg := rfl
@[simp] theorem State.modSec_can (f : Sec → Sec) (s : State) : (s.modSec f).can = s.can := rfl
@[simp] theorem State.modSec_canc (f : Sec → Sec) (s : State) : (s.modSec f).canc = s.canc := rfl
@[simp] theorem State.modSec_stn (f : Sec → Sec) (s : State) : (s.modSec f).stn = s.stn := rfl
@[simp] theorem State.modSec_prg (f : Sec → Sec) (s : State) : (s.modSec f).prg = s.prg := rfl
@[simp] theorem State.modSec_prgx (f : Sec → Sec) (s : State) : (s.modSec f).prgx = s.prgx := rfl
@[simp] theorem State.modSec_evq (f : Sec → Sec) (s : State) : (s.modSec f).evq = s.evq := rfl
@[simp] theorem State.modSec_hif (f : Sec → Sec) (s : State) : (s.modSec f).hif = s.hif := rfl
@[simp] theorem State.modSec_hspi (f : Sec → Sec) (s : State) : (s.modSec f).hspi = s.hspi := rfl
@[simp] theorem State.modSec_recd (f : Sec → Sec) (s : State) : (s.modSec f).recd = s.recd := rfl
@[simp] theorem State.modSec_stat (f : Sec → Sec) (s : State) : (s.modSec f).stat = s.stat := rfl
@[simp] theorem State.modSec_pair (f : Sec → Sec) (s : State) : (s.modSec f).pair = s.pair := rfl
@[simp] theorem State.modSec_pairx (f : Sec → Sec) (s : State) : (s.modSec f).pairx = s.pairx := rfl
@[simp] theorem State.modSec_fuses (f : Sec → Sec) (s : State) : (s.modSec f).fuses = s.fuses := rfl
@[simp] theorem State.modSec_sec (f : Sec → Sec) (s : State) : (s.modSec f).sec = f s.sec := rfl
@[simp] theorem State.modSec_cfg (f : Sec → Sec) (s : State) : (s.modSec f).cfg = s.cfg := rfl
@[simp] theorem State.modSec_posted (f : Sec → Sec) (s : State) : (s.modSec f).posted = s.posted := rfl
@[simp] theorem State.modSec_fresh (f : Sec → Sec) (s : State) : (s.modSec f).fresh = s.fresh := rfl
@[simp] theorem State.modSec_pending (f : Sec → Sec) (s : State) : (s.modSec f).pending = s.pending := rfl

@[simp] theorem State.setCom_tb (p : PageId) (o : Nat) (w : Word) (s : State) : (s.setCom p o w).tb = s.tb := rfl
@[simp] theorem State.setCom_epoch (p : PageId) (o : Nat) (w : Word) (s : State) : (s.setCom p o w).epoch = s.epoch := rfl
@[simp] theorem State.setCom_slept (p : PageId) (o : Nat) (w : Word) (s : State) : (s.setCom p o w).slept = s.slept := rfl
@[simp] theorem State.setCom_frac (p : PageId) (o : Nat) (w : Word) (s : State) : (s.setCom p o w).frac = s.frac := rfl
@[simp] theorem State.setCom_period (p : PageId) (o : Nat) (w : Word) (s : State) : (s.setCom p o w).period = s.period := rfl
@[simp] theorem State.setCom_links (p : PageId) (o : Nat) (w : Word) (s : State) : (s.setCom p o w).links = s.links := rfl
@[simp] theorem State.setCom_present (p : PageId) (o : Nat) (w : Word) (s : State) : (s.setCom p o w).present = s.present := rfl
@[simp] theorem State.setCom_lost (p : PageId) (o : Nat) (w : Word) (s : State) : (s.setCom p o w).lost = s.lost := rfl
@[simp] theorem State.setCom_seq (p : PageId) (o : Nat) (w : Word) (s : State) : (s.setCom p o w).seq = s.seq := rfl
@[simp] theorem State.setCom_mem (p : PageId) (o : Nat) (w : Word) (s : State) : (s.setCom p o w).mem = s.mem := rfl
@[simp] theorem State.setCom_pages (p : PageId) (o : Nat) (w : Word) (s : State) : (s.setCom p o w).pages = upd s.pages (pageFin p) (fun g => { g with com := g.com.put o w }) := rfl
@[simp] theorem State.setCom_pwr (p : PageId) (o : Nat) (w : Word) (s : State) : (s.setCom p o w).pwr = s.pwr := rfl
@[simp] theorem State.setCom_clk (p : PageId) (o : Nat) (w : Word) (s : State) : (s.setCom p o w).clk = s.clk := rfl
@[simp] theorem State.setCom_rst (p : PageId) (o : Nat) (w : Word) (s : State) : (s.setCom p o w).rst = s.rst := rfl
@[simp] theorem State.setCom_boot (p : PageId) (o : Nat) (w : Word) (s : State) : (s.setCom p o w).boot = s.boot := rfl
@[simp] theorem State.setCom_mc (p : PageId) (o : Nat) (w : Word) (s : State) : (s.setCom p o w).mc = s.mc := rfl
@[simp] theorem State.setCom_ax (p : PageId) (o : Nat) (w : Word) (s : State) : (s.setCom p o w).ax = s.ax := rfl
@[simp] theorem State.setCom_drv (p : PageId) (o : Nat) (w : Word) (s : State) : (s.setCom p o w).drv = s.drv := rfl
@[simp] theorem State.setCom_coil (p : PageId) (o : Nat) (w : Word) (s : State) : (s.setCom p o w).coil = s.coil := rfl
@[simp] theorem State.setCom_watch (p : PageId) (o : Nat) (w : Word) (s : State) : (s.setCom p o w).watch = s.watch := rfl
@[simp] theorem State.setCom_fb (p : PageId) (o : Nat) (w : Word) (s : State) : (s.setCom p o w).fb = s.fb := rfl
@[simp] theorem State.setCom_fbx (p : PageId) (o : Nat) (w : Word) (s : State) : (s.setCom p o w).fbx = s.fbx := rfl
@[simp] theorem State.setCom_din (p : PageId) (o : Nat) (w : Word) (s : State) : (s.setCom p o w).din = s.din := rfl
@[simp] theorem State.setCom_gear (p : PageId) (o : Nat) (w : Word) (s : State) : (s.setCom p o w).gear = s.gear := rfl
@[simp] theorem State.setCom_cam (p : PageId) (o : Nat) (w : Word) (s : State) : (s.setCom p o w).cam = s.cam := rfl
@[simp] theorem State.setCom_ptl (p : PageId) (o : Nat) (w : Word) (s : State) : (s.setCom p o w).ptl = s.ptl := rfl
@[simp] theorem State.setCom_ptlIn (p : PageId) (o : Nat) (w : Word) (s : State) : (s.setCom p o w).ptlIn = s.ptlIn := rfl
@[simp] theorem State.setCom_ptlRun (p : PageId) (o : Nat) (w : Word) (s : State) : (s.setCom p o w).ptlRun = s.ptlRun := rfl
@[simp] theorem State.setCom_cyc (p : PageId) (o : Nat) (w : Word) (s : State) : (s.setCom p o w).cyc = s.cyc := rfl
@[simp] theorem State.setCom_cycEnd (p : PageId) (o : Nat) (w : Word) (s : State) : (s.setCom p o w).cycEnd = s.cycEnd := rfl
@[simp] theorem State.setCom_doorAt (p : PageId) (o : Nat) (w : Word) (s : State) : (s.setCom p o w).doorAt = s.doorAt := rfl
@[simp] theorem State.setCom_env (p : PageId) (o : Nat) (w : Word) (s : State) : (s.setCom p o w).env = s.env := rfl
@[simp] theorem State.setCom_envKept (p : PageId) (o : Nat) (w : Word) (s : State) : (s.setCom p o w).envKept = s.envKept := rfl
@[simp] theorem State.setCom_edges (p : PageId) (o : Nat) (w : Word) (s : State) : (s.setCom p o w).edges = s.edges := rfl
@[simp] theorem State.setCom_side (p : PageId) (o : Nat) (w : Word) (s : State) : (s.setCom p o w).side = s.side := rfl
@[simp] theorem State.setCom_grd (p : PageId) (o : Nat) (w : Word) (s : State) : (s.setCom p o w).grd = s.grd := rfl
@[simp] theorem State.setCom_sbx (p : PageId) (o : Nat) (w : Word) (s : State) : (s.setCom p o w).sbx = s.sbx := rfl
@[simp] theorem State.setCom_safe (p : PageId) (o : Nat) (w : Word) (s : State) : (s.setCom p o w).safe = s.safe := rfl
@[simp] theorem State.setCom_lsw (p : PageId) (o : Nat) (w : Word) (s : State) : (s.setCom p o w).lsw = s.lsw := rfl
@[simp] theorem State.setCom_lswx (p : PageId) (o : Nat) (w : Word) (s : State) : (s.setCom p o w).lswx = s.lswx := rfl
@[simp] theorem State.setCom_lswg (p : PageId) (o : Nat) (w : Word) (s : State) : (s.setCom p o w).lswg = s.lswg := rfl
@[simp] theorem State.setCom_can (p : PageId) (o : Nat) (w : Word) (s : State) : (s.setCom p o w).can = s.can := rfl
@[simp] theorem State.setCom_canc (p : PageId) (o : Nat) (w : Word) (s : State) : (s.setCom p o w).canc = s.canc := rfl
@[simp] theorem State.setCom_stn (p : PageId) (o : Nat) (w : Word) (s : State) : (s.setCom p o w).stn = s.stn := rfl
@[simp] theorem State.setCom_prg (p : PageId) (o : Nat) (w : Word) (s : State) : (s.setCom p o w).prg = s.prg := rfl
@[simp] theorem State.setCom_prgx (p : PageId) (o : Nat) (w : Word) (s : State) : (s.setCom p o w).prgx = s.prgx := rfl
@[simp] theorem State.setCom_evq (p : PageId) (o : Nat) (w : Word) (s : State) : (s.setCom p o w).evq = s.evq := rfl
@[simp] theorem State.setCom_hif (p : PageId) (o : Nat) (w : Word) (s : State) : (s.setCom p o w).hif = s.hif := rfl
@[simp] theorem State.setCom_hspi (p : PageId) (o : Nat) (w : Word) (s : State) : (s.setCom p o w).hspi = s.hspi := rfl
@[simp] theorem State.setCom_recd (p : PageId) (o : Nat) (w : Word) (s : State) : (s.setCom p o w).recd = s.recd := rfl
@[simp] theorem State.setCom_stat (p : PageId) (o : Nat) (w : Word) (s : State) : (s.setCom p o w).stat = s.stat := rfl
@[simp] theorem State.setCom_pair (p : PageId) (o : Nat) (w : Word) (s : State) : (s.setCom p o w).pair = s.pair := rfl
@[simp] theorem State.setCom_pairx (p : PageId) (o : Nat) (w : Word) (s : State) : (s.setCom p o w).pairx = s.pairx := rfl
@[simp] theorem State.setCom_fuses (p : PageId) (o : Nat) (w : Word) (s : State) : (s.setCom p o w).fuses = s.fuses := rfl
@[simp] theorem State.setCom_sec (p : PageId) (o : Nat) (w : Word) (s : State) : (s.setCom p o w).sec = s.sec := rfl
@[simp] theorem State.setCom_cfg (p : PageId) (o : Nat) (w : Word) (s : State) : (s.setCom p o w).cfg = s.cfg := rfl
@[simp] theorem State.setCom_posted (p : PageId) (o : Nat) (w : Word) (s : State) : (s.setCom p o w).posted = s.posted := rfl
@[simp] theorem State.setCom_fresh (p : PageId) (o : Nat) (w : Word) (s : State) : (s.setCom p o w).fresh = s.fresh := rfl
@[simp] theorem State.setCom_pending (p : PageId) (o : Nat) (w : Word) (s : State) : (s.setCom p o w).pending = s.pending := rfl

@[simp] theorem State.to_tb (t : Nat) (s : State) : (s.to t).tb = max s.tb t := rfl
@[simp] theorem State.to_epoch (t : Nat) (s : State) : (s.to t).epoch = s.epoch := rfl
@[simp] theorem State.to_slept (t : Nat) (s : State) : (s.to t).slept = s.slept := rfl
@[simp] theorem State.to_frac (t : Nat) (s : State) : (s.to t).frac = s.frac := rfl
@[simp] theorem State.to_period (t : Nat) (s : State) : (s.to t).period = s.period := rfl
@[simp] theorem State.to_links (t : Nat) (s : State) : (s.to t).links = s.links := rfl
@[simp] theorem State.to_present (t : Nat) (s : State) : (s.to t).present = s.present := rfl
@[simp] theorem State.to_lost (t : Nat) (s : State) : (s.to t).lost = s.lost := rfl
@[simp] theorem State.to_seq (t : Nat) (s : State) : (s.to t).seq = s.seq := rfl
@[simp] theorem State.to_mem (t : Nat) (s : State) : (s.to t).mem = s.mem := rfl
@[simp] theorem State.to_pages (t : Nat) (s : State) : (s.to t).pages = s.pages := rfl
@[simp] theorem State.to_pwr (t : Nat) (s : State) : (s.to t).pwr = s.pwr := rfl
@[simp] theorem State.to_clk (t : Nat) (s : State) : (s.to t).clk = s.clk := rfl
@[simp] theorem State.to_rst (t : Nat) (s : State) : (s.to t).rst = s.rst := rfl
@[simp] theorem State.to_boot (t : Nat) (s : State) : (s.to t).boot = s.boot := rfl
@[simp] theorem State.to_mc (t : Nat) (s : State) : (s.to t).mc = s.mc := rfl
@[simp] theorem State.to_ax (t : Nat) (s : State) : (s.to t).ax = s.ax := rfl
@[simp] theorem State.to_drv (t : Nat) (s : State) : (s.to t).drv = s.drv := rfl
@[simp] theorem State.to_coil (t : Nat) (s : State) : (s.to t).coil = s.coil := rfl
@[simp] theorem State.to_watch (t : Nat) (s : State) : (s.to t).watch = s.watch := rfl
@[simp] theorem State.to_fb (t : Nat) (s : State) : (s.to t).fb = s.fb := rfl
@[simp] theorem State.to_fbx (t : Nat) (s : State) : (s.to t).fbx = s.fbx := rfl
@[simp] theorem State.to_din (t : Nat) (s : State) : (s.to t).din = s.din := rfl
@[simp] theorem State.to_gear (t : Nat) (s : State) : (s.to t).gear = s.gear := rfl
@[simp] theorem State.to_cam (t : Nat) (s : State) : (s.to t).cam = s.cam := rfl
@[simp] theorem State.to_ptl (t : Nat) (s : State) : (s.to t).ptl = s.ptl := rfl
@[simp] theorem State.to_ptlIn (t : Nat) (s : State) : (s.to t).ptlIn = s.ptlIn := rfl
@[simp] theorem State.to_ptlRun (t : Nat) (s : State) : (s.to t).ptlRun = s.ptlRun := rfl
@[simp] theorem State.to_cyc (t : Nat) (s : State) : (s.to t).cyc = s.cyc := rfl
@[simp] theorem State.to_cycEnd (t : Nat) (s : State) : (s.to t).cycEnd = s.cycEnd := rfl
@[simp] theorem State.to_doorAt (t : Nat) (s : State) : (s.to t).doorAt = s.doorAt := rfl
@[simp] theorem State.to_env (t : Nat) (s : State) : (s.to t).env = s.env := rfl
@[simp] theorem State.to_envKept (t : Nat) (s : State) : (s.to t).envKept = s.envKept := rfl
@[simp] theorem State.to_edges (t : Nat) (s : State) : (s.to t).edges = s.edges := rfl
@[simp] theorem State.to_side (t : Nat) (s : State) : (s.to t).side = s.side := rfl
@[simp] theorem State.to_grd (t : Nat) (s : State) : (s.to t).grd = s.grd := rfl
@[simp] theorem State.to_sbx (t : Nat) (s : State) : (s.to t).sbx = s.sbx := rfl
@[simp] theorem State.to_safe (t : Nat) (s : State) : (s.to t).safe = s.safe := rfl
@[simp] theorem State.to_lsw (t : Nat) (s : State) : (s.to t).lsw = s.lsw := rfl
@[simp] theorem State.to_lswx (t : Nat) (s : State) : (s.to t).lswx = s.lswx := rfl
@[simp] theorem State.to_lswg (t : Nat) (s : State) : (s.to t).lswg = s.lswg := rfl
@[simp] theorem State.to_can (t : Nat) (s : State) : (s.to t).can = s.can := rfl
@[simp] theorem State.to_canc (t : Nat) (s : State) : (s.to t).canc = s.canc := rfl
@[simp] theorem State.to_stn (t : Nat) (s : State) : (s.to t).stn = s.stn := rfl
@[simp] theorem State.to_prg (t : Nat) (s : State) : (s.to t).prg = s.prg := rfl
@[simp] theorem State.to_prgx (t : Nat) (s : State) : (s.to t).prgx = s.prgx := rfl
@[simp] theorem State.to_evq (t : Nat) (s : State) : (s.to t).evq = s.evq := rfl
@[simp] theorem State.to_hif (t : Nat) (s : State) : (s.to t).hif = s.hif := rfl
@[simp] theorem State.to_hspi (t : Nat) (s : State) : (s.to t).hspi = s.hspi := rfl
@[simp] theorem State.to_recd (t : Nat) (s : State) : (s.to t).recd = s.recd := rfl
@[simp] theorem State.to_stat (t : Nat) (s : State) : (s.to t).stat = s.stat := rfl
@[simp] theorem State.to_pair (t : Nat) (s : State) : (s.to t).pair = s.pair := rfl
@[simp] theorem State.to_pairx (t : Nat) (s : State) : (s.to t).pairx = s.pairx := rfl
@[simp] theorem State.to_fuses (t : Nat) (s : State) : (s.to t).fuses = s.fuses := rfl
@[simp] theorem State.to_sec (t : Nat) (s : State) : (s.to t).sec = s.sec := rfl
@[simp] theorem State.to_cfg (t : Nat) (s : State) : (s.to t).cfg = s.cfg := rfl
@[simp] theorem State.to_posted (t : Nat) (s : State) : (s.to t).posted = s.posted := rfl
@[simp] theorem State.to_fresh (t : Nat) (s : State) : (s.to t).fresh = s.fresh := rfl
@[simp] theorem State.to_pending (t : Nat) (s : State) : (s.to t).pending = s.pending := rfl

@[simp] theorem State.post_tb (p : Posted) (s : State) : (s.post p).tb = s.tb := rfl
@[simp] theorem State.post_epoch (p : Posted) (s : State) : (s.post p).epoch = s.epoch := rfl
@[simp] theorem State.post_slept (p : Posted) (s : State) : (s.post p).slept = s.slept := rfl
@[simp] theorem State.post_frac (p : Posted) (s : State) : (s.post p).frac = s.frac := rfl
@[simp] theorem State.post_period (p : Posted) (s : State) : (s.post p).period = s.period := rfl
@[simp] theorem State.post_links (p : Posted) (s : State) : (s.post p).links = s.links := rfl
@[simp] theorem State.post_present (p : Posted) (s : State) : (s.post p).present = s.present := rfl
@[simp] theorem State.post_lost (p : Posted) (s : State) : (s.post p).lost = s.lost := rfl
@[simp] theorem State.post_seq (p : Posted) (s : State) : (s.post p).seq = s.seq := rfl
@[simp] theorem State.post_mem (p : Posted) (s : State) : (s.post p).mem = s.mem := rfl
@[simp] theorem State.post_pages (p : Posted) (s : State) : (s.post p).pages = s.pages := rfl
@[simp] theorem State.post_pwr (p : Posted) (s : State) : (s.post p).pwr = s.pwr := rfl
@[simp] theorem State.post_clk (p : Posted) (s : State) : (s.post p).clk = s.clk := rfl
@[simp] theorem State.post_rst (p : Posted) (s : State) : (s.post p).rst = s.rst := rfl
@[simp] theorem State.post_boot (p : Posted) (s : State) : (s.post p).boot = s.boot := rfl
@[simp] theorem State.post_mc (p : Posted) (s : State) : (s.post p).mc = s.mc := rfl
@[simp] theorem State.post_ax (p : Posted) (s : State) : (s.post p).ax = s.ax := rfl
@[simp] theorem State.post_drv (p : Posted) (s : State) : (s.post p).drv = s.drv := rfl
@[simp] theorem State.post_coil (p : Posted) (s : State) : (s.post p).coil = s.coil := rfl
@[simp] theorem State.post_watch (p : Posted) (s : State) : (s.post p).watch = s.watch := rfl
@[simp] theorem State.post_fb (p : Posted) (s : State) : (s.post p).fb = s.fb := rfl
@[simp] theorem State.post_fbx (p : Posted) (s : State) : (s.post p).fbx = s.fbx := rfl
@[simp] theorem State.post_din (p : Posted) (s : State) : (s.post p).din = s.din := rfl
@[simp] theorem State.post_gear (p : Posted) (s : State) : (s.post p).gear = s.gear := rfl
@[simp] theorem State.post_cam (p : Posted) (s : State) : (s.post p).cam = s.cam := rfl
@[simp] theorem State.post_ptl (p : Posted) (s : State) : (s.post p).ptl = s.ptl := rfl
@[simp] theorem State.post_ptlIn (p : Posted) (s : State) : (s.post p).ptlIn = s.ptlIn := rfl
@[simp] theorem State.post_ptlRun (p : Posted) (s : State) : (s.post p).ptlRun = s.ptlRun := rfl
@[simp] theorem State.post_cyc (p : Posted) (s : State) : (s.post p).cyc = s.cyc := rfl
@[simp] theorem State.post_cycEnd (p : Posted) (s : State) : (s.post p).cycEnd = s.cycEnd := rfl
@[simp] theorem State.post_doorAt (p : Posted) (s : State) : (s.post p).doorAt = s.doorAt := rfl
@[simp] theorem State.post_env (p : Posted) (s : State) : (s.post p).env = s.env := rfl
@[simp] theorem State.post_envKept (p : Posted) (s : State) : (s.post p).envKept = s.envKept := rfl
@[simp] theorem State.post_edges (p : Posted) (s : State) : (s.post p).edges = s.edges := rfl
@[simp] theorem State.post_side (p : Posted) (s : State) : (s.post p).side = s.side := rfl
@[simp] theorem State.post_grd (p : Posted) (s : State) : (s.post p).grd = s.grd := rfl
@[simp] theorem State.post_sbx (p : Posted) (s : State) : (s.post p).sbx = s.sbx := rfl
@[simp] theorem State.post_safe (p : Posted) (s : State) : (s.post p).safe = s.safe := rfl
@[simp] theorem State.post_lsw (p : Posted) (s : State) : (s.post p).lsw = s.lsw := rfl
@[simp] theorem State.post_lswx (p : Posted) (s : State) : (s.post p).lswx = s.lswx := rfl
@[simp] theorem State.post_lswg (p : Posted) (s : State) : (s.post p).lswg = s.lswg := rfl
@[simp] theorem State.post_can (p : Posted) (s : State) : (s.post p).can = s.can := rfl
@[simp] theorem State.post_canc (p : Posted) (s : State) : (s.post p).canc = s.canc := rfl
@[simp] theorem State.post_stn (p : Posted) (s : State) : (s.post p).stn = s.stn := rfl
@[simp] theorem State.post_prg (p : Posted) (s : State) : (s.post p).prg = s.prg := rfl
@[simp] theorem State.post_prgx (p : Posted) (s : State) : (s.post p).prgx = s.prgx := rfl
@[simp] theorem State.post_evq (p : Posted) (s : State) : (s.post p).evq = s.evq := rfl
@[simp] theorem State.post_hif (p : Posted) (s : State) : (s.post p).hif = s.hif := rfl
@[simp] theorem State.post_hspi (p : Posted) (s : State) : (s.post p).hspi = s.hspi := rfl
@[simp] theorem State.post_recd (p : Posted) (s : State) : (s.post p).recd = s.recd := rfl
@[simp] theorem State.post_stat (p : Posted) (s : State) : (s.post p).stat = s.stat := rfl
@[simp] theorem State.post_pair (p : Posted) (s : State) : (s.post p).pair = s.pair := rfl
@[simp] theorem State.post_pairx (p : Posted) (s : State) : (s.post p).pairx = s.pairx := rfl
@[simp] theorem State.post_fuses (p : Posted) (s : State) : (s.post p).fuses = s.fuses := rfl
@[simp] theorem State.post_sec (p : Posted) (s : State) : (s.post p).sec = s.sec := rfl
@[simp] theorem State.post_cfg (p : Posted) (s : State) : (s.post p).cfg = s.cfg := rfl
@[simp] theorem State.post_posted (p : Posted) (s : State) : (s.post p).posted = s.posted ++ [p] := rfl
@[simp] theorem State.post_fresh (p : Posted) (s : State) : (s.post p).fresh = s.fresh := rfl
@[simp] theorem State.post_pending (p : Posted) (s : State) : (s.post p).pending = s.pending := rfl

@[simp] theorem State.raiseAt_tb (stamp : Nat) (die : Fin 8) (source code : Nat) (payload more : List Byte) (s : State) : (s.raiseAt stamp die source code payload more).tb = s.tb := by unfold State.raiseAt; split <;> rfl
@[simp] theorem State.raiseAt_epoch (stamp : Nat) (die : Fin 8) (source code : Nat) (payload more : List Byte) (s : State) : (s.raiseAt stamp die source code payload more).epoch = s.epoch := by unfold State.raiseAt; split <;> rfl
@[simp] theorem State.raiseAt_slept (stamp : Nat) (die : Fin 8) (source code : Nat) (payload more : List Byte) (s : State) : (s.raiseAt stamp die source code payload more).slept = s.slept := by unfold State.raiseAt; split <;> rfl
@[simp] theorem State.raiseAt_frac (stamp : Nat) (die : Fin 8) (source code : Nat) (payload more : List Byte) (s : State) : (s.raiseAt stamp die source code payload more).frac = s.frac := by unfold State.raiseAt; split <;> rfl
@[simp] theorem State.raiseAt_period (stamp : Nat) (die : Fin 8) (source code : Nat) (payload more : List Byte) (s : State) : (s.raiseAt stamp die source code payload more).period = s.period := by unfold State.raiseAt; split <;> rfl
@[simp] theorem State.raiseAt_present (stamp : Nat) (die : Fin 8) (source code : Nat) (payload more : List Byte) (s : State) : (s.raiseAt stamp die source code payload more).present = s.present := by unfold State.raiseAt; split <;> rfl
@[simp] theorem State.raiseAt_lost (stamp : Nat) (die : Fin 8) (source code : Nat) (payload more : List Byte) (s : State) : (s.raiseAt stamp die source code payload more).lost = s.lost := by unfold State.raiseAt; split <;> rfl
@[simp] theorem State.raiseAt_mem (stamp : Nat) (die : Fin 8) (source code : Nat) (payload more : List Byte) (s : State) : (s.raiseAt stamp die source code payload more).mem = s.mem := by unfold State.raiseAt; split <;> rfl
@[simp] theorem State.raiseAt_pages (stamp : Nat) (die : Fin 8) (source code : Nat) (payload more : List Byte) (s : State) : (s.raiseAt stamp die source code payload more).pages = s.pages := by unfold State.raiseAt; split <;> rfl
@[simp] theorem State.raiseAt_pwr (stamp : Nat) (die : Fin 8) (source code : Nat) (payload more : List Byte) (s : State) : (s.raiseAt stamp die source code payload more).pwr = s.pwr := by unfold State.raiseAt; split <;> rfl
@[simp] theorem State.raiseAt_clk (stamp : Nat) (die : Fin 8) (source code : Nat) (payload more : List Byte) (s : State) : (s.raiseAt stamp die source code payload more).clk = s.clk := by unfold State.raiseAt; split <;> rfl
@[simp] theorem State.raiseAt_rst (stamp : Nat) (die : Fin 8) (source code : Nat) (payload more : List Byte) (s : State) : (s.raiseAt stamp die source code payload more).rst = s.rst := by unfold State.raiseAt; split <;> rfl
@[simp] theorem State.raiseAt_boot (stamp : Nat) (die : Fin 8) (source code : Nat) (payload more : List Byte) (s : State) : (s.raiseAt stamp die source code payload more).boot = s.boot := by unfold State.raiseAt; split <;> rfl
@[simp] theorem State.raiseAt_mc (stamp : Nat) (die : Fin 8) (source code : Nat) (payload more : List Byte) (s : State) : (s.raiseAt stamp die source code payload more).mc = s.mc := by unfold State.raiseAt; split <;> rfl
@[simp] theorem State.raiseAt_ax (stamp : Nat) (die : Fin 8) (source code : Nat) (payload more : List Byte) (s : State) : (s.raiseAt stamp die source code payload more).ax = s.ax := by unfold State.raiseAt; split <;> rfl
@[simp] theorem State.raiseAt_drv (stamp : Nat) (die : Fin 8) (source code : Nat) (payload more : List Byte) (s : State) : (s.raiseAt stamp die source code payload more).drv = s.drv := by unfold State.raiseAt; split <;> rfl
@[simp] theorem State.raiseAt_coil (stamp : Nat) (die : Fin 8) (source code : Nat) (payload more : List Byte) (s : State) : (s.raiseAt stamp die source code payload more).coil = s.coil := by unfold State.raiseAt; split <;> rfl
@[simp] theorem State.raiseAt_watch (stamp : Nat) (die : Fin 8) (source code : Nat) (payload more : List Byte) (s : State) : (s.raiseAt stamp die source code payload more).watch = s.watch := by unfold State.raiseAt; split <;> rfl
@[simp] theorem State.raiseAt_fb (stamp : Nat) (die : Fin 8) (source code : Nat) (payload more : List Byte) (s : State) : (s.raiseAt stamp die source code payload more).fb = s.fb := by unfold State.raiseAt; split <;> rfl
@[simp] theorem State.raiseAt_fbx (stamp : Nat) (die : Fin 8) (source code : Nat) (payload more : List Byte) (s : State) : (s.raiseAt stamp die source code payload more).fbx = s.fbx := by unfold State.raiseAt; split <;> rfl
@[simp] theorem State.raiseAt_din (stamp : Nat) (die : Fin 8) (source code : Nat) (payload more : List Byte) (s : State) : (s.raiseAt stamp die source code payload more).din = s.din := by unfold State.raiseAt; split <;> rfl
@[simp] theorem State.raiseAt_gear (stamp : Nat) (die : Fin 8) (source code : Nat) (payload more : List Byte) (s : State) : (s.raiseAt stamp die source code payload more).gear = s.gear := by unfold State.raiseAt; split <;> rfl
@[simp] theorem State.raiseAt_cam (stamp : Nat) (die : Fin 8) (source code : Nat) (payload more : List Byte) (s : State) : (s.raiseAt stamp die source code payload more).cam = s.cam := by unfold State.raiseAt; split <;> rfl
@[simp] theorem State.raiseAt_ptl (stamp : Nat) (die : Fin 8) (source code : Nat) (payload more : List Byte) (s : State) : (s.raiseAt stamp die source code payload more).ptl = s.ptl := by unfold State.raiseAt; split <;> rfl
@[simp] theorem State.raiseAt_ptlIn (stamp : Nat) (die : Fin 8) (source code : Nat) (payload more : List Byte) (s : State) : (s.raiseAt stamp die source code payload more).ptlIn = s.ptlIn := by unfold State.raiseAt; split <;> rfl
@[simp] theorem State.raiseAt_ptlRun (stamp : Nat) (die : Fin 8) (source code : Nat) (payload more : List Byte) (s : State) : (s.raiseAt stamp die source code payload more).ptlRun = s.ptlRun := by unfold State.raiseAt; split <;> rfl
@[simp] theorem State.raiseAt_cyc (stamp : Nat) (die : Fin 8) (source code : Nat) (payload more : List Byte) (s : State) : (s.raiseAt stamp die source code payload more).cyc = s.cyc := by unfold State.raiseAt; split <;> rfl
@[simp] theorem State.raiseAt_cycEnd (stamp : Nat) (die : Fin 8) (source code : Nat) (payload more : List Byte) (s : State) : (s.raiseAt stamp die source code payload more).cycEnd = s.cycEnd := by unfold State.raiseAt; split <;> rfl
@[simp] theorem State.raiseAt_doorAt (stamp : Nat) (die : Fin 8) (source code : Nat) (payload more : List Byte) (s : State) : (s.raiseAt stamp die source code payload more).doorAt = s.doorAt := by unfold State.raiseAt; split <;> rfl
@[simp] theorem State.raiseAt_env (stamp : Nat) (die : Fin 8) (source code : Nat) (payload more : List Byte) (s : State) : (s.raiseAt stamp die source code payload more).env = s.env := by unfold State.raiseAt; split <;> rfl
@[simp] theorem State.raiseAt_envKept (stamp : Nat) (die : Fin 8) (source code : Nat) (payload more : List Byte) (s : State) : (s.raiseAt stamp die source code payload more).envKept = s.envKept := by unfold State.raiseAt; split <;> rfl
@[simp] theorem State.raiseAt_edges (stamp : Nat) (die : Fin 8) (source code : Nat) (payload more : List Byte) (s : State) : (s.raiseAt stamp die source code payload more).edges = s.edges := by unfold State.raiseAt; split <;> rfl
@[simp] theorem State.raiseAt_side (stamp : Nat) (die : Fin 8) (source code : Nat) (payload more : List Byte) (s : State) : (s.raiseAt stamp die source code payload more).side = s.side := by unfold State.raiseAt; split <;> rfl
@[simp] theorem State.raiseAt_grd (stamp : Nat) (die : Fin 8) (source code : Nat) (payload more : List Byte) (s : State) : (s.raiseAt stamp die source code payload more).grd = s.grd := by unfold State.raiseAt; split <;> rfl
@[simp] theorem State.raiseAt_sbx (stamp : Nat) (die : Fin 8) (source code : Nat) (payload more : List Byte) (s : State) : (s.raiseAt stamp die source code payload more).sbx = s.sbx := by unfold State.raiseAt; split <;> rfl
@[simp] theorem State.raiseAt_safe (stamp : Nat) (die : Fin 8) (source code : Nat) (payload more : List Byte) (s : State) : (s.raiseAt stamp die source code payload more).safe = s.safe := by unfold State.raiseAt; split <;> rfl
@[simp] theorem State.raiseAt_lsw (stamp : Nat) (die : Fin 8) (source code : Nat) (payload more : List Byte) (s : State) : (s.raiseAt stamp die source code payload more).lsw = s.lsw := by unfold State.raiseAt; split <;> rfl
@[simp] theorem State.raiseAt_lswx (stamp : Nat) (die : Fin 8) (source code : Nat) (payload more : List Byte) (s : State) : (s.raiseAt stamp die source code payload more).lswx = s.lswx := by unfold State.raiseAt; split <;> rfl
@[simp] theorem State.raiseAt_lswg (stamp : Nat) (die : Fin 8) (source code : Nat) (payload more : List Byte) (s : State) : (s.raiseAt stamp die source code payload more).lswg = s.lswg := by unfold State.raiseAt; split <;> rfl
@[simp] theorem State.raiseAt_can (stamp : Nat) (die : Fin 8) (source code : Nat) (payload more : List Byte) (s : State) : (s.raiseAt stamp die source code payload more).can = s.can := by unfold State.raiseAt; split <;> rfl
@[simp] theorem State.raiseAt_canc (stamp : Nat) (die : Fin 8) (source code : Nat) (payload more : List Byte) (s : State) : (s.raiseAt stamp die source code payload more).canc = s.canc := by unfold State.raiseAt; split <;> rfl
@[simp] theorem State.raiseAt_stn (stamp : Nat) (die : Fin 8) (source code : Nat) (payload more : List Byte) (s : State) : (s.raiseAt stamp die source code payload more).stn = s.stn := by unfold State.raiseAt; split <;> rfl
@[simp] theorem State.raiseAt_prg (stamp : Nat) (die : Fin 8) (source code : Nat) (payload more : List Byte) (s : State) : (s.raiseAt stamp die source code payload more).prg = s.prg := by unfold State.raiseAt; split <;> rfl
@[simp] theorem State.raiseAt_prgx (stamp : Nat) (die : Fin 8) (source code : Nat) (payload more : List Byte) (s : State) : (s.raiseAt stamp die source code payload more).prgx = s.prgx := by unfold State.raiseAt; split <;> rfl
@[simp] theorem State.raiseAt_evq (stamp : Nat) (die : Fin 8) (source code : Nat) (payload more : List Byte) (s : State) : (s.raiseAt stamp die source code payload more).evq = s.evq := by unfold State.raiseAt; split <;> rfl
@[simp] theorem State.raiseAt_hif (stamp : Nat) (die : Fin 8) (source code : Nat) (payload more : List Byte) (s : State) : (s.raiseAt stamp die source code payload more).hif = s.hif := by unfold State.raiseAt; split <;> rfl
@[simp] theorem State.raiseAt_hspi (stamp : Nat) (die : Fin 8) (source code : Nat) (payload more : List Byte) (s : State) : (s.raiseAt stamp die source code payload more).hspi = s.hspi := by unfold State.raiseAt; split <;> rfl
@[simp] theorem State.raiseAt_recd (stamp : Nat) (die : Fin 8) (source code : Nat) (payload more : List Byte) (s : State) : (s.raiseAt stamp die source code payload more).recd = s.recd := by unfold State.raiseAt; split <;> rfl
@[simp] theorem State.raiseAt_stat (stamp : Nat) (die : Fin 8) (source code : Nat) (payload more : List Byte) (s : State) : (s.raiseAt stamp die source code payload more).stat = s.stat := by unfold State.raiseAt; split <;> rfl
@[simp] theorem State.raiseAt_pair (stamp : Nat) (die : Fin 8) (source code : Nat) (payload more : List Byte) (s : State) : (s.raiseAt stamp die source code payload more).pair = s.pair := by unfold State.raiseAt; split <;> rfl
@[simp] theorem State.raiseAt_pairx (stamp : Nat) (die : Fin 8) (source code : Nat) (payload more : List Byte) (s : State) : (s.raiseAt stamp die source code payload more).pairx = s.pairx := by unfold State.raiseAt; split <;> rfl
@[simp] theorem State.raiseAt_fuses (stamp : Nat) (die : Fin 8) (source code : Nat) (payload more : List Byte) (s : State) : (s.raiseAt stamp die source code payload more).fuses = s.fuses := by unfold State.raiseAt; split <;> rfl
@[simp] theorem State.raiseAt_sec (stamp : Nat) (die : Fin 8) (source code : Nat) (payload more : List Byte) (s : State) : (s.raiseAt stamp die source code payload more).sec = s.sec := by unfold State.raiseAt; split <;> rfl
@[simp] theorem State.raiseAt_cfg (stamp : Nat) (die : Fin 8) (source code : Nat) (payload more : List Byte) (s : State) : (s.raiseAt stamp die source code payload more).cfg = s.cfg := by unfold State.raiseAt; split <;> rfl
@[simp] theorem State.raiseAt_posted (stamp : Nat) (die : Fin 8) (source code : Nat) (payload more : List Byte) (s : State) : (s.raiseAt stamp die source code payload more).posted = s.posted := by unfold State.raiseAt; split <;> rfl
@[simp] theorem State.raiseAt_fresh (stamp : Nat) (die : Fin 8) (source code : Nat) (payload more : List Byte) (s : State) : (s.raiseAt stamp die source code payload more).fresh = s.fresh := by unfold State.raiseAt; split <;> rfl
@[simp] theorem State.raiseAt_pending (stamp : Nat) (die : Fin 8) (source code : Nat) (payload more : List Byte) (s : State) : (s.raiseAt stamp die source code payload more).pending = s.pending := by unfold State.raiseAt; split <;> rfl

@[simp] theorem State.ev_tb (p : PageId) (code : Nat) (payload : List Byte) (s : State) : (s.ev p code payload).tb = s.tb := State.raiseAt_tb _ _ _ _ _ _ _
@[simp] theorem State.ev_epoch (p : PageId) (code : Nat) (payload : List Byte) (s : State) : (s.ev p code payload).epoch = s.epoch := State.raiseAt_epoch _ _ _ _ _ _ _
@[simp] theorem State.ev_slept (p : PageId) (code : Nat) (payload : List Byte) (s : State) : (s.ev p code payload).slept = s.slept := State.raiseAt_slept _ _ _ _ _ _ _
@[simp] theorem State.ev_frac (p : PageId) (code : Nat) (payload : List Byte) (s : State) : (s.ev p code payload).frac = s.frac := State.raiseAt_frac _ _ _ _ _ _ _
@[simp] theorem State.ev_period (p : PageId) (code : Nat) (payload : List Byte) (s : State) : (s.ev p code payload).period = s.period := State.raiseAt_period _ _ _ _ _ _ _
@[simp] theorem State.ev_present (p : PageId) (code : Nat) (payload : List Byte) (s : State) : (s.ev p code payload).present = s.present := State.raiseAt_present _ _ _ _ _ _ _
@[simp] theorem State.ev_lost (p : PageId) (code : Nat) (payload : List Byte) (s : State) : (s.ev p code payload).lost = s.lost := State.raiseAt_lost _ _ _ _ _ _ _
@[simp] theorem State.ev_mem (p : PageId) (code : Nat) (payload : List Byte) (s : State) : (s.ev p code payload).mem = s.mem := State.raiseAt_mem _ _ _ _ _ _ _
@[simp] theorem State.ev_pages (p : PageId) (code : Nat) (payload : List Byte) (s : State) : (s.ev p code payload).pages = s.pages := State.raiseAt_pages _ _ _ _ _ _ _
@[simp] theorem State.ev_pwr (p : PageId) (code : Nat) (payload : List Byte) (s : State) : (s.ev p code payload).pwr = s.pwr := State.raiseAt_pwr _ _ _ _ _ _ _
@[simp] theorem State.ev_clk (p : PageId) (code : Nat) (payload : List Byte) (s : State) : (s.ev p code payload).clk = s.clk := State.raiseAt_clk _ _ _ _ _ _ _
@[simp] theorem State.ev_rst (p : PageId) (code : Nat) (payload : List Byte) (s : State) : (s.ev p code payload).rst = s.rst := State.raiseAt_rst _ _ _ _ _ _ _
@[simp] theorem State.ev_boot (p : PageId) (code : Nat) (payload : List Byte) (s : State) : (s.ev p code payload).boot = s.boot := State.raiseAt_boot _ _ _ _ _ _ _
@[simp] theorem State.ev_mc (p : PageId) (code : Nat) (payload : List Byte) (s : State) : (s.ev p code payload).mc = s.mc := State.raiseAt_mc _ _ _ _ _ _ _
@[simp] theorem State.ev_ax (p : PageId) (code : Nat) (payload : List Byte) (s : State) : (s.ev p code payload).ax = s.ax := State.raiseAt_ax _ _ _ _ _ _ _
@[simp] theorem State.ev_drv (p : PageId) (code : Nat) (payload : List Byte) (s : State) : (s.ev p code payload).drv = s.drv := State.raiseAt_drv _ _ _ _ _ _ _
@[simp] theorem State.ev_coil (p : PageId) (code : Nat) (payload : List Byte) (s : State) : (s.ev p code payload).coil = s.coil := State.raiseAt_coil _ _ _ _ _ _ _
@[simp] theorem State.ev_watch (p : PageId) (code : Nat) (payload : List Byte) (s : State) : (s.ev p code payload).watch = s.watch := State.raiseAt_watch _ _ _ _ _ _ _
@[simp] theorem State.ev_fb (p : PageId) (code : Nat) (payload : List Byte) (s : State) : (s.ev p code payload).fb = s.fb := State.raiseAt_fb _ _ _ _ _ _ _
@[simp] theorem State.ev_fbx (p : PageId) (code : Nat) (payload : List Byte) (s : State) : (s.ev p code payload).fbx = s.fbx := State.raiseAt_fbx _ _ _ _ _ _ _
@[simp] theorem State.ev_din (p : PageId) (code : Nat) (payload : List Byte) (s : State) : (s.ev p code payload).din = s.din := State.raiseAt_din _ _ _ _ _ _ _
@[simp] theorem State.ev_gear (p : PageId) (code : Nat) (payload : List Byte) (s : State) : (s.ev p code payload).gear = s.gear := State.raiseAt_gear _ _ _ _ _ _ _
@[simp] theorem State.ev_cam (p : PageId) (code : Nat) (payload : List Byte) (s : State) : (s.ev p code payload).cam = s.cam := State.raiseAt_cam _ _ _ _ _ _ _
@[simp] theorem State.ev_ptl (p : PageId) (code : Nat) (payload : List Byte) (s : State) : (s.ev p code payload).ptl = s.ptl := State.raiseAt_ptl _ _ _ _ _ _ _
@[simp] theorem State.ev_ptlIn (p : PageId) (code : Nat) (payload : List Byte) (s : State) : (s.ev p code payload).ptlIn = s.ptlIn := State.raiseAt_ptlIn _ _ _ _ _ _ _
@[simp] theorem State.ev_ptlRun (p : PageId) (code : Nat) (payload : List Byte) (s : State) : (s.ev p code payload).ptlRun = s.ptlRun := State.raiseAt_ptlRun _ _ _ _ _ _ _
@[simp] theorem State.ev_cyc (p : PageId) (code : Nat) (payload : List Byte) (s : State) : (s.ev p code payload).cyc = s.cyc := State.raiseAt_cyc _ _ _ _ _ _ _
@[simp] theorem State.ev_cycEnd (p : PageId) (code : Nat) (payload : List Byte) (s : State) : (s.ev p code payload).cycEnd = s.cycEnd := State.raiseAt_cycEnd _ _ _ _ _ _ _
@[simp] theorem State.ev_doorAt (p : PageId) (code : Nat) (payload : List Byte) (s : State) : (s.ev p code payload).doorAt = s.doorAt := State.raiseAt_doorAt _ _ _ _ _ _ _
@[simp] theorem State.ev_env (p : PageId) (code : Nat) (payload : List Byte) (s : State) : (s.ev p code payload).env = s.env := State.raiseAt_env _ _ _ _ _ _ _
@[simp] theorem State.ev_envKept (p : PageId) (code : Nat) (payload : List Byte) (s : State) : (s.ev p code payload).envKept = s.envKept := State.raiseAt_envKept _ _ _ _ _ _ _
@[simp] theorem State.ev_edges (p : PageId) (code : Nat) (payload : List Byte) (s : State) : (s.ev p code payload).edges = s.edges := State.raiseAt_edges _ _ _ _ _ _ _
@[simp] theorem State.ev_side (p : PageId) (code : Nat) (payload : List Byte) (s : State) : (s.ev p code payload).side = s.side := State.raiseAt_side _ _ _ _ _ _ _
@[simp] theorem State.ev_grd (p : PageId) (code : Nat) (payload : List Byte) (s : State) : (s.ev p code payload).grd = s.grd := State.raiseAt_grd _ _ _ _ _ _ _
@[simp] theorem State.ev_sbx (p : PageId) (code : Nat) (payload : List Byte) (s : State) : (s.ev p code payload).sbx = s.sbx := State.raiseAt_sbx _ _ _ _ _ _ _
@[simp] theorem State.ev_safe (p : PageId) (code : Nat) (payload : List Byte) (s : State) : (s.ev p code payload).safe = s.safe := State.raiseAt_safe _ _ _ _ _ _ _
@[simp] theorem State.ev_lsw (p : PageId) (code : Nat) (payload : List Byte) (s : State) : (s.ev p code payload).lsw = s.lsw := State.raiseAt_lsw _ _ _ _ _ _ _
@[simp] theorem State.ev_lswx (p : PageId) (code : Nat) (payload : List Byte) (s : State) : (s.ev p code payload).lswx = s.lswx := State.raiseAt_lswx _ _ _ _ _ _ _
@[simp] theorem State.ev_lswg (p : PageId) (code : Nat) (payload : List Byte) (s : State) : (s.ev p code payload).lswg = s.lswg := State.raiseAt_lswg _ _ _ _ _ _ _
@[simp] theorem State.ev_can (p : PageId) (code : Nat) (payload : List Byte) (s : State) : (s.ev p code payload).can = s.can := State.raiseAt_can _ _ _ _ _ _ _
@[simp] theorem State.ev_canc (p : PageId) (code : Nat) (payload : List Byte) (s : State) : (s.ev p code payload).canc = s.canc := State.raiseAt_canc _ _ _ _ _ _ _
@[simp] theorem State.ev_stn (p : PageId) (code : Nat) (payload : List Byte) (s : State) : (s.ev p code payload).stn = s.stn := State.raiseAt_stn _ _ _ _ _ _ _
@[simp] theorem State.ev_prg (p : PageId) (code : Nat) (payload : List Byte) (s : State) : (s.ev p code payload).prg = s.prg := State.raiseAt_prg _ _ _ _ _ _ _
@[simp] theorem State.ev_prgx (p : PageId) (code : Nat) (payload : List Byte) (s : State) : (s.ev p code payload).prgx = s.prgx := State.raiseAt_prgx _ _ _ _ _ _ _
@[simp] theorem State.ev_evq (p : PageId) (code : Nat) (payload : List Byte) (s : State) : (s.ev p code payload).evq = s.evq := State.raiseAt_evq _ _ _ _ _ _ _
@[simp] theorem State.ev_hif (p : PageId) (code : Nat) (payload : List Byte) (s : State) : (s.ev p code payload).hif = s.hif := State.raiseAt_hif _ _ _ _ _ _ _
@[simp] theorem State.ev_hspi (p : PageId) (code : Nat) (payload : List Byte) (s : State) : (s.ev p code payload).hspi = s.hspi := State.raiseAt_hspi _ _ _ _ _ _ _
@[simp] theorem State.ev_recd (p : PageId) (code : Nat) (payload : List Byte) (s : State) : (s.ev p code payload).recd = s.recd := State.raiseAt_recd _ _ _ _ _ _ _
@[simp] theorem State.ev_stat (p : PageId) (code : Nat) (payload : List Byte) (s : State) : (s.ev p code payload).stat = s.stat := State.raiseAt_stat _ _ _ _ _ _ _
@[simp] theorem State.ev_pair (p : PageId) (code : Nat) (payload : List Byte) (s : State) : (s.ev p code payload).pair = s.pair := State.raiseAt_pair _ _ _ _ _ _ _
@[simp] theorem State.ev_pairx (p : PageId) (code : Nat) (payload : List Byte) (s : State) : (s.ev p code payload).pairx = s.pairx := State.raiseAt_pairx _ _ _ _ _ _ _
@[simp] theorem State.ev_fuses (p : PageId) (code : Nat) (payload : List Byte) (s : State) : (s.ev p code payload).fuses = s.fuses := State.raiseAt_fuses _ _ _ _ _ _ _
@[simp] theorem State.ev_sec (p : PageId) (code : Nat) (payload : List Byte) (s : State) : (s.ev p code payload).sec = s.sec := State.raiseAt_sec _ _ _ _ _ _ _
@[simp] theorem State.ev_cfg (p : PageId) (code : Nat) (payload : List Byte) (s : State) : (s.ev p code payload).cfg = s.cfg := State.raiseAt_cfg _ _ _ _ _ _ _
@[simp] theorem State.ev_posted (p : PageId) (code : Nat) (payload : List Byte) (s : State) : (s.ev p code payload).posted = s.posted := State.raiseAt_posted _ _ _ _ _ _ _
@[simp] theorem State.ev_fresh (p : PageId) (code : Nat) (payload : List Byte) (s : State) : (s.ev p code payload).fresh = s.fresh := State.raiseAt_fresh _ _ _ _ _ _ _
@[simp] theorem State.ev_pending (p : PageId) (code : Nat) (payload : List Byte) (s : State) : (s.ev p code payload).pending = s.pending := State.raiseAt_pending _ _ _ _ _ _ _

/-- The event of Junction, or of a die that is not held absent, is the last one held. -/
theorem State.ev_held (p : PageId) (code : Nat) (payload : List Byte) (s : State) (h : pageDie p = 0 ∨ s.dieAbsent (pageDie p) = false) :
    (s.ev p code payload).seq.held = s.seq.held ++
      [⟨stampOf (s.dieTb (pageDie p)), (pageDie p).val, s.links[pageDie p].evNext, s.links[pageDie p].inn.number, ownEvents (pageDie p),
        evSource p, code, payload, []⟩] := by
  unfold State.ev State.raise State.raiseAt
  rw [if_neg (by rcases h with h | h <;> simp_all [State.dieAbsent])]

end Sys2Proof.Machine
end

