-- ==== Sys2Proof/Laws/Frame.lean ====
section
/-! SUPPORT. What the shared operations on pages leave alone, field by field, and when a host write reaches its register. -/

namespace Sys2Proof.Machine

/-! ## Fields -/

@[simp] theorem State.vector_tb (v : Nat) (s : State) : (s.vector v).tb = s.tb := State.vector_effect.same .tb (by decide)
@[simp] theorem State.vector_epoch (v : Nat) (s : State) : (s.vector v).epoch = s.epoch := State.vector_effect.same .epoch (by decide)
@[simp] theorem State.vector_slept (v : Nat) (s : State) : (s.vector v).slept = s.slept := State.vector_effect.same .slept (by decide)
@[simp] theorem State.vector_frac (v : Nat) (s : State) : (s.vector v).frac = s.frac := State.vector_effect.same .frac (by decide)
@[simp] theorem State.vector_period (v : Nat) (s : State) : (s.vector v).period = s.period := State.vector_effect.same .period (by decide)
@[simp] theorem State.vector_links (v : Nat) (s : State) : (s.vector v).links = s.links := State.vector_effect.same .links (by decide)
@[simp] theorem State.vector_present (v : Nat) (s : State) : (s.vector v).present = s.present := State.vector_effect.same .present (by decide)
@[simp] theorem State.vector_lost (v : Nat) (s : State) : (s.vector v).lost = s.lost := State.vector_effect.same .lost (by decide)
@[simp] theorem State.vector_seq (v : Nat) (s : State) : (s.vector v).seq = s.seq := State.vector_effect.same .seq (by decide)
@[simp] theorem State.vector_mem (v : Nat) (s : State) : (s.vector v).mem = s.mem := State.vector_effect.same .mem (by decide)
@[simp] theorem State.vector_pages (v : Nat) (s : State) : (s.vector v).pages = s.pages := State.vector_effect.same .pages (by decide)
@[simp] theorem State.vector_pwr (v : Nat) (s : State) : (s.vector v).pwr = s.pwr := State.vector_effect.same .pwr (by decide)
@[simp] theorem State.vector_clk (v : Nat) (s : State) : (s.vector v).clk = s.clk := State.vector_effect.same .clk (by decide)
@[simp] theorem State.vector_rst (v : Nat) (s : State) : (s.vector v).rst = s.rst := State.vector_effect.same .rst (by decide)
@[simp] theorem State.vector_boot (v : Nat) (s : State) : (s.vector v).boot = s.boot := State.vector_effect.same .boot (by decide)
@[simp] theorem State.vector_mc (v : Nat) (s : State) : (s.vector v).mc = s.mc := State.vector_effect.same .mc (by decide)
@[simp] theorem State.vector_ax (v : Nat) (s : State) : (s.vector v).ax = s.ax := State.vector_effect.same .ax (by decide)
@[simp] theorem State.vector_drv (v : Nat) (s : State) : (s.vector v).drv = s.drv := State.vector_effect.same .drv (by decide)
@[simp] theorem State.vector_coil (v : Nat) (s : State) : (s.vector v).coil = s.coil := State.vector_effect.same .coil (by decide)
@[simp] theorem State.vector_watch (v : Nat) (s : State) : (s.vector v).watch = s.watch := State.vector_effect.same .watch (by decide)
@[simp] theorem State.vector_fb (v : Nat) (s : State) : (s.vector v).fb = s.fb := State.vector_effect.same .fb (by decide)
@[simp] theorem State.vector_fbx (v : Nat) (s : State) : (s.vector v).fbx = s.fbx := State.vector_effect.same .fbx (by decide)
@[simp] theorem State.vector_din (v : Nat) (s : State) : (s.vector v).din = s.din := State.vector_effect.same .din (by decide)
@[simp] theorem State.vector_gear (v : Nat) (s : State) : (s.vector v).gear = s.gear := State.vector_effect.same .gear (by decide)
@[simp] theorem State.vector_cam (v : Nat) (s : State) : (s.vector v).cam = s.cam := State.vector_effect.same .cam (by decide)
@[simp] theorem State.vector_ptl (v : Nat) (s : State) : (s.vector v).ptl = s.ptl := State.vector_effect.same .ptl (by decide)
@[simp] theorem State.vector_ptlIn (v : Nat) (s : State) : (s.vector v).ptlIn = s.ptlIn := State.vector_effect.same .ptlIn (by decide)
@[simp] theorem State.vector_ptlRun (v : Nat) (s : State) : (s.vector v).ptlRun = s.ptlRun := State.vector_effect.same .ptlRun (by decide)
@[simp] theorem State.vector_cyc (v : Nat) (s : State) : (s.vector v).cyc = s.cyc := State.vector_effect.same .cyc (by decide)
@[simp] theorem State.vector_cycEnd (v : Nat) (s : State) : (s.vector v).cycEnd = s.cycEnd := State.vector_effect.same .cycEnd (by decide)
@[simp] theorem State.vector_doorAt (v : Nat) (s : State) : (s.vector v).doorAt = s.doorAt := State.vector_effect.same .doorAt (by decide)
@[simp] theorem State.vector_env (v : Nat) (s : State) : (s.vector v).env = s.env := State.vector_effect.same .env (by decide)
@[simp] theorem State.vector_envKept (v : Nat) (s : State) : (s.vector v).envKept = s.envKept := State.vector_effect.same .envKept (by decide)
@[simp] theorem State.vector_edges (v : Nat) (s : State) : (s.vector v).edges = s.edges := State.vector_effect.same .edges (by decide)
@[simp] theorem State.vector_side (v : Nat) (s : State) : (s.vector v).side = s.side := State.vector_effect.same .side (by decide)
@[simp] theorem State.vector_grd (v : Nat) (s : State) : (s.vector v).grd = s.grd := State.vector_effect.same .grd (by decide)
@[simp] theorem State.vector_sbx (v : Nat) (s : State) : (s.vector v).sbx = s.sbx := State.vector_effect.same .sbx (by decide)
@[simp] theorem State.vector_safe (v : Nat) (s : State) : (s.vector v).safe = s.safe := State.vector_effect.same .safe (by decide)
@[simp] theorem State.vector_lsw (v : Nat) (s : State) : (s.vector v).lsw = s.lsw := State.vector_effect.same .lsw (by decide)
@[simp] theorem State.vector_lswx (v : Nat) (s : State) : (s.vector v).lswx = s.lswx := State.vector_effect.same .lswx (by decide)
@[simp] theorem State.vector_lswg (v : Nat) (s : State) : (s.vector v).lswg = s.lswg := State.vector_effect.same .lswg (by decide)
@[simp] theorem State.vector_can (v : Nat) (s : State) : (s.vector v).can = s.can := State.vector_effect.same .can (by decide)
@[simp] theorem State.vector_canc (v : Nat) (s : State) : (s.vector v).canc = s.canc := State.vector_effect.same .canc (by decide)
@[simp] theorem State.vector_stn (v : Nat) (s : State) : (s.vector v).stn = s.stn := State.vector_effect.same .stn (by decide)
@[simp] theorem State.vector_prg (v : Nat) (s : State) : (s.vector v).prg = s.prg := State.vector_effect.same .prg (by decide)
@[simp] theorem State.vector_prgx (v : Nat) (s : State) : (s.vector v).prgx = s.prgx := State.vector_effect.same .prgx (by decide)
@[simp] theorem State.vector_evq (v : Nat) (s : State) : (s.vector v).evq = s.evq := State.vector_effect.same .evq (by decide)
@[simp] theorem State.vector_hspi (v : Nat) (s : State) : (s.vector v).hspi = s.hspi := State.vector_effect.same .hspi (by decide)
@[simp] theorem State.vector_recd (v : Nat) (s : State) : (s.vector v).recd = s.recd := State.vector_effect.same .recd (by decide)
@[simp] theorem State.vector_stat (v : Nat) (s : State) : (s.vector v).stat = s.stat := State.vector_effect.same .stat (by decide)
@[simp] theorem State.vector_pair (v : Nat) (s : State) : (s.vector v).pair = s.pair := State.vector_effect.same .pair (by decide)
@[simp] theorem State.vector_pairx (v : Nat) (s : State) : (s.vector v).pairx = s.pairx := State.vector_effect.same .pairx (by decide)
@[simp] theorem State.vector_fuses (v : Nat) (s : State) : (s.vector v).fuses = s.fuses := State.vector_effect.same .fuses (by decide)
@[simp] theorem State.vector_sec (v : Nat) (s : State) : (s.vector v).sec = s.sec := State.vector_effect.same .sec (by decide)
@[simp] theorem State.vector_cfg (v : Nat) (s : State) : (s.vector v).cfg = s.cfg := State.vector_effect.same .cfg (by decide)
@[simp] theorem State.vector_fresh (v : Nat) (s : State) : (s.vector v).fresh = s.fresh := State.vector_effect.same .fresh (by decide)
@[simp] theorem State.vector_pending (v : Nat) (s : State) : (s.vector v).pending = s.pending := State.vector_effect.same .pending (by decide)

@[simp] theorem State.irq_tb (p : PageId) (mask : Word) (s : State) : (s.irq p mask).tb = s.tb := State.irq_effect.same .tb (by decide)
@[simp] theorem State.irq_epoch (p : PageId) (mask : Word) (s : State) : (s.irq p mask).epoch = s.epoch := State.irq_effect.same .epoch (by decide)
@[simp] theorem State.irq_slept (p : PageId) (mask : Word) (s : State) : (s.irq p mask).slept = s.slept := State.irq_effect.same .slept (by decide)
@[simp] theorem State.irq_frac (p : PageId) (mask : Word) (s : State) : (s.irq p mask).frac = s.frac := State.irq_effect.same .frac (by decide)
@[simp] theorem State.irq_period (p : PageId) (mask : Word) (s : State) : (s.irq p mask).period = s.period := State.irq_effect.same .period (by decide)
@[simp] theorem State.irq_links (p : PageId) (mask : Word) (s : State) : (s.irq p mask).links = s.links := State.irq_effect.same .links (by decide)
@[simp] theorem State.irq_present (p : PageId) (mask : Word) (s : State) : (s.irq p mask).present = s.present := State.irq_effect.same .present (by decide)
@[simp] theorem State.irq_lost (p : PageId) (mask : Word) (s : State) : (s.irq p mask).lost = s.lost := State.irq_effect.same .lost (by decide)
@[simp] theorem State.irq_seq (p : PageId) (mask : Word) (s : State) : (s.irq p mask).seq = s.seq := State.irq_effect.same .seq (by decide)
@[simp] theorem State.irq_mem (p : PageId) (mask : Word) (s : State) : (s.irq p mask).mem = s.mem := State.irq_effect.same .mem (by decide)
@[simp] theorem State.irq_pwr (p : PageId) (mask : Word) (s : State) : (s.irq p mask).pwr = s.pwr := State.irq_effect.same .pwr (by decide)
@[simp] theorem State.irq_clk (p : PageId) (mask : Word) (s : State) : (s.irq p mask).clk = s.clk := State.irq_effect.same .clk (by decide)
@[simp] theorem State.irq_rst (p : PageId) (mask : Word) (s : State) : (s.irq p mask).rst = s.rst := State.irq_effect.same .rst (by decide)
@[simp] theorem State.irq_boot (p : PageId) (mask : Word) (s : State) : (s.irq p mask).boot = s.boot := State.irq_effect.same .boot (by decide)
@[simp] theorem State.irq_mc (p : PageId) (mask : Word) (s : State) : (s.irq p mask).mc = s.mc := State.irq_effect.same .mc (by decide)
@[simp] theorem State.irq_ax (p : PageId) (mask : Word) (s : State) : (s.irq p mask).ax = s.ax := State.irq_effect.same .ax (by decide)
@[simp] theorem State.irq_drv (p : PageId) (mask : Word) (s : State) : (s.irq p mask).drv = s.drv := State.irq_effect.same .drv (by decide)
@[simp] theorem State.irq_coil (p : PageId) (mask : Word) (s : State) : (s.irq p mask).coil = s.coil := State.irq_effect.same .coil (by decide)
@[simp] theorem State.irq_watch (p : PageId) (mask : Word) (s : State) : (s.irq p mask).watch = s.watch := State.irq_effect.same .watch (by decide)
@[simp] theorem State.irq_fb (p : PageId) (mask : Word) (s : State) : (s.irq p mask).fb = s.fb := State.irq_effect.same .fb (by decide)
@[simp] theorem State.irq_fbx (p : PageId) (mask : Word) (s : State) : (s.irq p mask).fbx = s.fbx := State.irq_effect.same .fbx (by decide)
@[simp] theorem State.irq_din (p : PageId) (mask : Word) (s : State) : (s.irq p mask).din = s.din := State.irq_effect.same .din (by decide)
@[simp] theorem State.irq_gear (p : PageId) (mask : Word) (s : State) : (s.irq p mask).gear = s.gear := State.irq_effect.same .gear (by decide)
@[simp] theorem State.irq_cam (p : PageId) (mask : Word) (s : State) : (s.irq p mask).cam = s.cam := State.irq_effect.same .cam (by decide)
@[simp] theorem State.irq_ptl (p : PageId) (mask : Word) (s : State) : (s.irq p mask).ptl = s.ptl := State.irq_effect.same .ptl (by decide)
@[simp] theorem State.irq_ptlIn (p : PageId) (mask : Word) (s : State) : (s.irq p mask).ptlIn = s.ptlIn := State.irq_effect.same .ptlIn (by decide)
@[simp] theorem State.irq_ptlRun (p : PageId) (mask : Word) (s : State) : (s.irq p mask).ptlRun = s.ptlRun := State.irq_effect.same .ptlRun (by decide)
@[simp] theorem State.irq_cyc (p : PageId) (mask : Word) (s : State) : (s.irq p mask).cyc = s.cyc := State.irq_effect.same .cyc (by decide)
@[simp] theorem State.irq_cycEnd (p : PageId) (mask : Word) (s : State) : (s.irq p mask).cycEnd = s.cycEnd := State.irq_effect.same .cycEnd (by decide)
@[simp] theorem State.irq_doorAt (p : PageId) (mask : Word) (s : State) : (s.irq p mask).doorAt = s.doorAt := State.irq_effect.same .doorAt (by decide)
@[simp] theorem State.irq_env (p : PageId) (mask : Word) (s : State) : (s.irq p mask).env = s.env := State.irq_effect.same .env (by decide)
@[simp] theorem State.irq_envKept (p : PageId) (mask : Word) (s : State) : (s.irq p mask).envKept = s.envKept := State.irq_effect.same .envKept (by decide)
@[simp] theorem State.irq_edges (p : PageId) (mask : Word) (s : State) : (s.irq p mask).edges = s.edges := State.irq_effect.same .edges (by decide)
@[simp] theorem State.irq_side (p : PageId) (mask : Word) (s : State) : (s.irq p mask).side = s.side := State.irq_effect.same .side (by decide)
@[simp] theorem State.irq_grd (p : PageId) (mask : Word) (s : State) : (s.irq p mask).grd = s.grd := State.irq_effect.same .grd (by decide)
@[simp] theorem State.irq_sbx (p : PageId) (mask : Word) (s : State) : (s.irq p mask).sbx = s.sbx := State.irq_effect.same .sbx (by decide)
@[simp] theorem State.irq_safe (p : PageId) (mask : Word) (s : State) : (s.irq p mask).safe = s.safe := State.irq_effect.same .safe (by decide)
@[simp] theorem State.irq_lsw (p : PageId) (mask : Word) (s : State) : (s.irq p mask).lsw = s.lsw := State.irq_effect.same .lsw (by decide)
@[simp] theorem State.irq_lswx (p : PageId) (mask : Word) (s : State) : (s.irq p mask).lswx = s.lswx := State.irq_effect.same .lswx (by decide)
@[simp] theorem State.irq_lswg (p : PageId) (mask : Word) (s : State) : (s.irq p mask).lswg = s.lswg := State.irq_effect.same .lswg (by decide)
@[simp] theorem State.irq_can (p : PageId) (mask : Word) (s : State) : (s.irq p mask).can = s.can := State.irq_effect.same .can (by decide)
@[simp] theorem State.irq_canc (p : PageId) (mask : Word) (s : State) : (s.irq p mask).canc = s.canc := State.irq_effect.same .canc (by decide)
@[simp] theorem State.irq_stn (p : PageId) (mask : Word) (s : State) : (s.irq p mask).stn = s.stn := State.irq_effect.same .stn (by decide)
@[simp] theorem State.irq_prg (p : PageId) (mask : Word) (s : State) : (s.irq p mask).prg = s.prg := State.irq_effect.same .prg (by decide)
@[simp] theorem State.irq_prgx (p : PageId) (mask : Word) (s : State) : (s.irq p mask).prgx = s.prgx := State.irq_effect.same .prgx (by decide)
@[simp] theorem State.irq_evq (p : PageId) (mask : Word) (s : State) : (s.irq p mask).evq = s.evq := State.irq_effect.same .evq (by decide)
@[simp] theorem State.irq_hspi (p : PageId) (mask : Word) (s : State) : (s.irq p mask).hspi = s.hspi := State.irq_effect.same .hspi (by decide)
@[simp] theorem State.irq_recd (p : PageId) (mask : Word) (s : State) : (s.irq p mask).recd = s.recd := State.irq_effect.same .recd (by decide)
@[simp] theorem State.irq_stat (p : PageId) (mask : Word) (s : State) : (s.irq p mask).stat = s.stat := State.irq_effect.same .stat (by decide)
@[simp] theorem State.irq_pair (p : PageId) (mask : Word) (s : State) : (s.irq p mask).pair = s.pair := State.irq_effect.same .pair (by decide)
@[simp] theorem State.irq_pairx (p : PageId) (mask : Word) (s : State) : (s.irq p mask).pairx = s.pairx := State.irq_effect.same .pairx (by decide)
@[simp] theorem State.irq_fuses (p : PageId) (mask : Word) (s : State) : (s.irq p mask).fuses = s.fuses := State.irq_effect.same .fuses (by decide)
@[simp] theorem State.irq_sec (p : PageId) (mask : Word) (s : State) : (s.irq p mask).sec = s.sec := State.irq_effect.same .sec (by decide)
@[simp] theorem State.irq_cfg (p : PageId) (mask : Word) (s : State) : (s.irq p mask).cfg = s.cfg := State.irq_effect.same .cfg (by decide)
@[simp] theorem State.irq_fresh (p : PageId) (mask : Word) (s : State) : (s.irq p mask).fresh = s.fresh := State.irq_effect.same .fresh (by decide)
@[simp] theorem State.irq_pending (p : PageId) (mask : Word) (s : State) : (s.irq p mask).pending = s.pending := State.irq_effect.same .pending (by decide)

@[simp] theorem State.err_tb (p : PageId) (code detail off : Nat) (s : State) : (s.err p code detail off).tb = s.tb := State.err_effect.same .tb (by decide)
@[simp] theorem State.err_epoch (p : PageId) (code detail off : Nat) (s : State) : (s.err p code detail off).epoch = s.epoch := State.err_effect.same .epoch (by decide)
@[simp] theorem State.err_slept (p : PageId) (code detail off : Nat) (s : State) : (s.err p code detail off).slept = s.slept := State.err_effect.same .slept (by decide)
@[simp] theorem State.err_frac (p : PageId) (code detail off : Nat) (s : State) : (s.err p code detail off).frac = s.frac := State.err_effect.same .frac (by decide)
@[simp] theorem State.err_period (p : PageId) (code detail off : Nat) (s : State) : (s.err p code detail off).period = s.period := State.err_effect.same .period (by decide)
@[simp] theorem State.err_links (p : PageId) (code detail off : Nat) (s : State) : (s.err p code detail off).links = s.links := State.err_effect.same .links (by decide)
@[simp] theorem State.err_present (p : PageId) (code detail off : Nat) (s : State) : (s.err p code detail off).present = s.present := State.err_effect.same .present (by decide)
@[simp] theorem State.err_lost (p : PageId) (code detail off : Nat) (s : State) : (s.err p code detail off).lost = s.lost := State.err_effect.same .lost (by decide)
@[simp] theorem State.err_seq (p : PageId) (code detail off : Nat) (s : State) : (s.err p code detail off).seq = s.seq := State.err_effect.same .seq (by decide)
@[simp] theorem State.err_mem (p : PageId) (code detail off : Nat) (s : State) : (s.err p code detail off).mem = s.mem := State.err_effect.same .mem (by decide)
@[simp] theorem State.err_pwr (p : PageId) (code detail off : Nat) (s : State) : (s.err p code detail off).pwr = s.pwr := State.err_effect.same .pwr (by decide)
@[simp] theorem State.err_clk (p : PageId) (code detail off : Nat) (s : State) : (s.err p code detail off).clk = s.clk := State.err_effect.same .clk (by decide)
@[simp] theorem State.err_rst (p : PageId) (code detail off : Nat) (s : State) : (s.err p code detail off).rst = s.rst := State.err_effect.same .rst (by decide)
@[simp] theorem State.err_boot (p : PageId) (code detail off : Nat) (s : State) : (s.err p code detail off).boot = s.boot := State.err_effect.same .boot (by decide)
@[simp] theorem State.err_mc (p : PageId) (code detail off : Nat) (s : State) : (s.err p code detail off).mc = s.mc := State.err_effect.same .mc (by decide)
@[simp] theorem State.err_ax (p : PageId) (code detail off : Nat) (s : State) : (s.err p code detail off).ax = s.ax := State.err_effect.same .ax (by decide)
@[simp] theorem State.err_drv (p : PageId) (code detail off : Nat) (s : State) : (s.err p code detail off).drv = s.drv := State.err_effect.same .drv (by decide)
@[simp] theorem State.err_coil (p : PageId) (code detail off : Nat) (s : State) : (s.err p code detail off).coil = s.coil := State.err_effect.same .coil (by decide)
@[simp] theorem State.err_watch (p : PageId) (code detail off : Nat) (s : State) : (s.err p code detail off).watch = s.watch := State.err_effect.same .watch (by decide)
@[simp] theorem State.err_fb (p : PageId) (code detail off : Nat) (s : State) : (s.err p code detail off).fb = s.fb := State.err_effect.same .fb (by decide)
@[simp] theorem State.err_fbx (p : PageId) (code detail off : Nat) (s : State) : (s.err p code detail off).fbx = s.fbx := State.err_effect.same .fbx (by decide)
@[simp] theorem State.err_din (p : PageId) (code detail off : Nat) (s : State) : (s.err p code detail off).din = s.din := State.err_effect.same .din (by decide)
@[simp] theorem State.err_gear (p : PageId) (code detail off : Nat) (s : State) : (s.err p code detail off).gear = s.gear := State.err_effect.same .gear (by decide)
@[simp] theorem State.err_cam (p : PageId) (code detail off : Nat) (s : State) : (s.err p code detail off).cam = s.cam := State.err_effect.same .cam (by decide)
@[simp] theorem State.err_ptl (p : PageId) (code detail off : Nat) (s : State) : (s.err p code detail off).ptl = s.ptl := State.err_effect.same .ptl (by decide)
@[simp] theorem State.err_ptlIn (p : PageId) (code detail off : Nat) (s : State) : (s.err p code detail off).ptlIn = s.ptlIn := State.err_effect.same .ptlIn (by decide)
@[simp] theorem State.err_ptlRun (p : PageId) (code detail off : Nat) (s : State) : (s.err p code detail off).ptlRun = s.ptlRun := State.err_effect.same .ptlRun (by decide)
@[simp] theorem State.err_cyc (p : PageId) (code detail off : Nat) (s : State) : (s.err p code detail off).cyc = s.cyc := State.err_effect.same .cyc (by decide)
@[simp] theorem State.err_cycEnd (p : PageId) (code detail off : Nat) (s : State) : (s.err p code detail off).cycEnd = s.cycEnd := State.err_effect.same .cycEnd (by decide)
@[simp] theorem State.err_doorAt (p : PageId) (code detail off : Nat) (s : State) : (s.err p code detail off).doorAt = s.doorAt := State.err_effect.same .doorAt (by decide)
@[simp] theorem State.err_env (p : PageId) (code detail off : Nat) (s : State) : (s.err p code detail off).env = s.env := State.err_effect.same .env (by decide)
@[simp] theorem State.err_envKept (p : PageId) (code detail off : Nat) (s : State) : (s.err p code detail off).envKept = s.envKept := State.err_effect.same .envKept (by decide)
@[simp] theorem State.err_edges (p : PageId) (code detail off : Nat) (s : State) : (s.err p code detail off).edges = s.edges := State.err_effect.same .edges (by decide)
@[simp] theorem State.err_side (p : PageId) (code detail off : Nat) (s : State) : (s.err p code detail off).side = s.side := State.err_effect.same .side (by decide)
@[simp] theorem State.err_grd (p : PageId) (code detail off : Nat) (s : State) : (s.err p code detail off).grd = s.grd := State.err_effect.same .grd (by decide)
@[simp] theorem State.err_sbx (p : PageId) (code detail off : Nat) (s : State) : (s.err p code detail off).sbx = s.sbx := State.err_effect.same .sbx (by decide)
@[simp] theorem State.err_safe (p : PageId) (code detail off : Nat) (s : State) : (s.err p code detail off).safe = s.safe := State.err_effect.same .safe (by decide)
@[simp] theorem State.err_lsw (p : PageId) (code detail off : Nat) (s : State) : (s.err p code detail off).lsw = s.lsw := State.err_effect.same .lsw (by decide)
@[simp] theorem State.err_lswx (p : PageId) (code detail off : Nat) (s : State) : (s.err p code detail off).lswx = s.lswx := State.err_effect.same .lswx (by decide)
@[simp] theorem State.err_lswg (p : PageId) (code detail off : Nat) (s : State) : (s.err p code detail off).lswg = s.lswg := State.err_effect.same .lswg (by decide)
@[simp] theorem State.err_can (p : PageId) (code detail off : Nat) (s : State) : (s.err p code detail off).can = s.can := State.err_effect.same .can (by decide)
@[simp] theorem State.err_canc (p : PageId) (code detail off : Nat) (s : State) : (s.err p code detail off).canc = s.canc := State.err_effect.same .canc (by decide)
@[simp] theorem State.err_stn (p : PageId) (code detail off : Nat) (s : State) : (s.err p code detail off).stn = s.stn := State.err_effect.same .stn (by decide)
@[simp] theorem State.err_prg (p : PageId) (code detail off : Nat) (s : State) : (s.err p code detail off).prg = s.prg := State.err_effect.same .prg (by decide)
@[simp] theorem State.err_prgx (p : PageId) (code detail off : Nat) (s : State) : (s.err p code detail off).prgx = s.prgx := State.err_effect.same .prgx (by decide)
@[simp] theorem State.err_evq (p : PageId) (code detail off : Nat) (s : State) : (s.err p code detail off).evq = s.evq := State.err_effect.same .evq (by decide)
@[simp] theorem State.err_hspi (p : PageId) (code detail off : Nat) (s : State) : (s.err p code detail off).hspi = s.hspi := State.err_effect.same .hspi (by decide)
@[simp] theorem State.err_recd (p : PageId) (code detail off : Nat) (s : State) : (s.err p code detail off).recd = s.recd := State.err_effect.same .recd (by decide)
@[simp] theorem State.err_stat (p : PageId) (code detail off : Nat) (s : State) : (s.err p code detail off).stat = s.stat := State.err_effect.same .stat (by decide)
@[simp] theorem State.err_pair (p : PageId) (code detail off : Nat) (s : State) : (s.err p code detail off).pair = s.pair := State.err_effect.same .pair (by decide)
@[simp] theorem State.err_pairx (p : PageId) (code detail off : Nat) (s : State) : (s.err p code detail off).pairx = s.pairx := State.err_effect.same .pairx (by decide)
@[simp] theorem State.err_fuses (p : PageId) (code detail off : Nat) (s : State) : (s.err p code detail off).fuses = s.fuses := State.err_effect.same .fuses (by decide)
@[simp] theorem State.err_sec (p : PageId) (code detail off : Nat) (s : State) : (s.err p code detail off).sec = s.sec := State.err_effect.same .sec (by decide)
@[simp] theorem State.err_cfg (p : PageId) (code detail off : Nat) (s : State) : (s.err p code detail off).cfg = s.cfg := State.err_effect.same .cfg (by decide)
@[simp] theorem State.err_fresh (p : PageId) (code detail off : Nat) (s : State) : (s.err p code detail off).fresh = s.fresh := State.err_effect.same .fresh (by decide)
@[simp] theorem State.err_pending (p : PageId) (code detail off : Nat) (s : State) : (s.err p code detail off).pending = s.pending := State.err_effect.same .pending (by decide)

@[simp] theorem State.flagIrq_tb (p : PageId) (old mask : Word) (s : State) : (s.flagIrq p old mask).2.tb = s.tb :=
  (State.flagIrq_effect (s := s)).same .tb (by decide)
@[simp] theorem State.flagIrq_epoch (p : PageId) (old mask : Word) (s : State) : (s.flagIrq p old mask).2.epoch = s.epoch :=
  (State.flagIrq_effect (s := s)).same .epoch (by decide)
@[simp] theorem State.flagIrq_slept (p : PageId) (old mask : Word) (s : State) : (s.flagIrq p old mask).2.slept = s.slept :=
  (State.flagIrq_effect (s := s)).same .slept (by decide)
@[simp] theorem State.flagIrq_frac (p : PageId) (old mask : Word) (s : State) : (s.flagIrq p old mask).2.frac = s.frac :=
  (State.flagIrq_effect (s := s)).same .frac (by decide)
@[simp] theorem State.flagIrq_period (p : PageId) (old mask : Word) (s : State) : (s.flagIrq p old mask).2.period = s.period :=
  (State.flagIrq_effect (s := s)).same .period (by decide)
@[simp] theorem State.flagIrq_links (p : PageId) (old mask : Word) (s : State) : (s.flagIrq p old mask).2.links = s.links :=
  (State.flagIrq_effect (s := s)).same .links (by decide)
@[simp] theorem State.flagIrq_present (p : PageId) (old mask : Word) (s : State) : (s.flagIrq p old mask).2.present = s.present :=
  (State.flagIrq_effect (s := s)).same .present (by decide)
@[simp] theorem State.flagIrq_lost (p : PageId) (old mask : Word) (s : State) : (s.flagIrq p old mask).2.lost = s.lost :=
  (State.flagIrq_effect (s := s)).same .lost (by decide)
@[simp] theorem State.flagIrq_seq (p : PageId) (old mask : Word) (s : State) : (s.flagIrq p old mask).2.seq = s.seq :=
  (State.flagIrq_effect (s := s)).same .seq (by decide)
@[simp] theorem State.flagIrq_mem (p : PageId) (old mask : Word) (s : State) : (s.flagIrq p old mask).2.mem = s.mem :=
  (State.flagIrq_effect (s := s)).same .mem (by decide)
@[simp] theorem State.flagIrq_pwr (p : PageId) (old mask : Word) (s : State) : (s.flagIrq p old mask).2.pwr = s.pwr :=
  (State.flagIrq_effect (s := s)).same .pwr (by decide)
@[simp] theorem State.flagIrq_clk (p : PageId) (old mask : Word) (s : State) : (s.flagIrq p old mask).2.clk = s.clk :=
  (State.flagIrq_effect (s := s)).same .clk (by decide)
@[simp] theorem State.flagIrq_rst (p : PageId) (old mask : Word) (s : State) : (s.flagIrq p old mask).2.rst = s.rst :=
  (State.flagIrq_effect (s := s)).same .rst (by decide)
@[simp] theorem State.flagIrq_boot (p : PageId) (old mask : Word) (s : State) : (s.flagIrq p old mask).2.boot = s.boot :=
  (State.flagIrq_effect (s := s)).same .boot (by decide)
@[simp] theorem State.flagIrq_mc (p : PageId) (old mask : Word) (s : State) : (s.flagIrq p old mask).2.mc = s.mc :=
  (State.flagIrq_effect (s := s)).same .mc (by decide)
@[simp] theorem State.flagIrq_ax (p : PageId) (old mask : Word) (s : State) : (s.flagIrq p old mask).2.ax = s.ax :=
  (State.flagIrq_effect (s := s)).same .ax (by decide)
@[simp] theorem State.flagIrq_drv (p : PageId) (old mask : Word) (s : State) : (s.flagIrq p old mask).2.drv = s.drv :=
  (State.flagIrq_effect (s := s)).same .drv (by decide)
@[simp] theorem State.flagIrq_coil (p : PageId) (old mask : Word) (s : State) : (s.flagIrq p old mask).2.coil = s.coil :=
  (State.flagIrq_effect (s := s)).same .coil (by decide)
@[simp] theorem State.flagIrq_watch (p : PageId) (old mask : Word) (s : State) : (s.flagIrq p old mask).2.watch = s.watch :=
  (State.flagIrq_effect (s := s)).same .watch (by decide)
@[simp] theorem State.flagIrq_fb (p : PageId) (old mask : Word) (s : State) : (s.flagIrq p old mask).2.fb = s.fb :=
  (State.flagIrq_effect (s := s)).same .fb (by decide)
@[simp] theorem State.flagIrq_fbx (p : PageId) (old mask : Word) (s : State) : (s.flagIrq p old mask).2.fbx = s.fbx :=
  (State.flagIrq_effect (s := s)).same .fbx (by decide)
@[simp] theorem State.flagIrq_din (p : PageId) (old mask : Word) (s : State) : (s.flagIrq p old mask).2.din = s.din :=
  (State.flagIrq_effect (s := s)).same .din (by decide)
@[simp] theorem State.flagIrq_gear (p : PageId) (old mask : Word) (s : State) : (s.flagIrq p old mask).2.gear = s.gear :=
  (State.flagIrq_effect (s := s)).same .gear (by decide)
@[simp] theorem State.flagIrq_cam (p : PageId) (old mask : Word) (s : State) : (s.flagIrq p old mask).2.cam = s.cam :=
  (State.flagIrq_effect (s := s)).same .cam (by decide)
@[simp] theorem State.flagIrq_ptl (p : PageId) (old mask : Word) (s : State) : (s.flagIrq p old mask).2.ptl = s.ptl :=
  (State.flagIrq_effect (s := s)).same .ptl (by decide)
@[simp] theorem State.flagIrq_ptlIn (p : PageId) (old mask : Word) (s : State) : (s.flagIrq p old mask).2.ptlIn = s.ptlIn :=
  (State.flagIrq_effect (s := s)).same .ptlIn (by decide)
@[simp] theorem State.flagIrq_ptlRun (p : PageId) (old mask : Word) (s : State) : (s.flagIrq p old mask).2.ptlRun = s.ptlRun :=
  (State.flagIrq_effect (s := s)).same .ptlRun (by decide)
@[simp] theorem State.flagIrq_cyc (p : PageId) (old mask : Word) (s : State) : (s.flagIrq p old mask).2.cyc = s.cyc :=
  (State.flagIrq_effect (s := s)).same .cyc (by decide)
@[simp] theorem State.flagIrq_cycEnd (p : PageId) (old mask : Word) (s : State) : (s.flagIrq p old mask).2.cycEnd = s.cycEnd :=
  (State.flagIrq_effect (s := s)).same .cycEnd (by decide)
@[simp] theorem State.flagIrq_doorAt (p : PageId) (old mask : Word) (s : State) : (s.flagIrq p old mask).2.doorAt = s.doorAt :=
  (State.flagIrq_effect (s := s)).same .doorAt (by decide)
@[simp] theorem State.flagIrq_env (p : PageId) (old mask : Word) (s : State) : (s.flagIrq p old mask).2.env = s.env :=
  (State.flagIrq_effect (s := s)).same .env (by decide)
@[simp] theorem State.flagIrq_envKept (p : PageId) (old mask : Word) (s : State) : (s.flagIrq p old mask).2.envKept = s.envKept :=
  (State.flagIrq_effect (s := s)).same .envKept (by decide)
@[simp] theorem State.flagIrq_edges (p : PageId) (old mask : Word) (s : State) : (s.flagIrq p old mask).2.edges = s.edges :=
  (State.flagIrq_effect (s := s)).same .edges (by decide)
@[simp] theorem State.flagIrq_side (p : PageId) (old mask : Word) (s : State) : (s.flagIrq p old mask).2.side = s.side :=
  (State.flagIrq_effect (s := s)).same .side (by decide)
@[simp] theorem State.flagIrq_grd (p : PageId) (old mask : Word) (s : State) : (s.flagIrq p old mask).2.grd = s.grd :=
  (State.flagIrq_effect (s := s)).same .grd (by decide)
@[simp] theorem State.flagIrq_sbx (p : PageId) (old mask : Word) (s : State) : (s.flagIrq p old mask).2.sbx = s.sbx :=
  (State.flagIrq_effect (s := s)).same .sbx (by decide)
@[simp] theorem State.flagIrq_safe (p : PageId) (old mask : Word) (s : State) : (s.flagIrq p old mask).2.safe = s.safe :=
  (State.flagIrq_effect (s := s)).same .safe (by decide)
@[simp] theorem State.flagIrq_lsw (p : PageId) (old mask : Word) (s : State) : (s.flagIrq p old mask).2.lsw = s.lsw :=
  (State.flagIrq_effect (s := s)).same .lsw (by decide)
@[simp] theorem State.flagIrq_lswx (p : PageId) (old mask : Word) (s : State) : (s.flagIrq p old mask).2.lswx = s.lswx :=
  (State.flagIrq_effect (s := s)).same .lswx (by decide)
@[simp] theorem State.flagIrq_lswg (p : PageId) (old mask : Word) (s : State) : (s.flagIrq p old mask).2.lswg = s.lswg :=
  (State.flagIrq_effect (s := s)).same .lswg (by decide)
@[simp] theorem State.flagIrq_can (p : PageId) (old mask : Word) (s : State) : (s.flagIrq p old mask).2.can = s.can :=
  (State.flagIrq_effect (s := s)).same .can (by decide)
@[simp] theorem State.flagIrq_canc (p : PageId) (old mask : Word) (s : State) : (s.flagIrq p old mask).2.canc = s.canc :=
  (State.flagIrq_effect (s := s)).same .canc (by decide)
@[simp] theorem State.flagIrq_stn (p : PageId) (old mask : Word) (s : State) : (s.flagIrq p old mask).2.stn = s.stn :=
  (State.flagIrq_effect (s := s)).same .stn (by decide)
@[simp] theorem State.flagIrq_prg (p : PageId) (old mask : Word) (s : State) : (s.flagIrq p old mask).2.prg = s.prg :=
  (State.flagIrq_effect (s := s)).same .prg (by decide)
@[simp] theorem State.flagIrq_prgx (p : PageId) (old mask : Word) (s : State) : (s.flagIrq p old mask).2.prgx = s.prgx :=
  (State.flagIrq_effect (s := s)).same .prgx (by decide)
@[simp] theorem State.flagIrq_evq (p : PageId) (old mask : Word) (s : State) : (s.flagIrq p old mask).2.evq = s.evq :=
  (State.flagIrq_effect (s := s)).same .evq (by decide)
@[simp] theorem State.flagIrq_hspi (p : PageId) (old mask : Word) (s : State) : (s.flagIrq p old mask).2.hspi = s.hspi :=
  (State.flagIrq_effect (s := s)).same .hspi (by decide)
@[simp] theorem State.flagIrq_recd (p : PageId) (old mask : Word) (s : State) : (s.flagIrq p old mask).2.recd = s.recd :=
  (State.flagIrq_effect (s := s)).same .recd (by decide)
@[simp] theorem State.flagIrq_stat (p : PageId) (old mask : Word) (s : State) : (s.flagIrq p old mask).2.stat = s.stat :=
  (State.flagIrq_effect (s := s)).same .stat (by decide)
@[simp] theorem State.flagIrq_pair (p : PageId) (old mask : Word) (s : State) : (s.flagIrq p old mask).2.pair = s.pair :=
  (State.flagIrq_effect (s := s)).same .pair (by decide)
@[simp] theorem State.flagIrq_pairx (p : PageId) (old mask : Word) (s : State) : (s.flagIrq p old mask).2.pairx = s.pairx :=
  (State.flagIrq_effect (s := s)).same .pairx (by decide)
@[simp] theorem State.flagIrq_fuses (p : PageId) (old mask : Word) (s : State) : (s.flagIrq p old mask).2.fuses = s.fuses :=
  (State.flagIrq_effect (s := s)).same .fuses (by decide)
@[simp] theorem State.flagIrq_sec (p : PageId) (old mask : Word) (s : State) : (s.flagIrq p old mask).2.sec = s.sec :=
  (State.flagIrq_effect (s := s)).same .sec (by decide)
@[simp] theorem State.flagIrq_cfg (p : PageId) (old mask : Word) (s : State) : (s.flagIrq p old mask).2.cfg = s.cfg :=
  (State.flagIrq_effect (s := s)).same .cfg (by decide)
@[simp] theorem State.flagIrq_fresh (p : PageId) (old mask : Word) (s : State) : (s.flagIrq p old mask).2.fresh = s.fresh :=
  (State.flagIrq_effect (s := s)).same .fresh (by decide)
@[simp] theorem State.flagIrq_pending (p : PageId) (old mask : Word) (s : State) : (s.flagIrq p old mask).2.pending = s.pending :=
  (State.flagIrq_effect (s := s)).same .pending (by decide)

/-! ## Pages -/

/-- The page interrupts that an operation sets, and nothing else of any page. -/
theorem State.irq_pages (p : PageId) (mask : Word) (s : State) :
    (s.irq p mask).pages = upd s.pages (pageFin p) (fun g => { g with irq := g.irq ||| mask }) := by
  unfold State.irq
  extract_lets old t
  split
  · rfl
  · exact State.vector_pages _ _

/-- The page of an operation. -/
@[simp] theorem State.modPg_pg (p : PageId) (f : Page → Page) (s : State) : (s.modPg p f).pg p = f (s.pg p) := upd_self _ _ _

@[simp] theorem State.irq_pg (p : PageId) (mask : Word) (s : State) :
    (s.irq p mask).pg p = { s.pg p with irq := (s.pg p).irq ||| mask } := by
  unfold State.pg; rw [State.irq_pages]; exact upd_self _ _ _

/-- An error is shown in PG_ERR and PG_IRQ of its page (R139). -/
@[simp] theorem State.err_pg (p : PageId) (code detail off : Nat) (s : State) :
    (s.err p code detail off).pg p = { s.pg p with
      errCode := code, errDetail := detail, errOff := off / 4, errCount := inc (s.pg p).errCount 15, irq := (s.pg p).irq ||| 1 } := by
  unfold State.err; rw [State.irq_pg, State.modPg_pg]

/-! ## Host writes -/

/-- A write that reaches its register takes effect. -/
theorem State.gated_of_takes {s : State} {p : PageId} {o : Nat} {w : Word} {e : Bool} {k : State → State} (h : s.takes p o e) :
    s.gated p o w e k = k s := by
  obtain ⟨h1, h2, h3, h4, h5⟩ := h
  have h6 : (((s.pg p).lock && !e) || s.dbgClosed p) = false := by
    unfold State.dbgClosed
    rcases h4 with h | h <;> by_cases hp : p = .dbg <;> simp_all
  simp only [State.gated, State.unlessLocked, h1, h2, h3, h6]
  rfl

end Sys2Proof.Machine
end

