-- ==== Sys2Proof/Tests/Base.lean ====
section
/-! SUPPORT. The states the tests start from: a module that runs, built from the reset state, and small changes of it. -/

namespace Sys2Proof.Tests

open Sys2Proof.Machine

/-- A module in RUN: every domain, clock, die and link up, contract 3 agreed, the configuration and program valid. -/
def up : State :=
  { pwr := { domains := 0x3FF }, clk := { run := 0xFFF, lock := 7 }, present := 0xFF
    links := Vector.replicate 8 { st := .up, mark := some 0 }, mem := { nvm := true }
    hif := { agree := 3 }
    mc := { mode := .run, busy := false, prev := 2, cause := 4 }
    boot := { started := true, sixth := true, guardOk := true, jctOk := true, cfgOk := true, prgOk := true, retOk := true, joinOver := true } }

/-- The same module in another mode. -/
def upIn (m : Mode) : State := { up with mc := { up.mc with mode := m } }

/-- The same module with one link changed. -/
def upLink (d : Fin 8) (f : Link → Link) : State := { up with links := upd up.links d f }

/-- The same module with one axis changed. -/
def upAx (a : Fin 12) (f : Axis → Axis) : State := { up with ax := upd up.ax a f }

/-- The same module with a die held absent. -/
def upLost (d : Nat) : State := { up with rst := { up.rst with absent := setBit 0 d } }

end Sys2Proof.Tests
end

