-- ==== Sys2Proof/Tests/Slice0.lean ====
section
/-! SUPPORT. Tests: every check of WellFormed refuses an ill-formed command, and single steps give the values of the spec's own
worked examples and tables, each named in its test's comment. -/

set_option Elab.async false

namespace Sys2Proof.Tests

open Sys2Proof.Machine

/-! ## WellFormed -/

theorem test_wellFormed_links : wellFormed (.packetReceived 1 true 65536 true 0 none) = false ∧ wellFormed (.packetReceived 1 true 0 true 65536 none) = false
    ∧ wellFormed (.packetReceived 1 true 65535 true 65535 none) = true ∧ wellFormed (.statusFrame true 65536) = false
    ∧ wellFormed (.scrubVisit 0 (276, []) false) = false ∧ wellFormed (.scrubVisit 0 (0, [⟨1, 0, 276⟩]) false) = false := by decide

theorem test_wellFormed_bus : wellFormed (.wideFieldRead (.bar0 0xFFFFE) 4) = false ∧ wellFormed (.wideFieldRead (.bar2 0) 0) = false
    ∧ wellFormed (.wideFieldRead (.bar2 0) 4097) = false ∧ wellFormed (.registerWrite 0x100000 4 0) = false
    ∧ wellFormed (.registerWrite 0 0 0) = false ∧ wellFormed (.registerWrite 0 2 65536) = false ∧ wellFormed (.registerWrite 0 4 0xFFFFFFFF) = true
    ∧ wellFormed (.imageLoadWrite 0xFFFFFF [0, 0]) = false ∧ wellFormed (.hspiWriteSingle 0x100000 []) = false
    ∧ wellFormed (.hspiWriteQuad 0x100000 []) = false ∧ wellFormed (.hspiReadSingle 0x100000 0) = false ∧ wellFormed (.hspiReadQuad 0x100000 0) = false
    ∧ wellFormed (.pcieLinkChange 3 1 1 false false false 0 0 0) = false ∧ wellFormed (.pcieLinkChange 2 16 1 false false false 0 0 0) = false
    ∧ wellFormed (.pcieLinkChange 2 1 16 false false false 0 0 0) = false := by decide

theorem test_wellFormed_motion : wellFormed (.voltageUpdate 0 65536 none) = false ∧ wellFormed (.ssiFrameDone 0 0x100000000 0 true) = false
    ∧ wellFormed (.ssiFrameDone 0 0 0x100000000 true) = false ∧ wellFormed (.dinEdge 0 true 2 1) = false ∧ wellFormed (.gateMapReadback 0 [0] []) = false := by
  decide

theorem test_wellFormed_program : wellFormed (.tasksComplete 0 [(0, 2048, 0)] [] []) = false ∧ wellFormed (.tasksComplete 0 [] [(0, 0x100000000, 0)] []) = false
    ∧ wellFormed (.tasksComplete 0 [(16, 0, 0)] [] []) = false ∧ wellFormed (.tasksComplete 0 [] [(16, 0, 0)] []) = false
    ∧ wellFormed (.tasksComplete 0 [] [] [(16, 0)]) = false ∧ wellFormed (.taskTimeout [(16, 0)] true) = false
    ∧ wellFormed (.programTrap 16 0 0 0 false) = false ∧ wellFormed (.programTrap 0 0x43 0 0 false) = false
    ∧ wellFormed (.eventTaskRelease 16 [] [] 0) = false ∧ wellFormed (.eventTaskRelease 0 [(2048, 0)] [] 0) = false
    ∧ wellFormed (.eventTaskRelease 0 [] [(0x100000000, 0)] 0) = false := by decide

theorem test_wellFormed_services : wellFormed (.axCmd 0 (2 ^ 39) 0 0 0 0) = false ∧ wellFormed (.axCmd 0 (-(2 ^ 39) - 1) 0 0 0 0) = false
    ∧ wellFormed (.axCmd 0 0 (2 ^ 32) 0 0 0) = false ∧ wellFormed (.axCmd 0 0 0 (2 ^ 32) 0 0) = false ∧ wellFormed (.axCmd 0 0 0 0 65536 0) = false
    ∧ wellFormed (.ptlReq 0 16) = false ∧ wellFormed (.sideReq 0 16) = false ∧ wellFormed (.engineCtl true 4 0) = false
    ∧ wellFormed (.canSend 0 0 0 (List.replicate 65 0)) = false ∧ wellFormed (.recWrite 65536 0 []) = false ∧ wellFormed (.recWrite 0 16 []) = false
    ∧ wellFormed (.recWrite 0 0 (List.replicate 497 0)) = false ∧ wellFormed (.warn 65536 0) = false := by decide +kernel

theorem test_wellFormed_frames : wellFormed (.joinReq 0 [0]) = false ∧ wellFormed (.stnIn 0 256 0 [] 0) = false ∧ wellFormed (.stnIn 0 0 256 [] 0) = false
    ∧ wellFormed (.stnIn 0 0 0 (List.replicate 65 0) 0) = false ∧ wellFormed (.canFrameRx 0 0 0 (List.replicate 65 0) 0 0) = false
    ∧ wellFormed (.canFrameRx 0 0 0 [] 2 1) = false ∧ wellFormed (.canTxComplete 0 2 1) = false
    ∧ wellFormed (.hello true 0 3 false 0 0 [0] 0 0) = false ∧ wellFormed (.image true 0 0 2 (List.replicate 1024 0)) = false
    ∧ wellFormed (.image true 0 0 0 []) = false := by decide +kernel

/-! ## The queue of commands -/

/-- The state a command leaves. -/
def ran (i : Instr) (s : State) : State := match exec i s with | .next t => t | .fault _ => s | .refused _ => s

theorem test_step_takes_the_front : step { up with pending := [.sleepTick, .snapAll] } = exec .sleepTick { up with pending := [.snapAll] } := rfl

theorem test_step_idles : step State.reset = .next State.reset := rfl

theorem test_no_word_spells_a_command : decodeTableWord 32 0x12345678 = none ∧ State.reset.withFetchWord 32 0x12345678 = State.reset := ⟨rfl, rfl⟩

theorem test_core_is_this_machine : Sys2Proof.core.reset = State.reset ∧ Sys2Proof.core.step = step := ⟨rfl, rfl⟩

/-! ## Single steps against the spec -/

/-- R24: a tick of the Sleeper clock is 4,882.8125 counts, so the first four from a fraction of 0 advance TB by 4,882, 4,883, 4,883
and 4,883. -/
theorem test_sleep_ticks :
    let a := ran .sleepTick State.reset
    let b := ran .sleepTick a
    let c := ran .sleepTick b
    a.tb = 4882 ∧ b.tb = 9765 ∧ c.tb = 14648 ∧ (ran .sleepTick c).tb = 19531 := by decide +kernel

/-- The worked example of spec/04_clocks_resets_crossings.md: SNAP_ALL at TB 3,200,000 gives t = 3,200,640. -/
theorem test_snap_all_lead :
    let t := ran .snapAll { up with tb := 3200000 }
    (t.pg (.ax 3)).snapDue = some 3200640 ∧ (t.pg (.can 1)).snapDue = some 3200640 := by decide +kernel

/-- The worked example of spec/06_register_conventions.md: GEAR03 is page 0x43. -/
theorem test_page_of_gear : pageNo (.gear 3) = 0x43 ∧ pageNo (.sec) = 0xE0 ∧ pageNo (.lsw 23) = 0x97 := by decide

/-- The worked example of spec/12_safety.md: the seal word 0x31D7_C3FF and its inputs. -/
theorem test_seal_word :
    let w : Word := 0x31D7C3FF
    ~~~w = 0xCE283C00 ∧ sealOkWord w = true ∧ sealRole w 14 = .closed 3 ∧ sealRole w 15 = .locked 3 ∧ sealRole w 16 = .isolation 3
      ∧ sealRole w 26 = .closed 7 ∧ sealRole w 28 = .isolation 7 ∧ (sealRole w 15).discMs w = 50 ∧ (sealRole w 16).discMs w = 250
      ∧ (sealRole w 0).discMs w = 50 ∧ (sealRole w 15).pulsed w = true ∧ filtSamples w = 12 := by decide

/-- A quadrature channel with HYST_EN at 1,006, its last direction up. -/
def creeping : State :=
  ({ up with fb := upd up.fb 2 (fun f => { f with raw := 1006, pos := 1006, lastDir := 1 }) }).setCom (.fb 2) 0x058 9

/-- Table 09-2, steps 6 and 7: the first transition of a reversal is absorbed, the second moves POS. -/
theorem test_reversal_is_absorbed :
    let back (s : State) : State := ran (.encoderTransition 2 (!s.fb[(2 : Fin 14)].lvB) s.fb[(2 : Fin 14)].lvA s.tb) s
    let fwd (s : State) : State := ran (.encoderTransition 2 s.fb[(2 : Fin 14)].lvB (!s.fb[(2 : Fin 14)].lvA) s.tb) s
    let one (s : State) : State := if (back s).fb[(2 : Fin 14)].raw < s.fb[(2 : Fin 14)].raw then back s else fwd s
    let a := one creeping
    let b := one a
    a.fb[(2 : Fin 14)].raw = 1005 ∧ a.fb[(2 : Fin 14)].pos = 1006 ∧ b.fb[(2 : Fin 14)].raw = 1004 ∧ b.fb[(2 : Fin 14)].pos = 1005 := by decide +kernel

/-- Table 13-3, steps 2 and 5: the first fast trip pauses 10 ms, the second 20 ms. -/
theorem test_trip_pauses :
    let on (n : Nat) : State := { up with lsw := upd up.lsw 6 (fun x => { x with out := 1, tries := n }) }
    (ran (.lswFastTrip 6) (on 0)).lsw[(6 : Fin 24)].pause = some 1600000 ∧ (ran (.lswFastTrip 6) (on 1)).lsw[(6 : Fin 24)].pause = some 3200000
      ∧ (ran (.lswFastTrip 6) (on 0)).lsw[(6 : Fin 24)].out = 0 := by decide +kernel

/-- Table 15-4: an acknowledgement error adds 8 to TEC; the sixteenth makes the controller error-passive, where it adds no more. -/
theorem test_lone_node :
    let at_ (n : Nat) (f : FcState) : State := { up with can := upd up.can 2 (fun c => { c with fc := f, tec := n, fifo := [{}], txActive := true }) }
    (ran (.canBusError 2 3 true false false) (at_ 0 .active)).can[(2 : Fin 4)].tec = 8
      ∧ (let t := ran (.canBusError 2 3 true false false) (at_ 120 .active); t.can[(2 : Fin 4)].tec = 128 ∧ t.can[(2 : Fin 4)].fc = .passive)
      ∧ (ran (.canBusError 2 3 true false true) (at_ 128 .passive)).can[(2 : Fin 4)].tec = 128 := by decide +kernel

/-- EVQ3 of the worked example of spec/16_host_interface.md, in a state given by a change of it. -/
def upRing (f : Evq → Evq) : State :=
  (((((({ up with hif := { up.hif with master := true, link := 2 }, evq := upd up.evq 3 (fun x => f { x with running := true, configured := true }) }).setCom
    (.evq 3) 0x040 0x80000000).setCom (.evq 3) 0x044 4).setCom (.evq 3) 0x048 64).setCom (.evq 3) 0x04C 0x0300).setCom (.evq 3) 0x050 0x80000800).setCom
    (.evq 3) 0x054 4

/-- Table 16-6, steps 1, 4, 6 and 7: TAIL 11 after record 1; with no free space the event is counted lost; HEAD 42 is accepted; the
EVQ_OVERFLOW record goes to slot 9, its SEQ the first lost, and TAIL is 10. -/
theorem test_ring_fills_and_recovers :
    let e : Event := { code := 0x0101, source := 0, payload := [3] }
    let a := ran (.evqRecordWrite 3) (upRing (fun x => { x with head := 10, tail := 10, staged := [⟨e, 0x129000, 0⟩] }))
    let b := ran (.evqRecordWrite 3) (upRing (fun x => { x with head := 10, tail := 9, staged := [⟨e, 0x12903F, 0⟩] }))
    let c := ran (.evqHead 3 42) (upRing (fun x => { x with head := 10, tail := 9 }))
    let d := ran (.evqOverflow 3) (upRing (fun x => { x with head := 42, tail := 9, lostCount := 5, lost := some ⟨0x12903F, 0, 5, 0x129043, 0, 0⟩ }))
    a.evq[(3 : Fin 8)].tail = 11 ∧ b.evq[(3 : Fin 8)].lostCount = 1 ∧ b.evq[(3 : Fin 8)].tail = 9 ∧ bit b.evq[(3 : Fin 8)].flags 0 = true
      ∧ c.evq[(3 : Fin 8)].head = 42 ∧ d.evq[(3 : Fin 8)].tail = 10
      ∧ (d.posted.map (fun p => match p with | .hostWrite x l => (x, l.take 4) | _ => (0, []))) =
        [(0x480000120, [0x3F, 0x90, 0x12, 0x00]), (0x480000800, [10, 0, 0, 0])] := by decide +kernel

/-- The profile of Table 07-9. -/
def doorProfile : Profile :=
  { vStart := 0x320000, a1 := 0x138800, vBreak := 0x1F40000, a2 := 0x9C400, vMax := 0x9C40000, d2 := 0x9C400, d1 := 0x138800, vStop := 0x320000 }

/-- The two-move close of spec/07_motion_planner.md: the junction speed is 64,000 µsteps/s, HEADLAND_V 0x00FA_0000. -/
theorem test_two_move_close : joints doorProfile {} (832000 * unitsPerStep) true 0 [{ goal := 64000 }, { goal := 0, vmax := 0xFA0000 }]
    = [some 0xFA0000, none] := by decide +kernel

/-- The example of FIPS 180-4, the standard that R495 names: SHA-512 of "abc". -/
theorem test_sha512_abc : beNat (sha512 [0x61, 0x62, 0x63]) =
    0xddaf35a193617abacc417349ae20413112e6fa4e89a97ea20a9eeee64b55d39a2192992a274fc1a836ba3c23a3feebbd454d4423643ce80e2a9ac94fa54ca49f := by
  decide +kernel

/-- A number given by eight numbers of 512 bits. -/
def joined (l : List Nat) : Nat := l.foldl (fun n x => n * 2 ^ 512 + x) 0

/-- A modulus of 4,096 bits, made with Python's hashlib and integers for this test. -/
def keyN : Nat := joined
  [0xebcbd0f9b177cfe39357e3d5d50f1210867b53cd02236946e82d3c734a68fc86d6fe72e17ebc40720bd2981fa38e7990f50387fc1465def87f9042ab63a81c35,
   0xb4450977c5fb232557c77656904907a87592caa890965775abef3fcc664ec40941925b736a3a4ead0608300108f8a76c65a4d88b76fdc031d2c148a68e0e1629,
   0xd4b671e005daba557930651fa0f21f28296e405eaf5a97742b9aae6fc4d3bcd033d2d9964483040f97c1a2fc4987b1f057e811b81ca31488003779b4cd66705d,
   0xb9d57fb71fc9e8f35583cd0af29f1acf07c16145ba39687754ceb31519095a6aa5163ec1b0a16644645a7e8e157764be455f92131e2cc81fb2b6fbb3991d8c3b,
   0xe26f8a44e8825c588484d9ca74205b45b576eee167e0780d9291cb2db36d8550cc6e6374ae79e23511eda5ea50d077547a605177afdb5d9d6a8946c4a0c03592,
   0x805247e87e7265093804cec262755693115ffedbaa7ac18e5166f0025d5b58ec31fa8e49f96a475bc7e2c971bf454e41c40a9e89cf7f3b4ad037f4a4970e744c,
   0xc09d3daa1545d38d509101826cc35ba8b6d8ca43a8517fd53b6321a0bd2f45f013c6418260a56c34ad3953e20fadaaa1993b6d1aef07a10e269966a2e6061c2c,
   0xa81e6e0d6ae7837e350a8fc05aae20cf98d7a63af287977349893dc8ea02b4da4eb0f38aa2441337a6af89ebc8aee3b889e4931548e8e78948a5102cec6a760f]

/-- The signature that its key makes of the bytes 0 to 199, made in the same way. -/
def sigN : Nat := joined
  [0x6641543e0e240b58f95fde5b5182ab1fc318d54d862d959465f7cd04b8cbf58c3d1847bf7f652682ec825cbf6027f598b87590c6f48d37fbabfa2b48e048e3c1,
   0x7a6bd6ec0cc773f8cefc66d46e03adcf5ea1e8625521df4076c2887b8384d253084686c06881319686f4f5eebee1ce734d1486fd529f10be26b65e4ec406d3f9,
   0xef3f0f7339cea9240459fd288e54a181306a1ae34196738348f1ad685b1e8ce86bafc939b1abecc22da2569bf9131c1f30b561d94b569590078ba4fb886036c3,
   0x4e2b7709c93053e6fa715b743579030714c8941accf3c9d7cde4a6ca74d74848f8ada4c59468a315716d463aa2fe89c85118ca3445eee6a859366e15d8196421,
   0x2bc8c1575ae24e9a977cfa638a4948b8828d1af05a96aabed052771b6f6212ef940b98ff6a12beddd22cd771fe19eeb4ce32f0a406887a708410dee03800f322,
   0xf692b7442fb71c2dd2b7a593cee397e287bdf97bd37dd01e46ce038c0ff1a624c1eccec362d415ee869d15e8b1d3a5daa1e8eff8491c56fa9de994ae0e2cc20c,
   0xd922f3e50dc71275ba2be64e2501d65951a9f6eb6b43fb06424d79690072f6a1a2433a00cdcede91e8b7ff1cf7fb7280400b21bd322d9866fe0c0000257ab88e,
   0x53087a6ae7b3ef9bf5eb1bf2faf7a605a0f7af44041cab856b4f7102e94ba840994ba76a9b9cb7936b9cc859af2f7812d2140d3fa42a04f488d47f336e136b7b]

/-- R495: the signature fits its message, and no other. -/
theorem test_pss :
    let m : List Byte := (List.range 200).map (fun n => BitVec.ofNat 8 n)
    pssVerifies (beBytes 512 keyN) (sha512 m) (beBytes 512 sigN) = true ∧ pssVerifies (beBytes 512 keyN) (sha512 (m ++ [1])) (beBytes 512 sigN) = false := by
  decide +kernel

/-- Reset (Table 05-1, R98, Table 06-2): mode BOOT, contract 1 in HIF_AGREE, nothing waiting, every page unlocked. -/
theorem test_reset : State.reset.mc.mode = .boot ∧ State.reset.hif.agree = 1 ∧ State.reset.pending = []
    ∧ (∀ p : Fin 130, State.reset.pages[p].lock = false) := by decide +kernel

end Sys2Proof.Tests
end

