-- ==== Sys2Proof/Tests/WitnessA.lean ====
section
/-! SUPPORT. For each statement of Certificates/Slice0/Obligations.lean with hypotheses, states and operands that meet them: the
machine as a whole, links, supply, clocks, resets, the register file, modes. -/

set_option Elab.async false

namespace Sys2Proof.Tests

open Sys2Proof.Machine

theorem witness_StepTakesFront : up.pending = [] ∧ up.clkRuns 5 = true ∧ State.reset.pending = [] ∧ State.reset.clkRuns 5 = false := by
  decide +kernel

theorem witness_MemoriesStayCanonical : up.memOk ∧ ∃ t, step { up with pending := [.sleepTick] } = .next t :=
  ⟨by unfold State.memOk; decide +kernel, _, rfl⟩

theorem witness_SeqNeverReused : up.seqOk ∧ ∃ t, step { up with pending := [.vlogWarnEnter 5900] } = .next t :=
  ⟨by unfold State.seqOk; decide +kernel, _, rfl⟩

theorem witness_NothingRunsBackwards : (up.pending.head? ≠ some .powerOn) ∧ (∃ t, step up = .next t)
    ∧ { up.fuses with fuse := upd up.fuses.fuse 1 (fun f => { f with revoked := true }), debugLock := true }.slots[(1 : Fin 4)] = .revoked :=
  ⟨by decide +kernel, ⟨_, rfl⟩, by decide +kernel⟩

theorem witness_EveryCommandAnswersNext : (∃ t, exec .vlogWarnExit up = .next t) ∧ ∃ t, step { up with pending := [.sleepTick] } = .next t :=
  ⟨⟨_, rfl⟩, _, rfl⟩

theorem witness_LinkPackets_inOrder : up.coupled 3 = true ∧ up.dieAbsent 3 = false ∧ 65536 % 65536 = up.links[(3 : Fin 8)].inn.want
    ∧ 65535 % 65536 ≠ up.links[(3 : Fin 8)].inn.want := by decide +kernel

theorem witness_LinkPackets_late : (upLost 3).dieAbsent 3 = true ∧ (upLost 3).domOn 1 = true := by decide +kernel

theorem witness_LinkPackets_retry (k : Fin 2) :
    let s := upLink 3 (fun l => { l with out := { next := 64, run := 7 + k.val } })
    s.coupled 3 = true ∧ s.dieAbsent 3 = false ∧ (s.links[(3 : Fin 8)].lane true).outstanding ≠ 0
      ∧ (k = 0 → (s.links[(3 : Fin 8)].lane true).run < 8) ∧ (k = 1 → 8 ≤ (s.links[(3 : Fin 8)].lane true).run) := by
  revert k; decide +kernel

theorem witness_LinkPackets_mute :
    let s := { up with lswg := { up.lswg with clkFailed := true } }
    s.mute 5 = true ∧ s.dieAbsent 5 = false ∧ ∀ d, up.mute d = false := by decide +kernel

theorem witness_PacketsOfTheDies : (∀ d : Fin 8, d = 1 ∨ d = 5 ∨ d = 6 ∨ d = 7 → d ≠ 0 ∧ up.coupled d = true ∧ up.dieAbsent d = false
    ∧ up.links[d].inn.outstanding < 64 ∧ up.links[d].inn.wait = 0 ∧ up.links[d].out.outstanding < 64 ∧ up.links[d].out.wait = 0)
    ∧ (upLink 4 (fun l => { l with inn := { next := 63 } })).links[(4 : Fin 8)].inn.outstanding < 64
    ∧ 64 ≤ (upLink 4 (fun l => { l with inn := { next := 64 } })).links[(4 : Fin 8)].inn.outstanding
    ∧ 64 ≤ (upLink 1 (fun l => { l with out := { next := 64 } })).links[(1 : Fin 8)].out.outstanding
    ∧ (upLost 2).domOn 1 = true ∧ (upLost 2).domOn 4 = true ∧ (upLost 2).dieAbsent 2 = true
    ∧ up.coupled 2 = false ∧ up.domOn 1 = true ∧ up.domOn 4 = true ∧ up.dieAbsent 2 = false ∧ up.links[(2 : Fin 8)].st = .up
    ∧ (upLink 2 (fun l => { l with inn := { run := 6 } })).links[(2 : Fin 8)].inn.run < 7
    ∧ 7 ≤ (upLink 2 (fun l => { l with inn := { run := 7 } })).links[(2 : Fin 8)].inn.run := by decide +kernel

theorem witness_SleepTicksKeepTime : State.reset.clkRuns 5 = false ∧ State.reset.frac < 16
    ∧ { State.reset with frac := 15 }.clkRuns 5 = false ∧ { State.reset with frac := 15 }.frac < 16 := by decide +kernel

theorem witness_ScrubVisits : ∀ k : Fin 3, up.memOn k = true ∧ up.mem.scrub[k] < memWords k
    ∧ (let s := { up with mem := { up.mem with scrub := upd up.mem.scrub k (fun _ => memWords k - 1) } };
       s.memOn k = true ∧ s.mem.scrub[k] < memWords k ∧ s.mem.scrub[k] + 1 = memWords k)
    ∧ (k.val, up.mem.scrub[k]) ∉ up.mem.torn ∧ (∀ c ∈ up.mem.corr, c.mem ≠ k.val ∨ c.word ≠ up.mem.scrub[k]) := by decide +kernel

/-- The module at TB = 1 s with word 0 of each memory in `torn`, and a correction of it counted since `b`. -/
def upScrub (b : Nat) : State :=
  { up with tb := 160000000, mem := { up.mem with torn := [(0, 0), (1, 0), (2, 0)], corr := [⟨0, 0, b, 2⟩, ⟨1, 0, b, 2⟩, ⟨2, 0, b, 2⟩] } }

theorem witness_ScrubVisits_upsets : ∀ k : Fin 3,
    (let s : State := { up with mem := { up.mem with soft := [⟨k, up.mem.scrub[k], 2⟩] } }
     s.mem.softOf k s.mem.scrub[k] = 2 ∧ 3 = s.mem.softOf k s.mem.scrub[k] + 1 ∧ up.mem.softOf k up.mem.scrub[k] = 0)
    ∧ State.reset.memOn k = false ∧ State.reset.mem.softOf k 5 = 0 ∧ (k.val, 5) ∉ State.reset.mem.torn := by decide +kernel

theorem witness_ScrubVisits_corrections : ∀ k : Fin 3, (upScrub 0).memOn k = true ∧ (upScrub 0).mem.scrub[k] < memWords k
    ∧ (k.val, (upScrub 0).mem.scrub[k]) ∈ (upScrub 0).mem.torn
    ∧ (∃ c ∈ (upScrub 0).mem.corr, c.mem = k.val ∧ c.word = (upScrub 0).mem.scrub[k] ∧ c.since + 160000000 ≤ (upScrub 0).tb)
    ∧ (∃ c ∈ (upScrub 1).mem.corr, c.mem = k.val ∧ c.word = (upScrub 1).mem.scrub[k] ∧ (upScrub 1).tb < c.since + 160000000) := by
  decide +kernel

/-- The module with bits of SUP_STA set. -/
def upSta (w : Word) : State := { up with pwr := { up.pwr with sta := w } }

theorem witness_SupplyConditions (d : Fin 2) : bit up.pwr.sta 0 = false ∧ 65535 < 65536 ∧ up.domOn (motDom d) = true
    ∧ bit up.pwr.sta (2 + 3 * d.val) = false ∧ bit up.pwr.sta (3 + 3 * d.val) = false ∧ bit up.pwr.sta (10 + d.val) = false
    ∧ up.domOn 8 = true ∧ up.axesOff = false
    ∧ (∀ a, ploughDie a = motDie d → up.ax[a].halts = [] ∧ up.supplyOff a = false ∧ .bridgeFault ∉ up.ax[a].halts ∧ .vmotOv ∉ up.ax[a].halts)
    ∧ bit (upSta 0x3FFF).pwr.sta (2 + 3 * d.val) = true ∧ bit (upSta 0x3FFF).pwr.sta (3 + 3 * d.val) = true
    ∧ (upAx 0 (fun x => { x with halts := [.vmotUv] })).ax[(0 : Fin 12)].halts = [.vmotUv]
    ∧ (upAx 0 (fun x => { x with halts := [.vmotOv] })).ax[(0 : Fin 12)].halts = [.vmotOv] := by revert d; decide +kernel

/-- The module with its load switches under command, channel 4 on. -/
def upLsw : State := { up with lswg := { up.lswg with wdt := .running }, lsw := upd up.lsw 4 (fun x => { x with cmd := 1, got := 1 }) }

theorem witness_SupplyConditions_vlsw : bit upLsw.pwr.sta 7 = false ∧ bit { upLsw.pwr with sta := 0x80 }.sta 7 = true
    ∧ (upLsw.lswState 4).1 = 1 ∧ State.lswHeld { upLsw with lswg := { upLsw.lswg with uv := false } } 4 = false := by decide +kernel

theorem witness_SupplyConditions_exits (d : Fin 2) :
    let s : State := { up with pwr := { up.pwr with sta := 0x3FFF, beyond := Vector.replicate 8 (some 5), back := Vector.replicate 8 (some 5) } }
    (∀ k : Fin 8, s.pwr.back[k] = some 5 ∧ s.pwr.beyond[k] = some 5) ∧ (5999 < 6000) ∧ (6000 ≤ 6000) ∧ up.pwr.beyond[(0 : Fin 8)] = none
      ∧ up.pwr.back[(0 : Fin 8)] = none ∧ up.pwr.beyond[motSup d 1] = none ∧ up.pwr.back[motSup d 1] = none
      ∧ (∀ k : Fin 4, s.pwr.beyond[motSup d k] = some 5 ∧ s.pwr.back[motSup d k] = some 5) ∧ bit s.pwr.sta (1 + 3 * d.val) = true
      ∧ bit s.pwr.sta 7 = true := by
  revert d; decide +kernel

theorem witness_PowerOnAndFullReset : up.takes .rst 0x050 false ∧ up.debugSta ≠ 1 ∧ up.domOn 1 = true ∧ up.domOn 8 = true := by
  unfold State.takes; decide +kernel

theorem witness_PowerOnAndFullReset_fuses : up.fuses.burn = none
    ∧ (let s : State := { up with fuses := { up.fuses with burn := some (1, 500000), fuse := upd up.fuses.fuse 1 (fun f => { f with used := true }) } }
       s.fuses.burn = some (1, 500000) ∧ s.fuses.fuse[(1 : Fin 4)].used = true ∧ s.tb + 3200 < 500000) := by decide +kernel

theorem witness_PartialResets : up.domOn 1 = true ∧ up.mc.mode ≠ .sleep ∧ up.pair.actO = false ∧ up.links[(5 : Fin 8)].st = .up
    ∧ up.dieAbsent 5 = false ∧ (up.pg (.ax 3)).commitDue = none
    ∧ (let s := { up with rst := { up.rst with absent := 0xFA } };
       s.domOn 1 = true ∧ s.pair.actO = false ∧ ∀ d : Fin 8, d ≠ 0 → d ≠ 2 → s.dieAbsent d = true)
    ∧ up.takes .rst 0x050 false ∧ up.takes (.ax 3) 0x00C false ∧ up.resetRefused (.ax 3) = none
    ∧ (upAx 3 (fun x => { x with st := .cruise })).takes (.ax 3) 0x00C false ∧ (upAx 3 (fun x => { x with st := .cruise })).atRest 3 = false := by
  unfold State.takes; decide +kernel

theorem witness_ClockChecks : (∀ k : Fin 12, k ≠ 8 → k ≠ 11 → up.clkRuns k.val = true ∧ bit up.clk.fail k.val = false
      ∧ clkOut k.val 0 (clkRef k.val 1) = true)
    ∧ clkOut 5 (160000000 * 64 / 32768) (clkRef 5 0) = false ∧ up.domOn 1 = true ∧ up.mc.mode ≠ .sleep
    ∧ up.domOn 2 = true ∧ up.domOn 9 = true ∧ bit up.clk.lock 0 = true ∧ up.clk.nvmFailed = false
    ∧ up.mem.nvm = true ∧ State.reset.mem.nvm = false := by decide +kernel

/-- The module with temperatures in the registers: dies at `t`, baseplate at 25 °C. -/
def upTemp (t : Nat) : State :=
  { up with pwr := { up.pwr with
      thEst := Vector.replicate 2 t, tEst := Vector.replicate 2 (some (t * 62500)), tempBp := 25 * 16, tempD := Vector.replicate 8 t } }

theorem witness_ThermalModelAndScale (d : Fin 2) : up.domOn (motDom d) = true ∧ up.dieAbsent (motDie d) = false
    ∧ (upTemp 400).dieTemp d = some 25000000 ∧ bit (upTemp 400).pwr.sta (10 + d.val) = false ∧ tempOf (upTemp 400).pwr.tempBp = some 25000000
    ∧ (25000000 : Int) < ((upTemp 400).cf .pwr 0x078 0 8 : Int) * 1000000 - 5000000
    ∧ (upTemp (141 * 16)).dieTemp d = some 141000000 ∧ (((upTemp 400).cf .pwr 0x078 0 8 : Nat) : Int) * 1000000 - 5000000 = 141000000
    ∧ bit up.pwr.sta (8 + d.val) = false := by revert d; decide +kernel

theorem witness_TemperatureSensors : up.domOn 8 = true ∧ (3 : Fin 8) ≠ 2 ∧ (-0x7FFF : Int) ≤ 145 * 16 ∧ (145 * 16 : Int) ≤ 0x7FFF
    ∧ bit up.pwr.sta 12 = false ∧ bit up.pwr.sta 13 = false ∧ (100 * 16 : Int) < 1601
    ∧ up.dieOn 6 = true ∧ (upLost 6).dieOn 6 = false ∧ (upTemp 400).baseShown = 25 * 16
    ∧ up.dieOn 3 = true ∧ up.pwr.hotSince[(3 : Fin 8)] = none ∧ (upLost 3).dieOn 3 = false
    ∧ (let s := { up with pwr := { up.pwr with hotSince := upd up.pwr.hotSince 3 (fun _ => some 5) } };
       s.pwr.hotSince[(3 : Fin 8)] = some 5 ∧ s.dieOn 3 = true ∧ s.mc.mode = .run) := by decide +kernel

theorem witness_VlogMinWrite : up.takes .pwr 0x050 true ∧ (up.modPg .pwr (fun g => { g with lock := true })).takes .pwr 0x050 true := by
  unfold State.takes; decide +kernel

theorem witness_DomKeepOff : up.takes .pwr 0x044 false ∧ bit (0x20 : Word) 5 = true ∧ bit (up.com .pwr 0x044) 5 = false
    ∧ (upAx 2 (fun x => { x with st := .cruise })).mayCut 0 = false ∧ (∀ d : Fin 2, up.mayCut d = true)
    ∧ bit ((up.setCom .pwr 0x044 0x60).com .pwr 0x044) 5 = true ∧ bit (0 : Word) 5 = false ∧ up.dieAbsent 3 = false
    ∧ bit ((upSta 0x24).setCom .pwr 0x044 0x60).pwr.sta 2 = true := by
  unfold State.takes; decide +kernel

/-- The module with a valid word staged on AX03: V_MAX at its reset value. -/
def upStaged : State := up.modPg (.ax 3) (fun g => { g with stg := [(0x070, 0x00C80000)], stage := 1 })

theorem witness_GroupCommits : upStaged.takes (.ax 3) 0x020 false ∧ (0 : Word) ≠ 0x5EED ∧ (upStaged.pg (.ax 3)).commitDue = none
    ∧ upStaged.badGroup (.ax 3) = none ∧ (upStaged.pg (.ax 3)).stage ≠ 0
    ∧ ((upStaged.modPg (.ax 3) (fun g => { g with commitDue := some 10000 })).pg (.ax 3)).commitDue = some 10000 := by
  unfold State.takes; decide +kernel

theorem witness_GroupCommits_invalid :
    (up.modPg (.ax 3) (fun g => { g with stg := [(0x064, 0)], stage := 1 })).badGroup (.ax 3) = some 0 := by decide +kernel

theorem witness_GroupCommits_boundary :
    let s := upStaged.modPg (.ax 3) (fun g => { g with commitDue := some 10000 })
    (s.pg (.ax 3)).commitDue = some 10000 ∧ (s.pg (.ax 3)).sole = [] ∧ (s.pg (.ax 3)).stg.Pairwise (fun x y => x.1 < y.1)
      ∧ s.takes (.ax 3) 0x00C false ∧ s.tb < 10000
      ∧ { s with tb := 10000 }.takes (.ax 3) 0x00C false ∧ 10000 ≤ { s with tb := 10000 }.tb ∧ s.dieAbsent (pageDie (.ax 3)) = false := by
  unfold State.takes; decide +kernel

theorem witness_GroupCommits_overtaken :
    let s := { up with cam := upd up.cam 1 (fun c => { c with engaged := true }) }.modPg (.cam 1) (fun g => { g with commitDue := some 10000, stage := 2 })
    (s.pg (.cam 1)).commitDue = some 10000 ∧ s.overtaken (.cam 1) = some 1 ∧ upStaged.overtaken (.ax 3) = none := by decide +kernel

theorem witness_RegisterWrites_header : up.takes .pwr 0x00C true ∧ up.takes .dev 0x00C true ∧ up.takes .pwr 0x01C true
    ∧ (let s := up.modPg (.ax 0) (fun g => { g with lock := true });
       s.busAlive = true ∧ s.busErr (.ax 0) 0x020 = none ∧ s.waits (.ax 0) = false ∧ (s.pg (.ax 0)).lock = true) := by
  unfold State.takes; decide +kernel

theorem witness_RegisterWrites_word : ∃ r, regAt (.ax 0) 0x044 = some r ∧ r.rws = [] ∧ r.w1c = 0 ∧ rwBits (.ax 0) r ≠ 0
    ∧ up.blockWrite (.ax 0) 0x044 0x1234 = none ∧ up.takes (.ax 0) 0x044 (up.lockExempt (.ax 0) 0x044 0x1234) := by
  refine ⟨_, rfl, ?_⟩; unfold State.takes; decide +kernel

theorem witness_RegisterWrites_readOnly : ∃ r, regAt .dev 0x040 = some r ∧ r.rw = 0 ∧ r.wo = 0 ∧ r.w1c = 0 ∧ r.rws = []
    ∧ up.takes .dev 0x040 (up.lockExempt .dev 0x040 1) := by
  refine ⟨_, rfl, ?_⟩; unfold State.takes; decide +kernel

theorem witness_RegisterWrites_bus : up.busAlive = true ∧ (4095 % 4 ≠ 0) ∧ pageAt (0xFF000 / 4096 % 256) = none := by decide +kernel

theorem witness_WideReadsAndCaptures : up.busAlive = true ∧ up.readErr .tb 0x040 = none ∧ up.badRead .tb 0x040 = false
    ∧ up.readErr .recd 0x800 = none ∧ up.noGranary = false ∧ up.clkStopped .tb = false ∧ (up.pg .tb).queue = []
    ∧ (let s := ({ up with clk := { up.clk with run := 0xFDF } }.modPg (.drv 0) (fun g => { g with queue := [(0x018, 1)] }));
       s.busAlive = true ∧ s.readErr (.drv 0) 0x080 = none ∧ s.badRead (.drv 0) 0x080 = false ∧ s.clkStopped (.drv 0) = true)
    ∧ 4095 % 4 ≠ 0 ∧ 0xFF000 % 4 = 0 ∧ pageAt (0xFF000 / 4096 % 256) = none ∧ 0xE00000 ≤ 0xFFFFFF ∧ 0xFFFFFF < 0x1000000
    ∧ (up.pg .tb).cap.get? 0x040 = none ∧ 0x044 ∈ wideOf .tb 0x040
    ∧ ((up.modPg .tb (fun g => { g with cap := [(0x044, 7)] })).pg .tb).cap.get? 0x044 = some 7
    ∧ up.takes .tb 0x030 true ∧ up.takes .clk 0x04C true ∧ up.domOn (pageDom (.drv 7)) = true ∧ up.dieAbsent (pageDie (.drv 7)) = false
    ∧ (upLost 4).dieAbsent (pageDie (.drv 7)) = true := by
  unfold State.takes; decide +kernel

theorem witness_WideReadsAndCaptures_snap :
    let s := up.modPg .tb (fun g => { g with snapDue := some 640 })
    640 < 641 ∧ (s.pg .tb).snapDue = some 640 ∧ (s.pg .tb).snapTaken = false ∧ (s.pg .tb).commitDue = none
      ∧ ((up.modPg .tb (fun g => { g with snapTaken := true })).pg .tb).snapTaken = true := by decide +kernel

theorem witness_MirrorsAndQueuedWrites :
    let q (n : Nat) : State := { up with clk := { up.clk with run := 0xFDF } }.modPg (.drv 0) (fun g => { g with queue := List.replicate n (0x018, 1) })
    pageMirrored (.drv 0) = true ∧ up.domOn 1 = true ∧ up.domOn (pageDom (.drv 0)) = true ∧ up.dieAbsent (pageDie (.drv 0)) = false
      ∧ (q 7).busAlive = true ∧ (q 7).busErr (.drv 0) 0x020 = none ∧ (q 7).waits (.drv 0) = true ∧ ((q 7).pg (.drv 0)).queue.length < 8
      ∧ (q 8).busAlive = true ∧ (q 8).busErr (.drv 0) 0x020 = none ∧ (q 8).clkStopped (.drv 0) = true ∧ pageClk .dbg ≠ 2 ∧ up.domOn (pageDom .dbg) = true ∧ 8 ≤ ((q 8).pg (.drv 0)).queue.length
      ∧ up.clkStopped (.drv 0) = false ∧ (up.pg (.drv 0)).queue = [] ∧ pageClk (.drv 0) ≠ 2
      ∧ ((up.modPg (.drv 0) (fun g => { g with queue := [(0x018, 1)] })).pg (.drv 0)).queue = [(0x018, 1)] := by decide +kernel

theorem witness_MirrorsAndQueuedWrites_app :
    let s := { up with clk := { up.clk with run := 0xFFB } }
    s.busAlive = true ∧ s.busErr .prg 0x020 = none ∧ s.waits .prg = true ∧ (s.pg .prg).queue.length < 8
      ∧ pageClk .prg = 2 ∧ s.domOn 2 = true ∧ bit s.clk.lock 0 = true := by decide +kernel

theorem witness_MirrorsAndQueuedWrites_reset :
    let s := up.modPg (.drv 0) (fun g => { g with queue := [(0x00C, 2), (0x018, 1)] })
    s.domOn (pageDom (.drv 0)) = true ∧ s.clkStopped (.drv 0) = false ∧ (s.pg (.drv 0)).lock = false
      ∧ s.resetRefused (.drv 0) = none ∧ (s.pg (.drv 0)).commitDue = none ∧ (s.pg (.drv 0)).queue = [(0x00C, 2), (0x018, 1)] := by
  decide +kernel

/-- The module with the service key on DIN 12, on since TB 0, at TB = 100 ms, and both channels reporting zero speed. -/
def upKey (on : Bool) (m : Mode) : State :=
  { upIn m with
    tb := 16000000, cfg := { (upIn m).cfg with serviceKey := some 12 }, din := upd (upIn m).din 12 (fun x => { x with level := on })
    grd := { up.grd with out := { up.grd.out with zs := true } }, safe := { up.safe with frame := 1 } }

theorem witness_ModeRequests_run : (upIn .config).takes .hif 0x104 false ∧ (upIn .config).mc.busy = false ∧ (upIn .config).mc.mode = .config
    ∧ (upIn .config).mayLeave = true ∧ (upIn .config).degradedDue = false ∧ (upIn .config).cfg.paired = false
    ∧ { upLost 3 with mc := (upIn .config).mc }.degradedDue = true := by
  unfold State.takes; decide +kernel

theorem witness_ModeRequests_service : (upKey true .run).takes .hif 0x104 false ∧ (upKey true .run).runs = true ∧ (upKey true .run).keyOn 100 = true
    ∧ (upKey true .run).zeroSpeed = true ∧ (∀ a, (upKey true .run).atRest a = true) ∧ (upKey true .run).maySleep = true
    ∧ (upKey true .run).wakeActive = false := by
  unfold State.takes; decide +kernel

theorem witness_ModeRequests_hold : (upIn .safeHold).mc.mode = .safeHold ∧ (upIn .safeHold).boot.guardOk = true ∧ (upIn .safeHold).boot.jctOk = true
    ∧ (upIn .safeHold).takes .hif 0x104 false ∧ (upIn .standby).takes .hif 0x104 false ∧ (upIn .safeHold).mayReread = true
    ∧ { upIn .safeHold with grd := { up.grd with halted := true } }.mayReread = false := by
  unfold State.takes; decide +kernel

theorem witness_ModeRequests_refused : { up with mc := { up.mc with busy := true } }.takes .hif 0x104 false ∧ up.maySleep = false
    ∧ (let s := { upKey true .run with mc := { up.mc with pads := 0xF } }.setCom .hif 0x110 1; s.maySleep = true ∧ s.wakeActive = true)
    ∧ (upIn .config).runs = false ∧ (upIn .boot).takes .hif 0x104 false := by
  unfold State.takes; decide +kernel

theorem witness_SleepAndServiceKey :
    (let s := { upKey true .run with mc := { up.mc with busy := true, target := some .sleep } };
     s.mc.target = some .sleep ∧ s.mc.busy = true ∧ s.prg.inCycle = false ∧ s.prg.waitRet = false)
    ∧ (upKey false .service).mc.mode = .service ∧ (upKey false .service).mc.keyLost = false ∧ (upKey false .service).serviceKey = some (false, 0)
    ∧ (∀ a, (upKey false .service).atRest a = true) ∧ (upAx 0 (fun x => { x with st := .decel })).atRest 0 = false := by decide +kernel

end Sys2Proof.Tests
end

