-- ==== Sys2Proof/Tests/WitnessB.lean ====
section
/-! SUPPORT. For each statement of Certificates/Slice0/Obligations.lean with hypotheses, states and operands that meet them: sleep and
boot, events, motion. An image that passes is signed with a key of the device, so the clauses that assume one have no closed witness
here. -/

set_option Elab.async false

namespace Sys2Proof.Tests

open Sys2Proof.Machine

/-- The module asleep, every wake source enabled. -/
def asleep : State :=
  { State.reset with mc := { mode := .sleep, busy := false }, tb := 1000 }.setCom .hif 0x110 0xFF

theorem witness_WakesAndBoot : asleep.mc.mode = .sleep ∧ asleep.mc.busy = false ∧ asleep.mc.wakeHeld = false
    ∧ (asleep.setCom .hif 0x11C 1).com .hif 0x11C ≠ 0 ∧ bit ((asleep.setCom .hif 0x118 0x80000000).com .hif 0x118) 31 = true
    ∧ (∀ k : Fin 8, bit (asleep.com .hif 0x110) k.val = true) ∧ bit ((asleep.setCom .hif 0x110 0).com .hif 0x110) 0 = false
    ∧ { asleep.mc with sleptAt := some 900 }.sleptAt ≠ none ∧ { asleep.rst with aonLost := false }.aonLost = false ∧ asleep.rst.aonLost = true
    ∧ { asleep.mc with peWake := true }.peWake = true ∧ { asleep.mc with wakeHeld := true }.wakeHeld = true := by decide +kernel

/-- A boot after a power-on that has passed its first step, with nothing in Granary. -/
def booting : State :=
  { up with mc := { up.mc with mode := .boot, busy := true }, boot := { started := true }, pwr := { up.pwr with domains := 0x31B } }

theorem witness_FirmwareAndLinkTraining_guard : booting.mc.mode = .boot ∧ booting.boot.started = true ∧ booting.boot.fromJct = false
    ∧ booting.boot.fwBad = false ∧ booting.boot.guardOk = false ∧ booting.sec.fwPend = false ∧ booting.imagesReadable = true
    ∧ booting.guardReason booting.sec.fwCopy ≠ 0 ∧ booting.fwReason (1 - booting.sec.fwCopy) ≠ 0 := by decide +kernel

theorem witness_FirmwareAndLinkTraining_junction :
    let s := { booting with boot := { booting.boot with guardOk := true }, safe := { booting.safe with sealBoot := 2 } }
    s.boot.guardOk = true ∧ s.sealDone = true ∧ s.boot.sixth = false ∧ s.boot.jctOk = false ∧ s.imagesReadable = true ∧ s.jctReason s.sec.fwCopy ≠ 0 ∧ s.fwReason (1 - s.sec.fwCopy) ≠ 0
      ∧ s.otherCopyOk = false := by decide +kernel

theorem witness_FirmwareAndLinkTraining_link :
    (upLink 6 (fun l => { l with st := .training })).links[(6 : Fin 8)].st = .training ∧ up.dieAbsent 6 = false
      ∧ up.links[(6 : Fin 8)].st ≠ .training ∧ up.mute 6 = false ∧ { up with grd := { up.grd with halted := true } }.mute 1 = true
      ∧ up.loaderOnly = false ∧ (let s : State := { booting with mc := { booting.mc with mode := .safeHold } }; s.loaderOnly = true ∧ s.otherCopyOk = false) := by
  decide +kernel

theorem witness_ImagesAndRetainedData :
    let s := { upIn .config with boot := { guardOk := true, jctOk := true } }
    s.mc.mode = .config ∧ s.boot.jctOk = true ∧ s.mc.cause ≠ 0x30 ∧ s.mc.cause ≠ 0x31 ∧ s.boot.cfgOk = false ∧ s.sec.cfgPend = false
      ∧ s.imagesReadable = true ∧ s.cfgReason s.sec.cfgCopy s.grd.word ≠ 0 ∧ s.mayLeave = false
      ∧ (let p := { s with boot := { s.boot with cfgOk := true } }; p.boot.prgOk = false ∧ p.prgReason p.prg.slot ≠ 0)
      ∧ (let r := { s with boot := { s.boot with prgOk := true, canStart := some 5 } }; r.boot.retOk = false ∧ r.boot.canStart = some 5) := by
  decide +kernel

theorem witness_ImagesAndRetainedData_exit :
    let s := { upIn .config with cfg := { up.cfg with autoRun := true } }
    s.mc.mode = .config ∧ s.mayLeave = true ∧ s.cfg.autoRun = true ∧ s.mc.busy = false ∧ s.cfg.paired = false := by decide +kernel

/-- An event of Junction, stamped at TB 100. -/
def ev0 : Event := { stamp := 100, die := 0, source := 0x0300, code := 0x0301 }

/-- The module with that event held, and every die's stamps past it. -/
def upHeld (mark : Nat) : State :=
  { up with tb := 1000, seq := { held := [ev0], limit := 65536 }, links := Vector.replicate 8 { st := .up, mark := some mark } }

theorem witness_EventsTakeSeqInOrder : (upHeld 1000).firstHeld = some ev0 ∧ (upHeld 1000).domOn 1 = true ∧ (upHeld 1000).boot.jctOk = true
    ∧ (∀ x ∈ (upHeld 1000).seq.inside, (upHeld 1000).age x < 2 ^ 47) ∧ up.seq.inside = []
    ∧ (upHeld 1000).releasable ev0 = true ∧ (upHeld 0).firstHeld = some ev0 ∧ (upHeld 0).releasable ev0 = false ∧ up.seq.held = []
    ∧ ev0 ∈ (upHeld 1000).seq.inside ∧ ev0.code ≠ 0xA005 ∧ (upHeld 1000).mem.torn = [] := by
  decide +kernel

/-- The module whose host owns the axes, with a target and a speed set on AX00. -/
def upOwn : State :=
  ({ up with cfg := { up.cfg with axHost := 0xFFF } }.setCom (.ax 0) 0x044 1000).setCom (.ax 0) 0x050 0x00640000

theorem witness_MoveCommands : upOwn.takes (.ax 0) 0x040 true ∧ upOwn.modeMoves = true ∧ (upOwn.pg (.ax 0)).en = true ∧ upOwn.ax[(0 : Fin 12)].st ≠ .halted
    ∧ upOwn.ax[(0 : Fin 12)].halts = [] ∧ upOwn.ax[(0 : Fin 12)].following = false ∧ upOwn.ownsAxis .host 0 = true := by
  unfold State.takes; decide +kernel

theorem witness_MoveCommands_go :
    upOwn.axRefusal .host 0 0 (upOwn.mvFields 0 0 false) (upOwn.ax[(0 : Fin 12)].lastEnd.getD upOwn.ax[(0 : Fin 12)].commitPos) = none
    ∧ upOwn.axRefusal .host 0 1 (upOwn.mvFields 0 0 false) upOwn.ax[(0 : Fin 12)].commitPos = none := by decide +kernel

theorem witness_MoveCommands_rel :
    let s := { upOwn with ax := upd upOwn.ax 0 (fun x => { x with queue := [upOwn.mvFields 0 0 false] }) }
    s.ax[(0 : Fin 12)].lastEnd = some 1000
      ∧ s.axRefusal .host 0 1 { s.mvFields 0 1 false with goal := s.ax[(0 : Fin 12)].commitPos + (s.mvFields 0 1 false).goal } s.ax[(0 : Fin 12)].commitPos = none
      ∧ s.axRefusal .host 0 0 { s.mvFields 0 1 false with goal := 1000 + (s.mvFields 0 1 false).goal } 1000 = none := by decide +kernel

theorem witness_MoveCommands_refused :
    16 ≤ (upAx 0 (fun x => { x with queue := List.replicate 16 (upOwn.mvFields 0 0 false) })).ax[(0 : Fin 12)].queue.length
    ∧ (upIn .config).modeMoves = false ∧ (upAx 0 (fun x => { x with st := .halted })).ax[(0 : Fin 12)].st = .halted
    ∧ up.ownsAxis .host 0 = false ∧ up.modeMoves = true := by decide +kernel

theorem witness_PeriodsAndPlannerTakes :
    let m := upOwn.mvFields 0 0 false
    let s := { upOwn with ax := upd upOwn.ax 0 (fun x => { x with taken := [(0, .go m false 0), (1, .qstop)] }) }
    (∀ a : Fin 12, s.pairx.ax[a].due = false) ∧ s.ax[(0 : Fin 12)].engine = none ∧ (s.pg (.ax 0)).en = true ∧ s.ax[(0 : Fin 12)].following = false
      ∧ (∃ e ∈ s.ax[(0 : Fin 12)].taken, e.1 ≤ s.tb / 10000) ∧ (∃ e ∈ s.ax[(0 : Fin 12)].taken, s.tb / 10000 < e.1)
      ∧ s.ax[(0 : Fin 12)].took = none ∧ s.ax[(0 : Fin 12)].halts = [] ∧ s.ax[(0 : Fin 12)].st ≠ .halted
      ∧ bit (s.com (.gear 0) 0x060) 0 = false ∧ s.ax[(0 : Fin 12)].st = .idle ∧ s.ax[(0 : Fin 12)].active = false ∧ s.ax[(0 : Fin 12)].queue = []
      ∧ (∀ q ∈ s.ax[(0 : Fin 12)].furrow, q.early = 0 ∧ q.done = 0 ∧ q.drop = 0) ∧ s.gear[(0 : Fin 12)].waiting = none ∧ s.portalOf 0 = none
      ∧ (upAx 0 (fun x => { x with engine := some 2 })).ax[(0 : Fin 12)].engine ≠ none ∧ (upAx 0 (fun x => { x with furrow := [{}] })).ax[(0 : Fin 12)].furrow ≠ [] := by decide +kernel

theorem witness_SetpointsAreApplied :
    up.drv[(0 : Fin 12)].clock = 10000 ∧ up.drv[(0 : Fin 12)].motLost = false ∧ { up.drv[(0 : Fin 12)] with motLost := true }.motLost = true ∧ up.ax[(0 : Fin 12)].halts = [] ∧ up.drv[(0 : Fin 12)].acc / 2 ^ 24 = up.drv[(0 : Fin 12)].sp.endPos
    ∧ (let d : Drive := { next := [(1, { rate0 := 5 })] };
       (d.next.find? (fun e => e.1 = max (d.per + 1) (up.tb / 10000))).isSome = true ∧ up.drv[(0 : Fin 12)].next.find? (fun e => e.1 = max (0 + 1) (0 / 10000)) = none)
    ∧ ({ up.drv[(0 : Fin 12)] with acc := 2 ^ 24 } : Drive).acc / 2 ^ 24 ≠ up.drv[(0 : Fin 12)].sp.endPos
    ∧ (({ clock := 0, rate := 2 ^ 47 } : Drive).toEmit 10000).2 = true ∧ (up.drv[(0 : Fin 12)].toEmit (10000 - up.drv[(0 : Fin 12)].clock)).2 = false := by
  decide +kernel

end Sys2Proof.Tests
end

