-- ==== Sys2Proof/Tests/WitnessC.lean ====
section
/-! SUPPORT. For each statement of Certificates/Slice0/Obligations.lean with hypotheses, states and operands that meet them: coil
drive, feedback, coordination, doors, HSPI. -/

set_option Elab.async false

namespace Sys2Proof.Tests

open Sys2Proof.Machine

/-- The module with one axis's coils changed. -/
def upCoil (a : Fin 12) (f : Coils → Coils) : State := { up with coil := upd up.coil a f }

theorem witness_VoltageAndStandstill : up.coil[(0 : Fin 12)].coil = .free
    ∧ (let s := upCoil 0 (fun x => { x with coil := .driven }); s.coil[(0 : Fin 12)].coil = .driven ∧ s.drv[(0 : Fin 12)].rate = 0
        ∧ s.cf (.drv 0) 0x04C 0 1 = 0 ∧ s.coil[(0 : Fin 12)].coil ≠ .holding)
    ∧ (upCoil 0 (fun x => { x with coil := .holding })).coil[(0 : Fin 12)].coil = .holding
    ∧ up.drv[(0 : Fin 12)].motLost = false ∧ { up.drv[(0 : Fin 12)] with motLost := true }.motLost = true
    ∧ up.watch[(0 : Fin 12)].hold = false ∧ { up.watch[(0 : Fin 12)] with hold := true }.hold = true
    ∧ up.updateAt 0 % (2 * 2500) = 0 ∧ ({ up with tb := 1 }.updateAt 0) % (2 * 2500) ≠ 0
    ∧ (upCoil 0 (fun x => { x with updAt := some 0 })).updateAt 0 = 2500
    ∧ (State.runTo 0 0 runFuel (upCoil 0 (fun x => { x with coil := .driven }))).coil[(0 : Fin 12)].coil = .driven
    ∧ (up.setCom (.drv 0) 0x070 0).cf (.drv 0) 0x070 24 1 = 0 ∧ (99 : Int).natAbs < 100 := by decide +kernel

/-- Driven coils at rest with a position error, stalled for two periods. -/
def upStall (enc err : Nat) (run : Nat) : State :=
  { (upCoil 0 (fun x => { x with coil := .driven, posErr := err })) with watch := upd up.watch 0 (fun w => { w with stallRun := run }) }.setCom (.fb 0) 0x058
    (BitVec.ofNat 32 enc)

theorem witness_LoadAngleAndStall :
    let n := up.cf (.drv 0) 0x078 8 8
    let e := up.cf (.drv 0) 0x07C 0 16
    let s := upStall 1 (e + 1) (n - 1)
    s.coil[(0 : Fin 12)].coil = .driven ∧ (fullStepNum s.drv[(0 : Fin 12)].sp.rate0).natAbs < s.cf (.drv 0) 0x07C 16 16 * 2 ^ 56
      ∧ s.dieAbsent (ploughDie 0) = false ∧ s.hasEncoder 0 = true ∧ s.cf (.drv 0) 0x07C 0 16 < s.coil[(0 : Fin 12)].posErr.natAbs
      ∧ s.cf (.drv 0) 0x078 8 8 ≤ s.watch[(0 : Fin 12)].stallRun + 1 ∧ s.watch[(0 : Fin 12)].stalled = false
      ∧ (upStall 1 (e + 1) (n - 2)).watch[(0 : Fin 12)].stallRun + 1 < n ∧ (upStall 1 e 0).hasEncoder 0 = true
      ∧ (upStall 1 e 0).coil[(0 : Fin 12)].posErr.natAbs ≤ e ∧ (upStall 0 e 0).hasEncoder 0 = false := by decide +kernel

/-- The module with fault bits set on AX00's coils, its over-current at TB 0, its gate drive as given, at an instant. -/
def upFault (flags : Word) (low : Bool) (t : Nat) : State :=
  { (upCoil 0 (fun x => { x with flags := flags })) with tb := t, watch := upd up.watch 0 (fun w => { w with gdrvLow := low }) }

theorem witness_BridgeFaults : (upCoil 0 (fun x => { x with coil := .holding })).coil[(0 : Fin 12)].coil = .holding ∧ up.coil[(0 : Fin 12)].coil = .free
    ∧ (upFault 1 false 1599999).takes (.drv 0) 0x084 true ∧ bit (1 : Word) 0 = true ∧ bit (upFault 1 false 1599999).coil[(0 : Fin 12)].flags 0 = true
    ∧ (upFault 1 false 1599999).tb < (upFault 1 false 1599999).watch[(0 : Fin 12)].ocAt + 1600000
    ∧ bit (upFault 8 true 0).coil[(0 : Fin 12)].flags 3 = true ∧ (upFault 8 true 0).watch[(0 : Fin 12)].gdrvLow = true
    ∧ (upFault 1 false 1600000).watch[(0 : Fin 12)].ocAt + 1600000 ≤ (upFault 1 false 1600000).tb
    ∧ (true = (bit (9 : Word) 0 && bit (upFault 9 true 5).coil[(0 : Fin 12)].flags 0 && decide ((upFault 9 true 5).tb < (upFault 9 true 5).watch[(0 : Fin 12)].ocAt + 1600000)))
    ∧ (true = (bit (9 : Word) 3 && bit (upFault 9 true 5).coil[(0 : Fin 12)].flags 3 && (upFault 9 true 5).watch[(0 : Fin 12)].gdrvLow))
    ∧ (upFault 1 false 1600000).coil[(0 : Fin 12)].flags &&& 0xF ≠ 0 ∧ bit (1 : Word) 3 = false := by
  unfold State.takes; decide +kernel

theorem witness_BridgeFaults_open :
    let s := upCoil 0 (fun x => { x with coil := .driven, pwm := List.replicate 64 ((19, 200), (20, 200)) })
    s.phaseOpen 0 false = true ∧ s.phaseOpen 0 true = false ∧ s.dieAbsent (ploughDie 0) = false := by decide +kernel

theorem witness_BridgeFaults_gate : up.gateOn 0 = false ∧ up.heldSide 0 = 0 ∧ up.watch[(0 : Fin 12)].live = false
    ∧ { up.watch[(0 : Fin 12)] with live := true }.live = true ∧ up.ax[(0 : Fin 12)].moves = false
    ∧ (upAx 0 (fun x => { x with furrow := [{ w0 := 1 }] })).ax[(0 : Fin 12)].moves = true
    ∧ (let s := { up with grd := { up.grd with out := { up.grd.out with gate := 1 } }, sbx := { up.sbx with out := { up.sbx.out with gate := 1 } } };
       s.gateOn 0 = true ∧ { s with mc := (upIn .config).mc }.gateOn 0 = true ∧ { s with mc := (upIn .config).mc }.axesOff = true) ∧ (upCoil 0 (fun x => { x with gateCut := true })).coil[(0 : Fin 12)].gateCut = true
    ∧ { up with safe := { up.safe with gateHeld := 0x002 } }.heldSide 1 ≠ 0 := by decide +kernel

/-- The module with a feedback channel in a mode. -/
def upFb (m : Word) (f : Fb → Fb) : State := { up with fb := upd up.fb 2 f }.setCom (.fb 2) 0x058 m

theorem witness_EncoderDecoding_quad : (upFb 1 id).fbMode 2 = 1 ∧ (upFb 1 id).encFault 2 = false
    ∧ (∀ k : Fin 4, (quadPlace (k = 1 || k = 2) (k = 2 || k = 3) + 4 - quadPlace (upFb 1 id).fb[(2 : Fin 14)].lvA (upFb 1 id).fb[(2 : Fin 14)].lvB) % 4 = k.val)
    ∧ (upFb 1 id).fb[(2 : Fin 14)].window = none
    ∧ (upFb 9 (fun x => { x with lastDir := 1 })).cf (fbPage 2) 0x058 3 1 = 1 ∧ (upFb 5 id).cf (fbPage 2) 0x058 2 1 = 1
    ∧ (upFb 1 (fun x => { x with lvA := true, lvB := true })).fb[(2 : Fin 14)].lvB = true
    ∧ (upFb 1 id).fb[(2 : Fin 14)].tooShort 0 0 ((upFb 1 id).fbFilt 2) = false ∧ (upFb 1 id).fb[(2 : Fin 14)].tooShort 1 0 ((upFb 1 id).fbFilt 2) = false
    ∧ (upFb 1 id).fb[(2 : Fin 14)].tooShort 2 0 (2 * (upFb 1 id).fbFilt 2) = false
    ∧ (let s := upFb 0x51 (fun x => { x with edges := Vector.replicate 3 (some 100) })
       s.fbMode 2 = 1 ∧ s.fb[(2 : Fin 14)].tooShort 0 104 (s.fbFilt 2) = true ∧ s.fb[(2 : Fin 14)].tooShort 0 105 (s.fbFilt 2) = false
         ∧ s.fb[(2 : Fin 14)].tooShort 2 109 (2 * s.fbFilt 2) = true ∧ s.fb[(2 : Fin 14)].tooShort 2 110 (2 * s.fbFilt 2) = false) := by decide +kernel

/-- A channel in MODE 2 with a 13-bit sensor, its frame as given. -/
def upSsi (frame : Option Nat) : State := { upFb 2 id with fbx := upd up.fbx 2 (fun x => { x with frame := frame }) }.setCom (.fb 2) 0x060 0x0000000D

theorem witness_EncoderDecoding_ssi : (upSsi none).fbMode 2 = 2 ∧ (upSsi none).encFault 2 = false ∧ (upSsi none).fbx[(2 : Fin 14)].frame = none
    ∧ (upSsi none).fbx[(2 : Fin 14)].lastFrame = none
    ∧ (let s : State := { upSsi none with cfg := { up.cfg with paired := true } }; s.cfg.paired = true ∧ s.pair.actO = false ∧ s.fbMode 2 = 2
        ∧ { s with pair := { s.pair with actO := true } }.pair.actO = true) ∧ (upSsi none).cfg.paired = false
    ∧ (let s := upSsi none; 0 + s.cf (fbPage 2) 0x068 0 5 ≤ { s with period := 32 }.period
        ∧ 0 * 10000 + { s with period := 32 }.ssiClocks 2 + 160 * { s with period := 32 }.cf (fbPage 2) 0x064 24 6 ≤ 32 * 10000) ∧ (upSsi (some 0)).fbx[(2 : Fin 14)].frame = some 0
    ∧ bit ((upSsi none).com (fbPage 2) 0x060) 13 = false ∧ 0x1234 % 2 ^ 0 &&& fld ((upSsi none).com (fbPage 2) 0x060) 16 5 = 0
    ∧ (upSsi none).cf (fbPage 2) 0x06C 0 24 = 0 ∧ (upSsi none).fbx[(2 : Fin 14)].prev = none := by decide +kernel

theorem witness_EncoderServices : (upFb 1 (fun x => { x with flags := 1 })).takes (fbPage 2) 0x084 true ∧ bit (1 : Word) 0 = true
    ∧ bit (upFb 1 (fun x => { x with flags := 1 })).fb[(2 : Fin 14)].flags 0 = true ∧ (upFb 1 (fun x => { x with flags := 1 })).encFault 2 = true
    ∧ (upFb 1 (fun x => { x with flags := 1, vencLow := true })).fb[(2 : Fin 14)].vencLow = true ∧ (upFb 1 id).fb[(2 : Fin 14)].still = true
    ∧ (upFb 1 id).encFault 2 = false ∧ (upFb 1 id).fbMode 2 ≠ 0 ∧ up.fbMode 2 = 0
    ∧ fbOf 2 = 2 ∧ (upFb 1 id).hasEncoder 2 = true ∧ (upFb 1 id).takes (fbPage 2) 0x040 true ∧ (upFb 1 id).fbMode 2 ≠ 2
    ∧ axisOf 2 = some 2 ∧ (upFb 1 id).atRest 2 = true ∧ (upFb 2 id).takes (fbPage 2) 0x040 true ∧ (upFb 2 id).fbMode 2 = 2
    ∧ (∀ a, axisOf 2 = some a → .stall ∉ (upFb 1 id).ax[a].halts) ∧ (upAx 2 (fun x => { x with halts := [.stall] })).ax[(2 : Fin 12)].halts = [.stall]
    ∧ (upAx 2 (fun x => { x with st := .accel })).atRest 2 = false ∧ (upFb 0 id).fbMode 2 ≠ 1 := by
  unfold State.takes; decide +kernel

theorem witness_EncoderServices_probe :
    let s := (upFb 1 id).setCom (.fb 2) 0x078 0x00000101
    bit (s.com (fbPage 2) 0x078) 0 = true ∧ bit (s.com (fbPage 2) 0x078) 1 = false ∧ bit (s.com (fbPage 2) 0x078) 8 = true
      ∧ bit (((upFb 1 id).setCom (.fb 2) 0x078 1).com (fbPage 2) 0x078) 8 = false ∧ s.fbx[(2 : Fin 14)].prb[(0 : Fin 4)].pend = []
      ∧ (let x : FbAux := { prb := upd (Vector.replicate 4 {}) 0 (fun q => { q with pend := [5, 23], edge := some 23 }) };
         x.prb[(0 : Fin 4)].pend = 5 :: [23] ∧ x.prb[(0 : Fin 4)].pend ≠ [] ∧ x.prb[(0 : Fin 4)].edge = some 23 ∧ 58 - 18 < 23 + 18
           ∧ ¬ (59 - 18 < 23 + 18))
      ∧ s.fbMode 2 ≠ 2 ∧ s.dieAbsent (pageDie (fbPage 2)) = false
      ∧ bit s.fb[(2 : Fin 14)].flags 4 = false ∧ bit (upFb 1 (fun x => { x with flags := 0x10 })).fb[(2 : Fin 14)].flags 4 = true := by decide +kernel

theorem witness_EncoderServices_din : up.domOn 8 = true ∧ up.din[(47 : Fin 48)].level ≠ true ∧ up.din[(47 : Fin 48)].level = false
    ∧ State.reset.domOn 8 = false ∧ up.boot.started = true ∧ State.reset.boot.started = false ∧ up.dieAbsent 6 = false
    ∧ 5 + 160 * dinTime up.cfg.dinFilt[(47 : Fin 48)] ≤ 50000000 ∧ ¬ (5 + 160 * dinTime up.cfg.dinFilt[(47 : Fin 48)] ≤ 5) := by decide +kernel

/-- The module whose host owns the axes, AX02 geared to the encoder of channel FB00. -/
def upGear : State := (({ up with cfg := { up.cfg with axHost := 0xFFF } }.setCom (.gear 2) 0x05C 0).setCom (.fb 0) 0x058 1)

theorem witness_EngineFollows_gear : upGear.takes (.gear 2) 0x040 true ∧ upGear.engageRefusal .host 2 2 (upGear.gearSrc 2) = none
    ∧ up.engageRefusal .host 2 2 (up.gearSrc 2) = some 0x42 ∧ (upIn .config).modeMoves = false ∧ up.ax[(2 : Fin 12)].engine = none
    ∧ (upAx 2 (fun x => { x with engine := some 2 })).ax[(2 : Fin 12)].engine = some 2 ∧ up.ax[(2 : Fin 12)].engine ≠ some 2
    ∧ up.gear[(2 : Fin 12)].arm = none ∧ ({ arm := some (1, 1, 0, 0) } : Gear).arm ≠ none := by
  unfold State.takes; decide +kernel

theorem witness_EngineFollows_cam :
    let s := upGear.setCom (.cam 1) 0x044 0x00000002
    s.takes (enginePage 17) 0x040 true ∧ s.camAxis 1 = 2 ∧ s.engageRefusal .host (s.camAxis 1) 17 (s.camSrc 1) = none
      ∧ up.engageRefusal .host (up.camAxis 1) 17 (up.camSrc 1) = some 0x42
      ∧ (upAx 0 (fun x => { x with engine := some 17 })).ax[up.camAxis 1].engine = some 17 ∧ up.ax[up.camAxis 1].engine ≠ some 17 := by
  unfold State.takes; decide +kernel

theorem witness_EngineFollows_group :
    let s := { up with gear := upd up.gear 3 (fun g => { g with waiting := some 2 }) }.setCom (.gear 3) 0x060 0x00010001
    3 ∈ s.members 0 ∧ s.groupDeadline 3 = some 180000 ∧ s.gear[(3 : Fin 12)].waiting.isSome = true ∧ (∀ a ∈ up.members 1, up.groupDeadline a = none)
      ∧ 4 ∉ s.members 0 := by decide +kernel

/-- The module with portal 0 of side 0 in use, leaf AX00, edge SEDG2, DIN 5 its open switch, in a state and a phase, with its inputs. -/
def upPtl (st : PtlState) (h : PtlPhase) (i : PtlIn) (rel : Bool) : State :=
  { up with
    cfg := { up.cfg with assign0 := upd up.cfg.assign0 0 (fun _ => 0xFFC5FFF0), assign1 := upd up.cfg.assign1 0 (fun _ => 0x00001F02) }
    ptl := upd up.ptl 0 (fun x => { x with st := st }), ptlRun := upd up.ptlRun 0 (fun x => { x with phase := h }), ptlIn := upd up.ptlIn 0 (fun _ => i)
    side := upd up.side 0 (fun x => { x with relGrd := rel, relSbx := rel }) }

/-- That module with edge 2 actuated. -/
def pressed (s : State) : State := { s with edges := upd s.edges 2 (fun x => { x with reading := 2 }) }

theorem witness_DoorCycleEvaluates : (upPtl .closing .moves {} false).ptlUsed 0 = true ∧ up.ptlUsed 0 = false ∧ (upPtl .open .idle {} false).mc.mode = .run
    ∧ ({ iso := true } : PtlIn).iso = true ∧ ({ egress := true } : PtlIn).egress = true ∧ 7 ∈ ({ causes := [7] } : PtlIn).causes
    ∧ (upPtl .closing .moves {} true).edgeActive 0 = false ∧ (pressed (upPtl .closing .moves { edgeHeld := true } true)).edgeKnown 0 = true
    ∧ (pressed (upPtl .closing .moves { edgeSeq := some 4 } true)).edgeKnown 0 = true ∧ (upIn .boot).mc.mode = .boot
    ∧ ((pressed (upPtl .closing .moves { edgeHeld := true } true)).doorTurn 0).doorQuiet 0 ∧ (upPtl .closing .moves {} true).ptl[(0 : Fin 8)].refRun = false
    ∧ ((upPtl .released .idle {} false).doorTurn 0).doorQuiet 0 ∧ (upPtl .released .idle {} false).sideRelease 0 = false
    ∧ ((upPtl .released .idle { reqs := [⟨1, 0⟩] } true).doorTurn 0).doorQuiet 0
    ∧ (upPtl .released .idle { reqs := [⟨1, 0⟩] } true).sideRelease ((upPtl .released .idle { reqs := [⟨1, 0⟩] } true).sideOf 0) = true
    ∧ (upPtl .closing .moves {} true).doorAt ≤ (upPtl .closing .moves {} true).tb := by
  unfold State.doorQuiet; decide +kernel

/-- What the clauses of PortalTimersExpire ask of a state: the timer of portal 0 runs, nothing higher is due, and release stands. -/
def timerReady (s : State) (k : Timer) (d : Nat) : Prop :=
  s.deadline 0 k = some d ∧ ((s.to d).doorTurn 0).doorQuiet 0 ∧ s.doorHeld 0

/-- Portal 0 with one timer running to 500,000. -/
def upTimer (st : PtlState) (h : PtlPhase) (k : Timer) (closed locked : Bool) : State :=
  upPtl st h { timers := [(k, 500000)], closedSw := closed, lockedSw := locked } true

theorem witness_PortalTimersExpire_warn : timerReady (upTimer .closeWarn .idle .cw false false) .cw 500000
    ∧ (upTimer .closeWarn .idle .cw false false).edgeKnown 0 = false ∧ (upTimer .closeWarn .idle .cw false false).ptlIn[(0 : Fin 8)].edgeSeq = none
    ∧ (((upTimer .closeWarn .idle .cw false false).to 500000).doorTurn 0).gateIsCut 0 = false
    ∧ (upTimer .closeWarn .idle .cw false false).ptlRun[(0 : Fin 8)].needRef = false
    ∧ ({ needRef := true } : PtlRun).needRef = true ∧ up.deadline 0 .cw = none := by
  unfold timerReady State.doorQuiet State.doorHeld; decide +kernel

theorem witness_PortalTimersExpire_holds : timerReady (upTimer .reopenHold .idle .reopen false false) .reopen 500000
    ∧ timerReady (upTimer .reopenHold .idle .nudgePause false false) .nudgePause 500000 ∧ timerReady (upTimer .open .idle .autoClose false false) .autoClose 500000
    ∧ (∀ k ∈ [Timer.reopen, .nudgePause, .refWait, .step], k ≠ .reopen → (upTimer .reopenHold .idle .reopen false false).deadline 0 k = none) := by
  unfold timerReady State.doorQuiet State.doorHeld; decide +kernel

theorem witness_PortalTimersExpire_locks : timerReady (upTimer .opening .unlock .unlock true true) .unlock 500000
    ∧ timerReady (upTimer .locking .idle .lock true false) .lock 500000 ∧ timerReady (upTimer .locking .pulse .retry true false) .retry 500000
    ∧ (upTimer .locking .idle .lock true false).ptlRun[(0 : Fin 8)].phase ≠ .pulse ∧ (upTimer .locking .idle .lock true false).ptlIn[(0 : Fin 8)].edgeSeq = none
    ∧ (upTimer .locking .idle .lock true false).ptlRun[(0 : Fin 8)].retries < fld ((upTimer .locking .idle .lock true false).limWord 0 3) 4 3
    ∧ fld (up.limWord 0 3) 4 3 ≤ ({ retries := 2 } : PtlRun).retries := by
  unfold timerReady State.doorQuiet State.doorHeld; decide +kernel

theorem witness_PortalTimersExpire_switches : timerReady (upTimer .closing .gap .swClosed false false) .swClosed 500000
    ∧ timerReady (upTimer .open .idle .swOpen false false) .swOpen 500000
    ∧ (upTimer .open .idle .swOpen false false).dinSeq (fld (upTimer .open .idle .swOpen false false).cfg.assign0[(0 : Fin 8)] 16 6) = false
    ∧ (upTimer .locking .idle .swConflict false true).deadline 0 .swConflict = some 500000
    ∧ (upTimer .locking .idle .swConflict false true).ptlIn[(0 : Fin 8)].lockedSw = true := by
  unfold timerReady State.doorQuiet State.doorHeld; decide +kernel

theorem witness_PortalRequestsAndEdges :
    let s := (upPtl .released .idle {} true).setCom (.ptl 0) 0x0F8 2
    s.takes (.ptl 0) 0x040 true ∧ bit (s.com (.ptl 0) 0x0F8) 1 = true ∧ s.ptlUsed 0 = true ∧ s.mc.mode = .run
      ∧ bit (up.com (.ptl 0) 0x0F8) 1 = false ∧ up.ptlUsed 0 = false ∧ s.takes (.ptl 0) 0x040 false ∧ s.takes (.side 0) 0x040 true
      ∧ (0 : Fin 8) ∈ s.portalsOf 0 ∧ (1 : Fin 8) ∉ s.portalsOf 0 ∧ s.noGranary = false ∧ (upLost 7).noGranary = true ∧ (upLost 7).takes (.ptl 0) 0x040 false := by
  unfold State.takes; decide +kernel

theorem witness_PortalRequestsAndEdges_edge :
    let s := upPtl .released .idle {} true
    let t (x : Edge) (flags : Word) : State := { s with edges := upd s.edges 2 (fun _ => x), ptl := upd s.ptl 0 (fun y => { y with flags := flags }) }
    (let u := t { last := 3, run := 100, reading := 1 } 0; u.edges[(2 : Fin 16)].last = 3 ∧ 100 ≤ u.edges[(2 : Fin 16)].run ∧ u.edges[(2 : Fin 16)].reading ≠ 3)
      ∧ (t { last := 3, run := 99, reading := 1 } 0).edges[(2 : Fin 16)].run < 100
      ∧ (let u := t { reading := 1 } 0x40; u.edgeFault 0 = true ∧ (∀ x ∈ u.edgesOf 0, u.edges[x].reading = 1) ∧ u.edgesOf 0 ≠ [])
      ∧ up.domOn 8 = true ∧ up.boot.started = true ∧ State.reset.domOn 8 = false ∧ s.edgeFault 0 = false ∧ (s.edgeUsers 2).contains 0 = true := by decide +kernel

theorem witness_HspiAndFloko : State.reset.domOn 1 = false := by decide +kernel

theorem witness_HspiAndFloko_serving : up.busAlive = true ∧ pageAt up.hspi.page = some .hif ∧ 0x1FFC % 4 = 0 ∧ up.takes .hif 0x040 false
    ∧ (∀ q : Fin 8, up.evq[q].running = false) ∧ (up.hif.agree ≠ 1) ∧ ({ running := true } : Evq).running = true
    ∧ (∀ q : Fin 8, up.evq[q].dueVec = false) ∧ up.hspi.fifo = [] ∧ { up.hspi with fifo := [[1, 2, 3, 4]] }.fifo = [[1, 2, 3, 4]]
    ∧ State.reset.busAlive = false
    ∧ pageAt { up.hspi with page := 1 }.page = some .clk ∧ up.domOn 1 = true ∧ up.readErr .clk 0x040 = none ∧ (up.pg .clk).snapHeld = false
    ∧ up.hspi.lost = none := by
  unfold State.takes; decide +kernel

theorem witness_HspiAndFloko_v1 :
    let s := { (upPtl .released .idle {} true).setCom (.ptl 0) 0x0F8 2 with hif := { up.hif with agree := 1 } }
    s.busAlive = true ∧ s.hif.agree = 1 ∧ bit (s.com (.ptl (Fin.ofNat 8 s.hspi.sel)) 0x0F8) 1 = true ∧ s.ptlUsed (Fin.ofNat 8 s.hspi.sel) = true
      ∧ s.mc.mode = .run ∧ bit ({ up with hif := { up.hif with agree := 1 } }.com (.ptl 0) 0x0F8) 1 = false := by decide +kernel

end Sys2Proof.Tests
end

