-- ==== Sys2Proof/Tests/WitnessD.lean ====
section
/-! SUPPORT. For each statement of Certificates/Slice0/Obligations.lean with hypotheses, states and operands that meet them: the
image window, the safety channels, the load switches. -/

set_option Elab.async false

namespace Sys2Proof.Tests

open Sys2Proof.Machine

theorem witness_ImageLoadWindow : State.reset.domOn 1 = false ∧ up.busAlive = true ∧ { up.hif with agree := 1 }.agree < 2 ∧ 2 ≤ up.hif.agree
    ∧ (upLost 7).noGranary = true ∧ (upLost 7).busAlive = true ∧ up.noGranary = false ∧ up.memOk ∧ up.prg.loadOpen = false ∧ up.sec.loadOpen = false
    ∧ { up.prg with loadOpen := true }.loadOpen = true ∧ { up.sec with loadOpen := true }.loadOpen = true
    ∧ (let s := { upIn .safeHold with boot := {} }; s.loaderOnly = true ∧ s.domOn 1 = true ∧ s.noGranary = false)
    ∧ up.takes .prg (0x800 + 4 * 511) false ∧ 0x3FFFFF < 0x400000
    ∧ (∀ j ∈ [0x400000, 0xBFFFFF, 0xC00000, 0xDFFFFF], 0x400000 ≤ j ∧ j < 0xE00000) := by
  unfold State.takes State.memOk; decide +kernel

/-- A seal word: one side, portal 0 in use, its closed contacts test-pulsed. -/
def sealW : Word := 0x10000004

/-- The module with a safety channel that evaluates that word. -/
def upChan (sbx : Bool) (f : Channel → Channel) : State := up.modChan sbx (fun c => f { c with running := true, word := some sealW, sealOk := true })

theorem witness_SafetyEvaluation : up.sbx.evaluates = false ∧ up.grd.evaluates = false
    ∧ (∀ sbx : Bool, ((upChan sbx id).chan sbx).evaluates = true ∧ ((upChan sbx id).chan sbx).word = some sealW)
    ∧ sealOkWord sealW = true ∧ (sealRole sealW 0).pulsed sealW = false ∧ bit (1 : Word) 0 ≠ ((upChan true id).chan true).sin[(0 : Fin 32)].a.level := by
  decide +kernel

theorem witness_SafetyFaultsAndSeal (sbx : Bool) (k : Fin 4) :
    let s := upChan sbx (fun c => { c with tp := upd c.tp k (fun x => { x with fell := some 0 }), sin := upd c.sin 0 (fun x => { x with disc := some 0 }) })
    (s.chan sbx).evaluates = true ∧ (s.chan sbx).word = some sealW ∧ (s.chan sbx).sin[(0 : Fin 32)].disc = some 0
      ∧ (s.chan sbx).sin[(1 : Fin 32)].disc = none ∧ (s.chan sbx).sin[(0 : Fin 32)].fault = 0 ∧ (s.chan sbx).tp[k].fell = some 0
      ∧ (s.chan sbx).tp[k].fault = false ∧ s.tb < 0 + 3200
      ∧ (let t := { s with tb := 3200 }; 0 + 3200 ≤ t.tb ∧ t.tb < 0 + 80000)
      ∧ (let t := { s with safe := { s.safe with tpDue := some 9, tpNext := k.val } }; t.safe.tpDue = some 9 ∧ t.safe.tpNext = k.val ∧ t.safe.tpNext ≠ (k + 1).val) := by
  revert sbx k; decide +kernel

theorem witness_SafetyFaultsAndSeal_pulsed : (∃ k : Fin 4, pulsedFrom sealW k ≠ []) ∧ (∃ k : Fin 4, ∃ m : Fin 32, m ∉ pulsedFrom sealW k) := by decide +kernel

theorem witness_SafetyFaultsAndSeal_sequence : up.domOn 4 = true ∧ up.sbx.halted = false ∧ up.safe.sealRun = 0 ∧ up.safe.sealBoot = 0
    ∧ { up.safe with sealBoot := 1 }.sealBoot = 1 ∧ up.boot.guardOk = true ∧ up.grd.halted = false ∧ 2 ≤ { up.safe with sealBoot := 2 }.sealBoot
    ∧ { up.safe with reread := true }.reread = true ∧ up.safe.reread = false ∧ State.reset.domOn 4 = false := by decide +kernel

theorem witness_SafetyFaultsAndSeal_end :
    let r : SealRead := (sealW, ~~~sealW, 0, 0)
    let s : State := { up with safe := { up.safe with sealRun := 2 } }
    (r.1 = ~~~r.2.1 ∧ r.2.2 = (0, 0) ∧ sealOkWord r.1 = true) ∧ s.safe.sealRun ≠ 0 ∧ s.safe.sealRun ≠ 3 ∧ s.sbx.word = none ∧ s.sbx.halted = false
      ∧ s.boot.guardOk = true ∧ s.grd.word = none ∧ s.grd.halted = false ∧ (upChan true id).sbx.word = some sealW ∧ (upChan false id).grd.word = some sealW := by
  decide +kernel

theorem witness_GuardAndOutputFaults : (∀ sbx : Bool, bit (up.chan sbx).out.sout 3 = false ∧ bit (up.chan sbx).outFault 3 = false
      ∧ bit (up.chan sbx).out.sout 3 ≠ true ∧ bit ((upChan sbx (fun c => { c with outFault := 8 })).chan sbx).outFault 3 = true)
    ∧ ((upChan true (fun c => { c with halted := true })).chan true).halted = true ∧ up.grd.halted = false ∧ { up.grd with halted := true }.halted = true
    ∧ up.safe.diffs = [] ∧ (17, 5) ∈ { up.safe with diffs := [(17, 5)] }.diffs ∧ (∀ d ∈ { up.safe with diffs := [(17, 5)] }.diffs, 5 ≤ d.2)
    ∧ bit up.safe.divPermit 17 = false ∧ up.mc.mode = .run ∧ up.safe.mapDiff = false ∧ (0 : Word) &&& 0xFFF = up.gateMapCfg
    ∧ (1 : Word) &&& 0xFFF ≠ up.gateMapCfg ∧ up.lockGates = []
    ∧ { up.safe with latchOff := true }.latchOff = true := by decide +kernel

/-- The module whose host owns the load channels. -/
def upLoads : State := { up with cfg := { up.cfg with lswHost := 0xFFFFFF } }

theorem witness_LoadCommandsAndChecks : upLoads.takes (.lsw 23) 0x040 true ∧ upLoads.takes (.lsw 23) 0x044 true ∧ upLoads.lswOwner 23 = .host
    ∧ up.lswOwner 23 ≠ .host ∧ upLoads.modeMoves = true ∧ (upIn .config).modeMoves = false ∧ upLoads.dieAbsent 5 = false ∧ upLoads.domOn 7 = true := by
  unfold State.takes; decide +kernel

/-- The module under command, one load channel changed. -/
def upCh (f : Lsw → Lsw) : State := { up with lswg := { up.lswg with wdt := .running, gates := [(0, 4)] }, lsw := upd up.lsw 4 f }

theorem witness_LoadCommandsAndChecks_output : (upCh id).lsw[(4 : Fin 24)].out = 0 ∧ (upCh id).lswg.uv = false
    ∧ ((upCh id).setCom (.lsw 4) 0x054 1).cf (.lsw 4) 0x054 0 1 = 1 ∧ (upCh id).lsw[(4 : Fin 24)].offHigh = false
    ∧ (upCh (fun x => { x with out := 1 })).lsw[(4 : Fin 24)].out ≠ 0
    ∧ (upCh (fun x => { x with offHigh := true })).lsw[(4 : Fin 24)].offHigh = true ∧ up.lswx[(4 : Fin 24)].gen = false ∧ { up.lswx[(4 : Fin 24)] with gen := true }.gen = true
    ∧ (0, 4) ∈ (upCh id).lswg.gates ∧ (0, 5) ∉ (upCh id).lswg.gates := by decide +kernel

theorem witness_LoadPacketsAndWatchdog :
    let s : State := { up with lswg := { up.lswg with air := [(1, List.replicate 24 (1, 0))] } }
    s.lswg.clkFailed = false ∧ s.lswg.air = (1, List.replicate 24 (1, 0)) :: [] ∧ { s.lswg with clkFailed := true }.clkFailed = true ∧ up.lswg.air = []
      ∧ (upCh id).lswg.wdt = .running ∧ up.cfg.lswHold ≠ 0 ∧ { up.cfg with lswHold := 0 }.lswHold = 0 ∧ { up.lswg with wdt := .failCmd }.wdt = .failCmd
      ∧ { up.lswg with wdt := .hold }.wdt = .hold ∧ up.lswg.wdt ≠ .running ∧ up.lswg.wdt ≠ .failCmd ∧ up.lswg.wdt ≠ .hold
      ∧ s.lswx[(0 : Fin 24)].gen = false ∧ { s.lswx[(0 : Fin 24)] with gen := true }.gen = true ∧ s.lswg.uv = false ∧ bit s.lsw[(0 : Fin 24)].flags 1 = false ∧ s.lsw[(0 : Fin 24)].pause = none ∧ s.domOn 7 = true
      ∧ up.dieAbsent 5 = false ∧ (upIn .service).mc.mode = .service ∧ { up.lswg with sending := 1 }.sending = 1
      ∧ (upIn .safeHold).pairx.handed = false ∧ (upIn .safeHold).pairx.gaveUpAt = none := by decide +kernel

theorem witness_LoadTripsAndRetries :
    let c : Fin 24 := 4
    let s := upCh (fun x => { x with got := 1, due := true, pause := some 1000 })
    (let u := upCh (fun x => { x with out := 1, limiting := true }); u.lsw[c].out = 1 ∧ u.lsw[c].segs = [] ∧ u.lswg.clkFailed = false ∧ u.lsw[c].limiting = true)
      ∧ (let u := { upCh (fun x => { x with out := 2 }) with lswx := upd up.lswx c (fun y => { y with limRun := 16000 * up.cf (.lsw c) 0x04C 0 16 + 1 }) };
         u.lsw[c].out = 2 ∧ 16000 * u.cf (.lsw c) 0x04C 0 16 < u.lswx[c].limRun)
      ∧ (let u := upCh (fun x => { x with got := 1, gated := true }); u.lswHeld c = true ∧ outOf (u.lswState c).1 (u.lswState c).2 ≠ 0) ∧ (upCh id).lswHeld c = false
      ∧ (upCh id).lsw[c].out = 0
      ∧ (upCh (fun x => { x with out := 1, segs := [(9, 1)] })).lsw[c].segs = (9, 1) :: [] ∧ s.lsw[c].pause = some 1000 ∧ s.lsw[c].due = true ∧ s.lsw[c].hot = false
      ∧ s.lswg.clkFailed = false ∧ bit s.lsw[c].flags 1 = false ∧ bit s.lsw[c].flags 2 = false ∧ s.lsw[c].gated = false ∧ s.domOn 7 = true ∧ s.lsw[c].out = 0
      ∧ s.dieAbsent 5 = false ∧ (s.lswState c).1 = 1 ∧ (∀ d : Fin 24, (d.val + 1 = c.val ∨ d.val = c.val + 1) → s.lsw[d].segs = [])
      ∧ (let n : State := { s with lsw := upd s.lsw 5 (fun x => { x with segs := [(9, 1)] }) };
         ∃ d : Fin 24, (d.val + 1 = c.val ∨ d.val = c.val + 1) ∧ n.lsw[d].segs ≠ [])
      ∧ (let u := upCh (fun x => { x with got := 1, due := true, defer := true }); u.lsw[c].defer = true ∧ u.lsw[c].pause = none)
      ∧ (let u := upCh (fun x => { x with got := 1, due := true, hot := true }); u.lsw[c].hot = true ∧ u.lsw[c].pause = none) := by decide +kernel

theorem witness_LoadTripsAndRetries_clear :
    let c : Fin 24 := 4
    up.takes (.lsw c) 0x064 true ∧ bit (upCh (fun x => { x with flags := 6 })).lsw[c].flags 1 = true ∧ bit (upCh (fun x => { x with flags := 6 })).lsw[c].flags 2 = true
      ∧ 4 * up.bucketNow c ≤ (clampRating c).1
      ∧ (clampRating c).1 < 4 * State.bucketNow { up with lswx := upd up.lswx c (fun x => { x with bucket := (clampRating c).1 }) } c := by
  unfold State.takes; decide +kernel

end Sys2Proof.Tests
end

