-- ==== Sys2Proof/Tests/WitnessE.lean ====
section
/-! SUPPORT. For each statement of Certificates/Slice0/Obligations.lean with hypotheses, states and operands that meet them: the
program, the stations, the CAN controllers. A verification that passes takes an image signed with a key of the device, and has no
closed witness here. -/

set_option Elab.async false

namespace Sys2Proof.Tests

open Sys2Proof.Machine

/-- The module with its program running, in a state given by a change of it. -/
def upPrg (f : Prg → Prg) : State := { up with prg := f { up.prg with run := .running } }

theorem witness_TimetableCycle : (upPrg id).prg.run = .running ∧ (upPrg id).mc.mode = .run ∧ (upPrg id).prg.busy = false
    ∧ (160000 * 3 % 160000 = 0 ∧ 160000 * 3 % (upPrg id).mainPeriod = 0) ∧ (upPrg (fun p => { p with inCycle := true })).prg.busy = true
    ∧ up.prg.run ≠ .running ∧ up.prg.inCycle = false
    ∧ (let s := upPrg (fun p => { p with inCycle := true, waitRet := true }); s.prg.waitRet = true)
    ∧ (upPrg id).prgx.initRun = none ∧ (let s : State := { upPrg id with prgx := { up.prgx with initRun := some 1 } };
        (s.prgx.initRun.isSome && decide (s.prg.run = .running)) = true
          ∧ (s.prg.image.sift ((writesOf [(14, 4, 9)] []).filter (fun e => s.taskRuns e.1))).2 = []
          ∧ (s.prg.image.sift ((writesOf [] [(14, 0x300000, 7)]).filter (fun e => s.taskRuns e.1))).2 = [⟨14, 7, 0x300000⟩]
          ∧ (s.prg.image.sift (writesOf [(5, 4, 9)] [])).2 = [] ∧ (s.prg.image.sift (writesOf [] [(5, 0x300000, 7)])).2 ≠ [])
    ∧ (let s : State := { upPrg (fun p => { p with inCycle := true, due := [0] }) with prgx := { up.prgx with errNow := [⟨0x50, 0, 0⟩] } }
       s.taskRuns 0 = true ∧ s.taskRuns 1 = false ∧ (0x42 : Nat) ≤ 0x42
        ∧ (s.prg.image.sift ((writesOf [] [(0, 0x300000, 7), (1, 0x300000, 7)]).filter (fun e => s.taskRuns e.1))).2 = [⟨0, 7, 0x300000⟩])
    ∧ (let s := upPrg (fun p => { p with inCycle := true, due := [0] }); s.prg.inCycle = true ∧ s.prg.waitRet = false ∧ s.prgx.retBusy = none
        ∧ (∃ e : Nat × Word, e.1 ∈ s.prg.due) ∧ s.mc.mode ≠ .standby ∧ { s with mc := (upIn .standby).mc }.mc.mode = .standby) := by
  repeat' first | apply And.intro | decide +kernel | exact ⟨(0, 0), by decide +kernel⟩

theorem witness_TimetableCycle_retained :
    let s : State := { up with prgx := { up.prgx with retBusy := some (1, 5) } }
    s.prgx.retBusy = some (1, 5) ∧ s.prg.waitRet = false ∧ s.noGranary = false ∧ s.memOk
      ∧ { s with prg := { s.prg with waitRet := true } }.prg.waitRet = true := by
  unfold State.memOk; decide +kernel

theorem witness_TimetableCycle_records :
    let s : State := { upPrg id with prgx := { up.prgx with errNow := [⟨0x50, 0, 0⟩], events := [(5, {}, 3, 100)] } }
    (0x0F : Nat) < 0x10 ∧ s.prg.run = .running ∧ s.prgx.errNow = ⟨0x50, 0, 0⟩ :: [] ∧ 0x50 ≤ (⟨0x50, 0, 0⟩ : ErrRec).cause
      ∧ s.prgx.events.find? (fun x => x.1 = 5) = some (5, {}, 3, 100) ∧ s.prg.waitRet = false ∧ (∀ e ∈ s.prgx.events, e.1 ≠ 6) := by decide +kernel

/-- A received frame that the program's reader has before it. -/
def heard : Frame := { data := [7], seq := 2, num := 4, hasSeq := true }

/-- The module with its program running and one received frame on CAN0, lock mode on. -/
def upHeard : State :=
  ({ upPrg (fun p => { p with freezeSeq := 2 }) with
      can := upd up.can 0 (fun c => { c with ring := [heard], nextNum := 5, prgAt := 4 })
      stn := upd up.stn 3 (fun x => { x with st := .ready })
      prgx := { up.prgx with sems := [1], handle := 9, outcomes := [(8, 1, 0)], reqs := [(7, .ptlReq 0 1)] } }).setCom (.can 0) 0x04C 0x1000

theorem witness_RuntimeServices :
    let s := upHeard
    let full : State := { s with prgx := { s.prgx with reqs := List.replicate 256 (7, .ptlReq 0 1) } }
    up.prg.run ≠ .running ∧ s.prg.run = .running ∧ s.prgx.reqs.length < 256 ∧ 256 ≤ full.prgx.reqs.length
      ∧ (((7 : Word).toNat, Request.ptlReq 0 1) ∈ s.prgx.reqs) ∧ (∀ e ∈ s.prgx.reqs, e.1 ≠ (8 : Word).toNat)
      ∧ s.prgx.outcomes.find? (fun x => x.1 = (8 : Word).toNat) = some (8, 1, 0) ∧ (∀ e ∈ s.prgx.reqs, e.1 ≠ (5 : Word).toNat)
      ∧ (∀ o ∈ s.prgx.outcomes, o.1 ≠ (5 : Word).toNat) ∧ s.stn[(3 : Fin 16)].st = .ready ∧ s.stn[(4 : Fin 16)].st ≠ .ready
      ∧ s.can[(1 : Fin 4)].ring = [] ∧ s.can[(0 : Fin 4)].ring = heard :: [] ∧ s.can[(0 : Fin 4)].prgAt ≤ heard.num ∧ heard.stn = false
      ∧ heard.num < s.can[(0 : Fin 4)].nextNum ∧ heard.hasSeq = true ∧ heard.seq ≤ s.prg.freezeSeq ∧ s.canMode 0 12 = true
      ∧ 0 ∉ s.prgx.sems ∧ 1 ∈ s.prgx.sems := by decide +kernel

theorem witness_ProgramCommandsAndSiding : up.takes .prg 0x040 false ∧ up.takes .prg 0x044 false ∧ up.noGranary = false ∧ up.mc.mode = .run
    ∧ (upLost 7).takes .prg 0x040 false ∧ (upLost 7).noGranary = true ∧ (upIn .safeHold).takes .prg 0x040 false
    ∧ ((upIn .safeHold).mc.mode ≠ .run ∧ (upIn .safeHold).mc.mode ≠ .degraded) ∧ (upIn .config).mc.mode = .config
    ∧ (upPrg (fun p => { p with siding := .loading })).prg.siding = .loading ∧ (upPrg id).prg.siding ≠ .loading ∧ (upPrg id).prg.loadOpen = false
    ∧ (let s := upPrg (fun p => { p with siding := .ready }); s.prg.siding = .ready ∧ s.prg.sidImage.migFrom = s.prg.image.layout)
    ∧ (let s := upPrg (fun p => { p with siding := .ready, sidImage := { p.sidImage with migFrom := 2 } }); s.prg.sidImage.migFrom ≠ s.prg.image.layout)
    ∧ (upPrg (fun p => { p with run := .stopped })).prg.run = .stopped ∧ (upPrg id).prg.run = .running
    ∧ (up.prg.run ≠ .running ∧ up.prg.run ≠ .stopped ∧ up.prg.run ≠ .suspended)
    ∧ up.prgOwns 0 = true ∧ up.dieAbsent 5 = false ∧ up.domOn 7 = true
    ∧ (upPrg (fun p => { p with siding := .switchPend })).prg.siding = .switchPend ∧ (upPrg id).prg.siding ≠ .switchPend
    ∧ (upPrg (fun p => { p with siding := .verifying })).prg.siding = .verifying ∧ (upPrg id).prg.siding ≠ .verifying := by
  unfold State.takes; decide +kernel

theorem witness_ProgramCommandsAndSiding_engine : up.sec.engine = [] ∧ up.prgReason (1 - up.prg.slot) ≠ 0 ∧ { up.sec with engine := [.program] }.engine = [.program]
    ∧ { up.sec with engine := [.clear] }.engine ≠ [] ∧ { up.sec with engine := [.clear] }.engine.head? ≠ some .program
    ∧ { up.sec with engine := [.clear] }.engine.head? ≠ some .switch ∧ (upIn .standby).mc.mode = .standby := by
  decide +kernel

theorem witness_ProgramCommandsAndSiding_switch :
    let s := upPrg (fun p => { p with switchWait := true })
    s.prg.switchWait = true ∧ s.prg.inCycle = false ∧ s.prg.waitRet = false ∧ s.prgx.retBusy = none ∧ up.prg.switchWait = false
      ∧ up.sec.loadOpen = false ∧ up.sec.load ≠ .verifying ∧ up.prg.loadOpen = false ∧ { up.sec with loadOpen := true }.loadOpen = true := by
  decide +kernel

/-- The module with station 3 configured on CAN1 with two input bytes, and in a state given by a change of it. -/
def upStn (f : Stn → Stn) : State :=
  { up with cfg := { up.cfg with stn := upd up.cfg.stn 3 (fun k => { k with bus := some 1, inLen := 2 }) }, stn := upd up.stn 3 f }

theorem witness_StationProtocol_join :
    let i : Fin 16 := 3
    let s := upStn (fun x => { x with st := .absent })
    s.cfg.stn[i].bus = some (1 : Fin 4).val ∧ s.stn[i].st = .absent ∧ s.mc.mode ≠ .standby ∧ s.joinReason i [3, 2, 0] = 0 ∧ s.joinReason i [0, 2, 0] = 1
      ∧ s.joinReason i [1, 1, 0] = 2 ∧ s.can[(1 : Fin 4)].fifo.length < 32 ∧ up.cfg.stn[i].bus = none ∧ (upIn .standby).mc.mode = .standby
      ∧ 32 ≤ { s.can[(1 : Fin 4)] with fifo := List.replicate 32 {} }.fifo.length ∧ s.stnPhase = false
      ∧ { s with prg := (upPrg id).prg }.stnPhase = true ∧ { s.stn[i] with version := 2 }.version = 2 ∧ s.stn[i].version ≠ 2 := by decide +kernel

theorem witness_StationProtocol_exchange :
    let i : Fin 16 := 3
    let s := upStn (fun x => { x with st := .joining, goodRun := 2, flights := [(5, some 1000)] })
    let k := s.cfg.stn[i]
    s.stn[i].st = .joining ∧ s.mc.mode ≠ .standby ∧ s.stn[i].flights.find? (fun e => e.1 = 261 % 256) = some (261 % 256, some 1000)
      ∧ 1000 + k.replyTmo * 16000 < 321001 ∧ 321000 ≤ 1000 + k.replyTmo * 16000 ∧ ([] : List Byte).length ≠ frameLen k.inLen
      ∧ (List.replicate (frameLen k.inLen) (0 : Byte)).length = frameLen k.inLen ∧ k.goodN ≤ s.stn[i].goodRun + 1
      ∧ (upStn (fun x => { x with st := .joining, goodRun := 1 })).stn[i].goodRun + 1 < k.goodN
      ∧ (∀ e ∈ s.stn[i].flights, e.1 = 6 % 256 → e.2 = none) ∧ s.stn[i].flights.find? (fun e => e.2.isSome) = some (5, some 1000)
      ∧ min (s.stn[i].missRun + 1) 255 < k.missMax ∧ (upStn (fun x => { x with st := .absent })).stn[i].st = .absent
      ∧ k.missMax ≤ min ((upStn (fun x => { x with st := .present, missRun := 2 })).stn[i].missRun + 1) 255
      ∧ (∀ e ∈ (upStn id).stn[i].flights, e.2 = none) := by decide +kernel

theorem witness_StationProtocol_config :
    let i : Fin 16 := 3
    let s : State := { upStn (fun x => { x with st := .ready }) with mc := (upIn .config).mc, boot := { up.boot with canStart := some 0 } }
    s.mc.mode = .config ∧ s.boot.canStart.isSome = true ∧ s.stn[i].st = .ready ∧ s.cfg.stn[i].bus.isSome = true ∧ up.boot.canStart = none
      ∧ s.stn[(4 : Fin 16)].st = .unconfigured := by decide +kernel

/-- The module with a CAN controller changed, its MODE word and its XCVR word as given. -/
def upCan (n : Fin 4) (mode xcvr : Word) (f : Can → Can) : State :=
  (({ up with can := upd up.can n f }).setCom (.can n) 0x04C mode).setCom (.can n) 0x050 xcvr

theorem witness_CanBusEvents :
    let n : Fin 4 := 1
    let s := upCan n 0 0 (fun c => { c with fc := .active })
    let f : Frame := { num := 3 }
    let full := upCan n 0x0800 0 (fun c => { c with fc := .passive, lockMode := true, hostAt := 3, ring := f :: List.replicate 255 {} })
    s.can[n].fc = .active ∧ s.xcvr n ≠ 2 ∧ bit (0 : Word) 4 = false ∧ s.can[n].ring.length < 256 ∧ s.can[n].rxErr ≤ 127 ∧ s.canMode n 4 = false
      ∧ 127 < { s.can[n] with rxErr := 128 }.rxErr ∧ (upCan n 2 0 id).canMode n 1 = true
      ∧ full.can[n].fc = .passive ∧ full.can[n].ring = f :: List.replicate 255 {} ∧ 256 ≤ full.can[n].ring.length ∧ full.can[n].lockMode = true
      ∧ full.canMode n 11 = true ∧ full.can[n].hostAt ≤ f.num ∧ up.can[n].fc = .init ∧ (upCan n 16 0 id).canMode n 4 = true
      ∧ bit (0x10 : Word) 4 = true ∧ s.canMode n 1 = false ∧ s.can[n].stopping = false ∧ s.canMode n 8 = false ∧ (upCan n 0x100 0 id).canMode n 8 = true
      ∧ (upCan n 0 2 id).xcvr n = 2 ∧ n.val < 2 ∧ 2 ≤ (2 : Fin 4).val ∧ (6 : Fin 7).val ≠ 0 := by decide +kernel

theorem witness_CanBusEvents_transmission :
    let n : Fin 4 := 1
    let s := upCan n 0 0 (fun c => { c with fc := .active, fifo := [{}], txActive := true })
    s.can[n].fifo = {} :: [] ∧ s.can[n].txActive = true ∧ s.can[n].stopping = false ∧ s.can[n].aborting = false ∧ s.can[n].dropping = false
      ∧ s.can[n].oneShot = false ∧ { s.can[n] with oneShot := true }.oneShot = true ∧ { s.can[n] with dropping := true }.dropping = true ∧ { s.can[n] with stopping := true }.stopping = true ∧ { s.can[n] with aborting := true }.aborting = true
      ∧ up.can[n].fifo = [] ∧ up.can[n].txActive = false
      ∧ (upCan n 0 0 (fun c => { c with fc := .busOff, recovering := true })).can[n].recovering = true
      ∧ (upCan n 0 0 (fun c => { c with fc := .busOff })).can[n].fc = .busOff ∧ s.can[n].recovering = false := by decide +kernel

theorem witness_CanCommands :
    let n : Fin 4 := 1
    let s := upCan n 0 0 (fun c => { c with fc := .active, window := some ({ num := 3 }, false), shadow := some ({ num := 4 }, false), lockMode := true })
    let c0 := up.can[n]
    s.takes (.can n) 0x054 true ∧ s.takes (.can n) 0x054 false ∧ s.takes (.can n) 0x00C false ∧ s.pushRefusal n (s.com (.can n) 0x200) (s.com (.can n) 0x204) = none
      ∧ (upCan n 0 0 (fun c => { c with fifo := List.replicate 32 {} })).pushRefusal n 0 0 = some 0x40 ∧ s.pushRefusal n 0 0x10 = some 0x41
      ∧ s.can[n].window = some ({ num := 3 }, false) ∧ s.can[n].shadow = some ({ num := 4 }, false) ∧ up.can[n].window = none ∧ s.can[n].fifo = []
      ∧ s.xcvr n = 0 ∧ s.can[n].txActive = false ∧ s.can[n].rxActive = false ∧ s.canMode n 4 = false ∧ (upCan n 16 0 id).canMode n 4 = true
      ∧ { s.can[n] with rxActive := true }.rxActive = true ∧ { s.can[n] with txActive := true }.txActive = true ∧ s.busAlive = true ∧ s.readErr (.can n) (0x100 + 4 * 7) = none ∧ s.clkStopped (.can n) = false
      ∧ (s.pg (.can n)).queue = [] ∧ (s.pg (.can n)).snapHeld = false ∧ (s.pg (.can n)).cap.get? (0x100 + 4 * 7) = none
      ∧ ((s.modPg (.can n) (fun g => { g with cap := [(0x10C, 9)] })).pg (.can n)).cap.get? 0x10C = some 9 ∧ wideOf (.can n) 0x108 ≠ []
      ∧ c0.lockMode = false ∧ State.reset.busAlive = false
      ∧ (7 : Fin 24).val = 7 + ceilDiv (fld ({ num := 3 } : Frame).w1 16 7) 4 ∧ (23 : Fin 24).val ≠ 7 + ceilDiv (fld ({ num := 3 } : Frame).w1 16 7) 4
      ∧ up.can[n].fc = .init ∧ (upCan n 0 0 (fun c => { c with fc := .busOff })).can[n].fc = .busOff := by
  unfold State.takes; decide +kernel

end Sys2Proof.Tests
end

