-- ==== Sys2Proof/Tests/WitnessF.lean ====
section
/-! SUPPORT. For each statement of Certificates/Slice0/Obligations.lean with hypotheses, states and operands that meet them: event
queues, recorder, pair, security. A token that is accepted holds the device's serial number, which is open (log 7), and has no
closed witness. -/

set_option Elab.async false

namespace Sys2Proof.Tests

open Sys2Proof.Machine

/-- The module with the bus up and queue 2 with 16 slots in a state given by a change of it. -/
def upEvq (f : Evq → Evq) : State :=
  (({ up with hif := { up.hif with master := true, link := 2 }, evq := upd up.evq 2 (fun x => f { x with running := true, configured := true }) }).setCom
    (.evq 2) 0x048 16).setCom (.evq 2) 0x05C 0x10000

theorem witness_EventQueues :
    let q : Fin 8 := 2
    let e : Event := { code := 0x7001, source := 3 }
    let s := upEvq (fun x => { x with staged := [⟨e, 9, 0x10000⟩], head := 3, tail := 5, unsigAt := some 100, unsigTime := 1 })
    let full := upEvq (fun x => { x with staged := [⟨e, 9, 0x10000⟩], head := 6, tail := 5 })
    s.takes (.evq q) 0x00C false ∧ s.takes (.evq q) 0x060 true ∧ up.evq[q].running = false ∧ bit (up.pg (.evq q)).stage 0 = false
      ∧ up.evq[q].configured = false ∧ { up.evq[q] with configured := true }.configured = true ∧ s.evq[q].running = true ∧ up.busUp = false
      ∧ (let past (a : Nat) : Int := ((a : Int) - s.evq[q].head) % (s.evqSize q)
         past (fld (4 : Word) 0 16) ≤ past s.evq[q].tail ∧ past (fld (20 : Word) 0 16) ≤ past s.evq[q].tail ∧ past s.evq[q].tail < past (fld (6 : Word) 0 16))
      ∧ s.evq[q].lost = none ∧ s.busUp = true ∧ s.evq[q].staged = ⟨e, 9, 0x10000⟩ :: [] ∧ (s.evqRecs q e 9 s.evq[q].ended).length ≤ s.evqFree q
      ∧ s.evqRecs q e 9 s.evq[q].ended ≠ [] ∧ s.evq[q].tail < 16 ∧ full.evqFree q < (full.evqRecs q e 9 full.evq[q].ended).length
      ∧ s.evq[q].unsigAt = some 100 ∧ s.evq[q].unsigTime ≠ 0 ∧ up.evq[q].unsigTime = 0 ∧ up.evq[q].unsigAt = none := by
  unfold State.takes; decide +kernel

theorem witness_EventQueues_lost :
    let s := upEvq (fun x => { x with lost := some {}, head := 3, tail := 5 })
    s.evq[(2 : Fin 8)].lost = some {} ∧ ({} : LostRun).behind = 0 ∧ s.evq[(2 : Fin 8)].running = true ∧ s.busUp = true ∧ 0 < s.evqFree 2
      ∧ (upEvq (fun x => { x with head := 6, tail := 5 })).evqFree 2 = 0 := by decide +kernel

/-- A record of the program with sixteen bytes of payload. -/
def note : Rec0 := { seq := 9, type := 0x1000, sev := 5, payload := List.replicate 16 7 }

/-- The module with that record staged. -/
def upRec (f : Recorder → Recorder) : State := { up with recd := f { up.recd with stage := [note] } }

theorem witness_CycleRecorder :
    let x := note
    up.recd.stage = [] ∧ (upRec id).recd.stage = x :: [] ∧ (upRec id).recd.await.any (fun e => e.2.2.type = 0x0071) = false
      ∧ (upRec (fun r => { r with await := [(0, 0, { type := 0x0071 })] })).recd.await.any (fun e => e.2.2.type = 0x0071) = true
      ∧ (upLost 7).noGranary = true ∧ up.noGranary = false ∧ (upRec id).memOk
      ∧ (upRec id).recd.need x.size + 1024 ≤ (upRec id).recd.free ∧ (upRec id).recd.full = false ∧ ¬(x.type = 0x0070 ∨ x.type = 0x0071)
      ∧ (let r := (upRec (fun r => { r with tail := recSize - 16 })).recd; recSize < r.tail + x.size ∧ r.need x.size + 1024 ≤ r.free)
      ∧ ¬(recSize < (upRec id).recd.tail + x.size) ∧ (upRec (fun r => { r with full := true })).recd.full = true ∧ (upRec id).recd.policy = false
      ∧ (let r := (upRec (fun r => { r with used := recSize })).recd; r.free < r.need x.size + 1024 ∧ r.free < r.need x.size ∧ r.full = false)
      ∧ ({ type := 0x0070 } : Rec0).type = 0x0070 := by
  unfold State.memOk; decide +kernel

theorem long_does_not_fit (s : State) (n : Nat) (hu : s.recd.used = 0) (ht : s.recd.tail = 0) (hn : n = 16 + recSize) :
    s.recd.free < s.recd.need n := by
  have h : recSize - 0 < (if recSize < 0 + (16 + recSize) then recSize - 0 + (16 + recSize) else 16 + recSize) := by decide
  rw [hn, Recorder.free, Recorder.need, hu, ht]; exact h

theorem empty_records (s : State) (h : s.recd.used = 0) : s.records = [] := by rw [State.records, h, Nat.zero_div]; rfl

theorem empty_advance (s : State) (h : s.recd.used = 0) : s.advanceHead.recd.used = 0 ∧ s.advanceHead.recd.tail = s.recd.tail := by
  rw [State.advanceHead, empty_records s h]
  exact ⟨by show s.recd.used - 0 = 0; rw [h], rfl⟩

theorem empty_victim (s : State) (n v : Nat) (h : s.recd.used = 0) : s.victim n v = none := by
  simp only [State.victim, empty_records s h, State.rooms, List.filter_nil, List.foldl_nil]

theorem witness_CycleRecorder_no_victim (s : State) (x : Rec0) (hp : s.recd.policy = true) (hu : s.recd.used = 0) (ht : s.recd.tail = 0)
    (hx : x.payload.length = recSize) :
    let u := (s.modRec (fun r => { r with stage := [] })).advanceHead
    s.recd.policy = true ∧ s.recd.free < s.recd.need x.size ∧ u.recd.free < u.recd.need x.size ∧ u.victim x.size (x.sev % 16) = none := by
  have hn : x.size = 16 + recSize := by simp only [Rec0.size, hx]; decide
  have hm := empty_advance (s.modRec (fun r => { r with stage := [] })) hu
  exact ⟨hp, long_does_not_fit s _ hu ht hn, long_does_not_fit _ _ hm.1 (hm.2.trans ht) hn, empty_victim _ _ _ hm.1⟩

theorem witness_CycleRecorder_no_victim_state :
    let s := upRec (fun r => { r with policy := true })
    s.recd.policy = true ∧ s.recd.used = 0 ∧ s.recd.tail = 0 ∧ (List.replicate recSize (0 : Byte)).length = recSize :=
  ⟨rfl, rfl, rfl, List.length_replicate⟩

/-- A full region whose first record may be overwritten. -/
def upFull : State := (upRec (fun r => { r with policy := true, used := recSize })).granWrite 0 note.bytes

theorem recWalk_cons (s : State) (f o n : Nat) (h : n ≠ 0) :
    s.recWalk (f + 1) o n = s.recAt (o % recSize) :: s.recWalk f ((o + (s.recAt (o % recSize)).2.1) % recSize) (n - (s.recAt (o % recSize)).2.1) := by
  simp [State.recWalk, h]

/-- Granary as Junction reads it in `upFull`. -/
theorem granBytes_upFull (s : State) (hg : s.noGranary = false) (hm : s.mem = upFull.mem) (a n : Nat) :
    s.granBytes a n = upFull.mem.granary.readBytes a n := by
  unfold State.granBytes
  rw [hg, hm, if_pos]
  rfl

theorem foldl_isSome {α : Type} (g : Option α → α → Option α) (hg : ∀ b v, (g (some b) v).isSome = true) :
    ∀ (l : List α) (b : α), (l.foldl g (some b)).isSome = true
  | [], _ => rfl
  | v :: l, b => by
    obtain ⟨c, hc⟩ := Option.isSome_iff_exists.mp (hg b v)
    rw [List.foldl_cons, hc]; exact foldl_isSome g hg l c

theorem witness_CycleRecorder_victim :
    let u := (upFull.modRec (fun r => { r with stage := [] })).advanceHead
    upFull.recd.policy = true ∧ upFull.recd.free < upFull.recd.need note.size ∧ u.recd.free < u.recd.need note.size ∧ upFull.memOk
      ∧ ∃ v room, u.victim note.size (note.sev % 16) = some (v, room) := by
  have records (s : State) (hu : s.recd.used = recSize) (hh : s.recd.head = 0) : ∃ l, s.records = s.recAt 0 :: l := by
    rw [State.records, hu, hh, show recSize / 16 = 3145727 + 1 from by decide, recWalk_cons _ _ _ _ (by decide)]
    exact ⟨_, rfl⟩
  have hv (s : State) (hg : s.noGranary = false) (hm : s.mem = upFull.mem) (hf : s.recd.floor = 0) : s.isVoid (s.recAt 0) = false := by
    simp only [State.isVoid, State.recAt, granBytes_upFull s hg hm, hf]; decide +kernel
  obtain ⟨l, hl⟩ := records (upFull.modRec (fun r => { r with stage := [] })) rfl rfl
  have hr : ((upFull.modRec (fun r => { r with stage := [] })).advanceHead).recd = { upFull.recd with stage := [] } := by
    have hd : ∀ (s : State) (n : Nat), n = 0 → s.recd.head = 0 →
        (s.modRec (fun r => { r with head := (r.head + n) % recSize, used := r.used - n })).recd = s.recd := by
      intro s n hn hh; subst hn
      show { s.recd with head := (s.recd.head + 0) % recSize, used := s.recd.used - 0 } = s.recd
      rw [Nat.sub_zero, Nat.add_zero, hh, Nat.zero_mod, ← hh]
    refine hd _ _ ?_ rfl
    rw [hl, List.takeWhile_cons_of_neg (by have h := hv (upFull.modRec (fun r => { r with stage := [] })) (by decide +kernel) rfl rfl; simp only [h]; decide)]; rfl
  have hmem : ((upFull.modRec (fun r => { r with stage := [] })).advanceHead).mem = upFull.mem := rfl
  refine ⟨rfl, by decide +kernel, by rw [hr]; decide +kernel, by unfold State.memOk; decide +kernel, ?_⟩
  have hclk : ((upFull.modRec (fun r => { r with stage := [] })).advanceHead).clk = upFull.clk := rfl
  have hrst : ((upFull.modRec (fun r => { r with stage := [] })).advanceHead).rst = upFull.rst := rfl
  have hng : ((upFull.modRec (fun r => { r with stage := [] })).advanceHead).noGranary = false := by
    simp only [State.noGranary, State.dieAbsent, hclk, hrst]; decide +kernel
  generalize (upFull.modRec (fun r => { r with stage := [] })).advanceHead = u at hr hmem hng
  obtain ⟨l, hl⟩ := records u (by rw [hr]; rfl) (by rw [hr]; rfl)
  have hroom : ∃ n, u.rooms note.size u.records = (u.recAt 0, n) :: u.rooms note.size l ∧ note.size ≤ n := by
    rw [hl]; refine ⟨_, rfl, ?_⟩
    have h2 : (u.recAt 0).2.1 = note.size := by simp only [State.recAt, granBytes_upFull u hng hmem]; decide +kernel
    rw [h2]; cases l <;> simp [State.room]
  obtain ⟨n, hn, hle⟩ := hroom
  have h3 : (u.recAt 0).2.2.2.1 ≤ note.sev % 16 ∧ (u.recAt 0).2.2.1 ≠ 0x0070 ∧ (u.recAt 0).2.2.1 ≠ 0x0071 := by
    simp only [State.recAt, granBytes_upFull u hng hmem]; decide +kernel
  unfold State.victim
  rw [hn, List.filter_cons_of_pos (by simp [hv u hng hmem (by rw [hr]; rfl), h3, hle]), List.foldl_cons]
  have key := foldl_isSome (α := Found × Nat) (fun best v => match best with
      | none => some v
      | some b => if v.1.2.2.2.2 < b.1.2.2.2.2 then some v else some b)
    (fun b v => by show (if v.1.2.2.2.2 < b.1.2.2.2.2 then some v else some b).isSome = true; split <;> rfl)
  obtain ⟨⟨v, room⟩, h⟩ := Option.isSome_iff_exists.mp (key _ (u.recAt 0, n))
  exact ⟨v, room, h⟩

theorem witness_CycleRecorder_commands :
    let w : Word := mkWord [(0, 9, 496), (12, 4, 13), (16, 16, 0x2FFF)]
    let s := up.setCom .recd 0x044 w
    let c : State := { up with recd := { up.recd with clearing := true } }
    s.takes .recd 0x040 true ∧ s.noGranary = false ∧ s.recd.clearing = false ∧ (s.com .recd 0x044 = w ∧ 0x2000 ≤ fld w 16 16 ∧ fld w 16 16 ≤ 0x2FFF
      ∧ fld w 12 4 ≤ 13 ∧ fld w 0 9 ≤ 496) ∧ (fld (0 : Word) 16 16 ≠ 0x0050 ∧ fld (0 : Word) 16 16 < 0x2000) ∧ (upLost 7).takes .recd 0x040 true
      ∧ (upLost 7).noGranary = true ∧ { (upLost 7).recd with clearing := true }.clearing = true ∧ c.recd.clearing = true ∧ c.noGranary = false
      ∧ { up.sec with engine := [.clear] }.engine.head? = some .clear ∧ { up.sec with engine := [.clear] }.engine.tail = []
      ∧ up.sec.engine.head? ≠ some .clear ∧ 13 < fld (0x2000E000 : Word) 12 4 ∧ 496 < fld (0x200001F1 : Word) 0 9
      ∧ c.tokenReason (tokenBytes c.recd.token) [1] c.recd.nonceValid c.recd.nonce true (some c.recd.nonceSeq) ≠ 0 := by
  unfold State.takes; decide +kernel

/-- A FIRST module of a pair, with a seal, its link up, in a state given by changes of it. -/
def upPair (m : Mode) (f : Pair → Pair) (g : PairAux → PairAux) : State :=
  { upIn m with cfg := { up.cfg with paired := true }, grd := { up.grd with word := some 4 }, pair := f { up.pair with link := .up, version := 2 }
                pairx := g up.pairx }

theorem witness_PairFrames :
    let s := upPair .standby (fun p => { p with formed := true }) id
    up.cfg.paired = false ∧ s.cfg.paired = true ∧ (s.pair.link = .up ∨ s.pair.link = .mismatch) ∧ (5 : Nat) ≠ s.pair.rxCount ∧ 0 = s.pair.rxCount
      ∧ (upPair .run id id).pair.formed = false ∧ s.pair.formed = true ∧ s.pair.actO = false
      ∧ (bit (BitVec.ofNat 32 3) 1 = true ∧ true ≠ s.cfg.second ∧ s.grd.word = some 4 ∧ s.pairHash = s.pairHash) ∧ ¬(false ≠ s.cfg.second)
      ∧ s.mc.mode = .standby ∧ (upPair .run (fun p => { p with formed := true }) id).mc.mode ≠ .standby
      ∧ (upPair .run (fun p => { p with formed := true, version := 1 }) id).pair.version < 2 ∧ (upPair .run id id).pair.formed = false := by
  decide +kernel

theorem witness_PairControl_mirror :
    let s := upPair .standby (fun p => { p with motionAt := some 100 }) id
    (s.cfg.paired = true ∧ s.pair.link = .up) ∧ ¬(up.cfg.paired = true ∧ (up.pair.link = .up ∨ up.pair.link = .mismatch)) ∧ s.pair.motionAt = some 100
      ∧ s.mc.mode = .standby ∧ s.pairx.stale = false ∧ up.pair.motionAt = none := by decide +kernel

theorem witness_PairControl_lines :
    let s := upPair .run (fun p => { p with actO := true }) id
    let a := upPair .run (fun p => { p with actO := true }) (fun x => { x with assertAt := some 100 })
    let second (t : State) : State := { t with cfg := { t.cfg with second := true } }
    let i := upPair .standby (fun p => { p with actI := true }) id
    let cut : State := { up with watch := upd up.watch 3 (fun w => { w with pairCut := true }) }
    s.pair.actI = false ∧ s.pair.actO = true ∧ s.cfg.paired = true ∧ s.pairx.assertAt = none ∧ s.cfg.second = false ∧ a.pairx.assertAt.isSome = true
      ∧ (upPair .config (fun p => { p with actO := true, actI := true }) (fun x => { x with assertAt := some 100 })).pair.actI = true
      ∧ (second s).cfg.second = true ∧ (second s).pairx.assertAt = none ∧ (second a).pairx.assertAt.isSome = true
      ∧ (up.pair.actI = false ∧ up.cfg.paired = false ∧ up.mc.mode ≠ .config) ∧ i.pair.actI = true ∧ i.mc.mode = .standby
      ∧ (cut.pair.actI = false ∧ cut.watch[(3 : Fin 12)].pairCut = true) ∧ (∀ a : Fin 12, up.watch[a].pairCut = false) := by decide +kernel

theorem witness_PairControl_takeover :
    let s := upPair .standby id (fun x => { x with guardAt := some 100 })
    let a := upPair .config (fun p => { p with actO := true }) (fun x => { x with assertAt := some 100 })
    let e := upPair .config id (fun x => { x with electAt := some 100 })
    let auto : State := { e with cfg := { e.cfg with autoRun := true } }
    s.pairx.guardAt = some 100 ∧ s.mc.mode = .standby ∧ s.pair.actI = false ∧ ((s.to 3300).mirrorOk && !s.pair.prgDiff) = false
      ∧ (a.pairx.assertAt = some 100 ∧ a.mc.mode = .config ∧ a.pair.actO = true) ∧ up.pairx.assertAt = none ∧ up.pairx.guardAt = none
      ∧ (e.cfg.paired = true ∧ e.mc.mode = .config ∧ e.pair.actI = false ∧ e.mc.busy = false ∧ e.electWait = some 1 ∧ e.pairx.electAt = some 100)
      ∧ (e.cfg.autoRun = false ∧ e.mc.asked = false) ∧ (auto.mayLeave = true ∧ auto.cfg.autoRun = true) := by decide +kernel

theorem witness_PairControl_warm :
    let q (a : AxMirror) : AxMirror := { a with qcnt := some a.cnt }
    let s := upPair .standby (fun p => { p with motionAt := some 3000 }) (fun x => { x with guardAt := some 100, ax := Vector.replicate 12 (q {}) })
    s.pairx.guardAt = some 100 ∧ s.tb ≤ 100 + 3200 ∧ ((s.to 3300).mirrorOk && !s.pair.prgDiff) = true := by decide +kernel

theorem witness_PairControl_yield :
    let s := upPair .run (fun p => { p with actO := true, formed := true, partnerMode := 7, partnerMirror := true }) id
    let g := upPair .safeHold (fun p => { p with actI := true, actIAt := 200 }) (fun x => { x with gaveUpAt := some 100 })
    let n := upPair .safeHold id (fun x => { x with gaveUpAt := some 100 })
    s.takes .pair 0x040 false ∧ (s.cfg.paired = true ∧ s.pair.actO = true ∧ s.mc.mode = .run ∧ s.partnerReady = true) ∧ up.pair.actO = false
      ∧ (g.mc.mode = .safeHold ∧ g.pairx.handed = false ∧ g.pairx.gaveUpAt = some 100 ∧ g.pair.actI = true ∧ g.pair.actIAt ≤ 100 + 320000)
      ∧ n.pairx.gaveUpAt = some 100 ∧ n.pair.actI = false ∧ up.mc.mode ≠ .safeHold ∧ g.dieAbsent 5 = false ∧ g.domOn 7 = true := by
  unfold State.takes; decide +kernel

/-- The module with its SEC page changed. -/
def upSec (f : Sec → Sec) : State := { up with sec := f up.sec }

/-- The module with owner keys in its fuses: slot 1 revoked, slot 2 as given. -/
def upKeys (k : SlotFuses) : State := { up with fuses := { up.fuses with fuse := #v[⟨true, true, true⟩, k, {}, {}] } }

theorem witness_SecCommands :
    up.takes .sec 0x040 true ∧ up.takes .sec 0x040 false ∧ up.takes .sec 0x044 false ∧ up.sec.busy = none ∧ up.dieAbsent 1 = false
      ∧ (upSec (fun x => { x with busy := some 4 })).sec.busy = some 4 ∧ (upSec (fun x => { x with busy := some 2 })).sec.busy = some 2
      ∧ (upLost 7).takes .sec 0x040 false ∧ (upLost 7).noGranary = true ∧ up.noGranary = false
      ∧ (let s := upSec (fun x => { x with load := .loading }); s.sec.load = .loading ∧ s.sec.loadOpen = false)
      ∧ (upSec (fun x => { x with load := .ready, copyKind := 1 })).sec.load = .ready ∧ up.sec.load ≠ .ready ∧ up.sec.load ≠ .loading
      ∧ up.mc.mode = .run ∧ ¬((upIn .service).mc.mode = .config ∨ (upIn .service).mc.mode = .run ∨ (upIn .service).mc.mode = .degraded)
      ∧ (let s : State := { upSec (fun x => { x with load := .ready, copyKind := 1, copyRb := 2, fwRb := 3 }) with prg := { up.prg with siding := .ready } };
         s.sec.load = .ready ∧ s.sec.copyRb < max s.fuses.rb[0] s.sec.fwRb ∧ s.prg.siding = .ready)
      ∧ up.fuses.debugLock = false ∧ (upKeys ⟨true, true, false⟩).fuses.slots[(1 : Fin 4)] = .active ∧ ¬(∃ k : Fin 4, (upKeys {}).fuses.slots[k] = .active)
      ∧ ((upKeys {}).fuses.slots[(1 : Fin 4)] = .empty ∧ ∀ j : Fin 4, j < 1 → (upKeys {}).fuses.slots[j] ≠ .empty)
      ∧ { up.fuses with debugLock := true }.debugLock = true := by
  unfold State.takes; decide +kernel

theorem witness_SecCommands_load :
    let o := upSec (fun x => { x with loadOpen := true, target := 1 })
    up.prg.loadOpen = false ∧ up.prg.siding ≠ .verifying ∧ up.sec.load ≠ .verifying ∧ up.sec.loadOpen = false ∧ o.sec.loadOpen = true ∧ 1 ≤ o.sec.target
      ∧ o.sec.target ≤ 2 ∧ { up with prg := { up.prg with loadOpen := true } }.prg.loadOpen = true ∧ (3 : Fin 4).val = 3 ∧ (2 : Fin 4).val = 2
      ∧ { up.sec with busy := some 2 }.busy = some 2 ∧ { up.sec with engine := [.verify] }.engine = .verify :: [] ∧ EngineOp.token ∉ ([] : List EngineOp)
      ∧ up.sec.copyKind ≠ 1 ∧ up.cfgReason (1 - up.sec.cfgCopy) up.grd.word ≠ 0 ∧ { up.sec with engine := [.attest] }.engine.head? = some .attest
      ∧ up.sec.attBody = [] ∧ { up.sec with attBody := List.replicate 512 0 }.attBody.length = 512 ∧ up.dieAbsent 1 = false := by
  decide +kernel

/-- The module with a token of a COMMAND and nothing else staged. -/
def upToken (c : Nat) : State := upSec (fun x => { x with token := [(4, BitVec.ofNat 32 (c * 65536))] })

theorem witness_SecTokens : up.tokenCmd ≠ 2 ∧ up.tokenCmd ≠ 3 ∧ up.tokenCmd ≠ 4 ∧ (upToken 2).tokenCmd = 2 ∧ (upToken 3).tokenCmd = 3
    ∧ (upToken 4).tokenCmd = 4 ∧ (upToken 3).takes .sec 0x040 true ∧ (upToken 3).sec.busy = none
    ∧ (upToken 3).secTokenReason (tokenBytes (upToken 3).sec.token) ≠ 0
    ∧ (upToken 4).secTokenReason (tokenBytes (upToken 4).sec.token) ≠ 0
    ∧ (upToken 3).sec.engine = [] ∧ { (upToken 3).sec with engine := [.clear] }.engine ≠ []
    ∧ (let s : State := { upSec (fun x => { x with engine := [.clear, .token] }) with recd := { up.recd with clearing := true } }
       s.recd.clearing = true ∧ s.sec.engine = [.clear, .token])
    ∧ { (upToken 3).sec with busy := some 4 }.busy.isSome = true := by
  unfold State.takes; decide +kernel

end Sys2Proof.Tests
end

section
/-! PROOFS. A step takes the front of the queue (O1), the reset state (O6), and TB in SLEEP (O9). -/

namespace Sys2Proof.Machine

/-- Settles O1: both sides are the same match on the queue. -/
theorem stepTakesFront : Obligations.StepTakesFront := by
  refine ⟨fun _ _ _ => rfl, fun s h => ?_⟩
  have hs : step s = .next s.idle := by unfold step; rw [h]
  constructor <;> intro hc <;> rw [hs, State.idle] <;> simp [hc]

/-- Settles O6: at reset nothing is written, handed out or queued, and no fuse is blown. -/
theorem resetInvariants : Obligations.ResetInvariants :=
  ⟨⟨rfl, rfl, rfl⟩, Nat.le_refl 0, rfl, fun k => by
    rw [Fuses.slots_get]; simp [State.reset, SlotFuses.state]⟩

/-! ## TB in SLEEP (R24) -/

/-- The state at another TB, reached in SLEEP with this rest in the accumulator. -/
def State.sleptTo (tb frac : Nat) (s : State) : State := { s with tb, frac, slept := true }

theorem State.sleptTo_same (tb frac : Nat) (s : State) : SameExcept [.tb, .frac, .slept] s (s.sleptTo tb frac) := by
  intro p hp; cases p <;> first | exact absurd (by decide) hp | rfl

theorem State.clkRuns_sleptTo (tb frac : Nat) (s : State) : (s.sleptTo tb frac).clkRuns 5 = s.clkRuns 5 := rfl

/-- What one tick makes of the state: 78,125 sixteenths of a count more, the whole counts in TB and the rest in the accumulator. -/
def State.ticked (s : State) : State := s.sleptTo (s.tb + (s.frac + 78125) / 16) ((s.frac + 78125) % 16)

theorem execSleepTick_stopped {s : State} (h : s.clkRuns 5 = false) : exec .sleepTick s = .next s.ticked := by
  show execSleepTick s = _
  rw [execSleepTick, h]; rfl

/-- Several ticks in a row. -/
def State.ticks (s : State) : Nat → State
  | 0 => s
  | n + 1 => (s.ticks n).ticked

/-- `n` ticks leave MOT stopped and add exactly `n` times 78,125 sixteenths. -/
theorem State.ticks_sum {s : State} (hc : s.clkRuns 5 = false) (hf : s.frac < 16) (n : Nat) :
    (s.ticks n).clkRuns 5 = false ∧ (s.ticks n).frac < 16 ∧ 16 * (s.ticks n).tb + (s.ticks n).frac = 16 * s.tb + s.frac + 78125 * n := by
  induction n with
  | zero => exact ⟨hc, hf, rfl⟩
  | succ n ih =>
    obtain ⟨ihc, ihf, iht⟩ := ih
    rw [State.ticks]
    generalize s.ticks n = t at ihc ihf iht
    refine ⟨(State.clkRuns_sleptTo _ _ t).trans ihc, ?_⟩
    simp only [State.ticked, State.sleptTo]
    omega

/-- The states before, between and after `n` ticks. -/
def State.tickList (s : State) (n : Nat) : List State := (List.range (n + 1)).map s.ticks

theorem State.tickList_get {s u : State} {n k : Nat} (hk : k ≤ n) (h : (s.tickList n)[k]? = some u) : u = s.ticks k := by
  rw [State.tickList, List.getElem?_map, List.getElem?_range (Nat.lt_succ_of_le hk)] at h
  exact (Option.some.inj h).symm

/-- Settles O9: sixteen ticks are sixteen times the same exact sum, so the accumulator comes back to what it was. -/
theorem sleepTicksKeepTime : Obligations.SleepTicksKeepTime := by
  intro s hc hf
  constructor
  · obtain ⟨-, h1, h2⟩ := State.ticks_sum hc hf 1
    simp only [State.ticks] at h1 h2
    exact ⟨s.ticked, execSleepTick_stopped hc, by omega, by omega, h1, State.sleptTo_same _ _ s⟩
  · refine ⟨s.tickList 16, List.length_map .., rfl, fun k a b ha hb => ?_, fun u hu => ?_⟩
    · rw [State.tickList_get (by omega) ha, State.tickList_get (by omega) hb]
      exact execSleepTick_stopped (State.ticks_sum hc hf k).1
    · rw [State.tickList_get (Nat.le_refl 16) hu]
      obtain ⟨-, h1, h2⟩ := State.ticks_sum hc hf 16
      omega

end Sys2Proof.Machine
end

section
/-! PROOFS. What every command keeps, by family of meanings: each meaning is put together from operations whose effects are known
(`Effect`), so its own effect follows the shape of its definition. -/

namespace Sys2Proof.Machine

/-! ## Rules -/

theorem Part.within_all (l : List Part) : Part.within l Part.all = true :=
  List.all_eq_true.mpr fun p _ => List.contains_iff_mem.mpr p.mem_all

/-- An effect with the frame forgotten. -/
theorem Effect.any {l : List Part} {s t : State} (h : Effect l s t) : Effect Part.all s t := h.mono (Part.within_all l)

/-- One operation after others. -/
theorem Effect.after {l : List Part} {s x t : State} (k : Effect l x t) (h : Effect Part.all s x) : Effect Part.all s t := h.trans k.any

/-- The fields that `Lasts` and the time base speak of. -/
abbrev State.lasting (s : State) : List Instr × (Memory × Memory × Memory) × (Nat × Nat) × Fuses × Nat :=
  (s.pending, (s.mem.granary, s.mem.sram, s.mem.guard), (s.seq.next, s.seq.limit), s.fuses, s.tb)

/-- A change of other fields. -/
theorem Effect.set {s x t : State} (h : Effect Part.all s x) (e : t.lasting = x.lasting) : Effect Part.all s t := by
  simp only [State.lasting, Prod.mk.injEq] at e
  obtain ⟨hp, hm, hq, hf, ht⟩ := e
  exact h.put (SameExcept.all x t) hp hm hq hf ht

theorem Effect.gatedBy {l : List Part} {p : PageId} {o : Nat} {w : Word} {e : Bool} {k : State → State} {s : State}
    (hk : ∀ y, Effect l y (k y)) : Effect Part.all s (s.gated p o w e k) :=
  State.gated_effect (Part.within_all _) fun y => (hk y).any

theorem Effect.served {k : State → State} {s : State} (hk : ∀ y, Effect Part.all y (k y)) : Effect Part.all s (s.service k) :=
  State.service_effect (Part.within_all _) hk

theorem Effect.paired {l : List Part} {good : Bool} {cnt : Nat} {k : State → State} {s : State} (hk : ∀ y, Effect l y (k y)) :
    Effect Part.all s (s.pairRx good cnt k) :=
  State.pairRx_effect (Part.within_all _) fun y => (hk y).any

theorem Effect.mirrored {l : List Part} {k : State → State} {s : State} (hk : ∀ y, Effect l y (k y)) :
    Effect Part.all s (s.mirrors k) :=
  State.mirrors_effect (Part.within_all _) fun y => (hk y).any

theorem EffectOut.ite {l : List Part} {s : State} {a b : Host.Outcome State Fault Refusal} {c : Prop} [Decidable c]
    (h : EffectOut l s a) (k : EffectOut l s b) : EffectOut l s (if c then a else b) := by split <;> assumption

theorem EffectOut.same {l : List Part} {s : State} : EffectOut l s (.next s) := .next (.refl s)

section
variable {s : State}

/-! ## The drive -/

theorem execMicrostepEmit_effect {a : Fin 12} : EffectOut Part.all s (execMicrostepEmit a s) := by
  unfold execMicrostepEmit
  split
  · next t h => exact .next (State.to_effect.after (State.emitOne_effect t h).any)
  · exact .same

theorem execVoltageUpdate_effect {a : Fin 12} {vmot : Nat} {valley : Option (Int × Int)} :
    EffectOut Part.all s (execVoltageUpdate a vmot valley s) :=
  .ite .same (.next (State.modCoil_effect.after (State.voltageUpdate_effect.after (State.runTo_effect.after State.to_effect.any))))

theorem execStandstillDelayExpiry_effect {a : Fin 12} : EffectOut Part.all s (execStandstillDelayExpiry a s) :=
  .ite (.next (State.restCoil_effect.after State.to_effect.any)) .same

theorem execLinkResetReceived_effect {d : Fin 2} : EffectOut Part.all s (execLinkResetReceived d s) :=
  .next (.set (.forAll (fun _ _ => State.standstillPwm_effect.any) (.refl s)) rfl)

theorem execMotClockLoss_effect {d : Fin 2} : EffectOut Part.all s (execMotClockLoss d s) :=
  .next (.forAll (fun _ _ => State.modDrv_effect.any) State.standstillDie_effect.any)

theorem execGateCut_effect {side : Fin 2} : EffectOut Part.all s (execGateCut side s) :=
  .next (.ite (.refl s) (.forAll (fun _ _ => State.cutGate_effect.any) (.refl s)))

theorem execGateRestore_effect {side : Fin 2} : EffectOut Part.all s (execGateRestore side s) :=
  .next (.ite (.forAll (fun _ _ => State.restoreGate_effect.any) (.refl s)) (.refl s))

theorem execOvercurrentTrip_effect {a : Fin 12} : EffectOut Part.all s (execOvercurrentTrip a s) :=
  .next (State.statAxis_effect.after (State.bridgeFault_effect.after State.modWatch_effect.any))

theorem execOpenPhaseDetect_effect {a : Fin 12} {phaseB : Bool} : EffectOut Part.all s (execOpenPhaseDetect a phaseB s) :=
  .next (.ite State.bridgeFault_effect.any (.refl s))

theorem execGdrvUv_effect {d : Fin 2} {low : Bool} : EffectOut Part.all s (execGdrvUv d low s) :=
  .next (.forAll (fun _ _ => .ite (State.bridgeFault_effect.after State.modWatch_effect.any) State.modWatch_effect.any) (.refl s))

theorem execGroupTimeout_effect {grp : Fin 4} : EffectOut Part.all s (execGroupTimeout grp s) := by
  unfold execGroupTimeout
  extract_lets
  split
  · exact .same
  · exact .next (State.ev_effect.after (.forAll (fun _ _ => State.gearFlag_effect.after State.unwait_effect.any) State.to_effect.any))

/-! ## Feedback -/

theorem execEncoderTransition_effect {c : Fin 14} {a b : Bool} {t : Nat} : EffectOut Part.all s (execEncoderTransition c a b t s) :=
  have h1 : Effect Part.all s (s.to t) := State.to_effect.any
  .ite (.next h1) (.ite (.next (State.modFb_effect.after h1)) (.ite
    (.next (State.quadIllegal_effect.after (State.modFb_effect.after h1)))
    (.next (State.quadStep_effect.after (State.modFb_effect.after h1)))))

theorem execIndexEdge_effect {c : Fin 14} {t : Nat} : EffectOut Part.all s (execIndexEdge c t s) :=
  have h1 : Effect Part.all s (s.to t) := State.to_effect.any
  .ite (.next h1) (.ite (.next (State.fbFlag_effect.after (State.modFb_effect.after (State.modFb_effect.after h1))))
    (.next (State.modFb_effect.after h1)))

theorem execSsiFrameStart_effect {c : Fin 14} : EffectOut Part.all s (execSsiFrameStart c s) :=
  .ite (.next State.modFbx_effect.any) .same

theorem execSsiFrameDone_effect {c : Fin 14} {d1 d2 : Nat} {last : Bool} : EffectOut Part.all s (execSsiFrameDone c d1 d2 last s) := by
  unfold execSsiFrameDone
  extract_lets
  split
  · exact .same
  · have h1 {t : Nat} {f : FbAux → FbAux} : Effect Part.all s ((s.to t).modFbx c f) := State.modFbx_effect.after State.to_effect.any
    exact .ite (.next h1) (.ite (.next (State.ssiBad_effect.after (State.modFbx_effect.after h1)))
      (.next (State.ssiGood_effect.after (State.modFbx_effect.after h1))))

theorem execVencFault_effect {low : Bool} : EffectOut Part.all s (execVencFault low s) :=
  .next (.forAll (fun _ _ => State.vencDeclare_effect.after State.modFb_effect.any) (.refl s))

theorem execFbSpeedUpdate_effect {c : Fin 14} : EffectOut Part.all s (execFbSpeedUpdate c s) := by
  unfold execFbSpeedUpdate
  extract_lets b win s1 m s2 s3
  have h1 : Effect Part.all s s1 := .ite (.refl s) State.modFb_effect.any
  have h2 : Effect Part.all s s2 := State.modFb_effect.after h1
  have h3 : Effect Part.all s s3 := by
    unfold s3
    split
    · exact .ite (State.modCoil_effect.after h2) h2
    · exact h2
  exact .next (State.sampleEngines_effect.after h3)

theorem execSpeedTimeout_effect {c : Fin 14} : EffectOut Part.all s (execSpeedTimeout c s) := by
  refine .ite .same ?_
  split
  · exact .next (State.stallStill_effect.after (State.modFb_effect.after State.to_effect.any))
  · exact .next (State.stallStill_effect.after State.modFb_effect.any)

theorem execProbeEdge_effect {k : Fin 4} {rising : Bool} {t : Nat} : EffectOut Part.all s (execProbeEdge k rising t s) :=
  .next (.forAll (fun _ _ => State.probeSeen_effect.any) State.to_effect.any)

theorem execProbeLatchDone_effect {c : Fin 14} {k : Fin 4} : EffectOut Part.all s (execProbeLatchDone c k s) := by
  unfold execProbeLatchDone
  split
  · exact .same
  · refine .ite (.next (State.probeStore_effect.after State.to_effect.any)) ?_
    extract_lets
    split
    · exact .same
    · exact .next State.probeStore_effect.any
    · exact .next (State.fbFlag_effect.after State.modPrb_effect.any)

theorem execDinEdge_effect {n : Fin 48} {level : Bool} {first t : Nat} : EffectOut Part.all s (execDinEdge n level first t s) :=
  .ite (.next State.to_effect.any) (.next (State.raiseAt_effect.after (.set State.to_effect.any rfl)))

/-! ## Load switches -/

theorem execLswOcTimeout_effect {c : Fin 24} : EffectOut Part.all s (execLswOcTimeout c s) :=
  .next (.ite (.refl s) (.ite (State.lswTrip_effect.after State.to_effect.any) (.ite State.lswTrip_effect.any (.refl s))))

theorem execLswRetry_effect {c : Fin 24} : EffectOut Part.all s (execLswRetry c s) := by
  unfold execLswRetry
  split
  · exact .same
  · have h1 {t : Nat} {f : Lsw → Lsw} : Effect Part.all s ((s.to t).modLsw c f) := State.modLsw_effect.after State.to_effect.any
    exact .ite .same (.next (.ite (State.retry_effect.after h1) (State.settle_effect.after h1)))

theorem execLswRetryDeferred_effect {c : Fin 24} : EffectOut Part.all s (execLswRetryDeferred c s) :=
  .next (.ite State.retry_effect.any (.refl s))

theorem execLswChannelCooled_effect {c : Fin 24} : EffectOut Part.all s (execLswChannelCooled c s) :=
  .next (.ite (State.retry_effect.after State.modLsw_effect.any) (.refl s))

theorem execLswTriesReset_effect {c : Fin 24} : EffectOut Part.all s (execLswTriesReset c s) :=
  .ite .same (.next (State.modLsw_effect.after State.to_effect.any))

theorem execInrushSegmentEnd_effect {c : Fin 24} : EffectOut Part.all s (execInrushSegmentEnd c s) := by
  unfold execInrushSegmentEnd
  split
  · exact .same
  · exact .next (State.modLswx_effect.after (State.modLsw_effect.after State.to_effect.any))

theorem execOffHighSet_effect {c : Fin 24} : EffectOut Part.all s (execOffHighSet c s) :=
  .ite .same (.next (State.ev_effect.after (State.lswFlag_effect.after (State.modLswx_effect.after
    (State.modLsw_effect.after State.to_effect.any)))))

theorem execOffHighClear_effect {c : Fin 24} : EffectOut Part.all s (execOffHighClear c s) :=
  .ite .same (.next (State.modLswx_effect.after (State.modLsw_effect.after State.to_effect.any)))

theorem execRevBlock_effect {c : Fin 24} : EffectOut Part.all s (execRevBlock c s) :=
  .next (.ite (.refl s) (State.lswFlag_effect.after State.modLsw_effect.any))

theorem execPulsePeriodStart_effect {c : Fin 24} : EffectOut Part.all s (execPulsePeriodStart c s) :=
  .ite .same (.next (State.modLswx_effect.after (State.takePhase_effect.after (State.setOut_effect.after
    (State.modLsw_effect.after State.to_effect.any)))))

theorem execLselChange_effect {code : Fin 32} : EffectOut Part.all s (execLselChange code s) :=
  .next (State.selectSense_effect.after (.set (.refl s) rfl))

theorem execLswPacketInterval_effect : EffectOut Part.all s (execLswPacketInterval s) := by
  refine .next ?_
  split
  · exact .ite (.refl s) (.ite State.lswSend_effect.any (.ite State.lswSend_effect.any (.refl s)))
  · exact State.lswSend_effect.any
  all_goals first | exact .ite State.lswSend_effect.any (.refl s) | exact .refl s

theorem execLswNormalPacket_effect : EffectOut Part.all s (execLswNormalPacket s) := by
  unfold execLswNormalPacket
  split
  · exact .same
  · exact .ite (.next State.lswPop_effect.any) (.next (State.settleAll_effect.after (State.wdtTo_effect.after
      (.forAll (fun _ _ => State.modLswx_effect.after State.modLsw_effect.any) State.lswPop_effect.any))))

theorem execLswFailsafePacket_effect : EffectOut Part.all s (execLswFailsafePacket s) := by
  unfold execLswFailsafePacket
  split
  · exact .same
  · have h2 : Effect Part.all s (s.lswPop.wdtTo .failCmd) := State.wdtTo_effect.after State.lswPop_effect.any
    exact .ite (.next State.lswPop_effect.any) (.next (State.settleAll_effect.after (.ite (State.lswFailsafe_effect.after h2) h2)))

theorem execLswAllOffPacket_effect : EffectOut Part.all s (execLswAllOffPacket s) := by
  unfold execLswAllOffPacket
  split
  · exact .same
  · exact .next (.ite State.lswPop_effect.any (State.settleAll_effect.after (State.wdtTo_effect.after State.lswPop_effect.any)))

theorem execLswStorePacket_effect : EffectOut Part.all s (execLswStorePacket s) := by
  unfold execLswStorePacket
  split
  · exact .same
  · exact .ite (.next State.lswPop_effect.any) (.next (State.settleAll_effect.after
      (.forAll (fun _ _ => State.modLsw_effect.any) State.lswPop_effect.any)))

theorem execLswWdtExpiry_effect : EffectOut Part.all s (execLswWdtExpiry s) :=
  .ite (.next (State.holdWdt_effect.after State.wdtEnd_effect.any))
    (.ite (.next (State.failWdt_effect.after (State.wdtExpired_effect.after State.wdtEnd_effect.any))) .same)

theorem execLswHoldExpiry_effect : EffectOut Part.all s (execLswHoldExpiry s) :=
  .ite (.next (State.failWdt_effect.after State.to_effect.any)) .same

end
end Sys2Proof.Machine
end

section
/-! PROOFS. What every command keeps, continued: CAN, portals, stations, pages, the program, safety. -/

namespace Sys2Proof.Machine

section
variable {s : State}

/-! ## CAN -/

theorem execCanFrameRx_effect {n : Fin 4} {w0 w1 : Word} {data : List Byte} {sof val : Nat} :
    EffectOut Part.all s (execCanFrameRx n w0 w1 data sof val s) :=
  have h1 : Effect Part.all s (s.to val) := State.to_effect.any
  .ite (.next h1) (.ite (.next (State.canError_effect.after h1)) (.next (State.canAfterRx_effect.after
    (State.modCan_effect.after (.ite h1 (State.canReceive_effect.after h1))))))

theorem execCanTxComplete_effect {n : Fin 4} {sof val : Nat} : EffectOut Part.all s (execCanTxComplete n sof val s) := by
  unfold execCanTxComplete
  extract_lets c
  split
  · exact .same
  · extract_lets w1 s1 s2 s3
    have h1 : Effect Part.all s s1 :=
      State.post_effect.after (State.modCanc_effect.after (State.modCan_effect.after State.to_effect.any))
    have h2 : Effect Part.all s s2 := by
      unfold s2
      split
      · exact State.modFlight_effect.after h1
      · exact h1
    have h3 : Effect Part.all s s3 := .ite (State.canStore_effect.after h2) h2
    exact .ite .same (.next (State.canAfter_effect.after (State.canConfine_effect.after h3)))

theorem execCanTxAttemptFail_effect {n : Fin 4} {error : Bool} : EffectOut Part.all s (execCanTxAttemptFail n error s) :=
  .next (.ite (State.canAfterRx_effect.after State.attemptFail_effect.any) (.refl s))

theorem execCanRecoveryDone_effect {n : Fin 4} : EffectOut Part.all s (execCanRecoveryDone n s) :=
  .ite (.next (State.canAttempt_effect.after (State.ev_effect.after (State.canFlag_effect.after State.modCan_effect.any)))) .same

theorem execCanWupDetect_effect {n : Fin 4} : EffectOut Part.all s (execCanWupDetect n s) :=
  .next (.ite State.canFlag_effect.any (.refl s))

/-! ## Portals -/

theorem execSedgSample_effect {e : Fin 16} {ohm : Nat} : EffectOut Part.all s (execSedgSample e ohm s) :=
  have h1 {f g : Edge → Edge} : Effect Part.all s ((s.modEdge e f).modEdge e g) := State.modEdge_effect.after State.modEdge_effect.any
  .ite .same (.ite (.next State.modEdge_effect.any) (.ite (.next h1) (.next (.forAll (fun _ _ => State.raise_effect.after
    (State.statPtl_effect.after (State.modRun_effect.after State.modPtl_effect.any))) h1))))

theorem execEdgeFaultDetect_effect {e : Fin 16} : EffectOut Part.all s (execEdgeFaultDetect e s) :=
  .ite .same (.next (.forAll (fun _ _ => State.raise_effect.after
    (State.modRun_effect.after (State.modPin_effect.after State.ptlFlag_effect.any))) State.modEdge_effect.any))

theorem execEdgeFaultClear_effect {p : Fin 8} : EffectOut Part.all s (execEdgeFaultClear p s) :=
  .ite .same (.next (State.modPin_effect.after (State.modPtl_effect.after State.to_effect.any)))

/-! ## Stations -/

theorem execStnIn_effect {i : Fin 16} {ctr status : Nat} {data : List Byte} {t : Nat} :
    EffectOut Part.all s (execStnIn i ctr status data t s) := by
  refine .ite (.next State.to_effect.any) ?_
  extract_lets u
  have h1 : Effect Part.all s u := State.stnStatus_effect.after State.to_effect.any
  split
  · exact .ite (.next h1) (.ite (.next (State.stnFlag_effect.after h1)) (.next (State.stnGood_effect.after h1)))
  · exact .next h1

theorem execStnReplyTimeout_effect {i : Fin 16} : EffectOut Part.all s (execStnReplyTimeout i s) := by
  unfold execStnReplyTimeout
  split
  · exact .next (State.stnMiss_effect.after State.to_effect.any)
  · exact .same

theorem execJoinReq_effect {i : Fin 16} {data : List Byte} : EffectOut Part.all s (execJoinReq i data s) := by
  unfold execJoinReq
  extract_lets x
  split
  · exact .same
  · rename_i b r ver s1 ack s2 s3 _ _ _
    have h2 : Effect Part.all s s2 := State.modStn_effect.after State.modStn_effect.any
    have h3 : Effect Part.all s s3 := .ite h2 (State.ackNow_effect.after h2)
    exact .ite .same (.ite (.next (State.stnTo_effect.after h3))
      (.next (State.ev_effect.after (State.stnFlag_effect.after (State.stnTo_effect.after h3)))))

theorem execStnConfigExchange_effect : EffectOut Part.all s (execStnConfigExchange s) :=
  .ite .same (.next (.forAll (fun _ _ => State.stnOut_effect.any) (State.acksNow_effect.after State.to_effect.any)))

/-! ## Pages -/

theorem execCommitBoundary_effect {p : PageId} : EffectOut Part.all s (execCommitBoundary p s) := by
  unfold execCommitBoundary
  split
  · exact .same
  · exact .next (State.commitNow_effect.after State.to_effect.any)

theorem execSnapCapture_effect {p : PageId} {arrival : Nat} : EffectOut Part.all s (execSnapCapture p arrival s) := by
  unfold execSnapCapture
  extract_lets g
  split
  · exact .same
  · have h3 {t : Nat} {f : Page → Page} : Effect Part.all s (((s.to t).commitDueNow p).modPg p f) :=
      State.modPg_effect.after (State.commitDueNow_effect.after State.to_effect.any)
    exact .ite .same (.next (.ite (State.err_effect.after (State.modClk_effect.after h3)) h3))

theorem execSnapComplete_effect {p : PageId} : EffectOut Part.all s (execSnapComplete p s) :=
  .next (.ite (State.irq_effect.after State.modPg_effect.any) (.refl s))

theorem execMirrorUpdate_effect {p : PageId} {m : Meas} : EffectOut Part.all s (execMirrorUpdate p m s) := by
  unfold execMirrorUpdate
  extract_lets apart s1
  have h1 : Effect Part.all s s1 := by
    unfold s1
    split
    · exact State.measureLsw_effect.any
    · exact .ite (.refl s) State.measureCan_effect.any
    · exact .ite (.refl s) State.measure_effect.any
  exact .ite .same (.next (.ite (State.modPg_effect.after h1) h1))

theorem execWriteQueueDrain_effect {p : PageId} : EffectOut Part.all s (execWriteQueueDrain p s) :=
  have h1 {n : Nat} {c : Prop} [Decidable c] {f : Clocks → Clocks} : Effect Part.all s (State.drain p n (if c then s.modClk f else s)) :=
    State.drain_effect.after (.ite State.modClk_effect.any (.refl s))
  .ite .same (.next (.ite (State.appIdle_effect.after h1) h1))

theorem execImageLoadWrite_effect {off : Nat} {data : List Byte} : EffectOut Part.all s (execImageLoadWrite off data s) := by
  refine .ite (.next State.windowWrite_effect.any) (.ite .same ?_)
  split
  · exact .same
  · exact .next State.err_effect.any

theorem execWideFieldRead_effect {a : BarAddr} {size : Nat} : EffectOut Part.all s (execWideFieldRead a size s) := by
  refine .next ?_
  split
  · exact State.busRead_effect.after State.readBegin_effect.any
  · exact State.bar2Read_effect.after State.readBegin_effect.any

theorem execRxWindowRead_effect {n : Fin 4} {w : Fin 24} : EffectOut Part.all s (execRxWindowRead n w s) :=
  .next (State.readOut_effect.after (State.pageRead_effect.after State.readBegin_effect.any))

/-! ## The recorder and the program -/

theorem execRecClearDone_effect : EffectOut Part.all s (execRecClearDone s) := by
  refine .ite .same ?_
  have h1 {f : Recorder → Recorder} : Effect Part.all s (s.modRec f) := State.modRec_effect.any
  exact .next (State.engineFree_effect.after (.ite (State.err_effect.after h1) (.ite (State.recClear_effect.after h1)
    (State.ev_effect.after (State.err_effect.after (State.recFlag_effect.after (State.modRec_effect.after h1)))))))

theorem execPrgVerifyDone_effect : EffectOut Part.all s (execPrgVerifyDone s) :=
  .ite .same (.ite
    (.next (State.engineFree_effect.after (State.modPrg_effect.after (State.loadBank_effect.after State.guardVerdict_effect.any))))
    (.next (State.engineFree_effect.after (State.prgFlag_effect.after (State.modPrg_effect.after State.guardVerdict_effect.any)))))

theorem execTimetableTick_effect : EffectOut Part.all s (execTimetableTick s) := by
  unfold execTimetableTick
  extract_lets t s1 src u
  have h1 : Effect Part.all s u := .set (x := s1) State.to_effect.any rfl
  exact .ite (.next (.ite (State.overrun_effect.after h1) (State.sendImage_effect.after (State.freeze_effect.after h1)))) (.next h1)

theorem execTasksComplete_effect {t : Nat} {out bank : List (Nat × Nat × Byte)} {times : List (Nat × Nat)} :
    EffectOut Part.all s (execTasksComplete t out bank times s) := by
  unfold execTasksComplete
  extract_lets r u src v
  have h1 : Effect Part.all s u := State.taskTimes_effect.after (State.taskWrites_effect.after State.to_effect.any)
  have h2 : Effect Part.all s v := .forAll (fun _ _ => State.accessTrap_effect.any) h1
  exact .ite (.next (.forAll (fun _ _ => State.accessTrap_effect.any) (.set h1 rfl))) (.ite .same
    (.next (.ite (State.phase4_effect.after (State.publish_effect.after (.set h2 rfl))) h2)))

theorem execEventTaskRelease_effect {task : Nat} {out bank : List (Nat × Byte)} {time : Nat} :
    EffectOut Part.all s (execEventTaskRelease task out bank time s) := by
  unfold execEventTaskRelease
  split
  · exact .same
  · extract_lets t r u src u1
    have h : Effect Part.all s u := State.taskTimes_effect.after (State.taskWrites_effect.after
      (State.enterTask_effect.after State.to_effect.any))
    have h1 : Effect Part.all s u1 := .set h rfl
    exact .ite .same (.ite (.next (.forAll (fun _ _ => State.accessTrap_effect.any) h))
      (.next (.ite h1 (State.publishStations_effect.after (State.publishLoads_effect.after h1)))))

theorem execTaskTimeout_effect {tasks : List (Nat × Word)} {stops : Bool} : EffectOut Part.all s (execTaskTimeout tasks stops s) := by
  refine .ite .same ?_
  extract_lets u u1
  have h1 : Effect Part.all s u1 :=
    .forAll (fun _ t => .ite (State.trap_effect.after (State.draw_effect (s := t)).any) (.refl t)) State.to_effect.any
  exact .next (.ite (State.prgStop_effect.after h1) h1)

theorem execProgramTrap_effect {task cause : Nat} {pc val : Word} {stops : Bool} :
    EffectOut Part.all s (execProgramTrap task cause pc val stops s) := by
  refine .ite .same (.ite (.next (.ite (State.verdict_effect.after State.trap_effect.any) (.refl s))) ?_)
  split
  · exact .ite (.next (State.verdict_effect.after (.set (.refl s) rfl))) .same
  · exact .same

theorem execStnAck_effect {i : Fin 16} : EffectOut Part.all s (execStnAck i s) :=
  .next (.served fun _ => .ite (State.answer_effect.after State.modStn_effect.any) State.answer_effect.any)

theorem execWarn_effect {code : Nat} {data : Word} : EffectOut Part.all s (execWarn code data s) :=
  .next (.served fun _ => State.answer_effect.after State.ev_effect.any)

theorem execSemTake_effect {n : Fin 16} : EffectOut Part.all s (execSemTake n s) :=
  .next (.served fun y => .ite State.answer_effect.any (State.answer_effect.after (.set (.refl y) rfl)))

theorem execSemGive_effect {n : Fin 16} : EffectOut Part.all s (execSemGive n s) :=
  .next (.served fun y => State.answer_effect.after (.set (.refl y) rfl))

theorem execPrgSwitchExec_effect {t : Nat} : EffectOut Part.all s (execPrgSwitchExec t s) := by
  unfold execPrgSwitchExec
  extract_lets p u l tab r s1 took s2 last src s3
  have h2 : Effect Part.all s s2 := State.modPrg_effect.after (State.swapSlots_effect.after (State.migrate_effect.after
    (State.sectUse_effect.after State.to_effect.any)))
  exact .ite .same (.next (State.prgRecord_effect.after (State.prgFlag_effect.after (State.retAll_effect.after
    (State.switchOver_effect.after (.set h2 rfl))))))

/-! ## Modes -/

theorem execConfigExit_effect : EffectOut Part.all s (execConfigExit s) :=
  .ite (.next State.noteLeave_effect.any) (.next (State.exitConfig_effect.after (State.to_effect.after State.noteLeave_effect.any)))

theorem execJoinWaitExpiry_effect : EffectOut Part.all s (execJoinWaitExpiry s) := by
  unfold execJoinWaitExpiry
  split
  · exact .same
  · next t _ => exact .next (State.noteLeave_effect.after (.set (x := s.to (t + ms s.cfg.joinWait)) State.to_effect.any rfl))

theorem execServiceKeyLost_effect : EffectOut Part.all s (execServiceKeyLost s) := by
  unfold execServiceKeyLost
  split
  · refine .ite .same ?_
    extract_lets s1 s2
    have h2 : Effect Part.all s s2 := .forAll (fun _ _ => State.accept_effect.any) State.to_effect.any
    exact .next (.set h2 rfl)
  · exact .same

theorem execSvcKeyLostHold_effect : EffectOut Part.all s (execSvcKeyLostHold s) :=
  .next (.ite State.toSafeHold_effect.any (.refl s))

/-! ## Safety channels -/

theorem execSbxSample_effect {a b : Word} : EffectOut Part.all s (execSbxSample a b s) := by
  unfold execSbxSample
  extract_lets c
  split
  · exact .same
  · exact .next (.ite (.set (.refl s) rfl) (.refl s))

theorem execGuardCycle_effect {a b : Word} : EffectOut Part.all s (execGuardCycle a b s) := by
  unfold execGuardCycle
  extract_lets c
  split
  · exact .same
  · exact .ite .same (.next (State.grdCompare_effect.after (State.grdDrive_effect.after (State.sinChanges_effect.after
      (.set (.refl s) rfl)))))

theorem execDiscrepancyExpiry_effect {sbx : Bool} {n : Fin 32} : EffectOut Part.all s (execDiscrepancyExpiry sbx n s) := by
  unfold execDiscrepancyExpiry
  extract_lets c
  split
  · exact .next (State.inputFault_effect.after (.ite (.refl s) State.to_effect.any))
  · exact .same

theorem execTestPulse_effect {k : Fin 4} {seen : Bool} : EffectOut Part.all s (execTestPulse k seen s) := by
  unfold execTestPulse
  split
  · exact .same
  · next due _ => exact .ite .same (.next (.set (x := s.to due) State.to_effect.any rfl))

theorem execTpContactSample_effect {sbx : Bool} {k : Fin 4} {live : Word} : EffectOut Part.all s (execTpContactSample sbx k live s) := by
  unfold execTpContactSample
  extract_lets c
  split
  · exact .next (.forAll (fun _ _ => State.inputFault_effect.any) (.ite (.refl s) State.to_effect.any))
  · exact .same

theorem execTpMonitor_effect {sbx : Bool} {k : Fin 4} {high : Bool} : EffectOut Part.all s (execTpMonitor sbx k high s) := by
  unfold execTpMonitor
  split
  · exact .next (.ite State.tpFail_effect.any (.refl s))
  · exact .same

theorem execSealSequence_effect : EffectOut Part.all s (execSealSequence s) :=
  .next (.ite (.refl s) (.ite (.set (.refl s) rfl) (.ite (.set (.refl s) rfl) (.refl s))))

theorem execReread_effect : EffectOut Part.all s (execReread s) := .next (.ite (.set (.refl s) rfl) (.refl s))

theorem execSealSequenceDone_effect {g g' b b' : SealRead} : EffectOut Part.all s (execSealSequenceDone g g' b b' s) := by
  unfold execSealSequenceDone
  extract_lets run takes errs grd changed x s1 s2 s3 s4 s5
  have h2 : Effect Part.all s s2 := State.sinChanges_effect.after (.set (.refl s) rfl)
  have h3 : Effect Part.all s s3 := .ite h2 (State.ev_effect.after h2)
  have h4 : Effect Part.all s s4 := .ite (State.irq_effect.after h3) h3
  have h5 : Effect Part.all s s5 := .ite (State.startPattern_effect.after h4) h4
  exact .ite .same (.next (.ite (State.rereadDone_effect.after h5) h5))

theorem execSoutStuck_effect {sbx : Bool} {n : Fin 4} {on : Bool} : EffectOut Part.all s (execSoutStuck sbx n on s) :=
  .next (.ite (.refl s) State.outputFault_effect.any)

theorem execGuardLatchTimeout_effect : EffectOut Part.all s (execGuardLatchTimeout s) :=
  .next (State.permitReport_effect.after (.set (x := s.to (s.safe.latchAt + ms 1)) State.to_effect.any rfl))

theorem execLockstepMismatch_effect : EffectOut Part.all s (execLockstepMismatch s) :=
  .next (State.permitReport_effect.after (.set (.refl s) rfl))

theorem execDivergeTimeout_effect : EffectOut Part.all s (execDivergeTimeout s) := by
  unfold execDivergeTimeout
  split
  · exact .same
  split
  · exact .same
  · extract_lets u l x p i s1 s2
    have h : Effect Part.all s u := State.to_effect.any
    have h2 : Effect Part.all s s2 := State.ev_effect.after (.set h rfl)
    exact .ite (.next h) (.next (State.demand_effect.after (.ite h2 (State.irq_effect.after h2))))

theorem execGuardLinkWithdraw_effect : EffectOut Part.all s (execGuardLinkWithdraw s) :=
  .next (State.grdDrive_effect.after (.set (.refl s) rfl))

theorem execGateMapReadback_effect {map : Word} {types : List Nat} {locks : List (Nat × Nat)} :
    EffectOut Part.all s (execGateMapReadback map types locks s) := by
  unfold execGateMapReadback
  extract_lets bad src s1
  have h1 : Effect Part.all s s1 := .set (.refl s) rfl
  exact .next (.ite (.refl s) (.ite (State.demand_effect.after h1) h1))

theorem execStatusFrame_effect {good : Bool} {cnt : Nat} : EffectOut Part.all s (execStatusFrame good cnt s) := by
  unfold execStatusFrame
  extract_lets f was src s1 s2
  have h2 : Effect Part.all s s2 := State.frameReport_effect.after (State.post_effect.after (State.sbxMirror_effect.after
    (.set (.refl s) rfl)))
  exact .ite .same (.ite (.next (.set (.refl s) rfl)) (.ite .same (.next (.ite (State.irq_effect.after h2) h2))))

theorem execStatusFrameMissing_effect : EffectOut Part.all s (execStatusFrameMissing s) := by
  refine .ite .same ?_
  extract_lets n s1
  have h1 : Effect Part.all s s1 := .set (.refl s) rfl
  exact .next (.ite (State.dieLost_effect.after h1) h1)

end
end Sys2Proof.Machine
end

section
/-! PROOFS. What every command keeps, continued: the pair, security, the host interface, clocks and supply, links, boot; then every
command, and every step (O2, O3, O4). -/

namespace Sys2Proof.Machine

section
variable {s : State}

/-! ## The redundant pair -/

theorem execLoads_effect {good : Bool} {cnt : Nat} {data : List Byte} : EffectOut Part.all s (execLoads good cnt data s) :=
  .next (.paired fun _ => .mirrored fun y => .ite (.refl y) (.set (.refl y) rfl))

theorem execQueue_effect {good : Bool} {cnt : Nat} {a : Fin 12} {qcnt : Nat} {q : QueueMsg} :
    EffectOut Part.all s (execQueue good cnt a qcnt q s) :=
  .next (.paired fun _ => .mirrored fun y => .set (.refl y) rfl)

theorem execEnv_effect {good : Bool} {cnt : Nat} {p : Fin 8} {leaf : Fin 2} {data : List Word} :
    EffectOut Part.all s (execEnv good cnt p leaf data s) :=
  .next (.paired fun _ => .mirrored fun y => .ite (.refl y) (.set (.refl y) rfl))

theorem execPairHelloTimer_effect : EffectOut Part.all s (execPairHelloTimer s) :=
  .ite .same (.next (State.sendHello_effect.after (.set (.refl s) rfl)))

theorem execPairStatusTimer_effect : EffectOut Part.all s (execPairStatusTimer s) := .ite .same (.next State.pairMsg_effect.any)

theorem execPairLinkLoss_effect : EffectOut Part.all s (execPairLinkLoss s) :=
  .ite .same (.next (State.ev_effect.after (State.pairFlag_effect.after
    (.set (x := s.to (s.pair.goodAt + ms 3)) State.to_effect.any rfl))))

theorem execMirrorStale_effect : EffectOut Part.all s (execMirrorStale s) := by
  unfold execMirrorStale
  split
  · next t _ => exact .ite .same (.next (State.ev_effect.after (State.pairFlag_effect.after
      (.set (x := s.to (t + us 125 + 1)) State.to_effect.any rfl))))
  · exact .same

theorem execPairActIRise_effect : EffectOut Part.all s (execPairActIRise s) := by
  unfold execPairActIRise
  extract_lets src1 src2 t src3 src4 src5
  have h1 : Effect Part.all s t := State.pairCutAll_effect.after (.set (.refl s) rfl)
  exact .ite .same (.ite (.next (State.elect_effect.after h1)) (.ite
    (.ite (.next (State.elect_effect.after (.set h1 rfl))) (.next h1)) (.next (State.conflict_effect.after h1))))

theorem execPairActIFall_effect : EffectOut Part.all s (execPairActIFall s) :=
  .ite .same (.next (State.elect_effect.after (.set (.refl s) rfl)))

theorem execPairGateRestore_effect : EffectOut Part.all s (execPairGateRestore s) :=
  .ite .same (.next (.forAll (fun _ _ => .ite (State.coilsOn_effect.after State.modWatch_effect.any) State.modWatch_effect.any)
    State.to_effect.any))

theorem execElectAssertWait_effect : EffectOut Part.all s (execElectAssertWait s) := by
  unfold execElectAssertWait
  split
  · extract_lets u src1 src2 s1
    have h : Effect Part.all s u := State.to_effect.any
    have h1 : Effect Part.all s s1 := State.toRun_effect.after (.set h rfl)
    exact .ite .same (.next (.ite (State.conflict_effect.after h1) h1))
  · exact .same

theorem execElectTimeout_effect : EffectOut Part.all s (execElectTimeout s) := by
  unfold execElectTimeout
  split
  · exact .ite .same (.next (State.elect_effect.after State.to_effect.any))
  · exact .same

theorem execLoadOverlapExpiry_effect : EffectOut Part.all s (execLoadOverlapExpiry s) := by
  unfold execLoadOverlapExpiry
  split
  · next t _ => exact .next (State.lswSend_effect.after
      (.set (x := s.to (max t s.pair.actIAt + ms s.cfg.overlap)) State.to_effect.any rfl))
  · exact .same

theorem execGiveupLoadTimeout_effect : EffectOut Part.all s (execGiveupLoadTimeout s) := by
  unfold execGiveupLoadTimeout
  split
  · next t _ => exact .next (State.lswSend_effect.after (.set (x := s.to (t + ms 2)) State.to_effect.any rfl))
  · exact .same

theorem execTakeoverGuard_effect : EffectOut Part.all s (execTakeoverGuard s) := by
  unfold execTakeoverGuard
  split
  · exact .same
  · extract_lets u warm d s1 gap src1 src2 s2 s3 s4 s5
    have h1 : Effect Part.all s s1 := (State.draw_effect (s := u)).after State.to_effect.any
    have h2 : Effect Part.all s s2 := .set h1 rfl
    have h3 : Effect Part.all s s3 := State.modeTo_effect.after (State.pairCutAll_effect.after h2)
    have h4 : Effect Part.all s s4 :=
      .ite (State.pairFlag_effect.after h3) (State.pairFlag_effect.after (State.pairFlag_effect.after h3))
    have h5 : Effect Part.all s s5 := State.ev_effect.after h4
    exact .ite .same (.next (.ite (.forAll (fun _ _ => State.resumePtl_effect.any) (State.takeoverLoads_effect.after h5))
      (State.takeoverCold_effect.after h5)))

theorem execControlPeriodBoundary_effect : EffectOut Part.all s (execControlPeriodBoundary s) := by
  unfold execControlPeriodBoundary
  extract_lets n s1 u
  have h1 : Effect Part.all s s1 := .forAll (fun _ _ => State.landAxis_effect.after State.takeoverTake_effect.any) State.to_effect.any
  have h2 : Effect Part.all s u := State.refSample_effect.after (State.boundaryAt_effect.after h1)
  clear_value u
  exact .next (State.sendMotion_effect.after (.set h2 rfl))

theorem execPlannerTake_effect {a : Fin 12} : EffectOut Part.all s (execPlannerTake a s) :=
  .next (State.takeDue_effect.after State.takeoverTake_effect.any)

/-! ## Security, event queues, the host interface -/

theorem execSecVerifyDone_effect : EffectOut Part.all s (execSecVerifyDone s) :=
  .ite .same (.next (State.engineFree_effect.after (State.modSec_effect.after State.copyVerdict_effect.any)))

theorem execAttestDone_effect : EffectOut Part.all s (execAttestDone s) :=
  .ite .same (.next (State.ev_effect.after State.modSec_effect.any))

theorem execEvqCoalTimeout_effect {q : Fin 8} : EffectOut Part.all s (execEvqCoalTimeout q s) := by
  unfold execEvqCoalTimeout
  extract_lets time
  split
  · exact .same
  · have h1 {t : Nat} : Effect Part.all s (s.to t) := State.to_effect.any
    exact .ite .same (.ite (.next (State.evqSignal_effect.after h1)) (.next (State.modEvq_effect.after h1)))

theorem execHspiEvtRead_effect : EffectOut Part.all s (execHspiEvtRead s) := by
  unfold execHspiEvtRead
  split
  · exact .next (.set (.refl s) rfl)
  · exact .next (State.hspiPop_effect.after (.set (.refl s) rfl))

theorem execPcieLinkChange_effect {link width speed : Nat} {master msix msi : Bool} {msiN corr recov : Nat} :
    EffectOut Part.all s (execPcieLinkChange link width speed master msix msi msiN corr recov s) := by
  unfold execPcieLinkChange
  extract_lets l up h runs src1 src2 t
  have h1 : Effect Part.all s t := .set (.refl s) rfl
  exact .next (.ite (State.evqResume_effect.after h1) h1)

theorem execEventRelease_effect : EffectOut Part.all s (execEventRelease s) := by
  unfold execEventRelease
  split
  · exact .same
  · exact .ite (.next State.releaseOne_effect.any) .same

/-! ## Resets, clocks, supply -/

theorem execJtagReset_effect : EffectOut Part.all s (execJtagReset s) := .next (.ite (.refl s) State.fullReset_effect.any)

theorem execPcieReset_effect : EffectOut Part.all s (execPcieReset s) :=
  .next (State.modPg_effect.after (.forAll (fun _ _ => State.evqOff_effect.any) (.set (.refl s) rfl)))

theorem execClockCheck_effect {k : Fin 12} {count rc : Nat} : EffectOut Part.all s (execClockCheck k count rc s) :=
  .ite .same (.next (State.clkConsequence_effect.after (State.ev_effect.after State.modClk_effect.any)))

theorem execOnDemandClockStart_effect {nvm : Bool} : EffectOut Part.all s (execOnDemandClockStart nvm s) :=
  .next (.ite (.ite State.granTouch_effect.any (.refl s)) State.clkDemand_effect.any)

theorem execNvmClockIdleStop_effect : EffectOut Part.all s (execNvmClockIdleStop s) :=
  .next (.ite (.set (x := s.to (s.mem.touched + ms 1)) State.to_effect.any rfl) (.refl s))

theorem execVlogWarnEnter_effect {mv : Nat} : EffectOut Part.all s (execVlogWarnEnter mv s) := by
  refine .next ?_
  split
  · exact .refl s
  · exact .ite (.refl s) (State.pwrEv_effect.after (State.supSet_effect.after State.to_effect.any))

theorem execVlogWarnExit_effect : EffectOut Part.all s (execVlogWarnExit s) := by
  refine .next ?_
  split
  · exact .ite (State.supSet_effect.after State.to_effect.any) (.refl s)
  · exact .refl s

theorem execPowerFail_effect : EffectOut Part.all s (execPowerFail s) := .next (State.fullReset_effect.after State.to_effect.any)

theorem execVmotDerateEnter_effect {d : Fin 2} {mv : Nat} : EffectOut Part.all s (execVmotDerateEnter d mv s) := by
  refine .next ?_
  split
  · exact State.modPwr_effect.after (State.supSet_effect.after State.to_effect.any)
  · exact .refl s

theorem execVmotDerateExit_effect {d : Fin 2} : EffectOut Part.all s (execVmotDerateExit d s) := by
  refine .next ?_
  split
  · exact State.modPwr_effect.after (State.supSet_effect.after State.to_effect.any)
  · exact .refl s

/-- A supply condition that begins: its halts and its event, at the end of its filter. -/
theorem State.vmotHolds_effect {t mv code : Nat} {d : Fin 2} {k : Fin 8} {l : List Byte} :
    Effect Part.all s ((((s.to t).supSet k true).supHalts d).pwrEv mv code l) :=
  State.pwrEv_effect.after (State.supHalts_effect.after (State.supSet_effect.after State.to_effect.any))

theorem execVmotUvEnter_effect {d : Fin 2} {mv : Nat} : EffectOut Part.all s (execVmotUvEnter d mv s) := by
  refine .next ?_
  split
  · exact .ite (.refl s) State.vmotHolds_effect
  · exact .refl s

theorem execVmotUvExit_effect {d : Fin 2} : EffectOut Part.all s (execVmotUvExit d s) := by
  refine .next ?_
  split
  · exact State.unhaltDie_effect.after (State.supSet_effect.after State.to_effect.any)
  · exact .refl s

theorem execVmotOvEnter_effect {d : Fin 2} {mv : Nat} : EffectOut Part.all s (execVmotOvEnter d mv s) := by
  refine .next ?_
  split
  · exact .ite (.refl s) State.vmotHolds_effect
  · exact .refl s

theorem execVmotOvExit_effect {d : Fin 2} : EffectOut Part.all s (execVmotOvExit d s) := by
  refine .next ?_
  split
  · exact State.unhaltDie_effect.after (State.supSet_effect.after State.to_effect.any)
  · exact .refl s

theorem execVlswUvEnter_effect : EffectOut Part.all s (execVlswUvEnter s) :=
  .next (.ite (.refl s) (State.lswUv_effect.after State.supSet_effect.any))

theorem execVlswUvExit_effect : EffectOut Part.all s (execVlswUvExit s) := by
  refine .next ?_
  split
  · exact .ite (State.lswUv_effect.after (State.supSet_effect.after State.to_effect.any)) (.refl s)
  · exact .refl s

theorem execThermalModelUpdate_effect {d : Fin 2} {sq : Nat} : EffectOut Part.all s (execThermalModelUpdate d sq s) :=
  .ite .same (.next (State.thermalFall_effect.after (State.thermalStop_effect.after State.modPwr_effect.any)))

theorem execThermalScaleUpdate_effect {d : Fin 2} {sq : Nat} : EffectOut Part.all s (execThermalScaleUpdate d sq s) := by
  unfold execThermalScaleUpdate
  split
  · exact .next (.ite State.setScale_effect.any State.setScale_effect.any)
  · exact .same

theorem execTempSensorUpdate_effect {die : Option (Fin 8)} {t : Int} : EffectOut Part.all s (execTempSensorUpdate die t s) := by
  unfold execTempSensorUpdate
  extract_lets v reads s1 high bp s2 num s3 s4
  have h2 : Effect Part.all s s2 := State.supSet_effect.after (State.supSet_effect.after State.modPwr_effect.any)
  have h3 : Effect Part.all s s3 := .ite (State.pwrEv_effect.after h2) h2
  have h4 : Effect Part.all s s4 := .ite (State.pwrEv_effect.after h3) h3
  exact .ite .same (.next (State.modPwr_effect.after h4))

theorem execDieOvertempHold_effect {d : Fin 8} : EffectOut Part.all s (execDieOvertempHold d s) := by
  unfold execDieOvertempHold
  split
  · exact .same
  · extract_lets s1
    have h1 : Effect Part.all s s1 := State.modPwr_effect.after State.to_effect.any
    split
    all_goals first | exact .next (State.toSafeHold_effect.after h1) | exact .next h1

/-! ## Links, SLEEP, scrubbing -/

theorem execPacketReceived_effect {d : Fin 8} {toDie crcOk : Bool} {seq ack : Nat} {stamp : Option Nat} :
    EffectOut Part.all s (execPacketReceived d toDie seq crcOk ack stamp s) := by
  unfold execPacketReceived
  extract_lets s1 src
  have h1 : Effect Part.all s s1 := State.packet_effect.any
  exact .ite (.next State.modLink_effect.any) (.ite .same (.next (.ite (State.grdDrive_effect.after (.set h1 rfl)) h1)))

theorem execNakReceived_effect {d : Fin 8} {toDie : Bool} : EffectOut Part.all s (execNakReceived d toDie s) :=
  .next (.ite State.resend_effect.any (.refl s))

theorem execAckTimeout_effect {d : Fin 8} {toDie : Bool} : EffectOut Part.all s (execAckTimeout d toDie s) :=
  .next (.ite (.refl s) (.ite State.dieLost_effect.any State.resend_effect.any))

theorem execStampPacket_effect {d : Fin 8} : EffectOut Part.all s (execStampPacket d s) :=
  .next (.ite (.forAll (fun _ _ => State.sendPacket_effect.any) (.refl s))
    (.ite (.ite (.refl s) (State.modLink_effect.after State.sendPacket_effect.any)) (.refl s)))

theorem execSyncPacket_effect {d : Fin 8} : EffectOut Part.all s (execSyncPacket d s) :=
  .next (.ite (.ite (.refl s) (State.discipline_effect.after State.sendPacket_effect.any)) (.refl s))

/-- The ticks of SLEEP move TB forward only. -/
theorem execSleepTick_effect : EffectOut Part.all s (execSleepTick s) :=
  .next (.ite (.refl s) ⟨SameExcept.all _ _, Lasts.of_same rfl ⟨rfl, rfl, rfl⟩ ⟨rfl, rfl⟩ rfl, Nat.le_add_right _ _⟩)

theorem execScrubVisit_effect {k : Fin 3} {found : Nat × List Upset} {written : Bool} :
    EffectOut Part.all s (execScrubVisit k found written s) := by
  unfold execScrubVisit
  extract_lets u w src s1
  have h : Effect Part.all s u := .forAll (fun _ _ => State.upset_effect.any) (.refl s)
  have h1 : Effect Part.all s s1 := .set h rfl
  exact .ite (.next h) (.next (State.eccRead_effect.after (State.eccReport_effect.after (.ite (State.granTouch_effect.after h1) h1))))

/-! ## Wake and boot -/

theorem execWakePad_effect {k : Fin 4} {high : Bool} : EffectOut Part.all s (execWakePad k high s) := by
  unfold execWakePad
  extract_lets src t
  have h : Effect Part.all s t := .set (.refl s) rfl
  exact .next (.ite (State.recognise_effect.after h) h)

theorem execWakeTimer_effect : EffectOut Part.all s (execWakeTimer s) := by
  unfold execWakeTimer
  extract_lets n
  split
  · exact .same
  · exact .next (.ite (.refl s) (State.recognise_effect.after State.to_effect.any))

theorem execWakeSin_effect {n : Fin 32} : EffectOut Part.all s (execWakeSin n s) := .next (.ite State.recognise_effect.any (.refl s))

theorem execPeWakeTimeout_effect : EffectOut Part.all s (execPeWakeTimeout s) :=
  .next (.ite (.set (x := s.to (s.mc.wakeAt + ms 1000)) State.to_effect.any rfl) (.refl s))

theorem execSleepEntry_effect : EffectOut Part.all s (execSleepEntry s) := by
  unfold execSleepEntry
  extract_lets t c src
  have h : Effect Part.all s c := State.coldBase_effect.after (State.to_effect.after State.sleepSteps_effect.any)
  exact .ite .same (.next (State.setCom_effect.after (State.setCom_effect.after (.set h rfl))))

theorem execBootStart_effect {fuseOk : Bool} : EffectOut Part.all s (execBootStart fuseOk s) := by
  unfold execBootStart
  extract_lets wake src1 s0 src2 src3 s1 src4 s2 s3 src5 s4
  have h0 : Effect Part.all s s0 := .ite (.set (.refl s) rfl) (.refl s)
  have h1 : Effect Part.all s s1 := .ite (.set h0 rfl) h0
  have h3 : Effect Part.all s s3 := State.powerUp_effect.after (State.modeTo_effect.after (.set h1 rfl))
  have h4 : Effect Part.all s s4 := .set h3 rfl
  exact .ite .same (.next (.ite h4 (State.fwInvalid_effect.after h4)))

theorem execGuardFwVerified_effect : EffectOut Part.all s (execGuardFwVerified s) := by
  unfold execGuardFwVerified
  extract_lets s1 r s2 ok s3
  have h1 : Effect Part.all s s1 := .ite State.modSec_effect.any (.refl s)
  have h2 : Effect Part.all s s2 := State.guardVerdict_effect.after h1
  have h3 : Effect Part.all s s3 := State.otherVerdict_effect.after h2
  exact .ite .same (.next (.ite (.set h2 rfl) (.ite (.set (State.fallBack_effect.after h3) rfl) (State.fwInvalid_effect.after h3))))

theorem execJunctionFwVerified_effect : EffectOut Part.all s (execJunctionFwVerified s) := by
  unfold execJunctionFwVerified
  extract_lets u r s1
  have h : Effect Part.all s u := State.pllLock_effect.any
  have h1 : Effect Part.all s s1 := State.guardVerdict_effect.after h
  exact .ite (.next h) (.next (.ite (State.junctionStarts_effect.after h1) (.ite (State.fwInvalid_effect.after h1)
    (.ite (State.junctionStarts_effect.after (State.fallBack_effect.after (State.otherVerdict_effect.after h1)))
      (State.fwInvalid_effect.after (State.otherVerdict_effect.after h1))))))

theorem execBootLoaderImage_effect : EffectOut Part.all s (execBootLoaderImage s) :=
  .next (.ite (.refl s) (.ite (State.fullReset_effect.after (State.modSec_effect.after State.otherVerdict_effect.any))
    State.otherVerdict_effect.any))

theorem execDieLinkTrained_effect {d : Fin 8} {t : Nat} : EffectOut Part.all s (execDieLinkTrained d t s) := by
  unfold execDieLinkTrained
  extract_lets u n src1 src2 s1
  have h : Effect Part.all s u := State.to_effect.after State.pllLock_effect.any
  have h1 : Effect Part.all s s1 := .set (x := u.modLink d (fun l => { l with st := .up, lost := 0 })) (State.modLink_effect.after h) rfl
  exact .ite .same (.next (State.bootSix_effect.after (State.lostReport_effect.after h1)))

theorem execDieTrainTimeout_effect {d : Fin 8} : EffectOut Part.all s (execDieTrainTimeout d s) :=
  .ite .same (.next (State.bootSix_effect.after (State.lostReport_effect.after (State.dieLost_effect.after
    (State.to_effect.after State.pllLock_effect.any)))))

theorem execConfigImageVerified_effect : EffectOut Part.all s (execConfigImageVerified s) := by
  unfold execConfigImageVerified
  extract_lets u s1 base r s2
  have h : Effect Part.all s u := State.bootSix_effect.any
  have h1 : Effect Part.all s s1 := .ite (State.modSec_effect.after h) h
  have h2 : Effect Part.all s s2 := State.guardVerdict_effect.after h1
  refine .ite (.next h) (.next (.ite (State.bootFails_effect.after h2) ?_))
  have ha {w : Word} : EffectSnd Part.all s (s2.applyImage base w) := State.applyImage_effect.step (Part.within_all _) h2
  split
  · next t e => exact State.bootFails_effect.after (EffectSnd.of_eq e ha)
  · next t e =>
    exact State.holdAgain_effect.after (.set (State.canBoot_effect.after (State.modSec_effect.after (EffectSnd.of_eq e ha))) rfl)

theorem execProgramImageVerified_effect : EffectOut Part.all s (execProgramImageVerified s) := by
  unfold execProgramImageVerified
  extract_lets slot r s1 im s2 src s3
  have h1 : Effect Part.all s s1 := State.guardVerdict_effect.any
  have h2 : Effect Part.all s s2 := State.helloChange_effect.after (State.modPrg_effect.after (State.loadBank_effect.after h1))
  have h3 : Effect Part.all s s3 := .set h2 rfl
  exact .ite .same (.next (.ite (State.bootFails_effect.after h1) (.ite (State.toSafeHold_effect.after h3) h3)))

theorem execRetainedRestored_effect : EffectOut Part.all s (execRetainedRestored s) := by
  unfold execRetainedRestored
  extract_lets s0 s2 src
  have h0 : Effect Part.all s s0 := State.retRead_effect.any
  have h2 : Effect Part.all s s2 := by
    unfold s2
    split
    · exact State.putRetained_effect.after h0
    · exact h0
  exact .ite .same (.next (State.noteLeave_effect.after (.set h2 rfl)))

/-! ## Every command -/

/-- Every command but POWER_ON, which restarts TB, takes nothing back and does not move TB back. -/
theorem exec_effect : ∀ c : Instr, c ≠ .powerOn → EffectOut Part.all s (exec c s)
  | .packetReceived .., _ => execPacketReceived_effect
  | .nakReceived .., _ => execNakReceived_effect
  | .ackTimeout .., _ => execAckTimeout_effect
  | .stampPacket .., _ => execStampPacket_effect
  | .syncPacket .., _ => execSyncPacket_effect
  | .statusFrame .., _ => execStatusFrame_effect
  | .statusFrameMissing, _ => execStatusFrameMissing_effect
  | .linkResetReceived .., _ => execLinkResetReceived_effect
  | .setpointTimeout .., _ => .next State.standstillDie_effect.any
  | .motClockLoss .., _ => execMotClockLoss_effect
  | .sleepTick, _ => execSleepTick_effect
  | .eventRelease, _ => execEventRelease_effect
  | .scrubVisit .., _ => execScrubVisit_effect
  | .wideFieldRead .., _ => execWideFieldRead_effect
  | .registerWrite .., _ => .next State.busWrite_effect.any
  | .resetNLow, _ => .next State.fullReset_effect.any
  | .powerOn, h => absurd rfl h
  | .vlogWarnEnter .., _ => execVlogWarnEnter_effect
  | .vlogWarnExit, _ => execVlogWarnExit_effect
  | .powerFail, _ => execPowerFail_effect
  | .vmotDerateEnter .., _ => execVmotDerateEnter_effect
  | .vmotDerateExit .., _ => execVmotDerateExit_effect
  | .vmotUvEnter .., _ => execVmotUvEnter_effect
  | .vmotUvExit .., _ => execVmotUvExit_effect
  | .vmotOvEnter .., _ => execVmotOvEnter_effect
  | .vmotOvExit .., _ => execVmotOvExit_effect
  | .vlswUvEnter, _ => execVlswUvEnter_effect
  | .vlswUvExit, _ => execVlswUvExit_effect
  | .thermalModelUpdate .., _ => execThermalModelUpdate_effect
  | .thermalScaleUpdate .., _ => execThermalScaleUpdate_effect
  | .tempSensorUpdate .., _ => execTempSensorUpdate_effect
  | .dieOvertempHold .., _ => execDieOvertempHold_effect
  | .domKeepOffWrite .., _ => .next (.gatedBy fun _ => State.keepOffWrite_effect)
  | .vlogMinWrite .., _ => .next (.gatedBy fun _ => State.modPwr_effect)
  | .clockCheck .., _ => execClockCheck_effect
  | .onDemandClockStart .., _ => execOnDemandClockStart_effect
  | .nvmClockIdleStop, _ => execNvmClockIdleStop_effect
  | .mirrorUpdate .., _ => execMirrorUpdate_effect
  | .pgSnapWrite .., _ => .next (.gatedBy fun _ => State.snapWrite_effect)
  | .snapAll, _ => .next (.gatedBy fun _ => State.snapAll_effect)
  | .snapCapture .., _ => execSnapCapture_effect
  | .snapComplete .., _ => execSnapComplete_effect
  | .writeQueueDrain .., _ => execWriteQueueDrain_effect
  | .junctionWatchdogExpiry, _ => .next State.jctReset_effect.any
  | .rstReqJunction, _ | .rstReqFull, _ => .next (.gatedBy fun _ => State.rstReqWrite_effect)
  | .jtagReset, _ => execJtagReset_effect
  | .pcieReset, _ => execPcieReset_effect
  | .blockReset .., _ => .next (.gatedBy fun _ => State.blockReset_effect)
  | .blockResetDone .., _ => .next State.modPg_effect.any
  | .modeReqRun, _ | .modeReqDegraded, _ | .modeReqService, _ | .modeReqSafeHold, _ | .modeReqConfig, _ | .modeReqSleep, _ =>
    .next State.hostMode_effect.any
  | .sleepEntry, _ => execSleepEntry_effect
  | .wakePad .., _ => execWakePad_effect
  | .wakeCan .., _ => .next State.recognise_effect.any
  | .wakeTimer, _ => execWakeTimer_effect
  | .wakeSin .., _ => execWakeSin_effect
  | .bootStart .., _ => execBootStart_effect
  | .peWakeTimeout, _ => execPeWakeTimeout_effect
  | .guardFwVerified, _ => execGuardFwVerified_effect
  | .junctionFwVerified, _ => execJunctionFwVerified_effect
  | .dieLinkTrained .., _ => execDieLinkTrained_effect
  | .dieTrainTimeout .., _ => execDieTrainTimeout_effect
  | .configImageVerified, _ => execConfigImageVerified_effect
  | .programImageVerified, _ => execProgramImageVerified_effect
  | .retainedRestored, _ => execRetainedRestored_effect
  | .joinWaitExpiry, _ => execJoinWaitExpiry_effect
  | .configExit, _ => execConfigExit_effect
  | .bootLoaderImage, _ => execBootLoaderImage_effect
  | .serviceKeyLost, _ => execServiceKeyLost_effect
  | .svcKeyLostHold, _ => execSvcKeyLostHold_effect
  | .pgCommit .., _ => .next (.gatedBy fun _ => State.commitWrite_effect)
  | .commitBoundary .., _ => execCommitBoundary_effect
  | .pgStageClr .., _ => .next (.gatedBy fun _ => State.stageClr_effect)
  | .pgLock .., _ => .next (.gatedBy fun _ => State.lockPage_effect)
  | .pgIset .., _ => .next (.gatedBy fun _ => State.irq_effect)
  | .imageLoadWrite .., _ => execImageLoadWrite_effect
  | .loadViewWrite .., _ => .next State.viewWrite_effect.any
  | .hspiWriteSingle .., _ | .hspiWriteQuad .., _ | .hspiReadSingle .., _ | .hspiReadQuad .., _ =>
    .next State.hspiTransaction_effect.any
  | .go .., _ | .imm .., _ | .stop .., _ | .qstop .., _ | .flush .., _ => .next State.hostMove_effect.any
  | .plannerTake .., _ => execPlannerTake_effect
  | .controlPeriodBoundary, _ => execControlPeriodBoundary_effect
  | .ploughPeriodStart .., _ => .next State.ploughPeriod_effect.any
  | .microstepEmit .., _ => execMicrostepEmit_effect
  | .voltageUpdate .., _ => execVoltageUpdate_effect
  | .standstillDelayExpiry .., _ => execStandstillDelayExpiry_effect
  | .loadAngleEstimate .., _ => .next State.estimate_effect.any
  | .overcurrentTrip .., _ => execOvercurrentTrip_effect
  | .openPhaseDetect .., _ => execOpenPhaseDetect_effect
  | .gdrvUv .., _ => execGdrvUv_effect
  | .drvFlagClear .., _ => .next (.gatedBy fun _ => State.drvFlagsWrite_effect)
  | .gateCut .., _ => execGateCut_effect
  | .gateRestore .., _ => execGateRestore_effect
  | .encoderTransition .., _ => execEncoderTransition_effect
  | .indexEdge .., _ => execIndexEdge_effect
  | .ssiFrameStart .., _ => execSsiFrameStart_effect
  | .ssiFrameDone .., _ => execSsiFrameDone_effect
  | .vencFault .., _ => execVencFault_effect
  | .fbFlagClear .., _ => .next (.gatedBy fun _ => State.fbFlagsWrite_effect)
  | .fbSpeedUpdate .., _ => execFbSpeedUpdate_effect
  | .speedTimeout .., _ => execSpeedTimeout_effect
  | .preset .., _ => .next (.gatedBy fun _ => State.presetWrite_effect)
  | .probeEdge .., _ => execProbeEdge_effect
  | .probeLatchDone .., _ => execProbeLatchDone_effect
  | .dinEdge .., _ => execDinEdge_effect
  | .gearEngage .., _ | .gearDisengage .., _ | .gearArm .., _ | .gearDisarm .., _ | .camEngage .., _ | .camDisengage .., _ =>
    .next State.hostEngine_effect.any
  | .groupTimeout .., _ => execGroupTimeout_effect
  | .doorCycleEval, _ => .next State.doorNext_effect.any
  | .cwTExpiry .., _ | .reopenTExpiry .., _ | .autoCloseExpiry .., _ | .unlockTmoExpiry .., _ | .lockTmoExpiry .., _
  | .lockRetryPulseEnd .., _ | .swTmoExpiry .., _ => .next State.timerEnds_effect.any
  | .ptlOpen .., _ | .ptlClose .., _ | .ptlNudge .., _ | .ptlAck .., _ | .envClr .., _ => .next State.hostReq_effect.any
  | .openAll .., _ | .closeAll .., _ => .next (.gatedBy fun _ => State.sideReqWrite_effect)
  | .sedgSample .., _ => execSedgSample_effect
  | .edgeFaultDetect .., _ => execEdgeFaultDetect_effect
  | .edgeFaultClear .., _ => execEdgeFaultClear_effect
  | .sbxSample .., _ => execSbxSample_effect
  | .guardCycle .., _ => execGuardCycle_effect
  | .discrepancyExpiry .., _ => execDiscrepancyExpiry_effect
  | .testPulse .., _ => execTestPulse_effect
  | .tpContactSample .., _ => execTpContactSample_effect
  | .tpMonitor .., _ => execTpMonitor_effect
  | .tpSourceFault .., _ => .next State.tpFail_effect.any
  | .tpFaultRecover .., _ => .next State.modChan_effect.any
  | .sealSequence, _ => execSealSequence_effect
  | .reread, _ => execReread_effect
  | .sealSequenceDone .., _ => execSealSequenceDone_effect
  | .soutStuck .., _ => execSoutStuck_effect
  | .soutOvercurrent .., _ => .next State.outputFault_effect.any
  | .guardLatchTimeout, _ => execGuardLatchTimeout_effect
  | .lockstepMismatch, _ => execLockstepMismatch_effect
  | .divergeTimeout, _ => execDivergeTimeout_effect
  | .guardLinkWithdraw, _ => execGuardLinkWithdraw_effect
  | .gateMapReadback .., _ => execGateMapReadback_effect
  | .lswCmd .., _ => .next (.gatedBy fun _ => State.lswCmdWrite_effect)
  | .lswDuty .., _ => .next (.gatedBy fun _ => State.lswDutyWrite_effect)
  | .lswPacketInterval, _ => execLswPacketInterval_effect
  | .lswNormalPacket, _ => execLswNormalPacket_effect
  | .lswFailsafePacket, _ => execLswFailsafePacket_effect
  | .lswAllOffPacket, _ => execLswAllOffPacket_effect
  | .lswStorePacket, _ => execLswStorePacket_effect
  | .lswWdtExpiry, _ => execLswWdtExpiry_effect
  | .lswHoldExpiry, _ => execLswHoldExpiry_effect
  | .lswFastTrip .., _ | .lswThermalTrip .., _ => .next State.lswTrip_effect.any
  | .lswOcTimeout .., _ => execLswOcTimeout_effect
  | .lswRetry .., _ => execLswRetry_effect
  | .lswRetryDeferred .., _ => execLswRetryDeferred_effect
  | .lswTriesReset .., _ => execLswTriesReset_effect
  | .inrushSegmentEnd .., _ => execInrushSegmentEnd_effect
  | .ocLatchClear .., _ | .clampLatchClear .., _ => .next (.gatedBy fun _ => State.lswFlagsWrite_effect)
  | .offHighSet .., _ => execOffHighSet_effect
  | .offHighClear .., _ => execOffHighClear_effect
  | .pulsePeriodStart .., _ => execPulsePeriodStart_effect
  | .revBlock .., _ => execRevBlock_effect
  | .revBlockRelease .., _ => .next State.modLsw_effect.any
  | .solPermitChange .., _ => .next State.gateLsw_effect.any
  | .timetableTick, _ => execTimetableTick_effect
  | .tasksComplete .., _ => execTasksComplete_effect
  | .retainWriteDone .., _ => .next State.retDone_effect.any
  | .taskTimeout .., _ => execTaskTimeout_effect
  | .programTrap .., _ => execProgramTrap_effect
  | .eventTaskRelease .., _ => execEventTaskRelease_effect
  | .axCmd .., _ | .axProfile .., _ | .ptlReq .., _ | .sideReq .., _ | .engineCtl .., _ | .canSend .., _ | .recWrite .., _ =>
    .next State.request_effect.any
  | .canRecv .., _ => .next (.served fun _ => State.recvFrame_effect.any)
  | .reqStatus .., _ | .tbNow, _ => .next (.served fun _ => State.answer_effect.any)
  | .stnAck .., _ => execStnAck_effect
  | .warn .., _ => execWarn_effect
  | .semTake .., _ => execSemTake_effect
  | .semGive .., _ => execSemGive_effect
  | .prgVerify, _ | .prgSwitch, _ | .prgWarm, _ | .prgCold, _ | .prgStop, _ | .prgDiscard, _ | .prgActivate, _ =>
    .next State.hostPrg_effect.any
  | .prgVerifyDone, _ => execPrgVerifyDone_effect
  | .prgSwitchExec .., _ => execPrgSwitchExec_effect
  | .prgLoadOpen .., _ => .next (.gatedBy fun _ => State.prgLoadCtl_effect)
  | .joinReq .., _ => execJoinReq_effect
  | .stnIn .., _ => execStnIn_effect
  | .stnReplyTimeout .., _ => execStnReplyTimeout_effect
  | .stnConfigExchange, _ => execStnConfigExchange_effect
  | .canFrameRx .., _ => execCanFrameRx_effect
  | .canBusError .., _ => .next State.canError_effect.any
  | .canTxComplete .., _ => execCanTxComplete_effect
  | .canTxAttemptFail .., _ => execCanTxAttemptFail_effect
  | .canRecoveryDone .., _ => execCanRecoveryDone_effect
  | .canWupDetect .., _ => execCanWupDetect_effect
  | .push .., _ | .pop .., _ | .abortHead .., _ | .txFlush .., _ | .recover .., _ | .sendWup .., _ => .next State.hostCan_effect.any
  | .rxWindowRead .., _ => execRxWindowRead_effect
  | .canEnable .., _ => .next (.gatedBy fun _ => State.canEnable_effect)
  | .hifOffer .., _ => .next (.gatedBy fun _ => State.offerWrite_effect)
  | .pcieLinkChange .., _ => execPcieLinkChange_effect
  | .evqEnable .., _ | .evqDisable .., _ => .next (.gatedBy fun _ => State.evqEnable_effect)
  | .evqHead .., _ => .next (.gatedBy fun _ => State.evqHeadWrite_effect)
  | .evqRecordWrite .., _ => .next State.evqWrite_effect.any
  | .evqOverflow .., _ => .next State.evqMark_effect.any
  | .evqCoalTimeout .., _ => execEvqCoalTimeout_effect
  | .hspiEvtRead, _ => execHspiEvtRead_effect
  | .flkOpen, _ | .flkClose, _ | .flkNudge, _ | .flkAck, _ => .next State.flkCmd_effect.any
  | .recordWrite, _ => .next State.recWriteNext_effect.any
  | .recWriteCmd, _ | .recNonce, _ | .recClear, _ => .next State.hostRec_effect.any
  | .recClearDone, _ => execRecClearDone_effect
  | .pairHelloTimer, _ => execPairHelloTimer_effect
  | .pairStatusTimer, _ => execPairStatusTimer_effect
  | .hello .., _ => .next (.paired fun _ => State.takeHello_effect)
  | .status .., _ => .next (.paired fun _ => State.takeStatus_effect)
  | .motion .., _ => .next (.paired fun _ => .mirrored fun _ => State.takeMotion_effect)
  | .queue .., _ => execQueue_effect
  | .image .., _ => .next (.paired fun _ => .mirrored fun _ => State.takeImage_effect)
  | .loads .., _ => execLoads_effect
  | .env .., _ => execEnv_effect
  | .pairLinkLoss, _ => execPairLinkLoss_effect
  | .pairActIRise, _ => execPairActIRise_effect
  | .pairActIFall, _ => execPairActIFall_effect
  | .pairGateRestore, _ => execPairGateRestore_effect
  | .takeoverGuard, _ => execTakeoverGuard_effect
  | .electAssertWait, _ => execElectAssertWait_effect
  | .electTimeout, _ => execElectTimeout_effect
  | .yield, _ => .next (.gatedBy fun _ => State.pairCtl_effect)
  | .loadOverlapExpiry, _ => execLoadOverlapExpiry_effect
  | .giveupLoadTimeout, _ => execGiveupLoadTimeout_effect
  | .secNonce, _ | .secVerify, _ | .secActivate, _ | .attest, _ | .advance, _ | .install, _ | .lockDebug, _ | .secDiscard, _ =>
    .next State.hostSec_effect.any
  | .secVerifyDone, _ => execSecVerifyDone_effect
  | .attestDone, _ => execAttestDone_effect
  | .tokenInstall, _ | .tokenRevoke, _ | .tokenDebugOpen, _ => .next State.runToken_effect.any
  | .secLoadOpen .., _ => .next (.gatedBy fun _ => State.secLoadCtl_effect)
  | .lswChannelCooled .., _ => execLswChannelCooled_effect
  | .lselChange .., _ => execLselChange_effect
  | .mirrorStale, _ => execMirrorStale_effect

/-- POWER_ON takes nothing back but TB (R25): it is a full reset and a new TB, supply page and mode. -/
theorem execPowerOn_lasts {t : State} (h : exec .powerOn s = .next t) : Lasts s t := by
  obtain ⟨-, hl, -⟩ := (State.fullReset_effect (cause := 0) (s := s))
  cases h
  exact hl.trans (Lasts.of_same rfl ⟨rfl, rfl, rfl⟩ ⟨rfl, rfl⟩ rfl)

theorem exec_lasts {c : Instr} {t : State} (h : exec c s = .next t) : Lasts s t := by
  by_cases hc : c = .powerOn
  · subst hc; exact execPowerOn_lasts h
  · exact (exec_effect c hc t h).lasts

end

/-! ## Every step -/

/-- A step is an idle one, or runs the command at the front. -/
theorem step_cases {s t : State} (h : step s = .next t) :
    (s.pending = [] ∧ t = s.idle) ∨ ∃ c rest, s.pending = c :: rest ∧ exec c { s with pending := rest } = .next t := by
  unfold step at h
  split at h
  · next e => cases h; exact .inl ⟨e, rfl⟩
  · next c rest e => exact .inr ⟨c, rest, e, h⟩

/-- What `Lasts` says of everything but the queue. -/
structure Persists (s t : State) : Prop where
  mem : s.memOk → t.memOk
  seqOk : s.seqOk → t.seqOk
  seqUp : s.seqOk → s.seq.next ≤ t.seq.next
  rb : ∀ k : Fin 3, s.fuses.rb[k] ≤ t.fuses.rb[k]
  revoked : ∀ k : Fin 4, s.fuses.slots[k] = .revoked → t.fuses.slots[k] = .revoked
  debugLock : s.fuses.debugLock = true → t.fuses.debugLock = true

theorem Lasts.persists {s t : State} (h : Lasts s t) : Persists s t :=
  ⟨h.mem, h.seqOk, h.seqUp, h.rb, h.revoked, h.debugLock⟩

/-- What a step takes off the queue is no part of what persists. -/
theorem step_persists {s t : State} (h : step s = .next t) : Persists s t := by
  obtain ⟨-, rfl⟩ | ⟨c, rest, -, he⟩ := step_cases h
  · exact State.idle_effect.lasts.persists
  · obtain ⟨hm, hq, hu, hr, hv, hd⟩ := (exec_lasts he).persists
    exact ⟨hm, hq, hu, hr, hv, hd⟩

/-- Settles O2: the memories' canonical form is part of what every operation keeps. -/
theorem memoriesStayCanonical : Obligations.MemoriesStayCanonical := fun _ _ hm h => (step_persists h).mem hm

/-- Settles O3: SEQ advances only with a new boundary stored before it, and a reset sets it to the boundary. -/
theorem seqNeverReused : Obligations.SeqNeverReused := fun _ _ hq h => ⟨(step_persists h).seqOk hq, (step_persists h).seqUp hq⟩

/-- Settles O4: only POWER_ON moves TB back, and no operation takes back a fuse. -/
theorem nothingRunsBackwards : Obligations.NothingRunsBackwards := by
  refine ⟨fun s t hp h => ?_, fun s t h => ⟨(step_persists h).rb, (step_persists h).revoked, (step_persists h).debugLock⟩⟩
  obtain ⟨-, rfl⟩ | ⟨c, rest, hq, he⟩ := step_cases h
  · exact State.idle_effect.tb
  · have hc : c ≠ .powerOn := fun e => hp (by rw [hq, e]; rfl)
    exact (exec_effect c hc t he).tb

end Sys2Proof.Machine
end

section
/-! PROOFS. Power-on and the full reset (O12): what a full reset makes of each part of the state, and the commands that bring one. -/

namespace Sys2Proof.Machine

/-! ## Events do not touch the reserved block -/

theorem State.raiseAt_limit (stamp : Nat) (die : Fin 8) (source code : Nat) (payload more : List Byte) (s : State) :
    (s.raiseAt stamp die source code payload more).seq.limit = s.seq.limit := by
  unfold State.raiseAt; split <;> rfl

theorem State.giveUp_limit (row : Nat) (s : State) : (s.giveUp row).seq.limit = s.seq.limit := by
  unfold State.giveUp State.ev State.raise
  extract_lets ready src1 src2 s1
  rw [State.raiseAt_limit, State.pairFlag_effect.same .seq (by decide)]

/-! ## What a full reset starts from -/

/-- An active module of a pair gives up before a full reset (R480). -/
def State.yielded (s : State) : State := if s.cfg.paired && s.pair.actO then s.giveUp 6 else s

theorem State.yielded_effect (s : State) : Effect [.links, .seq, .pages, .hif, .pair, .pairx, .posted] s s.yielded :=
  .ite State.giveUp_effect (.refl s)

theorem State.yielded_limit (s : State) : s.yielded.seq.limit = s.seq.limit := by
  unfold State.yielded; split
  · exact State.giveUp_limit 6 s
  · rfl

theorem State.yielded_rst (s : State) : s.yielded.rst = s.rst := s.yielded_effect.same .rst (by decide)

section
variable (k : Nat) (s : State)

/-! ## What it makes of each part -/

theorem State.fullReset_tb : (s.fullReset k).tb = s.tb := s.yielded_effect.same .tb (by decide)

theorem State.fullReset_granary : (s.fullReset k).mem.granary = s.mem.granary := by
  show s.yielded.mem.granary = _
  rw [s.yielded_effect.same .mem (by decide)]

theorem State.fullReset_next : (s.fullReset k).seq.next = s.seq.limit := s.yielded_limit

theorem State.fullReset_limit : (s.fullReset k).seq.limit = s.seq.limit := s.yielded_limit

theorem State.fullReset_fuses : (s.fullReset k).fuses = s.fuses.cut s.tb := by
  show s.yielded.fuses.cut s.yielded.tb = _
  rw [s.yielded_effect.same .fuses (by decide), s.yielded_effect.same .tb (by decide)]

theorem State.fullReset_fullCount : (s.fullReset k).rst.fullCount = min (s.rst.fullCount + 1) 0xFFFFFFFF := by
  show min (s.yielded.rst.fullCount + 1) 0xFFFFFFFF = _
  rw [s.yielded_rst]

theorem State.fullReset_aonLost : (s.fullReset k).rst.aonLost = s.rst.aonLost := by
  show s.yielded.rst.aonLost = _
  rw [s.yielded_rst]

theorem State.fullReset_cause (hk : k < 32) : bit (s.fullReset k).rst.cause k = true := by
  show bit (setBit 0 k) k = true
  rw [bit_setBit hk]; simp

theorem State.fullReset_domains :
    (s.fullReset k).pwr.domains = if k = 2 || (s.domOn 8 && k ≠ 1) then 0x111 else 1 := rfl

/-! ## The pages -/

theorem pageFin_eq_hif {p : PageId} (h : pageFin p = pageFin .hif) : p = .hif := by
  have h : pageIdx p % 130 = 5 := congrArg Fin.val h
  cases p <;> simp only [pageIdx] at h <;> first | rfl | omega

theorem State.reset_page (i : Fin 130) : State.reset.pages[i].stg = [] := by
  show ((Vector.replicate 14 ({} : Page) ++ Vector.replicate 12 ({ en := true } : Page) ++ Vector.replicate 104 ({} : Page))[i.val]'i.isLt).stg = []
  rw [Vector.getElem_append]
  split
  · rw [Vector.getElem_append]; split <;> rw [Vector.getElem_replicate]
  · rw [Vector.getElem_replicate]

/-- Of a page a full reset keeps the wake words of HIF alone (R130). -/
theorem State.fullReset_page (p : PageId) :
    ((s.fullReset k).pg p).lock = false ∧ ((s.fullReset k).pg p).stg = [] ∧ (p ≠ .hif → ((s.fullReset k).pg p).com = []) := by
  have hp : (s.fullReset k).pg p = { s.yielded.aonPages[pageFin p] with lock := false } := Vector.getElem_map ..
  rw [hp, State.aonPages, Fin.getElem_fin, Vector.getElem_ofFn]
  exact ⟨rfl, State.reset_page _, fun h => if_neg fun e => h (pageFin_eq_hif e)⟩

end

/-! ## The fuses -/

/-- An install that had not ended leaves its slot REVOKED (R492). -/
theorem Fuses.cut_burning {f : Fuses} {j : Fin 4} {e t : Nat} (hb : f.burn = some (j, e)) (ht : t < e) (hu : f.fuse[j].used = true) :
    (f.cut t).slots[j] = .revoked := by
  rw [Fuses.slots_get, Fuses.cut, hb]
  rw [Fin.getElem_fin] at hu
  simp [ht, hu, SlotFuses.state]

theorem Fuses.cut_idle {f : Fuses} (t : Nat) (hb : f.burn = none) : f.cut t = f := by rw [Fuses.cut, hb]

/-! ## The commands -/

/-- Each of the four commands answers a full reset with its cause, at once or 20 µs later for a power fail (R65, R98). -/
theorem exec_fullReset {s : State} {c : Instr} {k : Nat}
    (h : (c = .resetNLow ∧ k = 2) ∨ (c = .powerFail ∧ k = 1) ∨ (c = .rstReqFull ∧ k = 3 ∧ s.takes .rst 0x050 false)
      ∨ (c = .jtagReset ∧ k = 4 ∧ s.debugSta ≠ 1 ∧ s.domOn 1 = true)) :
    ∃ t, exec c s = .next (State.fullReset k (s.to t)) ∧ (k ≠ 1 → t = s.tb) ∧ k < 32 := by
  have hs : s.to s.tb = s := by simp [State.to]
  obtain ⟨rfl, rfl⟩ | ⟨rfl, rfl⟩ | ⟨rfl, rfl, ht⟩ | ⟨rfl, rfl, hd, h1⟩ := h
  · exact ⟨s.tb, by rw [hs]; rfl, fun _ => rfl, by omega⟩
  · exact ⟨_, rfl, fun h => absurd rfl h, by omega⟩
  · refine ⟨s.tb, ?_, fun _ => rfl, by omega⟩
    rw [hs]
    exact congrArg _ (State.gated_of_takes ht)
  · refine ⟨s.tb, ?_, fun _ => rfl, by omega⟩
    show execJtagReset s = _
    rw [hs, execJtagReset, if_neg (by simp [hd, h1])]

/-- Settles O12: POWER_ON is a full reset and a new AON; each other command is a full reset of the state it finds. -/
theorem powerOnAndFullReset : Obligations.PowerOnAndFullReset := by
  refine ⟨fun s => ⟨_, rfl, rfl, rfl, rfl, rfl, rfl, rfl, s.fullReset_fullCount 0, rfl, rfl, rfl, rfl, rfl, s.fullReset_next 0, rfl,
    s.fullReset_granary 0, s.fullReset_fuses 0⟩, fun s c k h => ?_⟩
  obtain ⟨t, he, ht, hk⟩ := exec_fullReset h
  refine ⟨_, he, rfl, State.fullReset_cause k _ hk, State.fullReset_fullCount k _, rfl, rfl, rfl, rfl, rfl, rfl, rfl, rfl,
    State.fullReset_next k _, State.fullReset_limit k _, fun p => ?_, fun p hp => ?_, State.fullReset_granary k _, rfl, rfl, ?_, ?_, ?_, rfl,
    State.fullReset_aonLost k _, ?_, ?_, ?_, ?_⟩
  · exact ⟨(State.fullReset_page k _ p).1, (State.fullReset_page k _ p).2.1⟩
  · exact (State.fullReset_page k _ p).2.2 hp
  · rw [State.fullReset_fuses, State.fullReset_tb]; rfl
  · intro hb
    rw [State.fullReset_fuses]; exact Fuses.cut_idle _ hb
  · intro j e hb hlt hu
    rw [State.fullReset_tb] at hlt
    rw [State.fullReset_fuses]; exact Fuses.cut_burning hb hlt hu
  · rw [State.fullReset_tb]; exact Nat.le_max_left _ _
  · intro h1
    rw [State.fullReset_tb, ht h1]; exact Nat.max_self _
  · rintro rfl; exact (State.fullReset_domains 1 _).trans (if_neg (by simp))
  · intro hd
    have hdom : (State.fullReset k (s.to t)).pwr.domains = 0x111 := by
      rw [State.fullReset_domains]
      refine if_pos ?_
      obtain rfl | ⟨h1, h8⟩ := hd
      · rfl
      · simp [h1, show (s.to t).domOn 8 = true from h8]
    unfold State.domOn
    rw [hdom]; decide

end Sys2Proof.Machine
end

section
/-! PROOFS. Events that a command raises, and the scrubbers' visits (O10). -/

namespace Sys2Proof.Machine

/-! ## Events raised -/

theorem prefix_of_eq {α : Type} {l m : List α} (h : l = m) : l <+: m := h ▸ List.prefix_rfl

theorem RaisesFrom.then {s t u : State} {source code : Nat} {l : List Byte} (h : RaisesFrom s t source code l)
    (k : t.seq.held <+: u.seq.held) : RaisesFrom s u source code l := by
  obtain ⟨es, e, ht, he, hs, hc, hp⟩ := h
  obtain ⟨fs, hu⟩ := k
  exact ⟨es ++ fs, e, by rw [← hu, ht, List.append_assoc], List.mem_append_left _ he, hs, hc, hp⟩

theorem RaisesFrom.behind {s t u : State} {source code : Nat} {l : List Byte} (k : s.seq.held <+: t.seq.held)
    (h : RaisesFrom t u source code l) : RaisesFrom s u source code l := by
  obtain ⟨es, e, hu, he, hs, hc, hp⟩ := h
  obtain ⟨fs, ht⟩ := k
  exact ⟨fs ++ es, e, by rw [hu, ← ht, List.append_assoc], List.mem_append_right _ he, hs, hc, hp⟩

theorem State.raise_prefix (die : Fin 8) (source code : Nat) (l : List Byte) (s : State) :
    s.seq.held <+: (s.raise die source code l).seq.held := by
  unfold State.raise State.raiseAt
  split
  · exact List.prefix_rfl
  · exact List.prefix_append _ _

/-- An event of Junction, or of a die that is not held absent, is raised. -/
theorem State.raise_raises {die : Fin 8} {s : State} (h : die = 0 ∨ s.dieAbsent die = false) (source code : Nat) (l : List Byte) :
    RaisesFrom s (s.raise die source code l) source code l := by
  unfold State.raise State.raiseAt
  rw [if_neg (by rcases h with h | h <;> simp_all [State.dieAbsent])]
  exact ⟨_, _, rfl, List.mem_singleton_self _, rfl, rfl, rfl⟩

/-! ## Error reports -/

/-- The die of a memory can report: it is Junction, or not held absent. -/
def State.memReports (s : State) (k : Fin 3) : Prop := memDie k = 0 ∨ s.dieAbsent (memDie k) = false

theorem State.memReports_of_memOn {s : State} {k : Fin 3} (h : s.memOn k = true) : s.memReports k := by
  unfold State.memOn at h
  match k with
  | 0 => exact .inl rfl
  | 1 => exact .inr (by simp_all [memDie])
  | 2 => exact .inr (by simp_all [memDie])

theorem State.eccEvent_mem (k : Fin 3) (code w : Nat) (l : List Byte) (s : State) : (s.eccEvent k code w l).mem = s.mem :=
  State.eccEvent_effect.same .mem (by decide)

/-- The word marked as uncorrectable, before its report. -/
def State.marked (k : Fin 3) (w : Nat) (s : State) : State :=
  { s with mem := { s.mem with
      bad := if s.mem.bad.contains (k.val, w) then s.mem.bad else s.mem.bad ++ [(k.val, w)]
      torn := if s.mem.torn.contains (k.val, w) then s.mem.torn else s.mem.torn ++ [(k.val, w)] } }

theorem State.eccUncorr_eq (k : Fin 3) (w : Nat) (s : State) : s.eccUncorr k w = (s.marked k w).eccEvent k 0x0103 w [] := rfl

theorem State.eccUncorr_mem (k : Fin 3) (w : Nat) (s : State) : (s.eccUncorr k w).mem = (s.marked k w).mem := State.eccEvent_mem ..

theorem mem_insertOnce {α : Type} [BEq α] [LawfulBEq α] (a : α) (l : List α) : a ∈ (if l.contains a then l else l ++ [a]) := by
  split
  · exact List.contains_iff_mem.mp ‹_›
  · exact List.mem_append_right _ (List.mem_singleton_self a)

theorem State.eccUncorr_marks (k : Fin 3) (w : Nat) (s : State) :
    (k.val, w) ∈ (s.eccUncorr k w).mem.bad ∧ (k.val, w) ∈ (s.eccUncorr k w).mem.torn := by
  rw [State.eccUncorr_mem]
  exact ⟨mem_insertOnce _ _, mem_insertOnce _ _⟩

theorem State.eccUncorr_prefix (k : Fin 3) (w : Nat) (s : State) : s.seq.held <+: (s.eccUncorr k w).seq.held := by
  rw [State.eccUncorr_eq]
  exact State.raise_prefix _ _ _ _ (s.marked k w)

theorem State.eccUncorr_raises {k : Fin 3} {s : State} (h : s.memReports k) (w : Nat) :
    Raises s (s.eccUncorr k w) .dev 0x0103 ([b8 (memDie k).val, 0, 0, 0] ++ leBytes 4 w) := by
  rw [State.eccUncorr_eq, State.eccEvent, List.append_nil]
  exact State.raise_raises (s := s.marked k w) h _ _ _

theorem Memories.softOf_corrected (m : Memories) (k : Fin 3) (w : Nat) :
    ({ m with soft := m.soft.filter (fun e => ¬(e.1 = k.val ∧ e.2.1 = w)) } : Memories).softOf k w = 0 := by
  unfold Memories.softOf
  rw [List.find?_eq_none.mpr]
  intro e he
  simp only [List.mem_filter, decide_eq_true_eq] at he
  simpa using he.2

/-! ## Reports of the seconds that have ended (R34) -/

/-- One report: the count of the word is closed, and its event raised. -/
def State.eccClose (c : Corr) (t : State) : State :=
  ({ t with mem := { t.mem with corr := t.mem.corr.erase c } } : State).eccEvent (Fin.ofNat 3 c.mem) 0x0102 c.word (leBytes 4 c.count)

theorem State.eccClose_effect (c : Corr) (t : State) : Effect [.links, .seq, .mem] t (t.eccClose c) := by
  refine Effect.step State.eccEvent_effect (by decide) (.put (.refl t) ?_ rfl ⟨rfl, rfl, rfl⟩ ⟨rfl, rfl⟩ rfl rfl)
  intro p hp; cases p <;> first | exact absurd (by decide) hp | rfl

theorem State.eccClose_mem (c : Corr) (t : State) : (t.eccClose c).mem = { t.mem with corr := t.mem.corr.erase c } :=
  State.eccEvent_mem ..

theorem State.eccClose_prefix (c : Corr) (t : State) : t.seq.held <+: (t.eccClose c).seq.held :=
  State.raise_prefix _ _ _ _ ({ t with mem := { t.mem with corr := t.mem.corr.erase c } } : State)

theorem State.eccClose_raises {t : State} {k : Fin 3} {c : Corr} (h : t.memReports k) (hc : c.mem = k.val) :
    Raises t (t.eccClose c) .dev 0x0102 ([b8 (memDie k).val, 0, 0, 0] ++ leBytes 4 c.word ++ leBytes 4 c.count) := by
  have hk : Fin.ofNat 3 c.mem = k := by rw [hc]; exact Fin.ofNat_val_eq_self k
  rw [State.eccClose, State.eccEvent, hk]
  exact State.raise_raises (s := { t with mem := { t.mem with corr := t.mem.corr.erase c } }) h _ _ _

/-- The running seconds without those reported. -/
def corrLess (l m : List Corr) : List Corr := forAll m (fun c l => l.erase c) l

theorem mem_of_mem_corrLess {c : Corr} {l m : List Corr} (h : c ∈ corrLess l m) : c ∈ l := by
  induction m generalizing l with
  | nil => exact h
  | cons d m ih => exact List.mem_of_mem_erase (ih h)

theorem mem_corrLess {c : Corr} {l m : List Corr} (h : c ∈ l) (hm : c ∉ m) : c ∈ corrLess l m := by
  induction m generalizing l with
  | nil => exact h
  | cons d m ih =>
    have hd : c ≠ d := fun e => hm (e ▸ List.mem_cons_self)
    exact ih ((List.mem_erase_of_ne hd).mpr h) fun hc => hm (List.mem_cons_of_mem d hc)

theorem State.eccCloses_mem (l : List Corr) (t : State) :
    (forAll l State.eccClose t).mem = { t.mem with corr := corrLess t.mem.corr l } := by
  induction l generalizing t with
  | nil => rfl
  | cons c l ih =>
    show (forAll l State.eccClose (t.eccClose c)).mem = _
    rw [ih, State.eccClose_mem]
    rfl

theorem State.eccCloses_prefix (l : List Corr) (t : State) : t.seq.held <+: (forAll l State.eccClose t).seq.held := by
  induction l generalizing t with
  | nil => exact List.prefix_rfl
  | cons c l ih => exact (State.eccClose_prefix c t).trans (ih _)

/-- Every word whose second has ended is among those reported. -/
theorem State.eccCloses_raises {k : Fin 3} {c : Corr} (hc : c.mem = k.val) {l : List Corr} (hl : c ∈ l) {t : State} (h : t.memReports k) :
    Raises t (forAll l State.eccClose t) .dev 0x0102 ([b8 (memDie k).val, 0, 0, 0] ++ leBytes 4 c.word ++ leBytes 4 c.count) := by
  induction l generalizing t with
  | nil => cases hl
  | cons d l ih =>
    rcases List.mem_cons.mp hl with rfl | hl
    · exact (State.eccClose_raises h hc).then (State.eccCloses_prefix l _)
    · refine .behind (State.eccClose_prefix d t) (ih hl ?_)
      unfold State.memReports State.dieAbsent at *
      rwa [(State.eccClose_effect d t).same .rst (by decide)]

/-- The corrections whose second has ended at the present instant. -/
def State.corrEnded (s : State) : List Corr := s.mem.corr.filter (fun c => decide (c.since + ms 1000 ≤ s.tb))

theorem State.eccReport_eq (s : State) : s.eccReport = forAll s.corrEnded State.eccClose s := rfl

theorem State.eccReport_mem (s : State) : s.eccReport.mem = { s.mem with corr := corrLess s.mem.corr s.corrEnded } := State.eccCloses_mem ..

/-! ## A read of a word (R33) -/

section
variable {k : Fin 3} {w bits : Nat} {written : Bool} {s : State}

theorem State.eccRead_uncorr (h : (k.val, w) ∈ s.mem.torn ∨ s.mem.softOf k w + bits = 3) :
    s.eccRead k w bits written = s.eccUncorr k w := by
  have h : (s.mem.torn.contains (k.val, w) || s.mem.softOf k w + bits = 3) = true := by simpa using h
  rw [State.eccRead, if_pos h]

theorem State.eccRead_clean (h : (k.val, w) ∉ s.mem.torn) (hn : s.mem.softOf k w + bits = 0) : s.eccRead k w bits written = s := by
  rw [State.eccRead, if_neg (by simp [h, hn]), if_pos hn]

theorem State.eccRead_corr (h : (k.val, w) ∉ s.mem.torn) (h0 : 0 < s.mem.softOf k w + bits) (h2 : s.mem.softOf k w + bits ≤ 2) :
    s.eccRead k w bits written = s.eccCorr k w := by
  have h3 : s.mem.softOf k w + bits ≠ 3 := by omega
  rw [State.eccRead, if_neg (by simp [h, h3]), if_neg (by omega), if_pos h2]

end

/-- A correction of a word that has no running second begins one. -/
theorem State.eccCorr_first {k : Fin 3} {w : Nat} {s : State} (h : ∀ c ∈ s.mem.corr, c.mem ≠ k.val ∨ c.word ≠ w) :
    (⟨k.val, w, s.tb, 1⟩ : Corr) ∈ (s.eccCorr k w).mem.corr := by
  have hn : ¬ s.mem.corr.any (fun c => c.mem = k.val && c.word = w) = true := by
    simp only [List.any_eq_true, Bool.and_eq_true, decide_eq_true_eq, not_exists, not_and]
    exact fun c hc hm => (h c hc).resolve_left (not_not_intro hm)
  show _ ∈ (if _ then _ else _)
  rw [if_neg hn]
  exact List.mem_append_right _ (List.mem_singleton_self _)

/-- A correction of a word counts in its running second. -/
theorem State.eccCorr_counts {k : Fin 3} {c : Corr} {s : State} (hm : c.mem = k.val) (hc : c ∈ s.mem.corr) :
    (⟨c.mem, c.word, c.since, c.count + 1⟩ : Corr) ∈ (s.eccCorr k c.word).mem.corr := by
  have hy : s.mem.corr.any (fun d => d.mem = k.val && d.word = c.word) = true := List.any_eq_true.mpr ⟨c, hc, by simp [hm]⟩
  show _ ∈ (if _ then _ else _)
  rw [if_pos hy]
  exact List.mem_map.mpr ⟨c, hc, by simp [hm]⟩

/-! ## A visit (R35) -/

/-- The scrubber stands at the next word; a visit to Granary keeps its clock running. -/
def State.scrubbed (k : Fin 3) (s : State) : State :=
  let s1 : State := { s with mem := { s.mem with scrub := s.mem.scrub.set k ((s.mem.scrub[k] % memWords k + 1) % memWords k) } }
  if k.val = 2 then s1.granTouch else s1

theorem State.scrubbed_effect (k : Fin 3) (s : State) : Effect [.mem] s (s.scrubbed k) := by
  unfold State.scrubbed
  extract_lets src s1
  have h1 : Effect [.mem] s s1 :=
    .put (.refl s) (fun p hp => by cases p <;> first | exact absurd (by decide) hp | rfl) rfl ⟨rfl, rfl, rfl⟩ ⟨rfl, rfl⟩ rfl rfl
  exact .ite (h1.trans State.granTouch_effect) h1

/-- Of the memories a visit's first part changes the position, and the clock of Granary. -/
theorem State.scrubbed_mem (k : Fin 3) (s : State) :
    ∃ nvm touched, (s.scrubbed k).mem =
      { s.mem with scrub := s.mem.scrub.set k ((s.mem.scrub[k] % memWords k + 1) % memWords k), nvm, touched } := by
  unfold State.scrubbed
  split <;> exact ⟨_, _, rfl⟩

theorem execScrubVisit_on {k : Fin 3} {bits : Nat} {written : Bool} {s : State} (h : s.memOn k = true) :
    exec (.scrubVisit k (bits, []) written) s
      = .next ((s.scrubbed k).eccReport.eccRead k (s.mem.scrub[k] % memWords k) bits written) := by
  show execScrubVisit k (bits, []) written s = _
  unfold execScrubVisit
  exact if_neg (by simp [forAll, h])

theorem execScrubVisit_off {k : Fin 3} {found : Nat × List Upset} {written : Bool} {s : State}
    (h : (forAll found.2 State.upset s).memOn k = false) :
    exec (.scrubVisit k found written) s = .next (forAll found.2 State.upset s) := by
  show execScrubVisit k found written s = _
  unfold execScrubVisit
  exact if_pos (by simp [h])

/-- One or two bits that go into error in a sound word are held there. -/
theorem State.upset_soft {j : Fin 3} {w b : Nat} {s : State} (h0 : 0 < b) (h2 : b ≤ 2) (hs : s.mem.softOf j w = 0) (ht : (j.val, w) ∉ s.mem.torn) :
    s.upset ⟨j, w, b⟩ = { s with mem := { s.mem with
      soft := s.mem.soft.filter (fun e => ¬(e.1 = j.val ∧ e.2.1 = w)) ++ [(j.val, w, b)] } } := by
  unfold State.upset
  simp only [hs, Nat.zero_add]
  rw [if_neg (by simp [ht]; omega), if_pos h2]

theorem Memories.softOf_held (m : Memories) (j : Fin 3) (w b : Nat) :
    ({ m with soft := m.soft.filter (fun e => ¬(e.1 = j.val ∧ e.2.1 = w)) ++ [(j.val, w, b)] } : Memories).softOf j w = b := by
  unfold Memories.softOf
  rw [List.find?_append, List.find?_eq_none.mpr]
  · simp
  · intro e he
    simp only [List.mem_filter, decide_eq_true_eq] at he
    simpa using he.2

/-- The state a visit reads its word in, all seconds that have ended reported. -/
def State.visited (k : Fin 3) (s : State) : State := (s.scrubbed k).eccReport

theorem State.visited_effect (k : Fin 3) (s : State) : Effect [.links, .seq, .mem] s (s.visited k) :=
  .step State.eccReport_effect (by decide) ((s.scrubbed_effect k).mono (by decide))

section
variable (k : Fin 3) (s : State)

theorem State.visited_tb : (s.visited k).tb = s.tb := (s.visited_effect k).same .tb (by decide)

/-- What a visit's first parts leave of the memories: only the position, Granary's clock and the reported counts change. -/
theorem State.visited_mem :
    ∃ nvm touched, (s.visited k).mem =
      { s.mem with scrub := s.mem.scrub.set k ((s.mem.scrub[k] % memWords k + 1) % memWords k), nvm, touched
                   corr := corrLess s.mem.corr s.corrEnded } := by
  obtain ⟨nvm, touched, hm⟩ := s.scrubbed_mem k
  refine ⟨nvm, touched, ?_⟩
  rw [State.visited, State.eccReport_mem]
  have ht : (s.scrubbed k).tb = s.tb := (s.scrubbed_effect k).same .tb (by decide)
  have he : (s.scrubbed k).corrEnded = s.corrEnded := by rw [State.corrEnded, hm, ht]; rfl
  rw [he, hm]

theorem State.visited_prefix : s.seq.held <+: (s.visited k).seq.held := by
  have hq : (s.scrubbed k).seq = s.seq := (s.scrubbed_effect k).same .seq (by decide)
  rw [← hq]
  exact State.eccCloses_prefix _ _

theorem State.visited_reports {j : Fin 3} (h : s.memReports j) : (s.visited k).memReports j := by
  unfold State.memReports State.dieAbsent at *
  rwa [(s.visited_effect k).same .rst (by decide)]

variable {k s}

theorem State.visited_raises {c : Corr} (h : s.memReports k) (hc : c ∈ s.mem.corr) (hk : c.mem = k.val)
    (he : c.since + 160000000 ≤ s.tb) :
    Raises s (s.visited k) .dev 0x0102 ([b8 (memDie k).val, 0, 0, 0] ++ leBytes 4 c.word ++ leBytes 4 c.count) := by
  have hq : (s.scrubbed k).seq = s.seq := (s.scrubbed_effect k).same .seq (by decide)
  have hr : (s.scrubbed k).rst = s.rst := (s.scrubbed_effect k).same .rst (by decide)
  have ht : (s.scrubbed k).tb = s.tb := (s.scrubbed_effect k).same .tb (by decide)
  obtain ⟨_, _, hm⟩ := s.scrubbed_mem k
  have hin : c ∈ (s.scrubbed k).corrEnded := by
    rw [State.corrEnded, hm, ht]
    exact List.mem_filter.mpr ⟨hc, decide_eq_true he⟩
  refine .behind (t := s.scrubbed k) (prefix_of_eq (congrArg Sequencer.held hq.symm)) (State.eccCloses_raises hk hin ?_)
  unfold State.memReports State.dieAbsent at *
  rwa [hr]

/-- A count whose second runs on stands. -/
theorem State.visited_keeps {c : Corr} (hc : c ∈ s.mem.corr) (hr : s.tb < c.since + 160000000) : c ∈ (s.visited k).mem.corr := by
  obtain ⟨_, _, hm⟩ := s.visited_mem k
  rw [hm]
  refine mem_corrLess hc fun h => ?_
  have := of_decide_eq_true (List.mem_filter.mp h).2
  simp only [ms] at this
  omega

theorem State.mem_corr_of_visited {c : Corr} (hc : c ∈ (s.visited k).mem.corr) : c ∈ s.mem.corr := by
  obtain ⟨_, _, hm⟩ := s.visited_mem k
  rw [hm] at hc
  exact mem_of_mem_corrLess hc

end

/-- What every visit does, whatever it finds in its word: it moves on by one word, reports the seconds that have ended, and changes no
byte of a memory. -/
structure ScrubEnd (k : Fin 3) (s t : State) : Prop where
  scrub : t.mem.scrub[k] = (if s.mem.scrub[k] + 1 = memWords k then 0 else s.mem.scrub[k] + 1)
  granary : t.mem.granary = s.mem.granary
  sram : t.mem.sram = s.mem.sram
  guard : t.mem.guard = s.mem.guard
  reports : ∀ c ∈ s.mem.corr, c.mem = k.val → c.since + 160000000 ≤ s.tb →
    Raises s t .dev 0x0102 ([b8 (memDie k).val, 0, 0, 0] ++ leBytes 4 c.word ++ leBytes 4 c.count)
  frame : SameExcept [.mem, .seq, .links] s t

section
variable {k : Fin 3} {s t : State}

theorem State.visited_end (hr : s.memReports k) (hw : s.mem.scrub[k] < memWords k) : ScrubEnd k s (s.visited k) := by
  obtain ⟨nvm, touched, hm⟩ := s.visited_mem k
  refine ⟨?_, by rw [hm], by rw [hm], by rw [hm], fun c hc hk he => State.visited_raises hr hc hk he,
    (s.visited_effect k).same.mono (by decide)⟩
  rw [hm]
  simp only [Fin.getElem_fin, Vector.getElem_set_self] at hw ⊢
  rw [Nat.mod_eq_of_lt hw]
  split
  · next h => rw [h, Nat.mod_self]
  · exact Nat.mod_eq_of_lt (by omega)

theorem ScrubEnd.uncorr (h : ScrubEnd k s t) (w : Nat) : ScrubEnd k s (t.eccUncorr k w) := by
  have hm := State.eccUncorr_mem k w t
  exact ⟨by rw [hm]; exact h.scrub, by rw [hm]; exact h.granary, by rw [hm]; exact h.sram, by rw [hm]; exact h.guard,
    fun c hc hk he => (h.reports c hc hk he).then (State.eccUncorr_prefix k w t),
    h.frame.trans (State.eccUncorr_effect.same.mono (by decide))⟩

theorem ScrubEnd.corr (h : ScrubEnd k s t) (w : Nat) : ScrubEnd k s (t.eccCorr k w) :=
  ⟨h.scrub, h.granary, h.sram, h.guard, fun c hc hk he => (h.reports c hc hk he).then List.prefix_rfl,
    h.frame.trans (State.eccCorr_effect.same.mono (by decide))⟩

end

/-- Settles O10: the seconds that have ended are reported first, and then the bits that the word holds and those found decide. -/
theorem scrubVisits : Obligations.ScrubVisits := by
  refine ⟨fun s k bits n written hon hlt hn h3 => ?_, fun s k j w bits written hoff => ⟨execScrubVisit_off hoff, ?_⟩⟩
  · have hr := State.memReports_of_memOn hon
    have hend := State.visited_end hr hlt
    have hru := s.visited_reports k hr
    have htb := s.visited_tb k
    have hpre := s.visited_prefix k
    obtain ⟨nvm, touched, hm⟩ := s.visited_mem k
    have hbad : (s.visited k).mem.bad = s.mem.bad := by rw [hm]
    have htorn : (s.visited k).mem.torn = s.mem.torn := by rw [hm]
    have hsoft : (s.visited k).mem.soft = s.mem.soft := by rw [hm]
    have hn : (s.visited k).mem.softOf k s.mem.scrub[k] + bits = n := by rw [hn, Memories.softOf, hsoft]; rfl
    have he := execScrubVisit_on (bits := bits) (written := written) hon
    rw [Nat.mod_eq_of_lt hlt] at he
    change _ = Host.Outcome.next ((s.visited k).eccRead k s.mem.scrub[k] bits written) at he
    by_cases hu : n = 3 ∨ (k.val, s.mem.scrub[k]) ∈ s.mem.torn
    · rw [State.eccRead_uncorr (by rw [hn, htorn]; exact hu.symm)] at he
      have hv := hend.uncorr s.mem.scrub[k]
      have hno : n ≤ 2 → (k.val, s.mem.scrub[k]) ∉ s.mem.torn → False := fun h2 ht => hu.elim (by omega) ht
      exact ⟨_, he, hv.scrub, hv.granary, hv.sram, hv.guard, fun h2 ht => (hno h2 ht).elim, fun _ h2 ht => (hno h2 ht).elim,
        fun _ => ⟨(State.eccUncorr_marks k _ _).1, (State.eccUncorr_marks k _ _).2, .behind hpre (State.eccUncorr_raises hru _)⟩,
        hv.reports, hv.frame⟩
    · have hu' := not_or.mp hu
      have hsound : (k.val, s.mem.scrub[k]) ∉ (s.visited k).mem.torn := by rw [htorn]; exact hu'.2
      by_cases h0 : n = 0
      · rw [State.eccRead_clean hsound (hn.trans h0)] at he
        exact ⟨_, he, hend.scrub, hend.granary, hend.sram, hend.guard, fun _ _ => ⟨hbad, htorn, fun _ => hsoft, fun h => by omega⟩,
          fun h => by omega, fun h => absurd h hu, hend.reports, hend.frame⟩
      · rw [State.eccRead_corr hsound (by omega) (by omega)] at he
        have hv := hend.corr s.mem.scrub[k]
        refine ⟨_, he, hv.scrub, hv.granary, hv.sram, hv.guard,
          fun _ _ => ⟨hbad, htorn, fun h => absurd h h0, fun _ => Memories.softOf_corrected _ _ _⟩, fun _ _ _ => ⟨fun hf => ?_, ?_⟩,
          fun h => absurd h hu, hv.reports, hv.frame⟩
        · rw [← htb]
          exact State.eccCorr_first fun c hc => hf c (State.mem_corr_of_visited hc)
        · intro c hc hk hw hrun
          rw [← hw]
          exact State.eccCorr_counts hk (State.visited_keeps hc hrun)
  · intro b h0 h2 hs ht
    have hup := State.upset_soft h0 h2 hs ht
    refine ⟨_, execScrubVisit_off (found := (bits, [⟨j, w, b⟩])) ?_, ?_⟩
    · show (s.upset ⟨j, w, b⟩).memOn k = false
      rw [hup]; exact hoff
    · show (s.upset ⟨j, w, b⟩).mem.softOf j w = b ∧ _
      rw [show forAll (bits, [(⟨j, w, b⟩ : Upset)]).2 State.upset s = s.upset ⟨j, w, b⟩ from rfl, hup]
      exact ⟨Memories.softOf_held _ _ _ _, rfl, rfl, fun p hp => by cases p <;> first | exact absurd (by decide) hp | rfl⟩

end Sys2Proof.Machine
end

section
/-! PROOFS. What an operation adds to the held events: the reports of uncorrectable words that the statistics meet, and no more. -/

namespace Sys2Proof.Machine

/-- The operation only adds events to those held, all of a kind; the SEQ counter and the receiver of the status link stand. -/
structure Adds (P : Event → Prop) (s t : State) : Prop where
  next : t.seq.next = s.seq.next
  limit : t.seq.limit = s.seq.limit
  held : ∃ l, t.seq.held = s.seq.held ++ l ∧ ∀ e ∈ l, P e
  inn : t.links[(2 : Fin 8)].inn = s.links[(2 : Fin 8)].inn

section
variable {P Q : Event → Prop} {s t u : State} {α : Type}

theorem Adds.of_same (hq : t.seq = s.seq) (hl : t.links = s.links) : Adds P s t :=
  ⟨by rw [hq], by rw [hq], ⟨[], by rw [hq, List.append_nil], fun _ h => absurd h List.not_mem_nil⟩, by rw [hl]⟩

theorem Adds.refl (s : State) : Adds P s s := .of_same rfl rfl

theorem Adds.trans (h : Adds P s t) (k : Adds P t u) : Adds P s u := by
  obtain ⟨l, hl, pl⟩ := h.held
  obtain ⟨m, hm, pm⟩ := k.held
  exact ⟨k.next.trans h.next, k.limit.trans h.limit, ⟨l ++ m, by rw [hm, hl, List.append_assoc],
    fun e he => (List.mem_append.mp he).elim (pl e) (pm e)⟩, k.inn.trans h.inn⟩

theorem Adds.mono (h : Adds P s t) (w : ∀ e, P e → Q e) : Adds Q s t :=
  have ⟨l, hl, pl⟩ := h.held
  ⟨h.next, h.limit, ⟨l, hl, fun e he => w e (pl e he)⟩, h.inn⟩

theorem Adds.of_effect {l : List Part} (h : Effect l s t) (hq : Part.seq ∉ l) (hl : Part.links ∉ l) : Adds P s t :=
  .of_same (h.same .seq hq) (h.same .links hl)

theorem Adds.forAll {f : α → State → State} (hf : ∀ a t, Adds P t (f a t)) (l : List α) (s : State) : Adds P s (forAll l f s) := by
  induction l generalizing s with
  | nil => exact .refl s
  | cons a l ih => exact (hf a s).trans (ih _)

end

/-! ## Events -/

/-- A part of an entry that the change of one entry keeps. -/
theorem upd_keeps {α β : Type} {n : Nat} {v : Vector α n} {i j : Fin n} {f : α → α} (g : α → β) (h : j = i → g (f v[i]) = g v[i]) :
    g (upd v i f)[j] = g v[j] := by
  by_cases e : j = i
  · rw [e, upd_self]; exact h e
  · rw [upd_other v f e]

theorem State.raiseAt_adds (stamp : Nat) (die : Fin 8) (source code : Nat) (payload more : List Byte) (s : State) :
    Adds (·.code = code) s (s.raiseAt stamp die source code payload more) := by
  unfold State.raiseAt
  split
  · exact .refl s
  · refine ⟨rfl, rfl, ⟨[_], rfl, fun e he => by rw [List.mem_singleton.mp he]⟩, ?_⟩
    refine upd_keeps Link.inn fun h => ?_
    subst h; rfl

theorem State.ev_adds (p : PageId) (code : Nat) (payload : List Byte) (s : State) : Adds (·.code = code) s (s.ev p code payload) :=
  State.raiseAt_adds ..

/-! ## Accesses to Granary -/

/-- The operation adds reports of uncorrectable words alone, and none where no word is uncorrectable; it makes no word so. -/
structure Tells (s t : State) : Prop extends Adds (·.code = 0x0103) s t where
  sound : s.mem.torn = [] → t.mem.torn = [] ∧ t.seq.held = s.seq.held

section
variable {s t u : State} {α : Type}

theorem Tells.of_same (hq : t.seq = s.seq) (hl : t.links = s.links) (hm : t.mem.torn = s.mem.torn) : Tells s t :=
  ⟨.of_same hq hl, fun h => ⟨hm.trans h, by rw [hq]⟩⟩

theorem Tells.refl (s : State) : Tells s s := .of_same rfl rfl rfl

theorem Tells.trans (h : Tells s t) (k : Tells t u) : Tells s u :=
  ⟨h.toAdds.trans k.toAdds, fun hs => have ⟨ht, he⟩ := h.sound hs; have ⟨hu, hf⟩ := k.sound ht; ⟨hu, hf.trans he⟩⟩

/-- One operation after others. -/
theorem Tells.after (k : Tells t u) (h : Tells s t) : Tells s u := h.trans k

theorem Tells.of_effect {l : List Part} (h : Effect l s t) (hq : Part.seq ∉ l) (hl : Part.links ∉ l) (hm : Part.mem ∉ l) : Tells s t :=
  .of_same (h.same .seq hq) (h.same .links hl) (by rw [h.same .mem hm])

theorem Tells.forAll {f : α → State → State} (hf : ∀ a t, Tells t (f a t)) (l : List α) (s : State) : Tells s (forAll l f s) := by
  induction l generalizing s with
  | nil => exact .refl s
  | cons a l ih => exact (hf a s).trans (ih _)

end

section
variable (k : Fin 3) (a n w : Nat) (l : List Byte) (s : State)

theorem State.eccUncorr_adds : Adds (·.code = 0x0103) s (s.eccUncorr k w) :=
  have hm : Adds (·.code = 0x0103) s (s.marked k w) := .of_same rfl rfl
  hm.trans (State.raiseAt_adds _ _ _ 0x0103 _ _ _)

theorem State.readWords_tells : Tells s (s.readWords k a n) := by
  have hcorr : Tells s (forAll (s.mem.softIn k a n) (fun w t => t.eccCorr k w) s) :=
    Tells.forAll (f := fun w t => t.eccCorr k w) (fun _ _ => .of_same rfl rfl rfl) _ s
  refine ⟨hcorr.toAdds.trans (.forAll (fun w t => State.eccUncorr_adds k w t) _ _), fun h => ?_⟩
  have hnone : s.mem.tornIn k a n = [] := by rw [Memories.tornIn, h]; rfl
  rw [State.readWords, hnone]
  exact hcorr.sound h

theorem State.mergeRead_tells : Tells s (s.mergeRead k a n) := .forAll (fun _ t => State.readWords_tells k _ _ t) _ s

theorem State.granTouch_tells : Tells s s.granTouch := .of_same rfl rfl rfl

theorem State.granUse_tells : Tells s (s.granUse a n) :=
  ite_intro (.refl s) ((State.granTouch_tells s).trans (State.readWords_tells 2 a n _))

theorem Memories.tornAfter_sound {m : Memories} (h : m.torn = []) (j : Nat) : m.tornAfter j a n = [] := by
  rw [Memories.tornAfter, h]; rfl

theorem State.granWrite_tells : Tells s (s.granWrite a l) := by
  have h := State.mergeRead_tells 2 a l.length s
  refine ⟨h.toAdds.trans (.of_same rfl rfl), fun hs => ?_⟩
  obtain ⟨ht, he⟩ := h.sound hs
  exact ⟨Memories.tornAfter_sound _ _ ht 2, he⟩

end

/-! ## The statistics -/

section
variable (block k v time force seq : Nat) (p : Fin 8) (s : State)

theorem State.statAdd_tells (off n : Nat) : Tells s (s.statAdd off n k) :=
  have hu := State.granUse_tells (statBase + off) n s
  ite_intro (.refl s) (ite_intro (hu.trans (State.granWrite_tells ..)) hu)

theorem State.statVeh_tells (n : Nat) : Tells s (s.statVeh k n) := State.statAdd_tells ..

theorem State.statBin_tells (off bin : Nat) : Tells s (s.statBin block off bin) := State.statAdd_tells ..

theorem State.statExtreme_tells (least first : Bool) : Tells s (s.statExtreme block k v seq least first) :=
  have hu := State.granUse_tells (statBase + block + 0x180 + 4 * k) 4 s
  ite_intro hu (hu.trans ((State.granWrite_tells ..).trans (State.granWrite_tells ..)))

theorem State.statDone_tells : Tells s (s.statDone block seq) := by
  unfold State.statDone
  extract_lets t src
  have ht : Tells s t := State.granWrite_tells ..
  clear_value t
  exact ite_intro (.refl s) (ht.trans (.of_same rfl rfl rfl))

theorem State.statClose_tells (vlog : Option Nat) : Tells s (s.statClose block time force vlog seq) := by
  unfold State.statClose
  extract_lets first s1 s2 s3
  have h1 : Tells s s1 := (State.statBin_tells ..).trans (State.statBin_tells ..)
  have h2 : Tells s1 s2 := ((State.statExtreme_tells ..).trans (State.statExtreme_tells ..)).trans (State.statExtreme_tells ..)
  have h3 : Tells s2 s3 := by
    unfold s3
    split
    · exact State.statExtreme_tells ..
    · exact .refl s2
  exact h1.trans (h2.trans (h3.trans (State.statDone_tells ..)))

theorem State.statOpen_tells : Tells s (s.statOpen block time seq) :=
  (((State.statBin_tells ..).trans (State.statExtreme_tells ..)).trans (State.statExtreme_tells ..)).trans (State.statDone_tells ..)

theorem State.statPtlClose_tells : Tells s (s.statPtlClose p seq) :=
  (State.statClose_tells ..).trans (.forAll (fun _ _ => State.statClose_tells ..) _ _)

theorem State.statPtlOpen_tells : Tells s (s.statPtlOpen p seq) :=
  (State.statOpen_tells ..).trans (.forAll (fun _ _ => State.statOpen_tells ..) _ _)

end

end Sys2Proof.Machine
end

section
/-! PROOFS. The release of a held event (O28): which event comes first, and what the release adds to the others. -/

namespace Sys2Proof.Machine

/-! ## Order of release (R22, R27) -/

section
variable {s : State} {a b c : Event}

/-- Of two stamps within 2^47 counts the later one is the younger. -/
theorem laterStamp_iff_age (ha : s.age a < 2 ^ 47) (hb : s.age b < 2 ^ 47) :
    laterStamp a.stamp b.stamp = true ↔ s.age b < s.age a := by
  unfold State.age laterStamp at *
  simp only [Bool.and_eq_true, decide_eq_true_eq]
  omega

theorem State.age_congr (h : a.stamp = b.stamp) : s.age a = s.age b := by unfold State.age; rw [h]

theorem Event.before_iff (ha : s.age a < 2 ^ 47) (hb : s.age b < 2 ^ 47) :
    a.before b = true ↔ s.age b < s.age a ∨ (a.stamp = b.stamp ∧ (a.die < b.die ∨ a.die = b.die ∧ a.linkSeq < b.linkSeq)) := by
  unfold Event.before
  simp only [Bool.or_eq_true, Bool.and_eq_true, decide_eq_true_eq, laterStamp_iff_age ha hb]

theorem Event.before_trans (ha : s.age a < 2 ^ 47) (hb : s.age b < 2 ^ 47) (hc : s.age c < 2 ^ 47) (h : a.before b = true)
    (k : b.before c = true) : a.before c = true := by
  rw [Event.before_iff ha hb] at h
  rw [Event.before_iff hb hc] at k
  rw [Event.before_iff ha hc]
  have hab := State.age_congr (s := s) (a := a) (b := b)
  have hbc := State.age_congr (s := s) (a := b) (b := c)
  omega

theorem Event.before_asymm (ha : s.age a < 2 ^ 47) (hb : s.age b < 2 ^ 47) (h : a.before b = true) : b.before a = false := by
  rw [Event.before_iff ha hb] at h
  rw [← Bool.not_eq_true, Event.before_iff hb ha]
  have hab := State.age_congr (s := s) (a := a) (b := b)
  omega

theorem Event.before_irrefl (ha : s.age a < 2 ^ 47) : a.before a = false := by
  rw [← Bool.not_eq_true, Event.before_iff ha ha]
  omega

/-- The first of the events met so far and one more. -/
def Event.pick (b : Option Event) (e : Event) : Option Event :=
  match b with
  | none => some e
  | some c => if e.before c then some e else some c

theorem State.firstHeld_eq (s : State) : s.firstHeld = s.seq.inside.foldl Event.pick none := rfl

/-- Of two events the one picked is one that neither comes before. -/
theorem Event.pick_two (b e : Event) : ∃ c, Event.pick (some b) e = some c ∧ (c = b ∨ c = e ∧ e.before b = true)
    ∧ (s.age b < 2 ^ 47 → s.age e < 2 ^ 47 → b.before c = false ∧ e.before c = false) := by
  by_cases h : e.before b = true
  · exact ⟨e, if_pos h, .inr ⟨rfl, h⟩, fun hb he => ⟨Event.before_asymm he hb h, Event.before_irrefl he⟩⟩
  · exact ⟨b, if_neg h, .inl rfl, fun hb _ => ⟨Event.before_irrefl hb, Bool.eq_false_iff.mpr h⟩⟩

/-- The event picked is one of those met. Where they lie within 2^47 counts, it is the one met first or comes before that, and none of them
comes before it. -/
theorem Event.pick_first (l : List Event) (b : Event) (h : l.foldl Event.pick (some b) = some a) :
    a ∈ b :: l ∧ ((∀ x ∈ b :: l, s.age x < 2 ^ 47) → (a = b ∨ a.before b = true) ∧ ∀ x ∈ b :: l, x.before a = false) := by
  induction l generalizing b with
  | nil =>
    obtain rfl : b = a := Option.some.inj h
    refine ⟨List.mem_singleton_self b, fun hs => ⟨.inl rfl, fun x hx => ?_⟩⟩
    rw [List.mem_singleton.mp hx]
    exact Event.before_irrefl (hs b (List.mem_singleton_self b))
  | cons e l ih =>
    obtain ⟨c, hc, hcb, hleast⟩ := Event.pick_two (s := s) b e
    rw [List.foldl_cons, hc] at h
    obtain ⟨ha, hac⟩ := ih c h
    have hsub : ∀ x ∈ c :: l, x ∈ b :: e :: l := fun x hx => by
      rcases List.mem_cons.mp hx with rfl | hx
      · rcases hcb with rfl | ⟨rfl, -⟩ <;> simp
      · simp [hx]
    refine ⟨hsub a ha, fun hs => ?_⟩
    have age_b := hs b (by simp)
    have age_e := hs e (by simp)
    have age_c := hs c (hsub c List.mem_cons_self)
    have age_a := hs a (hsub a ha)
    obtain ⟨hle, hl⟩ := hac fun x hx => hs x (hsub x hx)
    obtain ⟨hbc, hec⟩ := hleast age_b age_e
    have below {x : Event} (age_x : s.age x < 2 ^ 47) (hx : x.before a = true) : x.before c = true :=
      hle.elim (fun h => h ▸ hx) (Event.before_trans age_x age_a age_c hx)
    refine ⟨?_, fun x hx => ?_⟩
    · rcases hcb with rfl | ⟨rfl, heb⟩
      · exact hle
      · exact .inr (hle.elim (fun h => h ▸ heb) fun h => Event.before_trans age_a age_c age_b h heb)
    · rcases List.mem_cons.mp hx with rfl | hx
      · exact Bool.eq_false_iff.mpr fun h => Bool.eq_false_iff.mp hbc (below age_b h)
      · rcases List.mem_cons.mp hx with rfl | hx
        · exact Bool.eq_false_iff.mpr fun h => Bool.eq_false_iff.mp hec (below age_e h)
        · exact hl x (List.mem_cons_of_mem c hx)

theorem State.firstHeld_first (h : s.firstHeld = some a) :
    a ∈ s.seq.inside ∧ ((∀ x ∈ s.seq.inside, s.age x < 2 ^ 47) → ∀ x ∈ s.seq.inside, x.before a = false) := by
  rw [State.firstHeld_eq] at h
  match hl : s.seq.inside with
  | [] => rw [hl] at h; exact absurd h (Option.some_ne_none a).symm
  | b :: l =>
    rw [hl] at h
    obtain ⟨hm, hf⟩ := Event.pick_first l b h
    exact ⟨hm, fun hs => (hf hs).2⟩

theorem State.firstHeld_none (h : s.seq.inside = []) : s.firstHeld = none := by rw [State.firstHeld_eq, h]; rfl

end

/-! ## What the release of one event adds to the others -/

section
variable (e : Event) (seq : Nat) (s : State)

theorem State.takeSeq_value : s.takeSeq.1 = s.seq.next := by
  unfold State.takeSeq
  extract_lets t q
  have hq : q = s.seq := by unfold q t; split <;> rfl
  exact congrArg Sequencer.next hq

theorem State.takeSeq_seq : s.takeSeq.2.seq =
    { s.seq with next := s.seq.next + 1, limit := if s.seq.limit ≤ s.seq.next then s.seq.next + 65536 else s.seq.limit } := by
  unfold State.takeSeq
  extract_lets t q src
  have hq : q = s.seq := by unfold q t; split <;> rfl
  subst src
  rw [hq]

theorem State.takeSeq_torn : s.takeSeq.2.mem.torn = s.mem.torn := by
  unfold State.takeSeq
  extract_lets t
  unfold t
  split <;> rfl

theorem State.secFlag_adds {P : Event → Prop} (k : Nat) : Adds P s (s.secFlag k) :=
  .of_effect State.secFlag_effect (by decide) (by decide)

theorem State.ev_addsAny (p : PageId) (code : Nat) (payload : List Byte) : Adds (fun _ => True) s (s.ev p code payload) :=
  (State.ev_adds ..).mono fun _ _ => trivial

theorem State.installKey_adds (k : Fin 4) (signer : Nat) : Adds (fun _ => True) s (s.installKey k signer) := by
  unfold State.installKey
  extract_lets d x f t
  have ht : Adds (fun _ => True) s t := .of_same rfl rfl
  exact ht.trans ((State.secFlag_adds t 1).trans (State.ev_addsAny ..))

theorem State.revokeKey_adds (k : Fin 4) (signer : Nat) : Adds (fun _ => True) s (s.revokeKey k signer) := by
  unfold State.revokeKey
  extract_lets f t
  have ht : Adds (fun _ => True) s t := .of_same rfl rfl
  exact ht.trans ((State.secFlag_adds t 1).trans (State.ev_addsAny ..))

theorem State.secToken_adds : Adds (fun _ => True) s s.secToken.2 := by
  unfold State.secToken
  extract_lets t cmd signer target r s1
  have h1 : Adds (fun _ => True) s s1 := .of_same rfl rfl
  clear_value cmd s1
  split
  · exact h1.trans ((State.secFlag_adds s1 0).trans (.of_same rfl rfl))
  · split
    · exact h1.trans (State.installKey_adds ..)
    · exact h1.trans (State.revokeKey_adds ..)
    · have h2 : Adds (fun _ => True) s1 (s1.modSec (fun x => { x with debugOpened := true })) := .of_same rfl rfl
      exact h1.trans (h2.trans ((State.secFlag_adds _ 4).trans (State.ev_addsAny ..)))

/-- A token that waited for the engine may report its key or the debug lock. -/
theorem State.tokenNow_adds : Adds (fun _ => True) s s.tokenNow := by
  have h1 : Adds (fun _ => True) s (s.modSec (fun x => { x with busy := none })) := .of_same rfl rfl
  have h := h1.trans (State.secToken_adds _)
  unfold State.tokenNow
  split
  · next ht => rw [ht] at h; exact h.trans (.of_effect State.err_effect (by decide) (by decide))
  · next ht => rw [ht] at h; exact h

/-- A switch check reports its image. -/
theorem State.switchCheck_adds : Adds (fun _ => True) s s.switchCheck := by
  have himg (base reason : Nat) : Adds (fun _ => True) s (s.imgEvent 4 base reason) := by
    have hu : Adds (fun _ => True) s (s.granUse base (s.imgSpan base)) := (State.granUse_tells ..).toAdds.mono fun _ _ => trivial
    exact ite_intro (hu.trans (State.ev_addsAny ..)) (hu.trans (State.ev_addsAny ..))
  have hverdict (base reason : Nat) : Adds (fun _ => True) s (s.guardVerdict 4 base reason) :=
    ite_intro (himg base reason) ((himg base reason).trans ((State.secFlag_adds _ 0).trans (.of_same rfl rfl)))
  unfold State.switchCheck
  extract_lets slot r t
  have ht : Adds (fun _ => True) s t := hverdict _ _
  refine ite_intro (ht.trans (.of_same rfl rfl)) (ht.trans ?_)
  have hp : Adds (fun _ => True) t (t.modPrg (fun p => { p with siding := .invalid })) := .of_same rfl rfl
  exact hp.trans (.of_effect State.prgFlag_effect (by decide) (by decide))

/-- What waited for the engine may add an event of any kind; the SEQ counter stands. -/
theorem State.engineRun_adds (l : List EngineOp) : Adds (fun _ => True) s (State.engineRun l s) := by
  induction l generalizing s with
  | nil => exact .of_same rfl rfl
  | cons o l ih =>
    cases o with
    | token => exact (State.tokenNow_adds s).trans (ih _)
    | switch => exact (State.switchCheck_adds s).trans (ih _)
    | verify => exact .of_same rfl rfl
    | attest => exact .of_same rfl rfl
    | program => exact .of_same rfl rfl
    | clear => exact .of_same rfl rfl

theorem State.attSeq_adds : Adds (fun _ => True) s (s.attSeq seq) := by
  refine ite_intro (.refl s) (.trans ?_ (State.engineRun_adds ..))
  exact .trans (.of_effect State.modSec_effect (by decide) (by decide)) (.of_effect State.secFlag_effect (by decide) (by decide))

theorem State.relPtl_tells (p : Fin 8) (old new : Nat) : Tells s (s.relPtl p old new seq) :=
  ite_intro (.of_same rfl rfl rfl) (ite_intro (State.statPtlOpen_tells ..) (.refl s))

theorem State.relEffect_tells (h : e.code ≠ 0xA005) : Tells s (s.relEffect e seq) := by
  unfold State.relEffect
  extract_lets b inst
  split
  · exact .of_effect State.relDin_effect (by decide) (by decide) (by decide)
  · exact .of_same rfl rfl rfl
  · split
    · exact .of_same rfl rfl rfl
    · exact .refl s
  · exact .of_effect State.relMember_effect (by decide) (by decide) (by decide)
  · exact .of_effect State.relMember_effect (by decide) (by decide) (by decide)
  · exact State.relPtl_tells ..
  · exact .of_same rfl rfl rfl
  · exact .of_same rfl rfl rfl
  · exact .of_same rfl rfl rfl
  · exact .of_same rfl rfl rfl
  · exact .of_effect State.relSin_effect (by decide) (by decide) (by decide)
  · exact .of_same rfl rfl rfl
  · exact ite_intro (.of_effect State.errDue_effect (by decide) (by decide) (by decide)) (.refl s)
  · exact .of_same rfl rfl rfl
  · exact ite_intro (.of_same rfl rfl rfl) ((State.granWrite_tells ..).after (.of_same rfl rfl rfl))
  · exact .of_same rfl rfl rfl
  · exact absurd ‹_› h
  · exact .refl s

theorem State.relEffect_attested (h : e.code = 0xA005) : s.relEffect e seq = s.attSeq seq := by
  simp only [State.relEffect, h]

theorem State.relEffect_mode (h : e.code = 0x0601) : (s.relEffect e seq).mc.entrySeq = seq := by
  simp only [State.relEffect, h]

/-- An event behind whose SEQ the engine goes on may bring others; every other one brings reports of uncorrectable words alone. -/
theorem State.relEffect_adds : Adds (fun x => e.code ≠ 0xA005 → x.code = 0x0103) s (s.relEffect e seq) := by
  by_cases h : e.code = 0xA005
  · rw [State.relEffect_attested e seq s h]
    exact (State.attSeq_adds seq s).mono fun _ _ hn => absurd h hn
  · exact (State.relEffect_tells e seq s h).toAdds.mono fun _ hx _ => hx

theorem State.stageRec_tells (r : Rec0) : Tells s (s.stageRec r) := .of_effect State.stageRec_effect (by decide) (by decide) (by decide)

theorem State.relRecord_tells : Tells s (s.relRecord e seq) := by
  unfold State.relRecord
  extract_lets s1
  have h1 : Tells s s1 := by
    unfold s1
    split
    · exact .refl s
    · next w _ =>
      have ht : Tells s ((s.modRec (fun r => { r with await := r.await.erase w })).stageRec { w.2.2 with seq := seq }) :=
        (State.stageRec_tells ..).after (.of_same rfl rfl rfl)
      exact ite_intro (ht.trans (State.statPtlClose_tells ..)) ht
  split
  · exact h1.trans (State.stageRec_tells ..)
  · exact h1

/-- What follows the records: the host's queues, the HSPI block, and the tasks bound to the event. -/
def State.relOut (t : State) : State := ((forAll (List.finRange 8) (fun q t => t.evqTake q e seq) t).hspiTake e seq).eventTasks e seq

theorem State.relOut_effect (t : State) : Effect [.pages, .evq, .hif, .posted, .hspi, .prgx] t (t.relOut e seq) :=
  .step State.eventTasks_effect (by decide) (.step State.hspiTake_effect (by decide)
    (.forAll (fun _ _ => State.evqTake_effect.mono (by decide)) (.refl t)))

/-- The state in which the event has left the sequencer and has its SEQ. -/
def State.relTaken : State := (s.relHold e).takeSeq.2

theorem State.releaseOne_eq : s.releaseOne e = (((s.relTaken e).relEffect e s.seq.next).relRecord e s.seq.next).relOut e s.seq.next := by
  rw [← show (s.relHold e).takeSeq.1 = s.seq.next from State.takeSeq_value _]
  rfl

theorem State.relTaken_seq : (s.relTaken e).seq.held = s.seq.held.erase e ∧ (s.relTaken e).seq.next = s.seq.next + 1
    ∧ (s.relTaken e).seq.limit = if s.seq.limit ≤ s.seq.next then s.seq.next + 65536 else s.seq.limit := by
  rw [State.relTaken, State.takeSeq_seq]
  exact ⟨rfl, rfl, rfl⟩

theorem State.releaseOne_adds : Adds (fun x => e.code ≠ 0xA005 → x.code = 0x0103) (s.relTaken e) (s.releaseOne e) := by
  rw [State.releaseOne_eq]
  exact (State.relEffect_adds ..).trans (((State.relRecord_tells ..).toAdds.mono fun _ hx _ => hx).trans
    (.of_effect (State.relOut_effect ..) (by decide) (by decide)))

theorem State.releaseOne_sound (hs : s.mem.torn = []) (h : e.code ≠ 0xA005) : (s.releaseOne e).seq.held = s.seq.held.erase e := by
  have ht : (s.relTaken e).mem.torn = [] := (State.takeSeq_torn _).trans hs
  have hall := (State.relEffect_tells e s.seq.next (s.relTaken e) h).trans (State.relRecord_tells e s.seq.next _)
  rw [State.releaseOne_eq, (State.relOut_effect ..).same .seq (by decide), (hall.sound ht).2]
  exact (State.relTaken_seq e s).1

theorem State.releaseOne_entrySeq (h : e.code = 0x0601) : (s.releaseOne e).mc.entrySeq = s.seq.next := by
  rw [State.releaseOne_eq, (State.relOut_effect ..).same .mc (by decide), State.relRecord_effect.same .mc (by decide)]
  exact State.relEffect_mode e _ _ h

end

/-! ## EVENT_RELEASE -/

theorem execEventRelease_releases {s : State} {e : Event} (h : s.firstHeld = some e) (hd : s.domOn 1 = true) (hj : s.boot.jctOk = true)
    (hr : s.releasable e = true) : exec .eventRelease s = .next (s.releaseOne e) := by
  show execEventRelease s = _
  simp [execEventRelease, h, hd, hj, hr]

theorem execEventRelease_waits {s : State} {e : Event} (h : s.firstHeld = some e) (hr : s.releasable e = false) :
    exec .eventRelease s = .next s := by
  show execEventRelease s = _
  simp [execEventRelease, h, hr]

theorem execEventRelease_empty {s : State} (h : s.firstHeld = none) : exec .eventRelease s = .next s := by
  show execEventRelease s = _
  simp [execEventRelease, h]

/-- Settles O28: the event picked is one no other precedes; it leaves with the next SEQ, and what follows only adds reports. -/
theorem eventsTakeSeqInOrder : Obligations.EventsTakeSeqInOrder := by
  refine fun s => ⟨fun e h hd hj hr => ?_, fun e h hr => execEventRelease_waits h hr,
    fun h => execEventRelease_empty (State.firstHeld_none h)⟩
  obtain ⟨hin, hfirst⟩ := State.firstHeld_first h
  obtain ⟨hheld, hnext, hlimit⟩ := State.relTaken_seq e s
  have hadds := State.releaseOne_adds e s
  obtain ⟨l, hl, hcode⟩ := hadds.held
  exact ⟨_, execEventRelease_releases h hd hj hr, hin, ⟨l, hheld ▸ hl, fun hn x hx => hcode x hx hn⟩,
    fun hs hn => State.releaseOne_sound e s hs hn, hfirst, hadds.next.trans hnext, hadds.limit.trans hlimit,
    State.releaseOne_entrySeq e s⟩

end Sys2Proof.Machine
end

section
/-! PROOFS. Stamp, sync and status packets (O8): the next packet of a lane, Junction's stamp on every link that has room, the state a frame
of Signal box gives, and the loss of a die. -/

namespace Sys2Proof.Machine

/-! ## The next packet of a lane (R16, R17) -/

/-- A lane has room for a packet, and no event packet waits. -/
def Lane.room (l : Lane) : Bool := decide (l.outstanding < 64) && decide (l.wait = 0)

theorem Lane.room_iff {l : Lane} : l.room = true ↔ l.outstanding < 64 ∧ l.wait = 0 := by
  rw [Lane.room, Bool.and_eq_true, decide_eq_true_eq, decide_eq_true_eq]

theorem Lane.shut_eq (l : Lane) : (l.full || decide (0 < l.wait)) = !l.room := by
  unfold Lane.full Lane.room
  rw [Bool.not_and, ← decide_not, ← decide_not]
  congr 2 <;> exact propext (by omega)

theorem Lane.send_room {l : Lane} (h : l.room = true) : l.send = { l with next := (l.next + 1) % 65536 } := by
  rw [Lane.send, Lane.shut_eq, h]; rfl

section
variable {s : State} {d : Fin 8} {toDie : Bool} {kind : Nat} {stamp : Option Nat}

theorem State.sendPacket_room (h : (s.links[d].lane toDie).room = true) : s.sendPacket d toDie kind stamp
    = (s.modLink d (fun k => k.modLane toDie Lane.send)).post (.packet d.val kind (s.links[d].lane toDie).next stamp) := by
  rw [State.sendPacket, Lane.shut_eq, h]; rfl

theorem State.sendPacket_shut (h : (s.links[d].lane toDie).room = false) : s.sendPacket d toDie kind stamp = s := by
  rw [State.sendPacket, Lane.shut_eq, h]; rfl

theorem State.modLink_self (f : Link → Link) : (s.modLink d f).links[d] = f s.links[d] := upd_self ..

theorem State.modLink_other {k : Fin 8} (f : Link → Link) (h : k ≠ d) : (s.modLink d f).links[k] = s.links[k] := upd_other _ _ h

theorem State.sendPacket_other {k : Fin 8} (h : k ≠ d) : (s.sendPacket d toDie kind stamp).links[k] = s.links[k] := by
  cases hr : (s.links[d].lane toDie).room
  · rw [State.sendPacket_shut hr]
  · rw [State.sendPacket_room hr, State.post_links, State.modLink_other _ h]

theorem State.sendPacket_posted : (s.sendPacket d toDie kind stamp).posted
    = s.posted ++ if (s.links[d].lane toDie).room then [.packet d.val kind (s.links[d].lane toDie).next stamp] else [] := by
  cases hr : (s.links[d].lane toDie).room
  · rw [State.sendPacket_shut hr, if_neg Bool.false_ne_true, List.append_nil]
  · rw [State.sendPacket_room hr, if_pos rfl]; rfl

theorem Link.modLane_lane (l : Link) (f : Lane → Lane) : (l.modLane toDie f).lane toDie = f (l.lane toDie) := by cases toDie <;> rfl

theorem State.sendPacket_lane (h : (s.links[d].lane toDie).room = true) :
    ((s.sendPacket d toDie kind stamp).links[d].lane toDie).next = ((s.links[d].lane toDie).next + 1) % 65536 := by
  rw [State.sendPacket_room h, State.post_links, State.modLink_self, Link.modLane_lane, Lane.send_room h]

/-- A packet goes out as the next of its lane, and the sender's link may be changed in other fields. -/
theorem State.sent (h : (s.links[d].lane toDie).room = true) {f : Link → Link} (hf : ∀ l, (f l).lane toDie = l.lane toDie) :
    (((s.sendPacket d toDie kind stamp).modLink d f).links[d].lane toDie).next = ((s.links[d].lane toDie).next + 1) % 65536
    ∧ ((s.sendPacket d toDie kind stamp).modLink d f).posted = s.posted ++ [.packet d.val kind (s.links[d].lane toDie).next stamp]
    ∧ (∀ k : Fin 8, k ≠ d → ((s.sendPacket d toDie kind stamp).modLink d f).links[k] = s.links[k])
    ∧ SameExcept [.links, .posted] s ((s.sendPacket d toDie kind stamp).modLink d f) := by
  refine ⟨?_, ?_, fun k hk => ?_, (State.modLink_effect.step (by decide) State.sendPacket_effect).same⟩
  · rw [State.modLink_self, hf, State.sendPacket_lane h]
  · rw [State.modLink_effect.same .posted (by decide), State.sendPacket_posted, if_pos h]
  · rw [State.modLink_other _ hk, State.sendPacket_other hk]

end

/-! ## Junction's own stamp packets -/

theorem forAll_cons {σ α : Type} (a : α) (l : List α) (f : α → σ → σ) (s : σ) : forAll (a :: l) f s = forAll l f (f a s) := rfl

/-- Junction sends its stamp packet to a die. -/
def State.stampTo (k : Fin 8) (t : State) : State := t.sendPacket k true 10 (some (stampOf t.tb))

/-- The stamp packet that goes to a die now. -/
def State.stampNow (s : State) (k : Fin 8) : Posted := .packet k.val 10 s.links[k].out.next (some (stampOf s.tb))

section
variable {k : Fin 8} {s : State}

theorem State.stampTo_tb : (s.stampTo k).tb = s.tb := State.sendPacket_effect.same .tb (by decide)

theorem State.stampTo_other {j : Fin 8} (h : j ≠ k) : (s.stampTo k).links[j] = s.links[j] := State.sendPacket_other h

theorem State.stampTo_posted : (s.stampTo k).posted = s.posted ++ if s.links[k].out.room then [s.stampNow k] else [] :=
  State.sendPacket_posted

theorem State.stampAll_other {l : List (Fin 8)} (h : k ∉ l) : (forAll l State.stampTo s).links[k] = s.links[k] := by
  induction l generalizing s with
  | nil => rfl
  | cons j l ih =>
    rw [forAll_cons, ih (List.not_mem_of_not_mem_cons h), State.stampTo_other (List.ne_of_not_mem_cons h)]

/-- Of several different dies each one whose link has room gets its packet. -/
theorem State.stampAll_posted {l : List (Fin 8)} (h : l.Nodup) :
    (forAll l State.stampTo s).posted = s.posted ++ (l.filter (fun k => s.links[k].out.room)).map s.stampNow := by
  induction l generalizing s with
  | nil => exact (List.append_nil _).symm
  | cons j l ih =>
    obtain ⟨hj, hl⟩ := List.nodup_cons.mp h
    have hlink (k : Fin 8) (hk : k ∈ l) : (s.stampTo j).links[k] = s.links[k] := State.stampTo_other fun e => hj (e ▸ hk)
    have hfilter : l.filter (fun k => (s.stampTo j).links[k].out.room) = l.filter (fun k => s.links[k].out.room) :=
      List.filter_congr fun k hk => by rw [hlink k hk]
    have hmap : (l.filter (fun k => s.links[k].out.room)).map (s.stampTo j).stampNow
        = (l.filter (fun k => s.links[k].out.room)).map s.stampNow :=
      List.map_congr_left fun k hk => by rw [State.stampNow, hlink k (List.mem_filter.mp hk).1, State.stampTo_tb]; rfl
    rw [forAll_cons, ih hl, State.stampTo_posted, hfilter, hmap, List.filter_cons, List.append_assoc]
    cases s.links[j].out.room <;> rfl

theorem State.stampAll_effect (l : List (Fin 8)) : Effect [.links, .posted] s (forAll l State.stampTo s) :=
  .forAll (fun _ _ => State.sendPacket_effect) (.refl s)

end

/-! ## What the report of a frame adds -/

/-- The operation adds events to those held and output to that posted; the SEQ counter and the receiver of the status link stand. -/
structure Shows (s t : State) : Prop extends Adds (fun _ => True) s t where
  posted : s.posted <+: t.posted

section
variable {s t u : State}

theorem Shows.trans (h : Shows s t) (k : Shows t u) : Shows s u := ⟨h.toAdds.trans k.toAdds, h.posted.trans k.posted⟩

/-- One operation after others. -/
theorem Shows.after (k : Shows t u) (h : Shows s t) : Shows s u := h.trans k

theorem Shows.of_same (hq : t.seq = s.seq) (hl : t.links = s.links) (hp : t.posted = s.posted) : Shows s t :=
  ⟨.of_same hq hl, prefix_of_eq hp.symm⟩

theorem Shows.refl (s : State) : Shows s s := .of_same rfl rfl rfl

end

section
variable (s : State)

theorem State.raiseAt_shows (stamp : Nat) (die : Fin 8) (source code : Nat) (payload more : List Byte) :
    Shows s (s.raiseAt stamp die source code payload more) :=
  ⟨(State.raiseAt_adds ..).mono fun _ _ => trivial, prefix_of_eq (State.raiseAt_effect.same .posted (by decide)).symm⟩

theorem State.ev_shows (p : PageId) (code : Nat) (payload : List Byte) : Shows s (s.ev p code payload) := State.raiseAt_shows ..

theorem State.statVeh_shows (k n : Nat) : Shows s (s.statVeh k n) :=
  ⟨(State.statVeh_tells k s n).toAdds.mono fun _ _ => trivial, prefix_of_eq (State.statVeh_effect.same .posted (by decide)).symm⟩

theorem State.vector_posted (v : Nat) : s.posted <+: (s.vector v).posted := by
  unfold State.vector
  split
  · exact List.prefix_rfl
  · split
    · split
      · exact List.prefix_rfl
      · exact List.prefix_append _ _
    · split
      · exact List.prefix_append _ _
      · exact List.prefix_rfl

theorem State.irq_shows (p : PageId) (mask : Word) : Shows s (s.irq p mask) := by
  refine ⟨.of_effect State.irq_effect (by decide) (by decide), ?_⟩
  unfold State.irq
  extract_lets old t
  split
  · exact List.prefix_rfl
  · exact State.vector_posted t _

theorem State.sideFlag_shows (i : Fin 2) (k : Nat) : Shows s (s.sideFlag i k) := by
  have hflag (p : PageId) (old mask : Word) : Shows s (s.flagIrq p old mask).2 := ite_intro (.refl s) (State.irq_shows ..)
  unfold State.sideFlag
  extract_lets r
  have hr : Shows s r.2 := hflag _ _ _
  exact hr.trans (.of_same rfl rfl rfl)

theorem State.setRelease_shows (d : Fin 2) (grd sbx : Bool) : Shows s (s.setRelease d grd sbx) := by
  unfold State.setRelease
  extract_lets x was now s1
  have h1 : Shows s s1 := .of_same rfl rfl rfl
  refine ite_intro (.refl s) (ite_intro h1 ((State.ev_shows ..).after (ite_intro ?_ ?_)))
  · exact h1.trans ((State.sideFlag_shows ..).trans (State.statVeh_shows ..))
  · exact h1.trans (State.sideFlag_shows ..)

theorem State.permitEvents_shows (stamp : Nat) (die : Fin 8) : Shows s (s.permitEvents stamp die) := by
  unfold State.permitEvents
  extract_lets old new d src s1 s2 s3
  have h1 : Shows s s1 := .of_same rfl rfl rfl
  have h2 : Shows s s2 := ite_intro (h1.trans (State.raiseAt_shows ..)) h1
  have h3 : Shows s s3 := ite_intro (h2.trans ((State.irq_shows ..).trans (State.statVeh_shows ..))) h2
  exact ite_intro (h3.trans ((State.raiseAt_shows ..).trans ((State.irq_shows ..).trans (State.statVeh_shows ..)))) h3

theorem State.frameReport_shows : Shows s s.frameReport :=
  ((State.setRelease_shows ..).trans (State.setRelease_shows ..)).trans (State.permitEvents_shows ..)

/-- Of what Junction holds of the frame a report changes the permits last reported alone. -/
theorem State.permitEvents_safe (stamp : Nat) (die : Fin 8) :
    ∃ p, (s.permitEvents stamp die).safe = { s.safe with lastPermit := p } := by
  unfold State.permitEvents
  extract_lets old new d src s1 s2 s3
  refine ⟨new, ?_⟩
  have h2 : s2.safe = s1.safe := ite_intro (P := fun t : State => t.safe = s1.safe) (State.raiseAt_effect.same .safe (by decide)) rfl
  have h3 : s3.safe = s1.safe := ite_intro (P := fun t : State => t.safe = s1.safe)
    ((State.statVeh_effect.same .safe (by decide)).trans ((State.irq_safe ..).trans h2)) h2
  refine (ite_intro (P := fun t : State => t.safe = s1.safe) ?_ h3).trans rfl
  exact (State.statVeh_effect.same .safe (by decide)).trans ((State.irq_safe ..).trans
    ((State.raiseAt_effect.same .safe (by decide)).trans h3))

theorem State.frameReport_safe : ∃ p, s.frameReport.safe = { s.safe with lastPermit := p } := by
  obtain ⟨p, hp⟩ := s.releases.permitEvents_safe (frameStamp s.tb) 2
  exact ⟨p, hp.trans (by rw [State.releases_effect.same .safe (by decide)])⟩

end

/-! ## The loss of a die (R18) -/

/-- The parts that what follows the loss of a die may change: not the dies held absent, those present, and those lost. -/
def Part.afterLoss : List Part := Part.all.filter (fun p => !([.rst, .present, .lost] : List Part).contains p)

/-- What follows the loss of a die does not bring it back. -/
theorem State.dieLost_absent {s : State} {d : Fin 8} (h : s.dieAbsent d = false) :
    (s.dieLost d).dieAbsent d = true ∧ bit (s.dieLost d).present d.val = false ∧ bit (s.dieLost d).lost d.val = true := by
  have hd : d.val < 32 := by omega
  unfold State.dieLost
  rw [if_neg (by rw [h]; exact Bool.false_ne_true)]
  extract_lets src1 src2 src3 s1 s2 s3 s4 src4
  have h2 : Effect Part.afterLoss s1 s2 := State.raise_effect.mono (by decide)
  have h3 : Effect Part.afterLoss s1 s3 := .forAll (fun _ _ => State.halt_effect.mono (by decide)) h2
  have h4 : Effect Part.afterLoss s1 s4 := .forAll (fun _ _ => State.masterLost_effect.mono (by decide)) h3
  have hsafe : Effect Part.afterLoss s4 { s4 with safe := { src4 with frames := false } } :=
    .put (.refl s4) (fun p hp => by cases p <;> first | exact absurd (by decide) hp | rfl) rfl ⟨rfl, rfl, rfl⟩ ⟨rfl, rfl⟩ rfl rfl
  have h5 := State.consequence_effect (d := d).step (by decide)
    (ite_intro (c := d = 7) (State.granaryLost_effect.step (by decide) h4) (ite_intro (c := d = 2) (h4.trans hsafe) h4))
  have hrst := h5.same .rst (by decide)
  have hpresent := h5.same .present (by decide)
  have hlost := h5.same .lost (by decide)
  refine ⟨?_, ?_, ?_⟩
  · unfold State.dieAbsent
    rw [hrst]
    show bit (setBit s.rst.absent d.val) d.val = true
    rw [bit_setBit hd]; simp
  · rw [hpresent]
    show bit (clrBit s.present d.val) d.val = false
    rw [bit_clrBit hd]; simp
  · rw [hlost]
    show bit (setBit s.lost d.val) d.val = true
    rw [bit_setBit hd]; simp

/-! ## STAMP_PACKET and SYNC_PACKET -/

section
variable {s : State} {d : Fin 8}

theorem execStampPacket_sends (h0 : d ≠ 0) (hc : s.coupled d = true) (ha : s.dieAbsent d = false) (hm : s.mute d = false)
    (hr : s.links[d].inn.room = true) : exec (.stampPacket d) s
      = .next ((s.sendPacket d false 11 (some (stampOf (s.dieTb d)))).modLink d (fun l => { l with count := max l.count (s.dieTb d) })) := by
  show execStampPacket d s = _
  rw [execStampPacket, if_neg h0, if_pos (by simp [hc, ha, hm]), Lane.shut_eq, hr]; rfl

theorem execSyncPacket_sends (hd : d = 1 ∨ d = 5 ∨ d = 6 ∨ d = 7) (hc : s.coupled d = true) (ha : s.dieAbsent d = false)
    (hr : s.links[d].out.room = true) : exec (.syncPacket d) s = .next ((s.sendPacket d true 1 none).discipline d) := by
  have hd : (d = 1 || d = 5 || d = 6 || d = 7) = true := by simpa [or_assoc] using hd
  show execSyncPacket d s = _
  rw [execSyncPacket, if_pos (by rw [hd, hc, ha]; rfl), Lane.shut_eq, hr]; rfl

theorem Lane.room_of_full {l : Lane} (h : 64 ≤ l.outstanding) : l.room = false := by
  rw [← Bool.not_eq_true, Lane.room_iff]; omega

theorem execStampPacket_full (h0 : d ≠ 0) (h : 64 ≤ s.links[d].inn.outstanding) : exec (.stampPacket d) s = .next s := by
  show execStampPacket d s = _
  rw [execStampPacket, if_neg h0, Lane.shut_eq, Lane.room_of_full h]
  exact congrArg _ (ite_self s)

theorem execSyncPacket_full (h : 64 ≤ s.links[d].out.outstanding) : exec (.syncPacket d) s = .next s := by
  show execSyncPacket d s = _
  rw [execSyncPacket, Lane.shut_eq, Lane.room_of_full h]
  exact congrArg _ (ite_self s)

theorem execStampPacket_own : exec (.stampPacket 0) s
    = .next (forAll ((List.finRange 8).filter (fun k => s.coupled k && !s.dieAbsent k)) State.stampTo s) := rfl

end

/-- Junction's own stamp goes out once on every Coupling link of a present die that has room, and on no other (R16). -/
theorem stampPacket_own (s : State) : ∃ t, exec (.stampPacket 0) s = .next t ∧ SameExcept [.links, .posted] s t
    ∧ t.posted = s.posted ++ ((List.finRange 8).filter (fun k => s.coupled k && !s.dieAbsent k
          && decide (s.links[k].out.outstanding < 64) && decide (s.links[k].out.wait = 0))).map
        (fun k => .packet k.val 10 s.links[k].out.next (some (s.tb % 2 ^ 48)))
    ∧ (∀ k : Fin 8, s.coupled k = false → t.links[k] = s.links[k]) := by
  refine ⟨_, execStampPacket_own, (State.stampAll_effect _).same, ?_, fun k hk => State.stampAll_other ?_⟩
  · rw [State.stampAll_posted ((List.nodup_finRange 8).filter _), List.filter_filter]
    have hfilter (k : Fin 8) : (s.links[k].out.room && (s.coupled k && !s.dieAbsent k))
        = (s.coupled k && !s.dieAbsent k && decide (s.links[k].out.outstanding < 64) && decide (s.links[k].out.wait = 0)) := by
      rw [Lane.room, Bool.and_comm, ← Bool.and_assoc]
    rw [List.filter_congr fun k _ => hfilter k]
    rfl
  · simp [hk]

/-! ## STATUS_FRAME and STATUS_FRAME_MISSING -/

section
variable {s : State} {cnt : Nat}

theorem statusFrame_bad (ha : s.dieAbsent 2 = false) : exec (.statusFrame false cnt) s = .next s := by
  show execStatusFrame false cnt s = _
  rw [execStatusFrame, ha]
  exact ite_self _

theorem statusFrame_absent (h1 : s.domOn 1 = true) (h4 : s.domOn 4 = true) (ha : s.dieAbsent 2 = true) :
    ∃ t, exec (.statusFrame true cnt) s = .next t
      ∧ t.links[(2 : Fin 8)].lateDrop = min (s.links[(2 : Fin 8)].lateDrop + 1) 0x3FF ∧ SameExcept [.links] s t := by
  refine ⟨s.modLink 2 (fun l => { l with lateDrop := inc l.lateDrop 0x3FF }), ?_, ?_, State.modLink_effect.same⟩
  · show execStatusFrame true cnt s = _
    rw [execStatusFrame, h1, h4, ha]; rfl
  · rw [State.modLink_self]; rfl

/-- What Junction holds once a good frame has come, before it reports the changes. -/
def State.framed (cnt : Nat) (s : State) : State :=
  { s with
    safe := { s.safe with frame := s.sbx.frame, frameCnt := cnt % 65536, frames := true, seen := true }
    links := upd s.links 2 (fun l => { l with inn := {}, mark := laterMark l.mark (frameStamp s.tb) }) }

/-- The frame is acknowledged, and its changes are reported. -/
def State.frameTaken (cnt : Nat) (s : State) : State := ((s.framed cnt).sbxMirror.post (.packet 2 12 (cnt % 65536) none)).frameReport

theorem execStatusFrame_good (h1 : s.domOn 1 = true) (h4 : s.domOn 4 = true) (ha : s.dieAbsent 2 = false) :
    exec (.statusFrame true cnt) s = .next (if s.safe.frame.getLsbD 48 && !s.sbx.frame.getLsbD 48 then
      (s.frameTaken cnt).irq .safe 0x1000 else s.frameTaken cnt) := by
  show execStatusFrame true cnt s = _
  rw [execStatusFrame, h1, h4, ha]; rfl

theorem State.frameTaken_safe : ∃ p, (s.frameTaken cnt).safe = { (s.framed cnt).safe with lastPermit := p } := by
  obtain ⟨p, hp⟩ := State.frameReport_safe ((s.framed cnt).sbxMirror.post (.packet 2 12 (cnt % 65536) none))
  exact ⟨p, hp.trans (by rw [State.post_safe, State.sbxMirror_effect.same .safe (by decide)])⟩

theorem State.frameTaken_tb : (s.frameTaken cnt).tb = s.tb := by
  rw [State.frameTaken, State.frameReport_effect.same .tb (by decide), State.post_tb, State.sbxMirror_effect.same .tb (by decide)]
  rfl

theorem State.frameTaken_run : (s.frameTaken cnt).links[(2 : Fin 8)].inn.run = 0 := by
  rw [State.frameTaken, (State.frameReport_shows _).inn, State.post_links, State.sbxMirror_effect.same .links (by decide)]
  exact congrArg (fun l : Link => l.inn.run) (upd_self ..)

theorem State.frameTaken_posted : Posted.packet 2 12 (cnt % 65536) none ∈ (s.frameTaken cnt).posted := by
  have hposted := (State.frameReport_shows ((s.framed cnt).sbxMirror.post (.packet 2 12 (cnt % 65536) none))).posted
  exact hposted.subset (List.mem_append_right _ (List.mem_singleton_self _))

/-- The interrupt of a loop that opens, where one is due. -/
theorem State.irqIf_shows (x : State) (c : Bool) (p : PageId) (mask : Word) :
    Shows x (if c then x.irq p mask else x) ∧ SameExcept [.pages, .hif, .posted] x (if c then x.irq p mask else x) :=
  ⟨ite_intro (State.irq_shows ..) (.refl x), ite_intro State.irq_effect.same (SameExcept.refl _ x)⟩

theorem statusFrame_good (h1 : s.domOn 1 = true) (h4 : s.domOn 4 = true) (ha : s.dieAbsent 2 = false) :
    ∃ t, exec (.statusFrame true cnt) s = .next t
      ∧ t.safe.frame = s.sbx.frame ∧ t.safe.frameCnt = cnt % 65536 ∧ t.safe.frames = true ∧ t.links[(2 : Fin 8)].inn.run = 0
      ∧ Posted.packet 2 12 (cnt % 65536) none ∈ t.posted ∧ t.tb = s.tb := by
  obtain ⟨hshows, hsame⟩ :=
    (s.frameTaken cnt).irqIf_shows (s.safe.frame.getLsbD 48 && !s.sbx.frame.getLsbD 48) .safe 0x1000
  obtain ⟨p, hp⟩ := State.frameTaken_safe (s := s) (cnt := cnt)
  have hsafe := (hsame .safe (by decide)).trans hp
  exact ⟨_, execStatusFrame_good h1 h4 ha, by rw [hsafe]; rfl, by rw [hsafe]; rfl, by rw [hsafe]; rfl,
    by rw [hshows.inn]; exact State.frameTaken_run, hshows.posted.subset State.frameTaken_posted,
    (hsame .tb (by decide)).trans State.frameTaken_tb⟩

/-- A slot without a good frame counts in the run of the status link. -/
def State.slotMissed (s : State) : State :=
  s.modLink 2 (fun l => { l with inn := { run := min (s.links[(2 : Fin 8)].inn.run + 1) 8 }
                                 worstRun := max l.worstRun (min (s.links[(2 : Fin 8)].inn.run + 1) 8) })

theorem execStatusFrameMissing_up (h1 : s.domOn 1 = true) (hu : s.links[(2 : Fin 8)].st = .up) : exec .statusFrameMissing s
    = .next (if 8 ≤ s.links[(2 : Fin 8)].inn.run + 1 then s.slotMissed.dieLost 2 else s.slotMissed) := by
  show execStatusFrameMissing s = _
  rw [execStatusFrameMissing, if_neg (by simp [h1]; exact hu)]
  rfl

theorem statusFrameMissing_counts (h1 : s.domOn 1 = true) (hu : s.links[(2 : Fin 8)].st = .up) (h7 : s.links[(2 : Fin 8)].inn.run < 7) :
    ∃ t, exec .statusFrameMissing s = .next t
      ∧ t.links[(2 : Fin 8)].inn.run = s.links[(2 : Fin 8)].inn.run + 1 ∧ SameExcept [.links] s t := by
  refine ⟨s.slotMissed, ?_, ?_, State.modLink_effect.same⟩
  · rw [execStatusFrameMissing_up h1 hu, if_neg (by omega)]
  · rw [State.slotMissed, State.modLink_self]
    exact Nat.min_eq_left (by omega)

theorem statusFrameMissing_loses (h1 : s.domOn 1 = true) (hu : s.links[(2 : Fin 8)].st = .up) (h7 : 7 ≤ s.links[(2 : Fin 8)].inn.run)
    (ha : s.dieAbsent 2 = false) : ∃ t, exec .statusFrameMissing s = .next t
      ∧ t.dieAbsent 2 = true ∧ bit t.present 2 = false ∧ bit t.lost 2 = true := by
  refine ⟨s.slotMissed.dieLost 2, ?_, State.dieLost_absent (s := s.slotMissed) (d := 2) ha⟩
  rw [execStatusFrameMissing_up h1 hu, if_pos (by omega)]

end

/-- Settles O8: every packet is the next of its lane; a frame's report leaves the receiver and what was posted; a die lost stays lost. -/
theorem packetsOfTheDies : Obligations.PacketsOfTheDies := by
  refine ⟨fun s d => ⟨fun h0 hc ha hm ho hw => ?_, fun hd hc ha ho hw => ?_, execStampPacket_full, execSyncPacket_full,
    stampPacket_own s⟩, fun s cnt => ⟨statusFrame_bad, statusFrame_good, statusFrame_absent, fun h1 hu =>
      ⟨statusFrameMissing_counts h1 hu, statusFrameMissing_loses h1 hu⟩⟩⟩
  · have hr : (s.links[d].lane false).room = true := Lane.room_iff.mpr ⟨ho, hw⟩
    exact ⟨_, execStampPacket_sends h0 hc ha hm hr, State.sent hr fun _ => rfl⟩
  · have hr : (s.links[d].lane true).room = true := Lane.room_iff.mpr ⟨ho, hw⟩
    exact ⟨_, execSyncPacket_sends hd hc ha hr, State.sent hr fun _ => rfl⟩

end Sys2Proof.Machine
end

section
/-! PROOFS. The register file: words put and read, which page an operation changes, and operations that only report (R132 to R139). -/

namespace Sys2Proof.Machine

/-! ## Words -/

theorem Words.get?_put (l : Words) (o : Nat) (w : Word) (k : Nat) : (l.put o w).get? k = if o = k then some w else l.get? k := by
  induction l with
  | nil => rfl
  | cons e l ih =>
    obtain ⟨j, v⟩ := e
    rw [Words.put]
    split
    · rfl
    · split
      · next h => subst h; by_cases hk : o = k <;> simp [Words.get?, hk]
      · next h =>
        rw [Words.get?, Words.get?, ih]
        by_cases hj : j = k
        · rw [if_pos hj, if_pos hj, if_neg fun ho => h (ho.trans hj.symm)]
        · rw [if_neg hj, if_neg hj]

theorem Words.over_cons (e : Nat × Word) (l com : Words) : Words.over (e :: l) com = Words.over l (com.put e.1 e.2) := rfl

/-- A word that is not among the new ones stays. -/
theorem Words.get?_over_other {new : Words} {o : Nat} (h : ∀ w, (o, w) ∉ new) (com : Words) : (new.over com).get? o = com.get? o := by
  induction new generalizing com with
  | nil => rfl
  | cons e l ih =>
    have he : e.1 ≠ o := fun k => h e.2 (by rw [← k]; exact List.mem_cons_self)
    rw [Words.over_cons, ih fun w hw => h w (List.mem_cons_of_mem _ hw), Words.get?_put, if_neg he]

/-- Of new words at different offsets each one takes its place. -/
theorem Words.get?_over_mem {new : Words} {o : Nat} {w : Word} (hs : new.Pairwise fun x y => x.1 < y.1) (h : (o, w) ∈ new) (com : Words) :
    (new.over com).get? o = some w := by
  induction new generalizing com with
  | nil => exact absurd h List.not_mem_nil
  | cons e l ih =>
    obtain ⟨he, hl⟩ := List.pairwise_cons.mp hs
    rw [Words.over_cons]
    rcases List.mem_cons.mp h with rfl | hm
    · rw [Words.get?_over_other fun v hv => Nat.lt_irrefl _ (he (o, v) hv), Words.get?_put, if_pos rfl]
    · exact ih hl hm _

/-! ## Pages by number -/

theorem mem_allPages (p : PageId) : p ∈ allPages := by cases p <;> simp [allPages]

theorem allPages_pageFin : ∀ p ∈ allPages, allPages[(pageFin p).val]? = some p := by decide +kernel

theorem pageAt_pageNo_all : ∀ p ∈ allPages, pageNo p < 256 ∧ pageAt (pageNo p) = some p := by decide +kernel

theorem pageFin_injective {p q : PageId} (h : pageFin p = pageFin q) : p = q := by
  have hp := allPages_pageFin p (mem_allPages p)
  rw [h, allPages_pageFin q (mem_allPages q)] at hp
  exact (Option.some.inj hp).symm

theorem pageNo_lt (p : PageId) : pageNo p < 256 := (pageAt_pageNo_all p (mem_allPages p)).1

theorem pageAt_pageNo (p : PageId) : pageAt (pageNo p) = some p := (pageAt_pageNo_all p (mem_allPages p)).2

section
variable {s t u : State} {p q : PageId}

/-- An operation on a page leaves the others. -/
theorem State.modPg_pg_other (f : Page → Page) (h : q ≠ p) : (s.modPg p f).pg q = s.pg q :=
  upd_other _ _ fun e => h (pageFin_injective e)

/-- A part of a page that the change of one page keeps is kept of every page. -/
theorem State.modPg_pg_keeps {β : Type} (g : Page → β) {f : Page → Page} (h : g (f (s.pg p)) = g (s.pg p)) (q : PageId) :
    g ((s.modPg p f).pg q) = g (s.pg q) := by
  by_cases hq : q = p
  · rw [hq, State.modPg_pg, h]
  · rw [State.modPg_pg_other f hq]

theorem State.setCom_pg_other (o : Nat) (w : Word) (h : q ≠ p) : (s.setCom p o w).pg q = s.pg q := State.modPg_pg_other _ h

theorem State.com_setCom_self (o : Nat) (w : Word) : (s.setCom p o w).com p o = w := by
  rw [State.com, State.setCom, State.modPg_pg, Words.get?_put, if_pos rfl]; rfl

theorem State.com_setCom_other {o k : Nat} (w : Word) (h : q ≠ p ∨ k ≠ o) : (s.setCom p o w).com q k = s.com q k := by
  by_cases hq : q = p
  · have hk : o ≠ k := fun e => h.elim (· hq) (· e.symm)
    rw [hq, State.com, State.com, State.setCom, State.modPg_pg, Words.get?_put, if_neg hk]
  · rw [State.com, State.com, State.setCom_pg_other o w hq]

/-! ## Operations that only report -/

/-- A page but for its interrupts and its error report. -/
def Page.body (g : Page) : Page := { g with irq := 0, errCode := 0, errDetail := 0, errCount := 0, errOff := 0 }

theorem State.irq_body (mask : Word) (q : PageId) : ((s.irq p mask).pg q).body = (s.pg q).body := by
  have h : (s.irq p mask).pg q = (s.modPg p fun g => { g with irq := g.irq ||| mask }).pg q := by
    rw [State.pg, State.irq_pages]; rfl
  rw [h]
  exact State.modPg_pg_keeps Page.body rfl q

theorem State.err_body (code detail off : Nat) (q : PageId) : ((s.err p code detail off).pg q).body = (s.pg q).body := by
  rw [State.err, State.irq_body]
  exact State.modPg_pg_keeps Page.body rfl q

theorem State.irq_pg_other (mask : Word) (h : q ≠ p) : (s.irq p mask).pg q = s.pg q := by
  rw [State.pg, State.irq_pages]
  exact upd_other _ _ fun e => h (pageFin_injective e)

theorem Page.com_of_body {g h : Page} (e : g.body = h.body) : g.com = h.com := by
  show g.body.com = h.body.com; rw [e]

theorem Page.stg_of_body {g h : Page} (e : g.body = h.body) : g.stg = h.stg := by
  show g.body.stg = h.body.stg; rw [e]

/-- The operation sets interrupts, reports errors and raises events at most: of the pages and the held events nothing else changes. -/
structure Reports (s t : State) : Prop where
  body : ∀ q, (t.pg q).body = (s.pg q).body
  held : s.seq.held <+: t.seq.held

theorem Reports.refl (s : State) : Reports s s := ⟨fun _ => rfl, List.prefix_rfl⟩

theorem Reports.trans (h : Reports s t) (k : Reports t u) : Reports s u :=
  ⟨fun q => (k.body q).trans (h.body q), h.held.trans k.held⟩

/-- One operation after others. -/
theorem Reports.after (k : Reports t u) (h : Reports s t) : Reports s u := h.trans k

theorem Reports.of_same (hp : t.pages = s.pages) (hq : s.seq.held <+: t.seq.held) : Reports s t :=
  ⟨fun q => by rw [State.pg, State.pg, hp], hq⟩

theorem Reports.of_sameSeq (hb : ∀ q, (t.pg q).body = (s.pg q).body) (hq : t.seq = s.seq) : Reports s t :=
  ⟨hb, prefix_of_eq (congrArg Sequencer.held hq.symm)⟩

theorem Reports.of_effect {l : List Part} (h : Effect l s t) (hp : Part.pages ∉ l) (hq : Part.seq ∉ l) : Reports s t :=
  .of_same (h.same .pages hp) (prefix_of_eq (congrArg Sequencer.held (h.same .seq hq).symm))

/-- Other fields are set besides. -/
theorem Reports.put (h : Reports s t) (hp : u.pages = t.pages) (hq : u.seq = t.seq) : Reports s u :=
  h.trans (.of_same hp (prefix_of_eq (congrArg Sequencer.held hq.symm)))

theorem Reports.ite {c : Prop} [Decidable c] (h : Reports s t) (k : Reports s u) : Reports s (if c then t else u) := ite_intro h k

theorem State.irq_reports (p : PageId) (mask : Word) (s : State) : Reports s (s.irq p mask) :=
  .of_sameSeq (State.irq_body mask) (State.irq_effect.same .seq (by decide))

theorem State.ev_reports (p : PageId) (code : Nat) (payload : List Byte) (s : State) : Reports s (s.ev p code payload) :=
  .of_same (State.ev_pages ..) (State.raise_prefix ..)

theorem State.flagIrq_reports (p : PageId) (old mask : Word) (s : State) : Reports s (s.flagIrq p old mask).2 :=
  .ite (.refl s) (State.irq_reports ..)

end

end Sys2Proof.Machine
end

section
/-! PROOFS. Register writes (O20): what a write does to a word of RW fields and to one of RO fields, and the errors of the bus. -/

namespace Sys2Proof.Machine

/-! ## A word of a page (R133, R134, R510) -/

theorem rwBits_zero {r : Reg} (p : PageId) (h : r.rw = 0) : rwBits p r = 0 := by
  cases p <;> simp [rwBits, h]

section
variable {s : State} {p : PageId} {o : Nat} {w : Word} {r : Reg}

theorem regAt_aligned (hr : regAt p o = some r) : o % 4 = 0 := by
  have h := List.find?_some hr
  simp only [Bool.and_eq_true, decide_eq_true_eq] at h
  exact h.2

theorem State.wordWrite_rw (hr : regAt p o = some r) (hs : r.rws = []) (h1 : r.w1c = 0) (hm : rwBits p r ≠ 0)
    (hb : s.blockWrite p o w = none) :
    s.wordWrite p o w = s.setCom p o ((s.com p o &&& ~~~(rwBits p r)) ||| (clampWord p o w &&& rwBits p r)) := by
  have hrw : r.rw ≠ 0 := fun h => hm (rwBits_zero p h)
  have hw : s.rwWrite p r o w = s.setCom p o ((s.com p o &&& ~~~(rwBits p r)) ||| (clampWord p o w &&& rwBits p r)) := if_neg hm
  simp [State.wordWrite, hr, hs, h1, hb, hrw, hw]

theorem State.wordWrite_readOnly (hr : regAt p o = some r) (h0 : r.rw = 0) (h2 : r.wo = 0) (h1 : r.w1c = 0) (hs : r.rws = []) :
    s.wordWrite p o w = s.err p 0x03 0 o := by
  simp [State.wordWrite, hr, hs, h0, h1, h2]

end

/-! ## Writes by address -/

section
variable {s : State} {p : PageId} {o data : Nat}

theorem pageAddr_page (ho : o < 4096) : (4096 * pageNo p + o) / 4096 % 256 = pageNo p := by
  have := pageNo_lt p
  omega

theorem pageAddr_offset (ho : o < 4096) : (4096 * pageNo p + o) % 4096 = o := by omega

/-- A write of a word that reaches its register does what the register does. -/
theorem execRegisterWrite_takes (ho : o < 4096) (h4 : o % 4 = 0) (hb : 0x040 ≤ o)
    (ht : s.takes p o (s.lockExempt p o (BitVec.ofNat 32 data))) :
    exec (.registerWrite (4096 * pageNo p + o) 4 data) s = .next (s.wordWrite p o (BitVec.ofNat 32 data)) := by
  have ha : (4096 * pageNo p + o) % 4 = 0 := by omega
  show execRegisterWrite (4096 * pageNo p + o) 4 data s = _
  rw [execRegisterWrite, State.busWrite, if_pos (by simp [ha]), State.addrWrite, pageAddr_page ho, pageAt_pageNo, pageAddr_offset ho]
  show Host.Outcome.next (s.pageWrite p o (BitVec.ofNat 32 data)) = _
  rw [State.pageWrite, State.gated_of_takes ht, State.pageEffect, if_neg (by omega)]

/-- R132: neither one word nor two, or not aligned. -/
theorem execRegisterWrite_width {a size : Nat} (hb : s.busAlive = true) (h : a % 4 ≠ 0 ∨ (size ≠ 4 ∧ size ≠ 8)) :
    exec (.registerWrite a size data) s = .next (s.err (errPage a) 0x02 0 (a % 4096)) := by
  show execRegisterWrite a size data s = _
  rw [execRegisterWrite, State.busWrite, if_neg (by simp; omega), if_neg (by simp; omega), if_pos hb]

theorem execRegisterWrite_unmapped {a : Nat} (hb : s.busAlive = true) (h4 : a % 4 = 0) (hp : pageAt (a / 4096 % 256) = none) :
    exec (.registerWrite a 4 data) s = .next (s.err .dev 0x01 (a / 4096 % 256) (a % 4096)) := by
  show execRegisterWrite a 4 data s = _
  rw [execRegisterWrite, State.busWrite, if_pos (by simp [h4]), State.addrWrite, hp]
  exact congrArg _ (if_pos hb)

/-- A reported error shows its code on its page and leaves every word of every page. -/
theorem State.err_refuses (q : PageId) (code detail off : Nat) (s : State) : ((s.err q code detail off).pg q).errCode = code
    ∧ (∀ q', ((s.err q code detail off).pg q').com = (s.pg q').com ∧ ((s.err q code detail off).pg q').stg = (s.pg q').stg)
    ∧ SameExcept [.pages, .hif, .posted] s (s.err q code detail off) :=
  ⟨by rw [State.err_pg], fun q' => ⟨Page.com_of_body (State.err_body ..), Page.stg_of_body (State.err_body ..)⟩, State.err_effect.same⟩

/-- R133: a word of RW fields takes the bits written and nothing else changes. -/
theorem State.setCom_writes (p : PageId) (o : Nat) (w : Word) (s : State) : (s.setCom p o w).com p o = w
    ∧ (∀ q k, (q ≠ p ∨ k ≠ o) → (s.setCom p o w).com q k = s.com q k) ∧ (∀ q, q ≠ p → (s.setCom p o w).pg q = s.pg q)
    ∧ ((s.setCom p o w).pg p).stg = (s.pg p).stg ∧ SameExcept [.pages] s (s.setCom p o w) :=
  ⟨State.com_setCom_self o w, fun _ _ h => State.com_setCom_other w h, fun _ h => State.setCom_pg_other o w h,
    by rw [State.setCom, State.modPg_pg], State.setCom_effect.same⟩

end

/-! ## The header (R137, R145) -/

section
variable {s : State} {p : PageId}

theorem State.lockPage_locks (p : PageId) (s : State) : ((s.lockPage p).pg p).lock = ((s.pg p).lock || pageLockable p)
    ∧ ((s.lockPage p).pg p).com = (s.pg p).com ∧ ((s.lockPage p).pg p).stg = (s.pg p).stg
    ∧ (∀ q, q ≠ p → (s.lockPage p).pg q = s.pg q) ∧ SameExcept [.pages] s (s.lockPage p) := by
  unfold State.lockPage
  split
  · next hl =>
    exact ⟨by rw [State.modPg_pg, hl, Bool.or_true], by rw [State.modPg_pg], by rw [State.modPg_pg],
      fun _ hq => State.modPg_pg_other _ hq, State.modPg_effect.same⟩
  · next hl => exact ⟨by rw [Bool.eq_false_iff.mpr hl, Bool.or_false], rfl, rfl, fun _ _ => rfl, .refl _ s⟩

theorem execPgLock_takes (h : s.takes p 0x00C true) : exec (.pgLock p) s = .next (s.lockPage p) := congrArg _ (State.gated_of_takes h)

theorem execPgIset_takes (w : Word) (h : s.takes p 0x01C true) : exec (.pgIset p w) s = .next (s.irq p (w &&& 0xFFFFFF07)) :=
  congrArg _ (State.gated_of_takes h)

/-- R145: a commit is not among the writes a locked page accepts. -/
theorem execPgCommit_locked (w : Word) (ha : s.busAlive = true) (hb : s.busErr p 0x020 = none) (hw : s.waits p = false)
    (hl : (s.pg p).lock = true) : exec (.pgCommit p w) s = .next (s.err p 0x05 0 0x020) := by
  show execPgCommit p w s = _
  simp [execPgCommit, State.gated, State.unlessLocked, ha, hb, hw, hl]

theorem State.err_commitDue (code detail off : Nat) (q : PageId) : ((s.err p code detail off).pg q).commitDue = (s.pg q).commitDue := by
  show ((s.err p code detail off).pg q).body.commitDue = (s.pg q).body.commitDue
  rw [State.err_body]

end

/-- Settles O20: every write ends in the register's own operation, which changes one committed word, or in one error report. -/
theorem registerWrites : Obligations.RegisterWrites := by
  refine ⟨fun s p w => ⟨fun h => ⟨_, execPgLock_takes h, State.lockPage_locks p s⟩, fun h => ⟨_, execPgIset_takes w h, ?_⟩, fun ha hb hw hl =>
      ⟨_, execPgCommit_locked w ha hb hw hl, ?_⟩⟩, fun s p o data w ho hb _ hw => ⟨?_, ?_, ?_, ?_⟩⟩
  · exact ⟨by rw [State.irq_pg], by rw [State.irq_pg], by rw [State.irq_pg], fun q hq => State.irq_pg_other _ hq, State.irq_effect.same⟩
  · obtain ⟨hc, hk, -⟩ := State.err_refuses p 0x05 0 0x020 s
    exact ⟨hc, (hk p).1, (hk p).2, State.err_commitDue ..⟩
  · intro r hr hs h1 hm hbw _ ht
    subst hw
    refine ⟨_, execRegisterWrite_takes ho (regAt_aligned hr) hb ht, ?_⟩
    rw [State.wordWrite_rw hr hs h1 hm hbw]
    exact State.setCom_writes ..
  · intro r hr h0 h2 h1 hs _ ht
    subst hw
    refine ⟨_, execRegisterWrite_takes ho (regAt_aligned hr) hb ht, ?_⟩
    rw [State.wordWrite_readOnly hr h0 h2 h1 hs]
    exact State.err_refuses ..
  · exact fun a size ha h => ⟨_, execRegisterWrite_width ha h, State.err_refuses ..⟩
  · exact fun a ha h4 hp => ⟨_, execRegisterWrite_unmapped ha h4 hp, State.err_refuses ..⟩

end Sys2Proof.Machine
end

section
/-! PROOFS. Staging and commit (O19): the checks of a commit, what it does at its boundary, and that its effect on the block only reports
to pages and the sequencer. -/

namespace Sys2Proof.Machine

/-! ## The effect of a commit on its block -/

section
variable (s : State)

theorem State.axFlag_reports (a : Fin 12) (k : Nat) : Reports s (s.axFlag a k) := by
  have hu : Reports s (if k = 7 then s.unlearn a else s) := .ite (.of_effect State.unlearn_effect (by decide) (by decide)) (.refl s)
  have hf : Reports s ((if k = 7 then s.unlearn a else s).axFlag0 a k) :=
    (hu.trans (State.flagIrq_reports (.ax a) _ (BitVec.ofNat 32 (2 ^ k)) _)).put rfl rfl
  exact hf.trans (State.ev_reports ..)

theorem State.fbFlag_reports (c : Fin 14) (k : Nat) : Reports s (s.fbFlag c k) := (State.flagIrq_reports ..).put rfl rfl

theorem State.recFlag_reports (k : Nat) : Reports s (s.recFlag k) := (State.flagIrq_reports ..).put rfl rfl

theorem State.statAxis_reports (a : Fin 12) (k n : Nat) : Reports s (s.statAxis a k n) := by
  obtain ⟨l, hl, -⟩ := (State.statAdd_tells (k := n) (s := s) (0x4000 + a.val * 0x400 + 0x200 + 8 * k) 8).held
  exact .of_same (State.statAxis_effect.same .pages (by decide)) ⟨l, hl.symm⟩

theorem State.unhalt_reports (a : Fin 12) (c : HaltCause) : Reports s (s.unhalt a c) := by
  unfold State.unhalt
  extract_lets x rest s1 s2
  have h1 : Reports s s1 := .after (.of_effect State.restCoil_effect (by decide) (by decide)) ((Reports.refl s).put rfl rfl)
  have h2 : Reports s s2 := h1.put rfl rfl
  exact .ite (.refl s) (.ite h1 (.ite (h2.trans (.of_effect State.alignAxis_effect (by decide) (by decide)))
    (h2.trans (State.axFlag_reports s2 a 7))))

theorem State.stallStill_reports (c : Fin 14) : Reports s (s.stallStill c) := by
  unfold State.stallStill
  split
  · exact .ite (State.unhalt_reports ..) (.refl s)
  · exact .refl s

theorem State.encDeclare_reports (c : Fin 14) (k : Nat) : Reports s (s.encDeclare c k) := by
  unfold State.encDeclare
  extract_lets s1 s2 s3
  have hu : Reports s (s.unlearnFb c) := .of_effect State.unlearnFb_effect (by decide) (by decide)
  have h1 : Reports s s1 := (hu.trans (State.fbFlag_reports _ c 0)).put rfl rfl
  have h2 : Reports s s2 := h1.trans (.of_same (State.raiseAt_pages ..) (State.raise_prefix ..))
  have h3 : Reports s s3 := by
    unfold s3
    split
    · exact h2.trans (State.statAxis_reports ..)
    · exact h2
  exact .ite (.refl s) (h3.trans (.of_effect State.masterLost_effect (by decide) (by decide)))

theorem State.fbRestart_reports (c : Fin 14) : Reports s (s.fbRestart c) := by
  unfold State.fbRestart
  extract_lets u s1
  have hu : Reports s u := .ite (State.encDeclare_reports ..) (.refl s)
  have h1 : Reports s s1 := hu.put rfl rfl
  split
  · extract_lets v s2
    have h2 : Reports s s2 := .after (State.stallStill_reports _ c) (h1.put rfl rfl)
    exact h2.trans (.of_effect State.alignAxis_effect (by decide) (by decide))
  · exact h1.trans (.of_effect State.masterLost_effect (by decide) (by decide))
  · exact h1.trans (State.stallStill_reports s1 c)

theorem State.recCommit_reports : Reports s s.recCommit := by
  unfold State.recCommit
  extract_lets native s1 s2
  have h1 : Reports s s1 := (Reports.refl s).put rfl rfl
  have h2 : Reports s s2 := .after (State.recFlag_reports _ 0) (h1.put rfl rfl)
  have h3 : Reports s (s2.awaitRec (evSource .recd) 0x8003 0x0070 15 false (leBytes 8 0)) :=
    h2.trans (.of_effect State.awaitRec_effect (by decide) (by decide))
  exact .ite (h1.put rfl rfl) (.ite (.ite h2 (h3.trans (State.ev_reports ..))) h1)

theorem State.commitEffect_reports (p : PageId) (was : Word) (old : State) : Reports s (s.commitEffect p was old) := by
  cases p with
  | ax a => exact .of_effect State.accept_effect (by decide) (by decide)
  | drv a =>
    have h1 : Reports s (if bit was 2 then s.requestLevel a else s) :=
      .ite (.of_effect State.requestLevel_effect (by decide) (by decide)) (.refl s)
    exact .ite (h1.put rfl rfl) h1
  | fb a => exact .ite (State.fbRestart_reports ..) (.refl s)
  | fbx n => exact .ite (State.fbRestart_reports ..) (.refl s)
  | gear a => exact .ite (.of_same rfl List.prefix_rfl) (.refl s)
  | ptl n => exact .ite (.of_effect State.envClear_effect (by decide) (by decide)) (.refl s)
  | can n => exact .ite (.of_effect State.canModeCommit_effect (by decide) (by decide)) (.refl s)
  | evq q => exact .ite (.of_same rfl List.prefix_rfl) (.refl s)
  | recd => exact State.recCommit_reports s
  | dev | clk | pwr | rst | tb | hif | cam _ | side _ | safe | lswg | lsw _ | prg | stn _ | stat | pair | sec | dbg => exact .refl s

end

/-! ## A write of PG_COMMIT (R140, R141) -/

/-- What a commit works on: the committed words, the staged ones, and their groups. -/
def Page.staging (g : Page) : Words × Words × Word := (g.com, g.stg, g.stage)

theorem Page.staging_of_body {g h : Page} (e : g.body = h.body) : g.staging = h.staging := by
  show g.body.staging = h.body.staging; rw [e]

section
variable {s : State} {p : PageId} {w : Word}

theorem execPgCommit_takes (w : Word) (h : s.takes p 0x020 false) : exec (.pgCommit p w) s = .next (s.commitWrite p w) :=
  congrArg _ (State.gated_of_takes h)

theorem State.commitWrite_staging (p : PageId) (w : Word) (s : State) : ((s.commitWrite p w).pg p).staging = (s.pg p).staging := by
  have he (code detail : Nat) : ((s.err p code detail 0x020).pg p).staging = (s.pg p).staging := Page.staging_of_body (State.err_body ..)
  unfold State.commitWrite
  split
  · exact he ..
  split
  · exact he ..
  split
  · exact he ..
  split
  · rfl
  · rw [State.modPg_pg]; rfl

theorem State.commitWrite_badKey (h : w ≠ 0x5EED) : s.commitWrite p w = s.err p 0x04 0 0x020 := if_pos h

theorem State.commitWrite_busy (h : (s.pg p).commitDue.isSome = true) :
    s.commitWrite p commitKey = s.err p 0x20 (lowGroup (s.pg p).carries) 0x020 := by
  rw [State.commitWrite, if_neg (not_not_intro rfl), if_pos h]

theorem State.commitWrite_invalid {g : Nat} (h : (s.pg p).commitDue = none) (hg : s.badGroup p = some g) :
    s.commitWrite p commitKey = s.err p 0x21 g 0x020 := by
  rw [State.commitWrite, if_neg (not_not_intro rfl), if_neg (by simp [h]), hg]

theorem State.commitWrite_accepts (h : (s.pg p).commitDue = none) (hg : s.badGroup p = none) (hs : (s.pg p).stage ≠ 0) :
    s.commitWrite p commitKey = s.modPg p fun x => { x with commitDue := some ((s.tb / 10000 + 1) * 10000) } := by
  rw [State.commitWrite, if_neg (not_not_intro rfl), if_neg (by simp [h]), hg]
  exact if_neg hs

end

/-! ## The boundary (R140, R142) -/

section
variable {s : State} {p : PageId} {b g : Nat}

theorem State.overtaken_to (s : State) (p : PageId) (b : Nat) : (s.to b).overtaken p = s.overtaken p := by cases p <;> rfl

theorem execCommitBoundary_none (h : (s.pg p).commitDue = none) : exec (.commitBoundary p) s = .next s := by
  show execCommitBoundary p s = _
  rw [execCommitBoundary, h]

theorem execCommitBoundary_due (h : (s.pg p).commitDue = some b) : exec (.commitBoundary p) s = .next ((s.to b).commitNow p) := by
  show execCommitBoundary p s = _
  rw [execCommitBoundary, h]

theorem State.commitNow_overtaken (h : s.overtaken p = some g) :
    s.commitNow p = (s.modPg p fun x => { x with commitDue := none }).err p 0x21 g 0x020 := by
  rw [State.commitNow, h]

/-- The state in which the words of a commit have taken effect on their block, before its event. -/
def State.committed (p : PageId) (s : State) : State := (s.modPg p Page.apply).commitEffect p (s.pg p).carries s

theorem State.commitNow_eq (h : s.overtaken p = none) :
    s.commitNow p = ((s.committed p).ev p 0x0602 (leBytes 4 (s.pg p).carries.toNat)).irq p 2 := by
  rw [State.commitNow, h]; rfl

theorem State.commitNow_body (h : s.overtaken p = none) (hs : (s.pg p).sole = []) : ((s.commitNow p).pg p).body
    = ({ s.pg p with com := (s.pg p).stg.over (s.pg p).com, stg := [], stage := 0, commitDue := none } : Page).body := by
  rw [State.commitNow_eq h, State.irq_body, (State.ev_reports ..).body, State.committed, (State.commitEffect_reports ..).body,
    State.modPg_pg, Page.apply, if_pos hs]

/-- R140: at the boundary every staged word is the committed one, and no other word changes. -/
theorem State.commitNow_com (h : s.overtaken p = none) (hs : (s.pg p).sole = []) (o : Nat) :
    (s.commitNow p).com p o = (((s.pg p).stg.over (s.pg p).com).get? o).getD (regReset p o) := by
  rw [State.com, Page.com_of_body (State.commitNow_body h hs)]

theorem State.commitNow_com_staged (h : s.overtaken p = none) (hs : (s.pg p).sole = [])
    (hp : (s.pg p).stg.Pairwise fun x y => x.1 < y.1) {o : Nat} {w : Word} (hw : (o, w) ∈ (s.pg p).stg) : (s.commitNow p).com p o = w := by
  rw [State.commitNow_com h hs, Words.get?_over_mem hp hw]; rfl

theorem State.commitNow_com_other (h : s.overtaken p = none) (hs : (s.pg p).sole = []) {o : Nat} (hw : ∀ w, (o, w) ∉ (s.pg p).stg) :
    (s.commitNow p).com p o = s.com p o := by
  rw [State.commitNow_com h hs, Words.get?_over_other hw]; rfl

theorem State.committed_reports (p : PageId) (s : State) : s.seq.held <+: (s.committed p).seq.held :=
  (State.commitEffect_reports (s.modPg p Page.apply) p (s.pg p).carries s).held

theorem State.committed_dieAbsent (p : PageId) (s : State) (d : Fin 8) : (s.committed p).dieAbsent d = s.dieAbsent d := by
  have h : (s.committed p).rst = s.rst := State.commitEffect_effect.same .rst (by decide)
  rw [State.dieAbsent, h]; rfl

/-- R140: COMMIT is raised with the groups committed. -/
theorem State.commitNow_raises (h : s.overtaken p = none) (hs : (s.pg p).sole = []) (hd : pageDie p = 0 ∨ s.dieAbsent (pageDie p) = false) :
    Raises s (s.commitNow p) p 0x0602 (leBytes 4 (s.pg p).stage.toNat) := by
  have hc : (s.pg p).carries = (s.pg p).stage := if_pos hs
  have hr : RaisesFrom (s.committed p) ((s.committed p).ev p 0x0602 (leBytes 4 (s.pg p).stage.toNat)) (evSource p) 0x0602 _ :=
    State.raise_raises (by rwa [State.committed_dieAbsent]) ..
  rw [State.commitNow_eq h, hc]
  exact (hr.behind (State.committed_reports p s)).then (State.irq_reports ..).held

theorem State.commitNow_irq (h : s.overtaken p = none) : bit ((s.commitNow p).pg p).irq 1 = true := by
  rw [State.commitNow_eq h, State.irq_pg]
  simp [bit]

/-- The words of a pending commit at its boundary `b`. -/
theorem commitBoundary_applies (hb : (s.pg p).commitDue = some b) (ho : s.overtaken p = none) (hs : (s.pg p).sole = [])
    (hp : (s.pg p).stg.Pairwise fun x y => x.1 < y.1) : ∃ t, exec (.commitBoundary p) s = .next t
      ∧ t.tb = max s.tb b ∧ (t.pg p).stg = [] ∧ (t.pg p).stage = 0 ∧ (t.pg p).commitDue = none ∧ bit (t.pg p).irq 1 = true
      ∧ (∀ o w, (o, w) ∈ (s.pg p).stg → t.com p o = w)
      ∧ (∀ o, (∀ w, (o, w) ∉ (s.pg p).stg) → t.com p o = s.com p o)
      ∧ (pageDie p = 0 ∨ s.dieAbsent (pageDie p) = false → Raises s t p 0x0602 (leBytes 4 (s.pg p).stage.toNat)) := by
  have ho' : (s.to b).overtaken p = none := (State.overtaken_to s p b).trans ho
  have hbody := State.commitNow_body ho' hs
  refine ⟨_, execCommitBoundary_due hb, State.commitNow_effect.same .tb (by decide), congrArg Page.stg hbody, congrArg Page.stage hbody,
    congrArg Page.commitDue hbody, State.commitNow_irq ho', fun o w hw => State.commitNow_com_staged ho' hs hp hw,
    fun o hw => State.commitNow_com_other ho' hs hw, State.commitNow_raises ho' hs⟩

/-- R256, R357: a commit that has been overtaken is refused, its values staying staged. -/
theorem commitBoundary_refuses (hb : (s.pg p).commitDue = some b) (ho : s.overtaken p = some g) : ∃ t, exec (.commitBoundary p) s = .next t
      ∧ t.tb = max s.tb b ∧ (t.pg p).errCode = 0x21 ∧ (t.pg p).errDetail = g ∧ (t.pg p).commitDue = none ∧ (t.pg p).stg = (s.pg p).stg
      ∧ (t.pg p).com = (s.pg p).com ∧ SameExcept [.tb, .pages, .hif, .posted] s t := by
  refine ⟨_, execCommitBoundary_due hb, ?_⟩
  rw [State.commitNow_overtaken ((State.overtaken_to s p b).trans ho)]
  have he : Effect [.tb, .pages, .hif, .posted] s (((s.to b).modPg p fun x => { x with commitDue := none }).err p 0x21 g 0x020) :=
    State.err_effect.step (by decide) (State.modPg_effect.step (by decide) (State.to_effect.mono (by decide)))
  exact ⟨State.err_tb .., by rw [State.err_pg], by rw [State.err_pg], by rw [State.err_pg, State.modPg_pg],
    by rw [State.err_pg, State.modPg_pg]; rfl, by rw [State.err_pg, State.modPg_pg]; rfl, he.same⟩

end

/-! ## STAGE_CLR (R142, R143) -/

section
variable {s : State} {p : PageId} {b : Nat}

theorem execPgStageClr_takes (h : s.takes p 0x00C false) : exec (.pgStageClr p) s = .next (s.stageClr p) :=
  congrArg _ (State.gated_of_takes h)

theorem State.commitDueNow_waits (h : ∀ b, (s.pg p).commitDue = some b → s.tb < b) : s.commitDueNow p = s := by
  unfold State.commitDueNow
  split
  · rfl
  · next t ht => exact if_neg (Nat.not_le.mpr (h t ht))

theorem State.commitDueNow_due (h : (s.pg p).commitDue = some b) (hb : b ≤ s.tb) : s.commitDueNow p = s.commitNow p := by
  rw [State.commitDueNow, h]
  exact if_pos hb

theorem State.stageClr_com (p : PageId) (s : State) (o : Nat) : (s.stageClr p).com p o = (s.commitDueNow p).com p o := by
  rw [State.com, State.stageClr, State.modPg_pg]; rfl

theorem pgStageClr_clears (h : s.takes p 0x00C false) : ∃ t, exec (.pgStageClr p) s = .next t
    ∧ (t.pg p).stg = [] ∧ (t.pg p).stage = 0 ∧ (t.pg p).commitDue = none
    ∧ ((∀ b, (s.pg p).commitDue = some b → s.tb < b) →
        (t.pg p).com = (s.pg p).com ∧ (∀ q, q ≠ p → t.pg q = s.pg q) ∧ SameExcept [.pages] s t)
    ∧ (∀ b, (s.pg p).commitDue = some b → b ≤ s.tb → s.overtaken p = none → (s.pg p).sole = [] → (s.pg p).stg.Pairwise (fun x y => x.1 < y.1) →
        ∀ o w, (o, w) ∈ (s.pg p).stg → t.com p o = w) := by
  refine ⟨_, execPgStageClr_takes h, ?_, ?_, ?_, fun hw => ?_, fun b hb hle ho hs hp o w hw => ?_⟩
  · rw [State.stageClr, State.modPg_pg]
  · rw [State.stageClr, State.modPg_pg]
  · rw [State.stageClr, State.modPg_pg]
  · rw [State.stageClr, State.commitDueNow_waits hw]
    exact ⟨by rw [State.modPg_pg], fun q hq => State.modPg_pg_other _ hq, State.modPg_effect.same⟩
  · rw [State.stageClr_com, State.commitDueNow_due hb hle, State.commitNow_com_staged ho hs hp hw]

end

/-- Settles O19: a commit only marks its page until the boundary; there the staged words replace the committed ones, and its effect on the
block sets no word of a page. -/
theorem groupCommits : Obligations.GroupCommits := by
  refine ⟨fun s p w h => ?_, fun s p => ⟨fun b hb ho hs hp => commitBoundary_applies hb ho hs hp, fun b g hb ho => commitBoundary_refuses hb ho,
    execCommitBoundary_none, pgStageClr_clears⟩⟩
  have hst := State.commitWrite_staging p w s
  refine ⟨_, execPgCommit_takes w h, congrArg (·.1) hst, congrArg (·.2.1) hst, congrArg (·.2.2) hst, State.commitWrite_effect.same,
    fun hw => ?_, fun (hw : w = commitKey) hd => ?_, fun g (hw : w = commitKey) hd hg => ?_, fun (hw : w = commitKey) hd hg hs => ?_⟩
  · rw [State.commitWrite_badKey hw]
    exact ⟨by rw [State.err_pg], State.err_commitDue ..⟩
  · subst hw
    rw [State.commitWrite_busy hd]
    exact ⟨by rw [State.err_pg], State.err_commitDue ..⟩
  · subst hw
    rw [State.commitWrite_invalid hd hg]
    exact ⟨by rw [State.err_pg], by rw [State.err_pg], (State.err_commitDue ..).trans hd⟩
  · subst hw
    rw [State.commitWrite_accepts hd hg hs]
    exact ⟨⟨_, by rw [State.modPg_pg], by omega, by omega, by omega⟩, fun q hq => State.modPg_pg_other _ hq, State.modPg_effect.same⟩

end Sys2Proof.Machine
end

section
/-! PROOFS. A boundary at which an axis lands after a takeover (O30, refuted), and a read over HSPI that a reset overtakes (O41, refuted). -/

namespace Sys2Proof.Machine

/-! ## The landing of an axis (R483, R484) -/

/-- The module at a boundary two periods after a takeover: no takeover is due any more, AX00 has an encoder, whose feedback has moved on to
7 counts, and the axis has yet to land there. -/
def State.landing : State :=
  { State.reset.setCom (.fb 0) 0x058 1 with
    tb := 30000, period := 2
    ax := upd State.reset.ax 0 fun x => { x with furrow := x.front }
    fb := upd State.reset.fb 0 fun f => { f with pos := 7 }
    pairx := { State.reset.pairx with ax := upd State.reset.pairx.ax 0 fun m => { m with landing := true } } }

/-- POS_CMD of AX00 in the state that a command answers. -/
def nextPos : Host.Outcome State Fault Refusal → Option Int
  | .next t => some t.ax[(0 : Fin 12)].pos
  | _ => none

/-- The boundary aligns POS_CMD with the feedback: 7 counts are 350 microsteps. -/
theorem nextPos_landing : nextPos (exec .controlPeriodBoundary State.landing) = some 350 := by decide +kernel

/-- The setpoint in force ends where the axis stood. -/
theorem landing_endPos : State.landing.drv[(0 : Fin 12)].sp.endPos = 0 := by decide +kernel

/-- No takeover is due, and AX00 follows no engine, is not halted and has setpoints planned. -/
theorem landing_meets : (∀ a : Fin 12, State.landing.pairx.ax[a].due = false) ∧ State.landing.ax[(0 : Fin 12)].engine = none
    ∧ State.landing.ax[(0 : Fin 12)].st ≠ .halted ∧ State.landing.ax[(0 : Fin 12)].halts = []
    ∧ State.landing.ax[(0 : Fin 12)].furrow ≠ [] := by decide +kernel

/-- Refutes O30: with no takeover due any more an axis may still have to land, and the boundary then shows its feedback position in POS_CMD,
not the end of the setpoint in force. -/
theorem not_periodsAndPlannerTakes : ¬ Obligations.PeriodsAndPlannerTakes := by
  rintro ⟨hboundary, -⟩
  obtain ⟨t, ht, -, -, -, hpos⟩ := hboundary State.landing
  obtain ⟨hdue, heng, hst, hhalts, hfurrow⟩ := landing_meets
  have hend : t.ax[(0 : Fin 12)].pos = 0 := (hpos hdue 0 heng hst hhalts hfurrow).trans landing_endPos
  have hland := nextPos_landing
  rw [ht, nextPos, hend] at hland
  exact absurd hland (by decide)

/-! ## A read that a reset overtakes (R96, R104, R152) -/

/-- Junction's clock runs again, and the write of the RST page that asks for a full reset still waits; HSPI has that page selected. -/
def State.resetWaits : State :=
  { State.reset.modPg .rst fun g => { g with queue := [(0x050, 0x0000F0D1)] } with
    hspi := { page := pageNo .rst }
    hif := { State.reset.hif with agree := 3 }
    pwr := { State.reset.pwr with domains := setBit 0 1 }
    clk := { State.reset.clk with run := setBit 0 1 } }

/-- How many words stand shifted out in the state that a command answers. -/
def nextReadLength : Host.Outcome State Fault Refusal → Option Nat
  | .next t => some t.hspi.rdata.length
  | _ => none

/-- The second word of the burst is the first of the page window: the waiting write takes effect before it is read, and the reset clears the
word shifted out before. -/
theorem nextReadLength_resetWaits : nextReadLength (exec (.hspiReadSingle 0x0FFC 2) State.resetWaits) = some 1 := by decide +kernel

/-- Refutes O41: a read of two words leaves one where a full reset that waited in the page's write queue takes effect between them. -/
theorem not_hspiAndFloko : ¬ Obligations.HspiAndFloko := by
  rintro ⟨⟨-, -, hread⟩, -⟩
  obtain ⟨-, ⟨t, ht, hlen, -⟩, -⟩ := hread State.resetWaits 0x0FFC 2 0 []
  have hone := nextReadLength_resetWaits
  rw [ht, nextReadLength, hlen] at hone
  exact absurd hone (by decide)

end Sys2Proof.Machine
end
